-- ==== Sys2Proof/Word.lean ====
section
/-! DEFINITION. Word.lean: octets, octet strings and the 64-bit slot word of the object dictionary
(R45, R53), and the names of the two sides (R13). -/

namespace Sys2Proof

/-- One octet. -/
abbrev Byte := BitVec 8

/-- A string of octets, in octet order. -/
abbrev Octets := List (BitVec 8)

/-- One 64-bit slot of the object dictionary (R53). -/
abbrev Slot := BitVec 64

/-- The two sides of the device (R13): side A owns ports 0 to 63, side B ports 64 to 127. -/
inductive SideId where
  | a
  | b
  deriving DecidableEq, Repr

/-- The number of a side: 0 for side A, 1 for side B, as the `s` of the device-level objects counts. -/
def SideId.num : SideId → Nat
  | .a => 0
  | .b => 1

/-- The other side. -/
def SideId.other : SideId → SideId
  | .a => .b
  | .b => .a

end Sys2Proof
end

