-- ==== Sys2Proof/Machine/Bits.lean ====
section
/-! DEFINITION. Bits.lean: bit fields, byte orders, saturating and signed arithmetic, and the
published checksums the spec names: CRC-32 (R116), CRC-32C (R161) and SHA3-256 (R83). -/

namespace Sys2Proof.Machine

/-- Bits [hi:lo] of a value, as the pseudocode's `x[h:l]`. -/
def bits (v hi lo : Nat) : Nat := (v >>> lo) % 2 ^ (hi + 1 - lo)

/-- Bit `i` of a value. -/
def bitOf (v i : Nat) : Bool := v.testBit i

/-- A Boolean as the value of a BOOL object. -/
def b2n (b : Bool) : Nat := if b then 1 else 0

/-- Bit `i` set or cleared. -/
def putBit (v i : Nat) (b : Bool) : Nat :=
  if v.testBit i = b then v else if b then v + 2 ^ i else v - 2 ^ i

/-- Bits [hi:lo] replaced by `x`. -/
def putBits (v hi lo x : Nat) : Nat :=
  v % 2 ^ lo + (x % 2 ^ (hi + 1 - lo)) * 2 ^ lo + (v >>> (hi + 1)) * 2 ^ (hi + 1)

/-- The number an octet string spells in network byte order. -/
def beNat : Octets → Nat := List.foldl (fun acc b => acc * 256 + b.toNat) 0

/-- The number an octet string spells with its first octet least significant (R46, slots). -/
def leNat : Octets → Nat
  | [] => 0
  | b :: r => b.toNat + 256 * leNat r

/-- `n` octets of a number, least significant first. -/
def toLe : Nat → Nat → Octets
  | 0, _ => []
  | n + 1, v => BitVec.ofNat 8 v :: toLe n (v / 256)

/-- `n` octets of a number, in network byte order. -/
def toBe (n v : Nat) : Octets := (toLe n v).reverse

/-- `n` octets from offset `off` of a string; octets beyond the end are absent. -/
def slice (o : Octets) (off n : Nat) : Octets := (o.drop off).take n

/-- The octet at an offset, 0 beyond the end. -/
def octetAt (o : Octets) (i : Nat) : Nat := (o.getD i 0).toNat

/-- The 16-bit field at an offset, network byte order. -/
def be16 (o : Octets) (i : Nat) : Nat := octetAt o i * 256 + octetAt o (i + 1)

/-- The 32-bit field at an offset, network byte order. -/
def be32 (o : Octets) (i : Nat) : Nat := be16 o i * 65536 + be16 o (i + 2)

/-- A string padded with zeros, or cut, to `n` octets. -/
def padTo (n : Nat) (o : Octets) : Octets := (o ++ List.replicate (n - o.length) 0).take n

/-- All ones of 64 bits. -/
def allOnes64 : Nat := 2 ^ 64 - 1

/-- The two's complement reading of the low `w` bits of a value. -/
def signedOf (w v : Nat) : Int :=
  if v % 2 ^ w < 2 ^ (w - 1) then (v % 2 ^ w : Nat) else (v % 2 ^ w : Nat) - (2 ^ w : Nat)

/-- The low `w` bits of an integer in two's complement. -/
def unsignedOf (w : Nat) (i : Int) : Nat := (i % (2 ^ w : Nat)).toNat

/-- The count of one bits among the low `w`. -/
def popCount : Nat → Nat → Nat
  | 0, _ => 0
  | w + 1, v => v % 2 + popCount w (v / 2)

/-- The one bits among the low `n`, lowest first. -/
def setBits (n v : Nat) : List Nat := (List.range n).filter (fun i => v.testBit i)

/-- Division rounded up. -/
def ceilDiv (a b : Nat) : Nat := (a + b - 1) / b

/-- `a - b` as an integer clamped to `±lim`. -/
def clampInt (i : Int) (lo hi : Int) : Int := max lo (min hi i)

/-- The least power of two that is at least `n`, searched from `p` upward. -/
def pow2Up (n : Nat) : Nat → Nat → Nat
  | 0, p => p
  | f + 1, p => if n ≤ p then p else pow2Up n f (2 * p)

/-! ### Reflected CRCs -/

/-- One bit of a reflected 32-bit CRC with the reflected polynomial `poly`. -/
def crcBit (poly c : Nat) : Nat := if c % 2 = 1 then (c / 2) ^^^ poly else c / 2

/-- One octet of a reflected CRC. -/
def crcOctet (poly : Nat) (c : Nat) (b : BitVec 8) : Nat :=
  let x := c ^^^ b.toNat
  crcBit poly (crcBit poly (crcBit poly (crcBit poly
    (crcBit poly (crcBit poly (crcBit poly (crcBit poly x)))))))

/-- The running state of a reflected CRC over a string, from state `c`. -/
def crcRun (poly c : Nat) (o : Octets) : Nat := o.foldl (crcOctet poly) c

/-- The FCS of IEEE 802.3 over a string: CRC-32, reflected, initial and final all ones. The value's
least significant octet is sent first. -/
def crc32 (o : Octets) : Nat := crcRun 0xEDB88320 0xFFFFFFFF o ^^^ 0xFFFFFFFF

/-- CRC-32C over a string (Castagnoli, reflected), from the initial state given and without the
final inversion. -/
def crc32cRaw (init : Nat) (o : Octets) : Nat := crcRun 0x82F63B78 init o

/-! ### SHA3-256 (NIST FIPS 202), on 25 lanes of 64 bits

Lane (x, y) stands at place x + 5y. The tables of the permutation are computed as the standard defines them. -/

/-- The next state of the shift register that gives the round constants, its polynomial being x^8 + x^6 + x^5 + x^4 + 1. -/
def iotaShift (r : Nat) : Nat := if r < 128 then 2 * r else (2 * r - 256) ^^^ 0x71

/-- What a round adds to lane 0: the register's next seven output bits, bit j at place 2^j - 1; and the register after them. -/
def iotaConst : Nat → Nat → Nat × Nat
  | 0, r => (0, r)
  | n + 1, r =>
    let rest := iotaConst n (iotaShift r)
    (r % 2 * 2 ^ (2 ^ (6 - n) - 1) + rest.1, rest.2)

/-- The walk of rho over the 24 lanes other than (0, 0): at step t the lane (x, y) turns by (t + 1)(t + 2)/2. -/
def rhoWalk : Nat → Nat → Nat → List (Nat × Nat)
  | 0, _, _ => []
  | n + 1, x, y => (x + 5 * y, (24 - n) * (25 - n) / 2 % 64) :: rhoWalk n y ((2 * x + 3 * y) % 5)

/-- How far each lane turns, lane 0 first. -/
def rhoTurns : List Nat :=
  let walk := rhoWalk 24 1 0
  (List.range 25).map (fun i => ((walk.find? (fun e => e.1 == i)).map Prod.snd).getD 0)

/-- A lane of a state. -/
def laneAt (s : List (BitVec 64)) (i : Nat) : BitVec 64 := s.getD i 0

/-- theta: every lane takes the parities of the columns beside it. -/
def theta (s : List (BitVec 64)) : List (BitVec 64) :=
  let parity := (List.range 5).map (fun x => (List.range 5).foldl (fun acc y => acc ^^^ laneAt s (x + 5 * y)) 0)
  s.zipIdx.map (fun e => e.1 ^^^ (laneAt parity ((e.2 + 4) % 5) ^^^ (laneAt parity ((e.2 + 1) % 5)).rotateLeft 1))

/-- rho and pi: every lane turned, and lane (x, y) taken from place (x + 3y, x). -/
def rhoPi (turns : List Nat) (s : List (BitVec 64)) : List (BitVec 64) :=
  let turned := s.zipWith (fun l n => l.rotateLeft n) turns
  (List.range 25).map (fun i => laneAt turned ((i + 3 * (i / 5)) % 5 + 5 * (i % 5)))

/-- chi: every lane takes the two after it in its row. -/
def chi (s : List (BitVec 64)) : List (BitVec 64) :=
  s.zipIdx.map (fun e =>
    let row := e.2 - e.2 % 5
    e.1 ^^^ (laneAt s (row + (e.2 + 2) % 5) &&& ~~~ laneAt s (row + (e.2 + 1) % 5)))

/-- The rounds of the permutation, with the shift register's state; the constant joins lane 0. -/
def keccakRounds (turns : List Nat) : Nat → Nat → List (BitVec 64) → List (BitVec 64)
  | 0, _, s => s
  | n + 1, r, s =>
    let c := iotaConst 7 r
    keccakRounds turns n c.2 ((chi (rhoPi turns (theta s))).modifyHead (fun l => l ^^^ BitVec.ofNat 64 c.1))

/-- The permutation of 24 rounds. -/
def keccakF (st : List (BitVec 64)) : List (BitVec 64) := keccakRounds rhoTurns 24 1 st

/-- Absorb blocks of `rate` octets; the fuel is an upper bound on the blocks. -/
def spongeIn (rate : Nat) : Nat → List (BitVec 64) → Octets → List (BitVec 64)
  | 0, st, _ => st
  | f + 1, st, o =>
    if o.isEmpty then st
    else
      spongeIn rate f (keccakF (st.zipIdx.map (fun e =>
        if 8 * e.2 < rate then e.1 ^^^ BitVec.ofNat 64 (leNat (slice o (8 * e.2) 8)) else e.1))) (o.drop rate)

/-- `n` blocks squeezed out of a state, the first from the state as it stands. -/
def spongeOut (rate : Nat) : Nat → List (BitVec 64) → Octets
  | 0, _ => []
  | n + 1, st => (st.flatMap (fun l => toLe 8 l.toNat)).take rate ++ spongeOut rate n (keccakF st)

/-- The padded message: the suffix of the function, zeros, and the last bit of the last octet of the block. -/
def spongePad (rate : Nat) (suffix : Byte) (o : Octets) : Octets :=
  let r := rate - o.length % rate
  if r = 1 then o ++ [suffix ||| 0x80] else o ++ [suffix] ++ List.replicate (r - 2) 0 ++ [0x80]

/-- The first `n` octets of a sponge over an octet string. -/
def sponge (rate : Nat) (suffix : Byte) (n : Nat) (o : Octets) : Octets :=
  (spongeOut rate ((n + rate - 1) / rate)
    (spongeIn rate (o.length / rate + 1) (List.replicate 25 0) (spongePad rate suffix o))).take n

/-- SHA3-256 of an octet string. PRESUMED: the standard's function is taken from FIPS 202 (R9). -/
def sha3_256 (o : Octets) : Octets := sponge 136 0x06 32 o

/-- The first `n` octets of SHAKE128 and of SHAKE256 of an octet string (FIPS 202, which FIPS 204 uses; R9). -/
def shake128 (n : Nat) (o : Octets) : Octets := sponge 168 0x1F n o
def shake256 (n : Nat) (o : Octets) : Octets := sponge 136 0x1F n o

end Sys2Proof.Machine
end

