-- ==== Sys2Proof/Machine/Parser.lean ====
section
/-! DEFINITION. Parser.lean: the header walk, the length rules, signatures, shape selection, key
extraction and the symmetric hash (R140 to R163), as one function of a frame's octets and one epoch's
parser configuration. The command that accepts a frame calls it. -/

namespace Sys2Proof.Machine

/-- The parse record of R162, with the flags of R163 as one field. -/
structure ParseRec where
  shape : Nat
  epoch : Nat
  rtag : Bool
  vlanCount : Nat
  outerKind : Nat
  secondPass : Bool
  fromVport : Bool
  flags : Nat
  l3Offset : Nat
  l4Offset : Nat
  etype : Nat
  outerTci : Nat
  innerTci : Nat
  rtagSeq : Nat
  proto : Nat
  subtype : Nat
  length : Nat
  ingress : Nat
  profile : Nat
  hash : Nat
  ipver : Nat
  tos : Nat
  deriving DecidableEq, Repr

/-- A record with every field 0. -/
def ParseRec.zero : ParseRec :=
  ⟨0, 0, false, 0, 0, false, false, 0, 0, 0, 0, 0, 0, 0, 0, 0, 0, 0, 0, 0, 0, 0⟩

/-- Bits of parse_flags (R163). -/
abbrev pfLate : Nat := 11
abbrev pfShort : Nat := 10
abbrev pfMgmt : Nat := 9
abbrev pfOverdeep : Nat := 8
abbrev pfConflict : Nat := 7
abbrev pfMalformed : Nat := 6
abbrev pfFragment : Nat := 5
abbrev pfNonfirst : Nat := 4
abbrev pfOptions : Nat := 3
abbrev pfLlc : Nat := 2

/-- A record whose deferred length check has found a mismatch (R153). -/
def ParseRec.lateMarked (r : ParseRec) : ParseRec := { r with flags := putBit r.flags pfLate true }

/-- The 32 octets of the record (R162): multi-byte fields little-endian. -/
def ParseRec.octets (r : ParseRec) : Octets :=
  toLe 1 r.shape ++
  toLe 1 (r.epoch * 128 + b2n r.rtag * 64 + r.vlanCount * 16 + r.outerKind * 4 + b2n r.secondPass * 2 +
    b2n r.fromVport) ++
  toLe 2 r.flags ++ toLe 1 r.l3Offset ++ toLe 1 r.l4Offset ++ toLe 2 r.etype ++ toLe 2 r.outerTci ++
  toLe 2 r.innerTci ++ toLe 2 r.rtagSeq ++ toLe 1 r.proto ++ toLe 1 r.subtype ++ toLe 2 r.length ++
  toLe 1 r.ingress ++ toLe 1 r.profile ++ toLe 4 r.hash ++ toLe 1 r.ipver ++ toLe 1 r.tos ++ toLe 6 0

/-- One epoch's parser scalars and a way to read its shape entries, each a 128-octet record as a number
(R156), with the marks of R170: 1 removed from selection, 2 a bad descriptor. -/
structure ParserCfg where
  tpid0 : Nat
  tpid1 : Nat
  rtagType : Nat
  seed : Nat
  shape : Nat → Nat
  mark : Nat → Nat

/-- What the parser is told of the frame beside its octets. -/
structure ParseIn where
  /-- The frame without its FCS, after MACsec removal. -/
  data : Octets
  epoch : Nat
  fromVport : Bool
  fromPort : Bool
  secondPass : Bool
  ingress : Nat
  inband : Bool
  fabric : Bool
  mgmtMac : Nat

/-- The length L of a frame, its FCS included (R8). -/
def ParseIn.len (i : ParseIn) : Nat := i.data.length + 4

/-- Whether the frame's end is known at acceptance (R141). -/
def ParseIn.endKnown (i : ParseIn) : Bool := (i.fromVport && !i.secondPass) || decide (i.len ≤ 132)

/-- The header window (R141). -/
def ParseIn.window (i : ParseIn) : Octets := i.data.take 128

/-- Slot `k` of an `n`-slot record carried most significant byte first (R653). -/
def recSlot (rec n k : Nat) : Nat := bits rec (64 * (n - k) - 1) (64 * (n - 1 - k))

/-- Where the header walk stopped (R144 to R146). -/
structure Walk where
  etype : Nat
  l3 : Nat
  tags : List Nat          -- positions of the VLAN tags, outermost first
  rtagPos : Option Nat
  kind : Nat
  overdeep : Bool
  short : Bool
  deriving DecidableEq, Repr

/-- The kind of a VLAN TPID in the order of outer_kind (R154), none when it is not one (R144). -/
def tpidKind (c : ParserCfg) (t : Nat) : Option Nat :=
  if t = 0x8100 then some 0
  else if t = 0x88A8 then some 1
  else if c.tpid0 ≠ 0 ∧ t = c.tpid0 then some 2
  else if c.tpid1 ≠ 0 ∧ t = c.tpid1 then some 3
  else none

/-- The walk from a position, with the tags seen so far. Five steps suffice: three VLAN tags, one
redundancy tag and the type field where it stops. -/
def walkFrom (c : ParserCfg) (win : Octets) : Nat → Nat → List Nat → Option Nat → Nat → Walk
  | 0, pos, tags, rt, kind => ⟨0, pos + 2, tags, rt, kind, false, true⟩
  | f + 1, pos, tags, rt, kind =>
    if win.length < pos + 2 then ⟨0, pos + 2, tags, rt, kind, false, true⟩
    else
      let t := be16 win pos
      match tpidKind c t with
      | some k =>
        if tags.length = 3 then ⟨t, 0, tags, rt, kind, true, false⟩
        else walkFrom c win f (pos + 4) (tags ++ [pos]) rt (if tags.isEmpty then k else kind)
      | none =>
        if t = c.rtagType then
          match rt with
          | some _ => ⟨t, 0, tags, rt, kind, true, false⟩
          | none => walkFrom c win f (pos + 6) tags (some pos) kind
        else ⟨t, pos + 2, tags, rt, kind, false, false⟩

/-- The header walk of a frame (R144). -/
def walk (c : ParserCfg) (win : Octets) : Walk := walkFrom c win 5 12 [] none 0

/-- What the L3 step found (R148 to R150), before the length rules. -/
structure L3 where
  ipver : Nat
  proto : Nat
  subtype : Nat
  tos : Nat
  /-- The length the header claims from l3_offset on (hl), where there is one. -/
  hl : Option Nat
  l4 : Option Nat
  srcAddr : Octets
  dstAddr : Octets
  llc : Bool
  fragment : Bool
  nonfirst : Bool
  malformed : Bool
  options : Bool
  /-- A conflict the header shows by itself (the first three rows of R151). -/
  conflict : Bool
  /-- The table of R148 names a header here. -/
  known : Bool
  deriving DecidableEq, Repr

/-- No header. -/
def L3.none : L3 := ⟨0, 0, 0, 0, Option.none, Option.none, [], [], false, false, false, false, false, false, false⟩

/-- The IPv4 row. -/
def l3v4 (win : Octets) (o : Nat) : L3 :=
  let ihl := octetAt win o % 16
  let t := be16 win (o + 2)
  let ff := be16 win (o + 6)
  { L3.none with
    ipver := 4, proto := octetAt win (o + 9), tos := octetAt win (o + 1), hl := some t,
    l4 := some (o + 4 * ihl), srcAddr := padTo 4 (slice win (o + 12) 4), dstAddr := padTo 4 (slice win (o + 16) 4),
    fragment := bitOf ff 13 || decide (ff % 0x2000 ≠ 0), nonfirst := decide (ff % 0x2000 ≠ 0),
    options := decide (5 < ihl), conflict := decide (ihl < 5) || decide (t < 4 * ihl), known := true }

/-- The IPv6 row, with the fragment header of R150. -/
def l3v6 (win : Octets) (o : Nat) : L3 :=
  let p := be16 win (o + 4)
  let nh := octetAt win (o + 6)
  let frag := decide (nh = 44)
  { L3.none with
    ipver := 6, proto := if frag then octetAt win (o + 40) else nh,
    tos := (octetAt win o % 16) * 16 + octetAt win (o + 1) / 16, hl := some (40 + p),
    l4 := some (o + 40), srcAddr := padTo 16 (slice win (o + 8) 16), dstAddr := padTo 16 (slice win (o + 24) 16),
    fragment := frag, nonfirst := frag && decide (be16 win (o + 42) / 8 ≠ 0),
    conflict := frag && decide (p < 8), known := true }

/-- L3 recognition by etype (R148, R149). A frame whose walk ended short or overdeep has no L3 header
(R145, R146). The base L3 of a length-framed frame is usable: R159 makes it unusable only when no L3 header is recognised, and its
list for L4 does not name length framing (DESIGN CHOICE, log entry 68). -/
def l3Step (w : Walk) (win : Octets) : L3 :=
  if w.overdeep || w.short then L3.none
  else if w.etype ≤ 0x05DC then { L3.none with llc := true, hl := some w.etype, known := true }
  else if w.etype ≤ 0x05FF then { L3.none with conflict := true }
  else if w.etype = 0x0800 then
    if octetAt win w.l3 / 16 = 4 then l3v4 win w.l3 else { L3.none with malformed := true }
  else if w.etype = 0x86DD then
    if octetAt win w.l3 / 16 = 6 then l3v6 win w.l3 else { L3.none with malformed := true }
  else if w.etype = 0x22F0 then { L3.none with subtype := octetAt win w.l3, known := true }
  else L3.none

/-- The outcome of the length rules of R151. -/
inductive LengthCheck where
  | ok
  | conflict
  | deferred
  deriving DecidableEq, Repr

/-- The table of R151, first row that applies. -/
def lengthCheck (endKnown : Bool) (len l3 : Nat) (h : L3) : LengthCheck :=
  if h.conflict then .conflict
  else match h.hl with
    | none => .ok
    | some hl =>
      let a := len - 4 - l3
      if endKnown then
        if a < hl then .conflict
        else if hl < a ∧ 50 + l3 < len then .conflict
        else .ok
      else if hl + l3 < 128 then .conflict
      else .deferred

/-- The L3 fields of a frame in conflict (R152). -/
def L3.inConflict (h : L3) : L3 := { L3.none with llc := h.llc, conflict := true }

/-- Everything the parser hands on. -/
structure Parsed where
  pr : ParseRec
  key : Nat
  sig : Nat
  /-- The length check is completed at the last octet (R153). -/
  deferred : Bool
  /-- hl differs from A: what the deferred check will find. -/
  lateMismatch : Bool
  /-- The frame selected a shape with an uncorrectable descriptor slot (R170). -/
  badShape : Bool
  ctl : Nat
  deriving DecidableEq, Repr

/-- A parse of nothing. -/
def Parsed.zero : Parsed := ⟨ParseRec.zero, 0, 0, false, false, false, 0⟩

/-- The signature of R154. -/
def signature (i : ParseIn) (w : Walk) (h : L3) : Nat :=
  w.etype * 2 ^ 48 + h.ipver * 2 ^ 44 + h.proto * 2 ^ 36 + h.subtype * 2 ^ 28 + w.tags.length * 2 ^ 26 +
  b2n w.rtagPos.isSome * 2 ^ 25 + w.kind * 2 ^ 23 + b2n h.llc * 2 ^ 22 + b2n h.fragment * 2 ^ 21 +
  b2n h.nonfirst * 2 ^ 20 + b2n h.conflict * 2 ^ 19 + b2n h.malformed * 2 ^ 18 + b2n h.options * 2 ^ 17 +
  b2n i.secondPass * 2 ^ 16 + b2n i.fromVport * 2 ^ 15

/-- Shape selection (R155), with the removal of R170. -/
def selectShape (c : ParserCfg) (sig : Nat) : Nat :=
  ((List.range 252).find? (fun s =>
    let e := c.shape s
    !bitOf (c.mark s) 0 && bitOf (recSlot e 16 2) 63 &&
    decide (sig &&& recSlot e 16 1 = recSlot e 16 0 &&& recSlot e 16 1))).getD 254

/-- Descriptor `j` of a shape entry (R156). -/
def descriptor (entry j : Nat) : Nat :=
  let s := recSlot entry 16 (3 + j / 2)
  if j % 2 = 0 then bits s 31 0 else bits s 63 32

/-- One descriptor (R158, R159): the key and whether the window was short. -/
def extractOne (win : Octets) (l3 l4 : Option Nat) (acc : Nat × Bool) (d : Nat) : Nat × Bool :=
  let base := bits d 31 30
  if base = 0 then acc
  else
    let dest := bits d 19 10
    let w := bits d 9 3 + 1
    match (if base = 1 then some 0 else if base = 2 then l3 else l4) with
    | none => (putBits acc.1 (dest + w - 1) dest 0, acc.2)
    | some b =>
      let first := 8 * (b + bits d 29 23) + bits d 22 20
      let n := win.length
      -- the octets the field touches, those beyond the window reading 0
      let byte0 := first / 8
      let cnt := (first + w + 7) / 8 - byte0
      let v := beNat (padTo cnt (slice win byte0 cnt))
      let field := bits (v >>> (8 * (byte0 + cnt) - (first + w))) (w - 1) 0
      (putBits acc.1 (dest + w - 1) dest field, acc.2 || decide (8 * n < first + w))

/-- The key of a shape's descriptors in index order (R159). -/
def extractKey (entry : Nat) (win : Octets) (l3 l4 : Option Nat) : Nat × Bool :=
  (List.range 24).foldl (fun acc j => extractOne win l3 l4 acc (descriptor entry j)) (0, false)

/-- The symmetric hash (R161). -/
def symHash (seed ctl shape : Nat) (win : Octets) (w : Walk) (h : L3) (l4 : Option Nat) : Nat :=
  let full := decide (shape ≠ 255)
  let da := padTo 6 (slice win 0 6)
  let sa := padTo 6 (slice win 6 6)
  let s0 := toBe 4 seed
  let s1 := if bitOf ctl 47 then (if beNat da < beNat sa then da ++ sa else sa ++ da) else []
  let vid := match w.tags with
    | [] => 0
    | t :: _ => be16 win (t + 2) % 4096
  let s2 := if bitOf ctl 46 then toBe 2 vid else []
  let s3 := if full && bitOf ctl 45 then toBe 2 w.etype else []
  let ports := match l4 with
    | some o =>
      if bitOf ctl 42 && (h.proto == 6 || h.proto == 17 || h.proto == 132) then
        (padTo 2 (slice win o 2), padTo 2 (slice win (o + 2) 2)) else ([0, 0], [0, 0])
    | none => ([0, 0], [0, 0])
  let s4 :=
    if full && bitOf ctl 44 && decide (h.ipver ≠ 0) then
      let x := h.srcAddr ++ ports.1
      let y := h.dstAddr ++ ports.2
      if beNat y < beNat x then y ++ x else x ++ y
    else []
  let s5 := if full && bitOf ctl 43 && decide (h.ipver ≠ 0) then toBe 1 h.proto else []
  crc32cRaw 0xFFFFFFFF (s0 ++ s1 ++ s2 ++ s3 ++ s4 ++ s5) ^^^ 0xFFFFFFFF

/-- The fixed shapes of R147: 252 for in-band Tyist, 253 for learning messages. -/
def fixedShape (i : ParseIn) (w : Walk) : Option Nat :=
  if i.fromPort && !i.secondPass && !w.overdeep && decide (w.tags.length ≤ 1) && w.rtagPos.isNone then
    if w.etype = 0x88B6 ∧ i.inband = true ∧ beNat (padTo 6 (slice i.window 0 6)) = i.mgmtMac then some 252
    else if w.etype = 0x88B5 ∧ i.fabric = true then some 253
    else none
  else none

/-- The parser (R141 to R163) on one frame. -/
def parse (c : ParserCfg) (i : ParseIn) : Parsed :=
  let win := i.window
  let w := walk c win
  let h0 := l3Step w win
  let lc := lengthCheck i.endKnown i.len w.l3 h0
  let conflict := decide (lc = .conflict)
  let h := if conflict then h0.inConflict else h0
  let l3u := if h.known && !conflict && !h.malformed then some w.l3 else none
  let l4u := if h.fragment then none else h.l4
  let sig := signature i w h
  let tci (k : Nat) : Nat := match w.tags[k]? with
    | some t => be16 win (t + 2)
    | none => 0
  let flags (short mgmt : Bool) : Nat :=
    b2n short * 2 ^ pfShort + b2n mgmt * 2 ^ pfMgmt + b2n w.overdeep * 2 ^ pfOverdeep +
    b2n h.conflict * 2 ^ pfConflict + b2n h.malformed * 2 ^ pfMalformed + b2n h.fragment * 2 ^ pfFragment +
    b2n h.nonfirst * 2 ^ pfNonfirst + b2n h.options * 2 ^ pfOptions + b2n h.llc * 2 ^ pfLlc
  let mk (shape fl profile hash : Nat) : ParseRec :=
    { shape := shape, epoch := i.epoch, rtag := w.rtagPos.isSome, vlanCount := w.tags.length,
      outerKind := w.kind, secondPass := i.secondPass, fromVport := i.fromVport, flags := fl,
      l3Offset := w.l3, l4Offset := h.l4.getD 0, etype := w.etype, outerTci := tci 0, innerTci := tci 1,
      rtagSeq := (match w.rtagPos with | some p => be16 win (p + 4) | none => 0),
      proto := h.proto, subtype := h.subtype, length := i.len, ingress := i.ingress, profile := profile,
      hash := hash, ipver := h.ipver, tos := h.tos }
  let mism := match h.hl with
    | some hl => decide (hl ≠ i.len - 4 - w.l3)
    | none => false
  match fixedShape i w with
  | some s =>
    { pr := mk s (flags w.short true) 0 0, key := 0, sig := sig, deferred := decide (lc = .deferred),
      lateMismatch := mism, badShape := false, ctl := 0 }
  | none =>
    let shape := if w.overdeep then 255 else selectShape c sig
    let e := c.shape shape
    let ctl := recSlot e 16 2
    let ks := extractKey e win l3u l4u
    { pr := mk shape (flags (w.short || ks.2) false) (bits ctl 55 48) (symHash c.seed ctl shape win w h l4u),
      key := ks.1, sig := sig, deferred := decide (lc = .deferred), lateMismatch := mism,
      badShape := bitOf (c.mark shape) 1, ctl := ctl }

/-- The checks of R160 on a shape entry, given as its 1,024-bit record. The bits of the signature's reserved field are refused in the
match value and accepted in the mask, which is no field of that layout (DESIGN CHOICE, log entry 68). -/
def shapeEntryOk (shape rec : Nat) : Bool :=
  let ctl := recSlot rec 16 2
  decide (bits ctl 62 56 = 0) && decide (bits ctl 41 0 = 0) && decide (recSlot rec 16 15 = 0) &&
  (decide (shape < 252) || (decide (recSlot rec 16 0 = 0) && decide (recSlot rec 16 1 = 0))) &&
  decide (bits (recSlot rec 16 0) 14 0 = 0) &&
  (List.range 24).all (fun j =>
    let d := descriptor rec j
    decide (bits d 19 10 + bits d 9 3 + 1 ≤ 640) && decide (bits d 2 0 = 0) &&
    (decide (shape ≠ 255) || decide (bits d 31 30 = 0) ||
      (decide (bits d 31 30 = 1) && decide (8 * bits d 29 23 + bits d 22 20 + bits d 9 3 + 1 ≤ 144))))

end Sys2Proof.Machine
end

