-- ==== Sys2Proof/Machine/Store.lean ====
section
/-! DEFINITION. Store.lean: sparse stores in one canonical form. A store lists (key, value) pairs with
keys rising; a key that is not listed holds its default, and a value equal to the default is not
listed, so that equal stores are equal data. -/

namespace Sys2Proof.Machine

/-- A sparse store of values keyed by numbers. -/
abbrev SMap (α : Type) := List (Nat × α)

/-- The value listed at a key, if any. -/
def SMap.find? {α : Type} : SMap α → Nat → Option α
  | [], _ => none
  | (k', v) :: r, k => if k' = k then some v else SMap.find? r k

/-- The value at a key, or the default. -/
def SMap.getD {α : Type} (m : SMap α) (k : Nat) (d : α) : α := (SMap.find? m k).getD d

/-- Listing a value at a key, in key order. -/
def SMap.insert {α : Type} : SMap α → Nat → α → SMap α
  | [], k, v => [(k, v)]
  | (k', v') :: r, k, v =>
    if k < k' then (k, v) :: (k', v') :: r
    else if k = k' then (k, v) :: r
    else (k', v') :: SMap.insert r k v

/-- Removing a key. -/
def SMap.erase {α : Type} (m : SMap α) (k : Nat) : SMap α := m.filter (fun e => e.1 ≠ k)

/-- Writing a value: listed unless it equals the default. -/
def SMap.put {α : Type} [DecidableEq α] (m : SMap α) (k : Nat) (d v : α) : SMap α :=
  if v = d then SMap.erase m k else SMap.insert m k v

/-- The keys rise strictly from below `b`. -/
def SMap.rising {α : Type} : SMap α → Bool
  | [] => true
  | [_] => true
  | (k, _) :: (k', v') :: r => decide (k < k') && SMap.rising ((k', v') :: r)

/-- Memory: bytes by address. An address that is not listed reads as 0 (DESIGN CHOICE, log entry 1). -/
abbrev Memory := List Host.Cell

/-- What an unlisted address reads as. -/
def Memory.blank : BitVec 8 := 0

/-- One byte of memory. -/
def Memory.read (m : Memory) (a : Nat) : BitVec 8 := SMap.getD m a Memory.blank

/-- One byte written. -/
def Memory.write (m : Memory) (a : Nat) (b : BitVec 8) : Memory := SMap.put m a Memory.blank b

/-- `n` bytes from an address. -/
def Memory.readBytes (m : Memory) (a n : Nat) : Octets := (List.range n).map (fun i => m.read (a + i))

/-- Bytes written from an address, in address order. -/
def Memory.writeBytes (m : Memory) (a : Nat) : Octets → Memory
  | [] => m
  | b :: r => Memory.writeBytes (m.write a b) (a + 1) r

/-- The canonical form: addresses strictly rising, no listed byte equal to the blank. -/
def Memory.wf (m : Memory) : Bool := SMap.rising m && m.all (fun e => e.2 ≠ Memory.blank)

end Sys2Proof.Machine
end

