-- ==== Sys2Proof/Machine/Types.lean ====
section
/-! DEFINITION. Types.lean: the records the state of a side is made of: frames, copies, cells, streams,
requests and messages. Each says which rules of the spec give it. -/

namespace Sys2Proof.Machine

/-- The reason codes of R52, with the codes 0x40 to 0x4B that other chapters own. -/
inductive Reason where
  | ok | noObject | noRead | noWrite | badValue | badLength | onceWritten | absentUnit | sideUnavailable
  | mirrored | foreignSide | busy | liveSet | wrongState | partialAbandoned | owlUnavailable | signedOnly
  | sequenceError | timeout | bundleRejected | badProtocol | noTransfer
  | groupMember | saActive | epochInUse | orderViolation | noRoom | keyPresent | wrongBucket
  | overCommitted | uncorrectable | bankFenced | imageRejected | resourceTaken
  deriving DecidableEq, Repr

/-- The code of a reason (R52). -/
def Reason.code : Reason → Nat
  | .ok => 0x00 | .noObject => 0x01 | .noRead => 0x02 | .noWrite => 0x03 | .badValue => 0x04
  | .badLength => 0x05 | .onceWritten => 0x06 | .absentUnit => 0x07 | .sideUnavailable => 0x08
  | .mirrored => 0x09 | .foreignSide => 0x0A | .busy => 0x0B | .liveSet => 0x0C | .wrongState => 0x0D
  | .partialAbandoned => 0x0E | .owlUnavailable => 0x0F | .signedOnly => 0x10 | .sequenceError => 0x11
  | .timeout => 0x12 | .bundleRejected => 0x13 | .badProtocol => 0x14 | .noTransfer => 0x15
  | .groupMember => 0x40 | .saActive => 0x41 | .epochInUse => 0x42 | .orderViolation => 0x43
  | .noRoom => 0x44 | .keyPresent => 0x45 | .wrongBucket => 0x46 | .overCommitted => 0x47
  | .uncorrectable => 0x48 | .bankFenced => 0x49 | .imageRejected => 0x4A | .resourceTaken => 0x4B

/-- A fault message as a source sends it (R509, R510): the source's number, the kind, the address field
and the sender's clock. -/
structure FaultMsg where
  src : Nat
  kind : Nat
  addr : Nat
  time : Nat
  /-- When it reaches its collector (R510, R514): pipeline clocks of the side, or the always-on count in ns. -/
  clock : Nat
  deriving DecidableEq, Repr

/-- A memory error that an access meets; the environment supplies them. `unc` is an uncorrectable one. -/
inductive DefectSite where
  | shapeSlot      -- a slot of a shape entry (R170): `entry` the shape, `sub` the slot
  | searchUnit     -- a unit's parity (R205, R206): `entry` the slot; `unc` when the shadow is bad too; `sub` 1 when the
                   -- flipped bit makes its entry match and 2 when it makes it miss, whatever the key
  | searchDesc     -- a search descriptor
  | station        -- a station slot (R241)
  | action         -- an entry of an action-stage window (R284): `sub` the window offset, plus 65,536 times the word
  | policing       -- an entry of a policing window (R377): `sub` the window offset
  | cellHeader     -- a cell header (R287)
  | bufferCell     -- a buffer cell (R319)
  | poolStore      -- a pool's free store or tag (R342)
  deriving DecidableEq, Repr

/-- One memory error of an access. -/
structure Defect where
  site : DefectSite
  entry : Nat
  sub : Nat
  unc : Bool
  deriving DecidableEq, Repr

/-- Where a copy goes (R286). -/
inductive Target where
  | port (p : Nat)
  | vport (v : Nat)
  | learn
  deriving DecidableEq, Repr

/-- target_kind of R286. -/
def Target.kind : Target → Nat
  | .port _ => 0
  | .vport _ => 1
  | .learn => 2

/-- The target number of R286. -/
def Target.num : Target → Nat
  | .port p => p
  | .vport v => v
  | .learn => 0

/-- The output slice of a target (R288). -/
def Target.slice (t : Target) : Nat := t.num / 8

/-- Where a frame entered the side. -/
inductive Ingress where
  | port (p : Nat)
  | vport (v : Nat)
  | device
  | crossing
  deriving DecidableEq, Repr

/-- The edits a frame carries in its metadata (R249, R250, R264): everything the edits need, the
epoch's TPIDs among it, so that no later write reaches the frame. -/
structure Edits where
  popRtag : Bool
  popVlan : Nat
  newDa : Option Nat
  newSa : Option Nat
  vid : Option Nat
  pcp : Option Nat
  dscp : Option Nat
  ecn : Option Nat
  ttlOp : Nat
  ttl : Nat
  pushVlan : Nat
  tagA : Nat
  tagB : Nat
  pushRtag : Option Nat
  tpid0 : Nat
  tpid1 : Nat
  rtagType : Nat
  /-- The L3 base is usable (R159), and an IP header stands there. -/
  l3ok : Bool
  ip : Bool
  /-- Marked CE at admission (R299). -/
  ce : Bool
  deriving DecidableEq, Repr

/-- No edits. -/
def Edits.nil : Edits :=
  ⟨false, 0, .none, .none, .none, .none, .none, .none, 0, 0, 0, 0, 0, .none, 0, 0, 0, false, false, false⟩

/-- The budget a copy is charged to (R298). -/
inductive Budget where
  | min
  | shared
  | headroom
  | mgmt
  deriving DecidableEq, Repr

/-- A frame being received or waiting in a port's receive buffer (R106, R115). -/
structure RxFrame where
  no : Nat
  port : Nat
  /-- The octets on the wire, FCS included. -/
  octets : Octets
  start : Nat
  /-- The last octet has arrived, and the frame has passed the checks of R107 to R113. -/
  ended : Bool
  /-- The parser has accepted the frame before its last octet. -/
  accepted : Bool
  /-- The frame is dropped as it arrives (R106): 1 low power, 2 overflow, 0 no. -/
  dropAs : Nat
  /-- After MACsec removal (R113), what the parser sees, without FCS. -/
  plain : Octets
  macsec : Bool
  macsecCheck : Bool
  /-- How many deferred length checks will find a mismatch (R153), and whether a copy has been admitted for cut-through
  (R304, R306). -/
  lateLength : Nat
  cut : Bool
  /-- The ingress stamp of R362: the local clock at the first destination octet. -/
  stamp : Nat
  /-- An octet's time on the port when the frame started, in thirds of a ps, and the objects of the port's
  configuration and of its wake detector as they stood then: a write acts from the next frame start (R97, R135). -/
  octet : Nat
  conf : SMap Slot
  /-- The drop-reason counters that the pipeline and admission found for an accepted frame before its last octet: an
  errored frame counts in one drop reason only (R36, R108, R109). -/
  lateDrops : List Nat
  /-- What counts of an accepted frame only once its last octet shows that it is not errored (R222). -/
  lateCounts : List Nat
  /-- The learn request (fid, address, kind, destination, learn time and clock of acceptance) that waits in the same way
  (R222, R225). -/
  heldLearn : Option (Nat × Nat × Nat × Nat × Nat × Nat)
  /-- The parser's record of an accepted frame (R142). -/
  pr : Option ParseRec
  deriving DecidableEq, Repr

/-- An admitted copy of a frame: the frame descriptor of R286 with its metadata (R250), and where its
cells (R285, R297, R316) stand. The cells charged to its budget are those reserved and those written. -/
structure Copy where
  id : Nat
  frameNo : Nat
  /-- Stored octets, without FCS (R285). -/
  data : Octets
  target : Target
  queue : Nat
  group : Nat
  ingress : Ingress
  /-- The ingress priority, or 8 for a pause port (R300). -/
  prio : Nat
  lossless : Bool
  second : Bool
  budget : Budget
  /-- Cells in fabric: reserved and not yet written. -/
  reserved : Nat
  /-- Cells written and not yet freed: queued, or held when `held` is set. -/
  written : Nat
  /-- The pool 0 buffer of each written cell, by its position (R285, R325). -/
  cells : SMap Nat
  held : Bool
  ct : Bool
  mgmt : Bool
  mirror : Bool
  /-- Found errored after admission (R286, R306). -/
  bad : Bool
  /-- The last octet has arrived, so the reservation is trimmed (R297). -/
  ended : Bool
  /-- Cells the ingress group has sent, and the slot in which the head cell left. -/
  sent : Nat
  headSlot : Nat
  /-- Dropped: its remaining cells are discarded as they arrive. -/
  dead : Bool
  linked : Bool
  complete : Bool
  /-- Transmission or delivery has begun. -/
  started : Bool
  edits : Edits
  pr : ParseRec
  errFlags : Nat
  tsReq : Bool
  /-- The receive stamp of R362. -/
  stamp : Nat
  /-- How many octets longer than the received frame it is that the copy was made of: what a first pass's edits added (R261, R292). -/
  shift : Int
  /-- Of a copy that stops while it crosses, the counter in which the far side drops it; 0 otherwise (R306, R311). -/
  endAs : Nat
  /-- Of a copy that came over the crossing, the sender's number of its frame, to which an egress stamp returns (R362). -/
  origin : Nat
  deriving DecidableEq, Repr

/-- The cells a frame of `n` stored octets occupies (R285). -/
def cellsOf (n : Nat) : Nat := max 1 (ceilDiv n 256)

/-- A cell in the fabric (R286). -/
structure Cell where
  copy : Nat
  seq : Nat
  index : Nat
  last : Bool
  group : Nat
  middle : Nat
  slice : Nat
  /-- The header that goes beside its data (R286). -/
  header : BitVec 64
  deriving DecidableEq, Repr

/-- One stream's sequence state (R293, R294): the number of the group's next cell, the copies of the cells
it has sent and the slice has not acknowledged, the slice's expected number, the cells it holds by their
distance from it with their arrivals. -/
structure Stream where
  next : Nat
  log : List (Nat × Nat)
  expected : Nat
  held : List (Nat × Nat × Cell)
  deriving DecidableEq, Repr

/-- A stream after a reset. -/
def Stream.zero : Stream := ⟨0, [], 0, []⟩

/-- A cell in a middle spreader: the slot in which it was sent. -/
structure MidCell where
  cell : Cell
  slot : Nat
  deriving DecidableEq, Repr

/-- A cell on the Joined-mode crossing (R313, R314): the sender's copy, its position, and on the head cell
the copy itself. -/
structure CrossCell where
  copy : Nat
  index : Nat
  last : Bool
  header : BitVec 64
  head : Option Copy
  /-- 0, or the counter in which the far side drops the copy, of which no more comes (R306, R311; log entry 34). -/
  drop : Nat
  deriving DecidableEq, Repr

/-- What a destination lookup found (R221). -/
structure StationRes where
  kind : Nat
  id : Nat
  static : Bool
  slot : Nat
  deriving DecidableEq, Repr

/-- A frame on the recirculation path (R261, R164): what its first pass leaves to the second. -/
structure Recirc where
  frameNo : Nat
  data : Octets
  epoch : Nat
  ingress : Ingress
  dst : Option StationRes
  group : Bool
  fid : Nat
  prio : Nat
  errFlags : Nat
  macsec : Bool
  ended : Bool
  stamp : Nat
  tsReq : Bool
  deriving DecidableEq, Repr

/-- A transmit descriptor in work (R466): `state` 0 reading the frame, 1 staged, 2 accepted by the parser,
3 ended without entering. -/
structure TxJob where
  v : Nat
  gen : Nat
  addr : Nat
  tag : Nat
  len : Nat
  tsReq : Bool
  keep : Bool
  host : Bool
  state : Nat
  /-- The staging buffer's handle under host placement. -/
  handle : Nat
  data : Octets
  frameNo : Nat
  /-- The completion's status and stamp (R463); `tsWait` while an egress stamp is awaited, since `since`. -/
  status : Nat
  tsWait : Bool
  tsValid : Bool
  noTs : Bool
  ts : Nat
  since : Nat
  /-- The port that holds the egress request, plus 1 (R362). -/
  tsPort : Nat
  /-- A copy of the frame whose egress is to be stamped has gone to the other side (R313, R362). -/
  crossed : Bool
  deriving DecidableEq, Repr

/-- A delivery in work (R401, R468): the copy being read, the buffer and the work item's generation. -/
structure RxJob where
  v : Nat
  copy : Nat
  gen : Nat
  host : Bool
  addr : Nat
  tag : Nat
  data : Octets
  pr : ParseRec
  errFlags : Nat
  stamp : Nat
  queue : Nat
  deriving DecidableEq, Repr

/-- A learn request in the engine's queue (R222, R225), a received record (R236), or a station command
(R242), with the clock that gives its place: of the frame's acceptance, or of joining the queue. -/
inductive LearnReq where
  | loc (fid mac kind dest time at' : Nat)
  | record (data : Nat) (kind dest : Nat) (arrival : Option Nat) (at' : Nat)
  | command (cmd at' : Nat)
  deriving DecidableEq, Repr

/-- The clock of a request's place (R225, R236). -/
def LearnReq.place : LearnReq → Nat
  | .loc _ _ _ _ _ t => t
  | .record _ _ _ _ t => t
  | .command _ t => t

/-- A request put into its place in the queue: behind every one of its clock or an earlier one (R225). -/
def LearnReq.into (q : LearnReq) : List LearnReq → List LearnReq
  | [] => [q]
  | x :: r => if q.place < x.place then q :: x :: r else x :: LearnReq.into q r

/-- A record waiting to be sent (R235), with the port it must not leave by (R238). -/
structure SendRec where
  data : Nat
  notPort : Option Nat
  since : Nat
  /-- It has gone to the other side over the crossing (R239). -/
  crossed : Bool
  deriving DecidableEq, Repr

/-- A Badger command as its enqueue copied it (R194, R195). -/
structure BadgerCmd where
  seq : Nat
  first : Nat
  last : Nat
  dir : Nat
  notify : Bool
  target : Nat
  stage : Nat
  write : Bool
  deriving DecidableEq, Repr

/-- A running Badger command: what stopped it (R194), the last slot it has written, the moves it has made and when it started. -/
structure BadgerRun where
  cmd : BadgerCmd
  code : Nat
  slot : Nat
  moved : Nat
  since : Nat
  deriving DecidableEq, Repr

/-- A probe cursor (R201, R202). `state` is what probe_cmd reads; `pend` the command in progress. -/
structure Probe where
  state : Nat
  pend : Nat
  lastId : Nat
  lastPrio : Nat
  lastSlot : Nat
  deriving DecidableEq, Repr

/-- One gPTP domain clock (R359, R360). `value` counts units of 1/(3 × 65,536 × 10^9) ns, so that a
pipeline clock at the plain rate is exactly 65,536 × 10^9 units; `slew` is the signed rest to slew in
the same units. -/
structure Domain where
  value : Nat
  slew : Int
  deriving DecidableEq, Repr

/-- One token bucket with its ledger terms (R371, R373). -/
structure Bucket where
  tokens : Nat
  rem : Nat
  credited : Nat
  spent : Nat
  discarded : Nat
  deriving DecidableEq, Repr

/-- An empty bucket. -/
def Bucket.zero : Bucket := ⟨0, 0, 0, 0, 0⟩

/-- A meter's state (R371, R372). -/
structure MeterState where
  c : Bucket
  e : Bucket
  last : Nat
  green : Nat
  yellow : Nat
  red : Nat
  allRed : Bool
  deriving DecidableEq, Repr

/-- A meter nothing has used. -/
def MeterState.zero : MeterState := ⟨Bucket.zero, Bucket.zero, 0, 0, 0, 0, false⟩

/-- The operational set of a stream gate and its dynamic bits (R369). -/
structure GateDyn where
  latched : Bool
  pending : Bool
  changeTime : Nat
  enable : Bool
  base : Nat
  cycle : Nat
  len : Nat
  deriving DecidableEq, Repr

/-- A stream gate at reset: disabled, open, nothing pending. -/
def GateDyn.zero : GateDyn := ⟨false, false, 0, false, 0, 1000000, 0⟩

/-- A FRER function's dynamic fields (R268). -/
structure FrerDyn where
  genSeq : Nat
  recovSeq : Nat
  valid : Bool
  history : Nat
  since : Nat
  deriving DecidableEq, Repr

/-- A FRER function without history. -/
def FrerDyn.zero : FrerDyn := ⟨0, 0, false, 0, 0⟩

/-- The dynamic state of one port's MAC and lane. A vport's scheduler has one too, of which it uses the
transmission and the DWRR fields. -/
structure PortDyn where
  /-- The receiver detects a signal; it has sync, block lock or lane alignment; it receives a local
  or a remote fault sequence; auto-negotiation has ended well, or has failed (R102, R655). -/
  signal : Bool
  locked : Bool
  lfault : Bool
  rfault : Bool
  anDone : Bool
  anFailed : Bool
  /-- The speed auto-negotiation gave, 0 for none. -/
  anSpeed : Nat
  /-- The link is up: link_state 1, or 6 in Den (R102, R132). -/
  up : Bool
  /-- What link_state reads while the link is not up: 0, 2 or 3 (R655). -/
  shown : Nat
  /-- A link fault has been reported since admin_up was written (R655). -/
  faulted : Bool
  /-- The deadline of link_up_holdoff_ms, when it runs (R102). -/
  holdoff : Option Nat
  /-- The MAC sends remote fault while it receives local fault (R103). -/
  sendsRf : Bool
  /-- In Den: retraining started at this time, and the loss was reported (R132); the end of the 100 ms
  after Den (R551). -/
  denSince : Option Nat
  fallbackAt : Option Nat
  /-- Pause states 0 to 7 are the PFC priorities, 8 is 802.3 pause: the end of the pause time, none when
  not paused (R122); the watchdog's count and since when it counts (R124); the end of hold-off (R125). -/
  pauseEnd : SMap Nat
  wdCount : SMap Nat
  wdSince : SMap Nat
  holdEnd : SMap Nat
  /-- The frame in transmission: its copy, its queue, its start, and when its octets and its wire time
  end (R117, R118); `none` when the MAC is idle. -/
  tx : Option Nat
  txStart : Nat
  txLast : Nat
  txEnd : Nat
  /-- The queue of the last frame sent, the end of its wire time as the shaper counts it (R349), and the octets
  the MAC sends, FCS included. -/
  txQueue : Nat
  txWire : Nat
  txData : Octets
  /-- tx_max_wire as it stood when the frame in transmission started (R97). -/
  txMax : Nat
  /-- The octets at the end of txData that no cell holds: its FCS, and the ICV of a protected frame (R117). -/
  txTail : Nat
  /-- MAC Control frames that wait for the end of the frame in transmission (R121), by pause state: 1 an XOFF, 0 the end of one. -/
  ctl : SMap Nat
  /-- The last frame received ended then (R138, rx_ifg_short). -/
  rxEnd : Nat
  /-- Cut-through is in backoff until then (R307). -/
  ctBackoff : Option Nat
  /-- Egress stamps outstanding (R362). -/
  stamps : Nat
  /-- The queue DWRR served last, counted down from 7, the deficits and the marks of queues that are not fresh
  (R348). -/
  dwrrLast : Nat
  deficit : SMap Nat
  stale : SMap Nat
  /-- A pending list change (R353), and one that waits for the port's next selection. -/
  gclPending : Bool
  gclNext : Bool
  /-- The frame in transmission has been counted as a gate overrun (R357). -/
  overrun : Bool
  /-- Warned once that a PN passed its threshold, per SA slot (R131). -/
  pnWarned : SMap Nat
  /-- longest_open of each queue in ns, as the list gave it when it became operational; unbounded where none is held (R356). -/
  longest : SMap Nat
  /-- The rate in b/s at which the last frame taken is sent: mac_rate, or a vport's vport_rate at its selection (R349, R350). -/
  txRate : Nat
  deriving DecidableEq, Repr

/-- A port at reset. -/
def PortDyn.zero : PortDyn :=
  ⟨false, false, false, false, false, false, 0, false, 0, false, none, false, none, none, [], [], [], [], none,
   0, 0, 0, 8, 0, [], 0, 0, [], 0, none, 0, 0, [], [], false, false, false, [], [], 0⟩

/-- A credit-based shaper's exact state (R349): the credit in bits times 3 × 10^12, the time of its last change in thirds of a ps, the
side time then in thousandths of a unit, and the remainder carried to the next change, as a fraction. -/
structure Shaper where
  credit : Int
  last : Nat
  side : Nat
  num : Nat
  den : Nat
  deriving DecidableEq, Repr

/-- A shaper at reset. -/
def Shaper.zero : Shaper := ⟨0, 0, 0, 0, 1⟩

/-- What a vport's engines keep beside its objects: the rings that are armed (bit 0 rx, 1 txc, 2 stale), when each
record not yet consumed was written (R465), a destroy in progress (R459), when a freeze began (R479), and whether the
placement or ring objects have changed since (R477). -/
structure VportDyn where
  armed : Nat
  rxTimes : List Nat
  txcTimes : List Nat
  staleTimes : List Nat
  destroying : Bool
  freezeAt : Nat
  changed : Bool
  deriving DecidableEq, Repr

/-- A vport's engines before it is created. -/
def VportDyn.zero : VportDyn := ⟨0, [], [], [], false, 0, false⟩

/-- A PCIe function (R450 to R452): its Bus Master Enable, VF Enable of a PF, MSI-X Enable and Function Mask, the
MSI-X table (words by 4 entry + word), which holds each vector's mask, and its pending bits; whether it is in D3hot, its Max Payload and Max
Read Request sizes (128 bytes × 2 to the code), the NumVFs of a PF, its ECRC generation and checking, and its BARs' addresses. -/
structure FnDyn where
  bme : Bool
  vfEnable : Bool
  msixEnable : Bool
  msixMaskAll : Bool
  table : SMap Nat
  pend : Nat
  d3hot : Bool
  maxPayload : Nat
  maxRead : Nat
  numVfs : Nat
  ecrcGen : Bool
  ecrcCheck : Bool
  bars : SMap Nat
  deriving DecidableEq, Repr

/-- A function after a reset: every vector masked, payloads of 128 bytes, read requests of 512 (PCI Express). -/
def FnDyn.zero : FnDyn := ⟨false, false, false, false, [], 0, false, 0, 2, 0, false, false, []⟩

/-- Whether a function issues requests: its Bus Master Enable is 1 and it is in D0. -/
def FnDyn.master (f : FnDyn) : Bool := f.bme && !f.d3hot

/-- What a host configuration write sets of a function (R450, R451). -/
inductive CfgField where
  | busMaster
  | vfEnable
  | msixEnable
  | msixMask
  | powerState       -- 0 D0, 3 D3hot
  | maxPayload
  | maxReadRequest
  | numVfs
  | ecrcGenerate
  | ecrcCheck
  | bar (i : Fin 3)  -- BAR0, BAR2, BAR4
  | aerStatus        -- writing ones clears the uncorrectable error status
  deriving DecidableEq, Repr

/-- Whether a vector is masked: bit 0 of word 3 of its entry, 1 after a reset. -/
def FnDyn.masked (f : FnDyn) (v : Nat) : Bool := f.msixMaskAll || decide (SMap.getD f.table (4 * v + 3) 1 % 2 = 1)

/-- A DRAM write-queue entry (R428): the line, the byte mask, the bytes, whether it is a hazard write, its age. -/
structure DramWrite where
  line : Nat
  mask : Nat
  data : Octets
  hazard : Bool
  no : Nat
  deriving DecidableEq, Repr

/-- A DRAM read in its channel's queue (R431): where, for whom, at which effective priority (8 under R430), since
when, and whether it waits for hazard writes. -/
structure DramRead where
  addr : Nat
  len : Nat
  port : Nat
  tag : Nat
  prio : Nat
  since : Nat
  waits : Bool
  no : Nat
  /-- The core that misses (R441), and the bytes a read that the write queue covers gives once the older reads of its port and line are
  answered (R432, R433). -/
  core : Option Nat
  fwd : Option Octets
  deriving DecidableEq, Repr

/-- A DRAM request held back because its queue is full (R428): `data` is `none` for a read of `len` bytes. -/
structure DramReq where
  port : Nat
  prio : Nat
  addr : Nat
  len : Nat
  tag : Nat
  data : Option Octets
  core : Option Nat
  deriving DecidableEq, Repr

/-- Who sends a request to a side's DRAM controller (R429). -/
inductive DramUser where
  | core (k : Fin 8)        -- L3 misses and writebacks
  | delivery (v : Fin 64)   -- local delivery for a vport
  | dma (v : Fin 64)        -- the DMA engines of a vport
  | image                   -- PCIe access through dram_image
  | owl                     -- the Owl and debug
  | patrol                  -- the patrol scrubber, and the pool manager's memory test
  deriving DecidableEq, Repr

/-- An error that arises in the devices or on the wire (R440 to R442), by the 8-byte word of usable capacity that it touches. -/
inductive DramErr where
  | soft       -- one that inline ECC corrects
  | hard       -- one that inline ECC detects and cannot correct
  | wireSoft   -- one of the word's next transfer that link ECC corrects
  | wireHard   -- one of the word's next transfer that link ECC cannot correct
  deriving DecidableEq, Repr

/-- The state of a side's DRAM controller. Ranks have the key 2c + r. -/
structure DramDyn where
  wq : List DramWrite
  rq : List DramRead
  wait : List DramReq
  no : Nat
  /-- Channels in write mode (R431), and the open row plus 1 of each bank, by 16 (2c + r) + bank. -/
  writeMode : Nat
  openRow : SMap Nat
  /-- Owed refreshes in sixteenths (R434), repaying ranks (R436), the next interval, the multiplier codes (0, 1, 2
  for 1, 2, 4), those that wait for a set-point change to end plus 1 (R427), and the sixteenths of a refresh not
  yet counted. -/
  owed : SMap Int
  repaying : Nat
  due : SMap Nat
  mult : SMap Nat
  multPend : SMap Nat
  sixteenths : Nat
  /-- The refresh mode in effect (R445). -/
  perBank : Bool
  /-- The channel estimates and the last valid MR4 of each rank: 0 nominal, 1 half, 2 quarter (R435). -/
  est : SMap Int
  mr4 : SMap Nat
  /-- The rank whose training step comes next, whether one gathers, and when the last began (R424). -/
  stepRank : Nat
  gathering : Bool
  stepAt : Nat
  fspTarget : Nat
  /-- Bytes ports 0 and 1 have spent in the window, the ports demoted in it, and when it began (R430). -/
  spent : SMap Nat
  demoted : Nat
  windowAt : Nat
  lastRequest : Nat
  /-- Words whose check bits do not match, by 8-byte offset: 1 uncorrectable, 2 to be corrected (R440, R441). -/
  bad : SMap Nat
  /-- Which training runs (R423): 1 full, 2 restore. The number of the last full training since the side's
  reset, 0 for none: dram_train_image holds its results. -/
  trainKind : Nat
  trainings : Nat
  /-- The ranks whose last MR4 read above the operating limit (R444). -/
  hot : Nat
  /-- Words whose next transfer meets a link error, by 8-byte offset: 1 uncorrectable, 2 corrected (R442). -/
  wire : SMap Nat
  /-- The bank each rank refreshes next in per-bank mode (R434). -/
  turn : SMap Nat
  /-- The activates each bank owes a management command for, by 16 (2c + r) + bank, and the threshold at which MR27 of a rank asks for one
  (R437). -/
  activates : SMap Nat
  rfmAt : SMap Nat
  /-- Ranks that run the training step of their unfence, and those whose step waits for a set-point change to end (R425, R524), by 2c + r. -/
  unfencing : Nat
  unfenceWait : Nat
  /-- The answer to the access that an engine waits for within its step: none before it, `some none` an error response. -/
  answer : Option (Option Octets)
  deriving DecidableEq, Repr

/-- The controller at reset. -/
def DramDyn.zero : DramDyn :=
  ⟨[], [], [], 0, 0, [], [], 0, [], [], [], 0, false, [], [], 0, false, 0, 0, [], 0, 0, 0, [], 0, 0, 0, [], [], [], [], 0, 0, none⟩

/-- A unit that a collector's reaction holds, with the source and the class (R516, R523): kinds 1 to 8 as R524 numbers
them, 9 the degrade of the side, 10 its error pair, 11 a stop. -/
structure Hold where
  kind : Nat
  num : Nat
  src : Nat
  cls : Nat
  deriving DecidableEq, Repr

/-- A message of a state kind whose state has held since (R516). -/
structure LiveState where
  src : Nat
  kind : Nat
  cls : Nat
  addr : Nat
  deriving DecidableEq, Repr

/-- A domain of the side's APLIC (R397): whether it delivers, the configuration of each source, the pending and the enable bits, the
targets. -/
structure AplicDom where
  ie : Bool
  cfg : SMap Nat
  ip : Nat
  en : Nat
  target : SMap Nat
  deriving DecidableEq, Repr

/-- A domain at reset: no source active, no delivery. -/
def AplicDom.zero : AplicDom := ⟨false, [], 0, 0, []⟩

/-- What a scratchpad request does (R409, R410). -/
inductive SpmOp where
  | read (len : Nat)
  | write (data : Octets)
  | lr (len : Nat)
  | sc (data : Octets)
  | amo (kind : Nat) (data : Octets)
  | cas (expected data : Octets)
  deriving DecidableEq, Repr

/-- A request to the scratchpad (R408): the master and the byte offset. -/
structure SpmReq where
  master : Nat
  addr : Nat
  op : SpmOp
  deriving DecidableEq, Repr

/-- The interval whose core clocks are an event's latency (R498). -/
inductive HpmInterval where
  | dispatchToRetirement
  | dispatchToResolution
  | dispatchToFlush
  | requestToFill
  | issueToReturn
  | issueToOwnership
  | issueToAcceptance
  | issueToReturnOrAcceptance
  | issueToGrant
  | issueToCompletion
  | walk
  deriving DecidableEq, Repr

/-- What the core knows of the instruction whose event made a counter wrap (R501, R502). `event` is the mhpmevent value
the core's software has set, without OF; `latency` the core clocks of the interval that R498 names for the event, if it names one. -/
structure HpmSample where
  event : Nat
  pc : Nat
  addr : Option Nat
  instr : Nat
  latency : Nat
  priv : Nat
  virt : Bool
  asid : Nat
  vmid : Nat
  deriving DecidableEq, Repr

/-- One finding of the scrubber: a unit's parity is bad, the shadow is uncorrectable, or the descriptor is
bad. -/
structure ScrubFinding where
  slot : Nat
  unitBad : Bool
  shadowBad : Bool
  descBad : Bool
  descUnc : Bool
  deriving DecidableEq, Repr

/-- A lane's tests (R597, R599, R600): since when the PRBS checker is locked; when the generator started and the length
of its next frame; how many of its frames gen_frames had counted when it was cleared; the sequence the checker expects; whether
an eye scan runs. -/
structure TestDyn where
  lockAt : Option Nat
  genAt : Option Nat
  genClear : Nat
  expect : Option Nat
  scanning : Bool
  deriving DecidableEq, Repr

/-- A lane without a test. -/
def TestDyn.zero : TestDyn := ⟨none, none, 0, none, false⟩

/-- A macro that MBIST finds not passing (R605, R606): its number of R603, whether two spare columns mend it, its first and
second failing columns. -/
structure MbistFail where
  num : Nat
  repairable : Bool
  first : Nat
  second : Nat
  deriving DecidableEq, Repr

/-- What a data-register scan carries (R601): boundary cells, an access to a side's address map, an MBIST command (0 reads the
results), the repair stage, or what only passes through. -/
inductive TapScan where
  | cells (values : List (Nat × Bool))
  | bus (s : SideId) (addr len : Nat) (data : Option Octets)
  | mbist (cmd : Nat)
  | repair (stage : Option Octets)
  | shift
  deriving DecidableEq, Repr

/-- A frame on a field port as the CAN controller hands it up (R73, R74): format 0 classic, 1 CAN FD, 2 CAN XL. -/
structure FieldFrame where
  fmt : Fin 3
  ident : Nat
  sdt : Nat
  vcid : Nat
  deriving DecidableEq, Repr

/-- A Tyist PDU but for its version and op (R64). -/
structure Pdu where
  tag : Nat
  index : Nat
  sub : Nat
  reason : Nat
  count : Nat
  data : Octets
  deriving DecidableEq, Repr

/-- How a DRAM training that a command completes has ended (R423): there was no DRAM to train; restored or run in full, with the
set points that failed, each with its channel and rank. -/
inductive TrainOutcome where
  | absent
  | done (restored : Bool) (fails : List (Fin 3 × Fin 4 × Fin 2))
  deriving DecidableEq, Repr

/-- The same as numbers. -/
def TrainOutcome.plain : TrainOutcome → Option (Bool × List (Nat × Nat × Nat))
  | .absent => none
  | .done r l => some (r, l.map (fun f => (f.1.val, f.2.1.val, f.2.2.val)))

/-- What the reads of a frame's cells meet (R319): 0 nothing, 1 corrected, 2 uncorrectable, and at which cell. -/
structure CellRead where
  ecc : Fin 3
  cell : Fin 36
  deriving DecidableEq, Repr

/-- A turn of one of a side's engines or of a requester, with the errors that its accesses to protected stores meet: the station table
(R241), the pool manager's stores (R342). -/
structure EngineVisit where
  side : SideId
  found : List Defect
  deriving DecidableEq, Repr

/-- A memory error in a 64-bit word of a record (R284): which word, and whether it is uncorrectable. -/
structure WordError where
  word : Fin 6
  unc : Bool
  deriving DecidableEq, Repr

/-- A port whose MAC can begin a frame, and what the reads of the frame's first cells meet (R319). -/
structure PortRead where
  port : Fin 64
  rd : CellRead
  deriving DecidableEq, Repr

/-- A cell that arrives over the crossing at a side, and what the check of its header finds (R287): 1 corrected, 2 uncorrectable. -/
structure CrossArrival where
  side : SideId
  hdr : Fin 3
  deriving DecidableEq, Repr

/-- For which vport a buffer is freed, and by which requester (R332): 10, a vport DMA engine, or 9, local delivery. -/
structure BufferUser where
  vport : Fin 64
  dma : Bool
  deriving DecidableEq, Repr

/-- What the device collector hears of parts that no other command of the table speaks for (R17, R511): a word of the Owl's ROM or
RAM corrected or uncorrectable, the PCIe core at fault, a word of the device collector's own memory. -/
inductive DevFinding where
  | owlMemory (unc : Bool) (addr : BitVec 48)
  | pcieCore
  | collectorMemory (unc : Bool)
  deriving DecidableEq, Repr

/-- The same for a side's collector: an entry of its own memory (R512), a vport's DMA engine memory (R484). -/
inductive SideFinding where
  | collectorMemory (entry : Fin 480) (unc : Bool)
  | dmaMemory (v : Fin 64) (unc : Bool)
  deriving DecidableEq, Repr

/-- A side whose collector takes a message, with the findings that reach it and the device collector first. -/
structure CollectorTurn where
  side : SideId
  found : List SideFinding
  shared : List DevFinding
  deriving DecidableEq, Repr

/-- The rings that hold records. -/
inductive Ring where
  | rx
  | txc
  | stale
  deriving DecidableEq, Repr

/-- What a read addresses: a slot; slot `m` of entry `k` of an aperture; an offset of a function page. -/
inductive ReadAddr where
  | slot (index sub : Nat)
  | aperture (a k m : Nat)
  | page (offset : Nat)
  deriving DecidableEq, Repr

/-- Who makes an access (R10, R11, R392, R452, R652). -/
inductive Requester where
  /-- The host through a side's physical function. -/
  | pf (s : SideId)
  /-- A guest through virtual function `n` of a side's physical function, for vport `n` (R452). -/
  | vf (s : SideId) (n : Fin 64)
  /-- A core's object window, with V = 1 when `virt` (R392). -/
  | core (s : SideId) (c : Fin 8) (virt : Bool)
  /-- A Tyist requester on a side's field port (R74). -/
  | field (s : SideId)
  /-- A Tyist requester in-band at a side (R76). -/
  | inband (s : SideId)
  /-- A signed bundle, applied by the Owl (R84). -/
  | bundle
  /-- The Owl's own access. -/
  | owl
  deriving DecidableEq, Repr

end Sys2Proof.Machine
end

