-- ==== Sys2Proof/Syntax.lean ====
section
/-! DEFINITION. Syntax.lean: the commands of the table (opcode_table.json), one constructor each, with the operands that the
environment supplies. A `Requester` makes the access, `sd` is the side concerned. -/

namespace Sys2Proof

open Sys2Proof.Machine

/-- The commands of the block. -/
inductive Instr where
  /-- OBJECT_WRITE, R56. -/
| objectWrite (q : Requester) (index : BitVec 16) (sub : BitVec 8) (part : Fin 4) (v : Nat)
  /-- APERTURE_ENTRY_WRITE, R63. -/
| apertureEntryWrite (sd : SideId) (a : Fin 16) (k : BitVec 21) (m : BitVec 14) (part : Fin 4) (v : BitVec 64)
  /-- TYIST_READ, R65. -/
| tyistRead (sd : SideId) (f : FieldFrame) (h : Pdu)
  /-- TYIST_WRITE, R65. -/
| tyistWrite (sd : SideId) (f : FieldFrame) (h : Pdu)
  /-- TYIST_SEG_READ_BEGIN, R68. -/
| tyistSegReadBegin (sd : SideId) (f : FieldFrame) (h : Pdu)
  /-- TYIST_SEG_WRITE_BEGIN, R68. -/
| tyistSegWriteBegin (sd : SideId) (f : FieldFrame) (h : Pdu)
  /-- TYIST_SEGMENT, R68. -/
| tyistSegment (sd : SideId) (f : FieldFrame) (h : Pdu)
  /-- TYIST_SEG_ACK, R68. -/
| tyistSegAck (sd : SideId) (f : FieldFrame) (h : Pdu)
  /-- TYIST_ABORT, R70. -/
| tyistAbort (sd : SideId) (f : FieldFrame) (h : Pdu)
  /-- TYIST_PDU_MALFORMED, R77. -/
| tyistPduMalformed (sd : SideId) (f : FieldFrame) (o : Octets)
  /-- SEGMENT_TIMEOUT, R70. -/
| segmentTimeout (n : Nat)
  /-- CLASSIC_FRAME_IGNORED, R73. -/
| classicFrameIgnored (sd : SideId) (ident : BitVec 11)
  /-- FIELD_BUS_OFF, R73. -/
| fieldBusOff (sd : SideId)
  /-- INBAND_REQUEST, R76. -/
| inbandRequest (sd : SideId)
  /-- BUNDLE_STAGE_WRITE, R82. -/
| bundleStageWrite (q : Requester) (off : BitVec 18) (o : Octets)
  /-- BUNDLE_OWNER_TIMEOUT, R82. -/
| bundleOwnerTimeout
  /-- BUNDLE_APPLY, R83. -/
| bundleApply (q : Requester) (v : BitVec 8)
  /-- BUNDLE_APPLY_COMPLETE, R84. -/
| bundleApplyComplete
  /-- PORT_MODE_WRITE, R94. -/
| portModeWrite (q : Requester) (sd : SideId) (p : Fin 64) (v : BitVec 8)
  /-- ADMIN_UP_WRITE, R102. -/
| adminUpWrite (q : Requester) (sd : SideId) (p : Fin 64) (v : BitVec 8)
  /-- LANE_LOCK, R102. -/
| laneLock (sd : SideId) (p : Fin 64)
  /-- AN_COMPLETE, R102. -/
| anComplete (sd : SideId) (p : Fin 64) (outcome : Fin 5) (word : BitVec 48)
  /-- LINK_UP_HOLDOFF_EXPIRY, R102. -/
| linkUpHoldoffExpiry (sd : SideId) (p : Fin 64)
  /-- LINK_FAULT, R103. -/
| linkFault (sd : SideId) (p : Fin 64) (cause : Fin 5)
  /-- LINK_CONDITION_CHANGE, R655. -/
| linkConditionChange (sd : SideId) (p : Fin 64) (signal : Bool) (locked : Bool) (lfault : Bool) (rfault : Bool)
  /-- RX_FRAME_START, R106. -/
| rxFrameStart (sd : SideId) (p : Fin 64) (o : Octets) (idle : BitVec 16)
  /-- RX_FRAME_END, R107. -/
| rxFrameEnd (sd : SideId) (p : Fin 64) (align : Bool) (code : Bool) (fecGood : BitVec 16) (fecBad : BitVec 16)
  /-- PAUSE_FRAME_RECEIVE, R122. -/
| pauseFrameReceive (sd : SideId) (p : Fin 64) (quanta : BitVec 16)
  /-- PFC_FRAME_RECEIVE, R122. -/
| pfcFrameReceive (sd : SideId) (p : Fin 64) (vector : BitVec 16) (quanta : List (BitVec 16))
  /-- PAUSE_EXPIRY, R122. -/
| pauseExpiry (sd : SideId) (p : Fin 64) (st : Fin 9)
  /-- PAUSE_WATCHDOG_TRIP, R124. -/
| pauseWatchdogTrip (sd : SideId) (p : Fin 64) (st : Fin 9)
  /-- PAUSE_HOLDOFF_END, R125. -/
| pauseHoldoffEnd (sd : SideId) (p : Fin 64) (st : Fin 9)
  /-- PAUSE_REFRESH, R121. -/
| pauseRefresh (sd : SideId) (p : Fin 64) (st : Fin 9)
  /-- TX_ACTIVE_SA_WRITE, R130. -/
| txActiveSaWrite (q : Requester) (sd : SideId) (p : Fin 64) (v : BitVec 8)
  /-- DEN_LINK_TIMEOUT, R132. -/
| denLinkTimeout (sd : SideId) (p : Fin 64)
  /-- EVENT_RATE_INTERVAL, R137. -/
| eventRateInterval (who : Option SideId)
  /-- PARSER_ACCEPT, R141. -/
| parserAccept (sd : SideId) (ds : List Defect)
  /-- SHAPE_COPY, R166. -/
| shapeCopy (q : Requester) (sd : SideId) (v : BitVec 8)
  /-- SHAPE_COPY_DONE, R165. -/
| shapeCopyDone (sd : SideId)
  /-- PROFILE_COPY, R207. -/
| profileCopy (q : Requester) (sd : SideId) (v : BitVec 8)
  /-- PROFILE_COPY_DONE, R207. -/
| profileCopyDone (sd : SideId)
  /-- VID_MAP_COPY, R244. -/
| vidMapCopy (q : Requester) (sd : SideId) (v : BitVec 8)
  /-- VID_MAP_COPY_DONE, R244. -/
| vidMapCopyDone (sd : SideId)
  /-- BADGER_MOVE, R195. -/
| badgerMove (q : Requester) (sd : SideId)
  /-- BADGER_MOVE_WRITE, R195. -/
| badgerMoveWrite (q : Requester) (sd : SideId)
  /-- BADGER_COMMAND_START, R196. -/
| badgerCommandStart (sd : SideId)
  /-- BADGER_COMMAND_DONE, R199. -/
| badgerCommandDone (sd : SideId)
  /-- PROBE_SEARCH, R202. -/
| probeSearch (q : Requester) (sd : SideId) (k : Fin 4)
  /-- PROBE_STEP, R202. -/
| probeStep (q : Requester) (sd : SideId) (k : Fin 4)
  /-- PROBE_CLOSE, R202. -/
| probeClose (q : Requester) (sd : SideId) (k : Fin 4)
  /-- PROBE_COMPLETE, R202. -/
| probeComplete (sd : SideId) (k : Fin 4)
  /-- SEARCH_SCRUB, R205. -/
| searchScrub (sd : SideId) (f : ScrubFinding)
  /-- LEARN_APPLY, R225. -/
| learnApply (v : EngineVisit)
  /-- AGEING_VISIT, R231. -/
| ageingVisit (sd : SideId) (slot : Nat) (ecc : Fin 3)
  /-- STATION_SCRUB_VISIT, R241. -/
| stationScrubVisit (sd : SideId) (slot : Nat) (ecc : Fin 3)
  /-- LEARN_MSG_SEND, R235. -/
| learnMsgSend (sd : SideId)
  /-- LEARN_MSG_RECEIVE, R236. -/
| learnMsgReceive (sd : SideId)
  /-- LEARN_RECORD_APPLY, R237. -/
| learnRecordApply (v : EngineVisit)
  /-- STATION_INSERT, R243. -/
| stationInsert (q : Requester) (sd : SideId)
  /-- STATION_REMOVE, R242. -/
| stationRemove (q : Requester) (sd : SideId)
  /-- STATION_RELOCATE, R243. -/
| stationRelocate (q : Requester) (sd : SideId)
  /-- STATION_FLUSH, R243. -/
| stationFlush (q : Requester) (sd : SideId)
  /-- STATION_CMD_EXECUTE, R243. -/
| stationCmdExecute (v : EngineVisit)
  /-- REHASH_POP, R242. -/
| rehashPop (q : Requester) (sd : SideId)
  /-- ANNOUNCE, R244. -/
| announce (q : Requester) (sd : SideId)
  /-- EPOCH_FLIP, R277. -/
| epochFlip (q : Requester) (sd : SideId) (jade : Bool)
  /-- FLIP_CANCEL, R277. -/
| flipCancel (q : Requester) (sd : SideId)
  /-- FLIP_TIME_REACHED, R277. -/
| flipTimeReached (sd : SideId)
  /-- FLIP_COMPLETE, R278. -/
| flipComplete (sd : SideId)
  /-- FLIP_OVERRUN, R279. -/
| flipOverrun (sd : SideId)
  /-- EPOCH_SYNC, R280. -/
| epochSync (q : Requester) (sd : SideId)
  /-- EPOCH_SYNC_DONE, R280. -/
| epochSyncDone (sd : SideId)
  /-- FRER_RESET_TIMEOUT, R270. -/
| frerResetTimeout (sd : SideId) (n : Fin 1024)
  /-- ACTION_SCRUB, R284. -/
| actionScrub (sd : SideId) (w : Fin 7) (e : BitVec 17) (bad : WordError)
  /-- CELL_SEND, R292. -/
| cellSend (sd : SideId) (g : Fin 8) (hdr : Fin 3)
  /-- CREDIT_RETURN, R291. -/
| creditReturn (sd : SideId) (g : Fin 8)
  /-- CELL_ARRIVE, R294. -/
| cellArrive (e : EngineVisit) (k : Fin 8) (hdr : Fin 3)
  /-- RESEQ_TIMEOUT, R295. -/
| reseqTimeout (sd : SideId) (g : Fin 8) (t : Target) (n : Fin 8)
  /-- MGMT_FRAME_ORIGINATE, R303. -/
| mgmtFrameOriginate (sd : SideId)
  /-- QUEUE_SELECT, R347. -/
| queueSelect (sd : SideId) (p : PortRead)
  /-- TRANSMIT_COMPLETE, R316. -/
| transmitComplete (sd : SideId) (p : Fin 64) (rd : CellRead)
  /-- CT_UNDERRUN, R307. -/
| ctUnderrun (sd : SideId) (p : Fin 64)
  /-- CT_BACKOFF_EXPIRY, R307. -/
| ctBackoffExpiry (sd : SideId) (p : Fin 64)
  /-- CROSSING_SEND, R313. -/
| crossingSend (sd : SideId)
  /-- CROSSING_RECEIVE, R314. -/
| crossingReceive (v : CrossArrival)
  /-- LEDGER_AUDIT, R318. -/
| ledgerAudit (sd : SideId)
  /-- POOL_ENABLE, R327. -/
| poolEnable (q : Requester) (sd : SideId) (n : Fin 8)
  /-- POOL_DISABLE, R327. -/
| poolDisable (q : Requester) (sd : SideId) (n : Fin 8)
  /-- BUFFER_ALLOC, R329. -/
| bufferAlloc (sd : SideId) (pool : Fin 8) (v : Fin 64) (ds : List Defect)
  /-- BUFFER_FREE, R330. -/
| bufferFree (sd : SideId) (h : BitVec 64) (u : BufferUser) (ds : List Defect)
  /-- POOL_PORT_ALLOC, R334. -/
| poolPortAlloc (e : EngineVisit) (o : Fin 73) (pool : Fin 8)
  /-- POOL_PORT_FREE, R334. -/
| poolPortFree (e : EngineVisit) (o : Fin 73) (h : BitVec 64)
  /-- LAST_ERROR_READ, R334. -/
| lastErrorRead (sd : SideId) (o : Fin 73)
  /-- RECLAIM, R336. -/
| reclaim (q : Requester) (sd : SideId)
  /-- RECLAIM_EXIT, R336. -/
| reclaimExit (q : Requester) (sd : SideId)
  /-- RECLAIM_DONE, R336. -/
| reclaimDone (e : EngineVisit)
  /-- GATE_CHANGE, R352. -/
| gateChange (sd : SideId) (p : Fin 64)
  /-- CONFIG_CHANGE, R353. -/
| configChange (q : Requester) (sd : SideId) (p : Fin 64)
  /-- CONFIG_CHANGE_CANCEL, R353. -/
| configChangeCancel (q : Requester) (sd : SideId) (p : Fin 64)
  /-- CONFIG_CHANGE_TIME, R353. -/
| configChangeTime (sd : SideId) (p : Fin 64)
  /-- VPORT_SELECT, R350. -/
| vportSelect (sd : SideId) (v : Fin 64) (fill : Octets) (ds : List Defect)
  /-- TIME_SOURCE_WRITE, R359. -/
| timeSourceWrite (q : Requester) (sd : SideId) (v : BitVec 8)
  /-- DOMAIN_ADJUST, R360. -/
| domainAdjust (q : Requester) (sd : SideId) (n : Fin 4) (v : BitVec 64)
  /-- DOMAIN_SET, R360. -/
| domainSet (q : Requester) (sd : SideId) (n : Fin 4) (v : BitVec 128)
  /-- SLEW_COMPLETE, R360. -/
| slewComplete (sd : SideId) (n : Fin 4)
  /-- TIME_SNAPSHOT, R380. -/
| timeSnapshot (q : Requester) (sd : SideId)
  /-- PPS_OUT_EDGE, R364. -/
| ppsOutEdge (sd : SideId)
  /-- PPS_OUT_END, R364. -/
| ppsOutEnd (sd : SideId)
  /-- PPS_IN_EDGE, R365. -/
| ppsInEdge (sd : SideId)
  /-- PPS_MISSING, R366. -/
| ppsMissing (sd : SideId)
  /-- METER_SWEEP, R371. -/
| meterSweep (sd : SideId)
  /-- STREAM_GATE_CHANGE, R369. -/
| streamGateChange (sd : SideId) (g : Fin 256)
  /-- STREAM_GATE_CHANGE_TIME, R369. -/
| streamGateChangeTime (sd : SideId) (g : Fin 256)
  /-- POL_CLEAR_BLOCKED, R376. -/
| polClearBlocked (q : Requester) (sd : SideId)
  /-- POL_CLEAR_LATCH, R376. -/
| polClearLatch (q : Requester) (sd : SideId)
  /-- POL_CLEAR_RED, R376. -/
| polClearRed (q : Requester) (sd : SideId)
  /-- POL_GATE_CHANGE, R376. -/
| polGateChange (q : Requester) (sd : SideId)
  /-- POL_GATE_CHANGE_CANCEL, R376. -/
| polGateChangeCancel (q : Requester) (sd : SideId)
  /-- POL_BUCKETS_FULL, R376. -/
| polBucketsFull (q : Requester) (sd : SideId)
  /-- POLICING_SCRUB, R377. -/
| policingScrub (sd : SideId) (w : Fin 9) (e : BitVec 16) (unc : Bool)
  /-- CORE_RUN_WRITE, R389. -/
| coreRunWrite (q : Requester) (sd : SideId) (v : BitVec 8)
  /-- VPORT_BIND_ACCESS, R391. -/
| vportBindAccess (sd : SideId) (k : Fin 8) (mode : Fin 5) (v : Option (BitVec 64))
  /-- LOCKSTEP_DIVERGENCE, R396. -/
| lockstepDivergence (sd : SideId) (k : Fin 4) (pc : BitVec 64)
  /-- LD_WRITE_COMPLETE, R401. -/
| ldWriteComplete (sd : SideId) (v : Fin 64) (rd : CellRead)
  /-- SPM_SCRUB, R412. -/
| spmScrub (sd : SideId) (w : BitVec 21) (ecc : Fin 3)
  /-- DRAM_TRAIN_FULL, R423. -/
| dramTrainFull (q : Requester) (sd : SideId)
  /-- DRAM_TRAIN_RESTORE, R423. -/
| dramTrainRestore (q : Requester) (sd : SideId)
  /-- DRAM_TRAIN_DONE, R423. -/
| dramTrainDone (sd : SideId) (fails : List (Fin 3 × Fin 4 × Fin 2))
  /-- RETRAIN_STEP, R424. -/
| retrainStep (sd : SideId)
  /-- RETRAIN_UPDATE, R424. -/
| retrainUpdate (sd : SideId) (r0 : Fin 4) (r1 : Fin 4) (r2 : Fin 4) (r3 : Fin 4)
  /-- FSP_REQUEST, R425. -/
| fspRequest (q : Requester) (sd : SideId) (n : Fin 3)
  /-- FSP_CANCEL, R425. -/
| fspCancel (q : Requester) (sd : SideId)
  /-- FSP_CHANGE_DONE, R426. -/
| fspChangeDone (sd : SideId)
  /-- DRAM_READ, R432. -/
| dramRead (sd : SideId) (u : DramUser) (addr : BitVec 40) (len : Fin 65) (tag : BitVec 16)
  /-- DRAM_WRITE, R428. -/
| dramWrite (sd : SideId) (u : DramUser) (addr : BitVec 40) (o : Octets) (tag : BitVec 16)
  /-- DRAM_COMMAND_ISSUE, R431. -/
| dramCommandIssue (sd : SideId) (ch : Fin 4) (es : List (BitVec 33 × DramErr)) (mr27 : List (Fin 2 × Nat))
  /-- REG_WINDOW, R430. -/
| regWindow (sd : SideId)
  /-- REFRESH_INTERVAL, R434. -/
| refreshInterval (sd : SideId) (ch : Fin 4) (rank : Fin 2)
  /-- DRAM_TEMP_ESTIMATE, R435. -/
| dramTempEstimate (sd : SideId) (ch : Fin 4) (t : Int)
  /-- MR4_POLL, R435. -/
| mr4Poll (sd : SideId) (ch : Fin 4) (rank : Fin 2) (code : Fin 5)
  /-- DRAM_SR_IDLE, R547. -/
| dramSrIdle (sd : SideId)
  /-- HOST_PORT_RESET, R455. -/
| hostPortReset (cause : Fin 3)
  /-- FLR, R455. -/
| flr (sd : SideId) (fn : Fin 64)
  /-- PCIE_UNSUPPORTED_REQUEST, R454. -/
| pcieUnsupportedRequest (sd : SideId) (fn : Fin 64)
  /-- PCIE_MALFORMED_TLP, R454. -/
| pcieMalformedTlp
  /-- PCIE_POISONED_WRITE, R454. -/
| pciePoisonedWrite
  /-- PCIE_UNEXPECTED_CPL, R454. -/
| pcieUnexpectedCpl
  /-- DMA_READ_COMPLETION, R466. -/
| dmaReadCompletion (sd : SideId) (v : Fin 64) (outcome : Fin 3) (o : Octets)
  /-- PCIE_CPL_TIMEOUT, R454. -/
| pcieCplTimeout (sd : SideId) (v : Fin 64)
  /-- TX_TAIL_WRITE, R462. -/
| txTailWrite (q : Requester) (sd : SideId) (v : Fin 64) (n : BitVec 32)
  /-- FILL_TAIL_WRITE, R462. -/
| fillTailWrite (q : Requester) (sd : SideId) (v : Fin 64) (n : BitVec 32)
  /-- CONSUMER_HEAD_WRITE, R472. -/
| consumerHeadWrite (q : Requester) (sd : SideId) (v : Fin 64) (r : Ring) (n : BitVec 32)
  /-- IRQ_DELAY_EXPIRY, R465. -/
| irqDelayExpiry (sd : SideId) (v : Fin 64) (r : Ring)
  /-- TX_DESCRIPTOR_FETCH, R466. -/
| txDescriptorFetch (e : EngineVisit) (v : Fin 64) (desc : Octets)
  /-- TX_COMPLETION, R466. -/
| txCompletion (e : EngineVisit) (v : Fin 64)
  /-- TX_STAMP_TIMEOUT, R466. -/
| txStampTimeout (sd : SideId) (v : Fin 64)
  /-- HOST_DELIVERY_COMPLETE, R468. -/
| hostDeliveryComplete (sd : SideId) (v : Fin 64) (rd : CellRead)
  /-- VPORT_CREATE, R459. -/
| vportCreate (q : Requester) (sd : SideId) (v : Fin 64)
  /-- VPORT_RESET, R476. -/
| vportReset (q : Requester) (sd : SideId) (v : Fin 64)
  /-- VPORT_DESTROY, R459. -/
| vportDestroy (q : Requester) (sd : SideId) (v : Fin 64)
  /-- VPORT_FREEZE, R479. -/
| vportFreeze (q : Requester) (sd : SideId) (v : Fin 64)
  /-- VPORT_THAW, R480. -/
| vportThaw (q : Requester) (sd : SideId) (v : Fin 64)
  /-- VPORT_SAVE, R481. -/
| vportSave (q : Requester) (sd : SideId) (v : Fin 64)
  /-- VPORT_RESTORE, R482. -/
| vportRestore (q : Requester) (sd : SideId) (v : Fin 64)
  /-- VPORT_RESET_COMPLETE, R476. -/
| vportResetComplete (sd : SideId) (v : Fin 64)
  /-- FREEZE_COMPLETE, R479. -/
| freezeComplete (sd : SideId) (v : Fin 64)
  /-- FREEZE_DEADLINE, R479. -/
| freezeDeadline (sd : SideId) (v : Fin 64)
  /-- COUNTER_SNAPSHOT, R491. -/
| counterSnapshot (q : Requester) (sd : SideId)
  /-- SNAPSHOT_WRITTEN, R491. -/
| snapshotWritten (sd : SideId)
  /-- COUNTERS_CLEAR, R506. -/
| countersClear (q : Requester) (sd : SideId)
  /-- WINDOW_COUNTERS_CLEAR, R506. -/
| windowCountersClear (q : Requester) (sd : SideId)
  /-- HPM_COUNTER_WRAP, R500. -/
| hpmCounterWrap (sd : SideId) (k : Fin 8) (n : Fin 32) (smp : HpmSample)
  /-- SAMP_HEAD_WRITE, R504. -/
| sampHeadWrite (q : Requester) (sd : SideId) (k : Fin 8) (v : BitVec 32)
  /-- FAULT_MESSAGE, R514. -/
| faultMessage (m : CollectorTurn)
  /-- FENCE_COMPLETE, R523. -/
| fenceComplete (sd : SideId) (kind : Fin 9) (num : BitVec 16)
  /-- PROMOTION_LAPSE, R516. -/
| promotionLapse (sd : SideId) (e : Fin 480)
  /-- FAULT_CLEAR, R518. -/
| faultClear (q : Requester) (sd : SideId) (v : BitVec 32)
  /-- UNFENCE_PORT, R524. -/
| unfencePort (q : Requester) (sd : SideId) (n : BitVec 16)
  /-- UNFENCE_BANK, R524. -/
| unfenceBank (q : Requester) (sd : SideId) (n : BitVec 16)
  /-- UNFENCE_SLICE, R312. -/
| unfenceSlice (q : Requester) (sd : SideId) (n : BitVec 16)
  /-- UNFENCE_MIDDLE, R524. -/
| unfenceMiddle (q : Requester) (sd : SideId) (n : BitVec 16)
  /-- UNFENCE_RANK, R524. -/
| unfenceRank (q : Requester) (sd : SideId) (n : BitVec 16)
  /-- UNFENCE_CORE_PAIR, R524. -/
| unfenceCorePair (q : Requester) (sd : SideId) (n : BitVec 16)
  /-- UNFENCE_SPM_BANK, R524. -/
| unfenceSpmBank (q : Requester) (sd : SideId) (n : BitVec 16)
  /-- UNFENCE_VPORT, R524. -/
| unfenceVport (q : Requester) (sd : SideId) (n : BitVec 16)
  /-- DEGRADE_RELEASE, R525. -/
| degradeRelease (q : Requester) (sd : SideId)
  /-- PAIR_RELEASE, R531. -/
| pairRelease (q : Requester) (sd : SideId)
  /-- EVENT_ACK, R532. -/
| eventAck (q : Requester) (sd : SideId) (v : BitVec 32)
  /-- FFR_CLEAR, R519. -/
| ffrClear (q : Requester) (sd : SideId)
  /-- DEVICE_FAULT_MESSAGE, R527. -/
| deviceFaultMessage
  /-- DEVICE_FAULT_CLEAR, R539. -/
| deviceFaultClear (q : Requester) (v : BitVec 32)
  /-- DEVICE_EVENT_ACK, R539. -/
| deviceEventAck (q : Requester) (v : BitVec 32)
  /-- DEVICE_FFR_CLEAR, R539. -/
| deviceFfrClear (q : Requester)
  /-- HEARTBEAT_LOSS, R530. -/
| heartbeatLoss (sd : SideId)
  /-- PAIR_READBACK_MISMATCH, R530. -/
| pairReadbackMismatch (sd : SideId) (pn : Fin 4)
  /-- STALL_DETECT, R512. -/
| stallDetect (sd : SideId) (jade : Bool)
  /-- OWL_WATCHDOG_EXPIRY, R17. -/
| owlWatchdogExpiry
  /-- PLL_LOCK_TIMEOUT, R541. -/
| pllLockTimeout (sd : SideId) (n : Fin 6) (refBad : Bool)
  /-- PLL_LOCK, R541. -/
| pllLock (sd : SideId) (n : Fin 6)
  /-- PLL_LOCK_LOSS, R541. -/
| pllLockLoss (sd : SideId) (n : Fin 6)
  /-- CORE_FREQ_CHANGE, R543. -/
| coreFreqChange (q : Requester) (sd : SideId) (divider : Bool) (v : BitVec 16)
  /-- POWER_REQUEST_RUN, R545. -/
| powerRequestRun (q : Requester) (sd : SideId)
  /-- POWER_REQUEST_DEN, R545. -/
| powerRequestDen (q : Requester) (sd : SideId)
  /-- POWER_REQUEST_BURROW, R545. -/
| powerRequestBurrow (q : Requester) (sd : SideId)
  /-- ENTRY_DRAIN_DONE, R546. -/
| entryDrainDone (sd : SideId)
  /-- ENTRY_DRAIN_TIMEOUT, R546. -/
| entryDrainTimeout (sd : SideId)
  /-- DEN_ENTERED, R546. -/
| denEntered (sd : SideId)
  /-- BURROW_ENTERED, R552. -/
| burrowEntered (sd : SideId)
  /-- WAKE_IN_EDGE, R550. -/
| wakeInEdge (n : Fin 8) (high : Bool) (held : Bool)
  /-- WAKE_TIMER_EXPIRY, R548. -/
| wakeTimerExpiry (sd : SideId)
  /-- FIELD_WAKE_FRAME, R553. -/
| fieldWakeFrame (sd : SideId) (ident : BitVec 11)
  /-- DEN_EXIT, R551. -/
| denExit (sd : SideId)
  /-- HELD_PORT_FULL_RATE, R551. -/
| heldPortFullRate (sd : SideId) (p : Fin 64)
  /-- HELD_PORT_FALLBACK, R551. -/
| heldPortFallback (sd : SideId) (p : Fin 64)
  /-- BURROW_EXIT, R554. -/
| burrowExit (sd : SideId)
  /-- BURROW_EXIT_COMPLETE, R554. -/
| burrowExitComplete (sd : SideId) (t : TrainOutcome)
  /-- AVS_MONITOR_READ, R556. -/
| avsMonitorRead (margins : List (BitVec 16)) (ack : Bool)
  /-- POWERED_HOUR, R558. -/
| poweredHour (shifts : List (BitVec 32))
  /-- RAIL_OUT_OF_RANGE, R636. -/
| railOutOfRange (k : Fin 9)
  /-- AON_CLOCK_LOSS, R511. -/
| aonClockLoss (k : Fin 2)
  /-- TJ_SAMPLE, R643. -/
| tjSample (sd : SideId) (t : Int)
  /-- PORST_ASSERT, R627. -/
| porstAssert
  /-- PORST_RELEASE, R574. -/
| porstRelease (straps : BitVec 15) (fuses : BitVec 2048) (flash : List (BitVec 27 × Octets)) (bad : List (Fin 32 × Bool))
  /-- BOOT_SLOT_VERIFY, R571. -/
| bootSlotVerify (flash : Fin 3)
  /-- FIRMWARE_START, R574. -/
| firmwareStart
  /-- SIDE_RELEASE, R574. -/
| sideRelease (ta : TrainOutcome) (tb : TrainOutcome) (fa : BitVec 5 × BitVec 16) (fb : BitVec 5 × BitVec 16)
  /-- DEFERRED_BOOT_COMPLETE, R577. -/
| deferredBootComplete (ta : TrainOutcome) (tb : TrainOutcome)
  /-- VERSION_COMMIT, R572. -/
| versionCommit (q : Requester) (v : BitVec 8) (part : Option (Fin 2048))
  /-- RECOVERY_BOOT, R581. -/
| recoveryBoot (q : Requester)
  /-- RECOVERY_PROGRAM, R581. -/
| recoveryProgram (q : Requester)
  /-- PERSIST_SNAPSHOT, R567. -/
| persistSnapshot
  /-- FLASH_BUSY_TIMEOUT, R583. -/
| flashBusyTimeout
  /-- ATTEST_NONCE_WRITE, R588. -/
| attestNonceWrite (q : Requester) (v : BitVec 256)
  /-- ATTEST_REQUEST, R588. -/
| attestRequest (q : Requester)
  /-- ATTEST_REPORT_READY, R590. -/
| attestReportReady
  /-- ATTEST_TIMEOUT, R590. -/
| attestTimeout
  /-- ATTEST_OWNER_TIMEOUT, R588. -/
| attestOwnerTimeout
  /-- SIDE_RESET_ASSERT, R628. -/
| sideResetAssert (sd : SideId)
  /-- SIDE_RESET_RELEASE, R628. -/
| sideResetRelease (sd : SideId) (t : TrainOutcome) (o : TrainOutcome)
  /-- SIDE_RESET_WRITE, R628. -/
| sideResetWrite (q : Requester) (sd : SideId)
  /-- PORT_TEST_WRITE, R593. -/
| portTestWrite (q : Requester) (sd : SideId) (p : Fin 64) (v : BitVec 8)
  /-- PRBS_LOCK, R597. -/
| prbsLock (sd : SideId) (p : Fin 64)
  /-- PRBS_LOCK_LOSS, R597. -/
| prbsLockLoss (sd : SideId) (p : Fin 64) (errors : BitVec 16)
  /-- EYE_SCAN, R600. -/
| eyeScan (q : Requester) (sd : SideId) (p : Fin 64)
  /-- EYE_SCAN_DONE, R600. -/
| eyeScanDone (sd : SideId) (p : Fin 64) (counts : List (BitVec 16))
  /-- GEN_START, R599. -/
| genStart (q : Requester) (sd : SideId) (p : Fin 64)
  /-- GEN_STOP, R599. -/
| genStop (q : Requester) (sd : SideId) (p : Fin 64)
  /-- GEN_COUNT_REACHED, R599. -/
| genCountReached (sd : SideId) (p : Fin 64)
  /-- CHECKER_FRAME, R599. -/
| checkerFrame (sd : SideId) (p : Fin 64) (o : Octets) (codeError : Bool)
  /-- JTAG_INSTRUCTION, R601. -/
| jtagInstruction (code : BitVec 8)
  /-- MBIST_RUN, R606. -/
| mbistRun (q : Requester)
  /-- MBIST_RUN_STAGED, R606. -/
| mbistRunStaged (q : Requester)
  /-- MBIST_DONE, R606. -/
| mbistDone (fails : List MbistFail)
  /-- REPAIR_PROGRAM, R607. -/
| repairProgram (q : Requester) (v : BitVec 8) (part : Option (Fin 2048)) (misread : Bool)
  /-- FIELD_TEST_REQUEST, R610. -/
| fieldTestRequest (q : Requester) (sd : SideId)
  /-- FIELD_TEST_CANCEL, R610. -/
| fieldTestCancel (q : Requester) (sd : SideId)
  /-- FIELD_TEST_DUE, R610. -/
| fieldTestDue (sd : SideId)
  /-- FIELD_TEST_START, R608. -/
| fieldTestStart (sd : SideId)
  /-- FIELD_TEST_DONE, R610. -/
| fieldTestDone (sd : SideId) (failed : BitVec 5) (unit : BitVec 16)
  /-- OBJECT_READ, R58. -/
| objectRead (q : Requester) (addr : ReadAddr) (part : Fin 4)
  /-- SCRATCHPAD_REQUEST, R408. -/
| scratchpadRequest (sd : SideId) (l : List SpmReq) (ecc : Fin 3)
  /-- CACHE_ECC_ERROR, R414. -/
| cacheEccError (sd : SideId) (u : Fin 9) (addr : BitVec 64) (unc : Bool)
  /-- PCIE_CONFIG_WRITE, R473. -/
| pcieConfigWrite (sd : SideId) (fn : Fin 64) (field : CfgField) (v : BitVec 64)
  /-- PCIE_LINK_UP, R485. -/
| pcieLinkUp (speed : Fin 5) (width : Fin 9)
  /-- MSIX_TABLE_WRITE, R533. -/
| msixTableWrite (sd : SideId) (fn : Fin 64) (entry : Fin 64) (word : Fin 4) (v : BitVec 32)
  /-- FIELD_BUS_OFF_RECOVERY, R73. -/
| fieldBusOffRecovery (sd : SideId)
  /-- RAIL_IN_RANGE, R636. -/
| railInRange (k : Fin 9)
  /-- AON_CLOCK_RETURN, R561. -/
| aonClockReturn (k : Fin 2)
  /-- CROSSING_TRAINING_DONE, R20. -/
| crossingTrainingDone (ok : Bool)
  /-- BOOT_FIRMWARE_TIMEOUT, R580. -/
| bootFirmwareTimeout
  /-- JTAG_DATA_SCAN, R601. -/
| jtagDataScan (scan : TapScan)
  deriving DecidableEq, Repr

end Sys2Proof
end

