-- ==== Sys2Proof/Decode.lean ====
section
/-! DEFINITION. Decode.lean: the command that a word of the table's bits spells. The table gives no row any bits: a command of this
block is an event on one of its interfaces, not an encoded word, so no word spells one. -/

namespace Sys2Proof

/-- The command that `nbits` bits of the table spell: none, since no row has any. -/
def decodeTableWord (_nbits _w : Nat) : Option Instr := none

end Sys2Proof
end

