-- ==== Sys2Proof/Config.lean ====
section
/-! DEFINITION. Config.lean: what the spec leaves to another standard, to the silicon's maker or open. Each is a constant
without a body, so that nothing can be proved that rests on a value of it. -/

namespace Sys2Proof

/-- The 32-byte random input of the device's `n`-th ML-DSA-44 signature (FIPS 204, R568, R589; log entry 4). -/
opaque Config.signRandom : Nat → BitVec 256

/-- The subject public key that a DER certificate carries, none when it cannot be parsed (R587; log entry 5). -/
opaque Config.certKey : Octets → Option Octets

/-- What the `n`-th full training of a side leaves in entry `e` of dram_train_image (R423, R446; log entry 6). -/
opaque Config.trainResult : Nat → Nat → Nat → BitVec 64

/-- Iluid's JEP106 code (R601; log entry 7). -/
opaque Config.jep106 : BitVec 11

/-- The level of a ball that a boundary cell captures, at the `n`-th capture (R601; log entry 7). -/
opaque Config.ballLevel : Nat → Nat → Bool

/-- The octet times of an alignment marker under Clause 108, up to the bound of R119; the time from one marker to the next, less 1,
and the time by which port `p` of side `s` is ahead in that period, in thirds of a ps (log entry 61). -/
opaque Config.fecMarker : Nat
opaque Config.fecPeriod : Nat
opaque Config.fecPhase : Nat → Nat → Nat

/-- Whether the line of a side's `n`-th free value was dirty when its cache lost it, and the bytes that memory holds of it then (R388,
R414; log entry 39). -/
opaque Config.lineDirty : Nat → Nat → Bool
opaque Config.staleByte : Nat → Nat → Nat → BitVec 8

/-- The SECDED check field over bits [63:7] of a cell's header, whose code R286 does not give (log entry 64). -/
opaque Config.headerCheck : BitVec 57 → BitVec 7

/-- The frame descriptor that the switch core gives the `n`-th copy a side admits (R286; log entry 64). -/
opaque Config.frameId : Nat → BitVec 18

/-- The count field of the `n`-th seg_begin_rsp that the device sends, which R64 gives no meaning (log entry 8). -/
opaque Config.beginCount : Nat → BitVec 16

end Sys2Proof
end

