-- ==== Sys2Proof/Machine/MlDsa.lean ====
section
/-! DEFINITION. MlDsa.lean: ML-DSA-44 of FIPS 204 (R9): key generation (R586), signing (R589) and verification (R83, R571), pure, with
an empty context string (R568). PRESUMED: the functions are taken from the standard (log entry 4).

A polynomial is the list of its 256 coefficients, each below q. Its transform is the list of its values at the 256 odd powers of
1753, in the standard's order, so a product of transforms is taken place by place. -/

namespace Sys2Proof.Machine

/-- The modulus q. -/
def dsaQ : Nat := 8380417

/-! ### Polynomials -/

/-- The number whose eight bits are those of `i` in the other order. -/
def revBits8 (i : Nat) : Nat := (List.range 8).foldl (fun a k => 2 * a + i / 2 ^ k % 2) 0

/-- The points of the transform, and the inverses of the points. -/
def dsaPoints : List Nat := (List.range 256).map (fun i => 1753 ^ (2 * revBits8 i + 1) % dsaQ)
def dsaInverses : List Nat := (List.range 256).map (fun i => 1753 ^ (511 - 2 * revBits8 i) % dsaQ)

/-- Place by place: product, sum and difference. -/
def polyMul (a b : List Nat) : List Nat := a.zipWith (fun x y => x * y % dsaQ) b
def polyAdd (a b : List Nat) : List Nat := a.zipWith (fun x y => (x + y) % dsaQ) b
def polySub (a b : List Nat) : List Nat := a.zipWith (fun x y => (x + dsaQ - y) % dsaQ) b

/-- The transform: the polynomial's value at each point. -/
def toPoints (p : List Nat) : List Nat := dsaPoints.map (fun x => p.foldr (fun c a => (c + x * a) % dsaQ) 0)

/-- The coefficients, lowest first, of the polynomial whose values at the points are `v`: coefficient j is the mean of v times the
j-th powers of the inverse points, and 8347681 is the inverse of 256. -/
def coefficients : Nat → List Nat → List Nat
  | 0, _ => []
  | n + 1, v => 8347681 * v.sum % dsaQ :: coefficients n (polyMul v dsaInverses)

/-- The polynomial of a transform. -/
def ofPoints (v : List Nat) : List Nat := coefficients 256 v

/-- A row of a matrix of transforms times a vector of transforms. -/
def rowTimes (row v : List (List Nat)) : List Nat :=
  (row.zipWith polyMul v).foldl polyAdd (List.replicate 256 0)

/-- The magnitude of a coefficient, and the largest of a vector's. -/
def dsaSize (x : Nat) : Nat := min x (dsaQ - x)
def vecSize (v : List (List Nat)) : Nat := v.flatten.foldl (fun m x => max m (dsaSize x)) 0

/-- Coefficients of `b` bits as octets, low bits first; and the coefficients of an octet string. -/
def packBits (b : Nat) (p : List Nat) : Octets := toLe (32 * b) (p.foldr (fun c n => c + 2 ^ b * n) 0)
def unpackBits (b : Nat) (o : Octets) : List Nat :=
  let n := leNat o
  (List.range 256).map (fun i => n / 2 ^ (b * i) % 2 ^ b)

/-! ### Sampling

Each takes a stretch of the standard's endless stream of the length that its Appendix C allows or more: that a stretch holds too few
accepted values is less likely than 2^-256. -/

/-- A polynomial given by its transform. -/
def uniformPoints (seed : Octets) : List Nat :=
  let s := shake128 1344 seed
  (((List.range 448).map (fun i => leNat (slice s (3 * i) 3) % 2 ^ 23)).filter (fun z => decide (z < dsaQ))).take 256

/-- A polynomial with coefficients from -2 to 2. -/
def smallPoly (seed : Octets) : List Nat :=
  ((((shake256 544 seed).flatMap (fun x => [x.toNat % 16, x.toNat / 16])).filter (fun z => decide (z < 15))).map
    (fun z => (dsaQ + 2 - z % 5) % dsaQ)).take 256

/-- The 39 places and signs of a challenge, read from a stream: the octet that names a place stands at `i` or below. -/
def placeSigns (signs : Nat) : Octets → Nat → List Nat → List Nat
  | [], _, c => c
  | x :: o, i, c =>
    if 256 ≤ i then c
    else if i < x.toNat then placeSigns signs o i c
    else placeSigns signs o (i + 1) ((c.set i (c.getD x.toNat 0)).set x.toNat (if bitOf signs (i - 217) then dsaQ - 1 else 1))

/-- The challenge polynomial: 39 coefficients of 1 or -1. -/
def challengePoly (seed : Octets) : List Nat :=
  let s := shake256 272 seed
  placeSigns (leNat (s.take 8)) (s.drop 8) 217 (List.replicate 256 0)

/-- The public matrix of a seed. -/
def publicMatrix (rho : Octets) : List (List (List Nat)) :=
  (List.range 4).map (fun r => (List.range 4).map (fun s => uniformPoints (rho ++ toLe 1 s ++ toLe 1 r)))

/-- The mask of the attempt that starts at `n`. -/
def maskVector (seed : Octets) (n : Nat) : List (List Nat) :=
  (List.range 4).map (fun r =>
    (unpackBits 18 (shake256 576 (seed ++ toLe 2 (n + r)))).map (fun z => (131072 + dsaQ - z) % dsaQ))

/-! ### Rounding and hints -/

/-- The upper ten bits of a coefficient of t, and what is left. -/
def upperT (x : Nat) : Nat := (x + 4095) / 8192
def lowerT (x : Nat) : Nat := (x + dsaQ - 8192 * upperT x) % dsaQ

/-- The high part of a coefficient, 0 to 43, and the low part. -/
def highPart (x : Nat) : Nat := (x + 95231) / 190464 % 44
def lowPart (x : Nat) : Nat := (x + dsaQ - 190464 * highPart x) % dsaQ

/-- The high part that a hint gives. -/
def hintedPart (h : Bool) (x : Nat) : Nat :=
  if !h then highPart x
  else if 0 < lowPart x ∧ lowPart x ≤ dsaQ / 2 then (highPart x + 1) % 44
  else (highPart x + 43) % 44

/-- Hints as octets: the places of the ones, filled up to 80, and for each polynomial where its places end. -/
def packHints (h : List (List Nat)) : Octets :=
  let places := h.flatten
  (places ++ List.replicate (80 - places.length) 0).flatMap (toLe 1) ++
  (List.range 4).flatMap (fun i => toLe 1 (h.take (i + 1)).flatten.length)

/-- The places of each polynomial's hints, `k` polynomials being left and `first` places read; none where the octets are malformed. -/
def unpackHints (y : Octets) : Nat → Nat → Option (List (List Nat))
  | 0, first => if (slice y first (80 - first)).all (fun x => decide (x = 0)) then some [] else none
  | k + 1, first =>
    let stop := octetAt y (83 - k)
    let l := (slice y first (stop - first)).map BitVec.toNat
    if stop < first ∨ 80 < stop ∨ (l.zip (l.drop 1)).any (fun e => decide (e.2 ≤ e.1)) then none
    else (unpackHints y k stop).map (fun r => l :: r)

/-! ### The three functions -/

/-- A key pair as key generation leaves it. -/
structure DsaKey where
  /-- The seed of the matrix, the signing secret and the public key's hash. -/
  rho : Octets
  secret : Octets
  hash : Octets
  /-- The transforms of the two secret vectors and of the low part of t. -/
  s1 : List (List Nat)
  s2 : List (List Nat)
  t0 : List (List Nat)
  /-- The public key, 1,312 octets. -/
  pub : Octets

/-- Key generation from a 32-octet seed. -/
def dsaKey (seed : Octets) : DsaKey :=
  let h := shake256 128 (seed ++ [4, 4])
  let rho := h.take 32
  let small := (List.range 8).map (fun r => smallPoly (slice h 32 64 ++ toLe 2 r))
  let s1 := (small.take 4).map toPoints
  let t := ((publicMatrix rho).map (fun row => ofPoints (rowTimes row s1))).zipWith polyAdd (small.drop 4)
  let pub := rho ++ t.flatMap (fun p => packBits 10 (p.map upperT))
  { rho, secret := h.drop 96, hash := shake256 64 pub, s1, s2 := (small.drop 4).map toPoints,
    t0 := t.map (fun p => toPoints (p.map lowerT)), pub }

/-- The public key that a seed gives (R586). -/
def mldsaPublic (seed : Octets) : Octets := (dsaKey seed).pub

/-- The hash of a message under a public key's hash, with the empty context string. -/
def messageHash (keyHash m : Octets) : Octets := shake256 64 (keyHash ++ [0, 0] ++ m)

/-- The commitment's hash. -/
def commitHash (mu : Octets) (w : List (List Nat)) : Octets := shake256 32 (mu ++ w.flatMap (packBits 6))

/-- Attempts at a signature from the mask at `n`, at most `fuel` of them (FIPS 204, Appendix C, allows 814). -/
def signFrom (key : DsaKey) (mu seed : Octets) : Nat → Nat → Octets
  | 0, _ => []
  | fuel + 1, n =>
    let y := maskVector seed n
    let yp := y.map toPoints
    let w := (publicMatrix key.rho).map (fun row => ofPoints (rowTimes row yp))
    let ct := commitHash mu (w.map (fun p => p.map highPart))
    let c := toPoints (challengePoly ct)
    let times (v : List (List Nat)) := v.map (fun p => ofPoints (polyMul c p))
    let z := y.zipWith polyAdd (times key.s1)
    let r := w.zipWith polySub (times key.s2)
    let e := times key.t0
    let hints := (r.zipWith (fun a b => a.zip b) e).map (fun p =>
      (p.zipIdx.filter (fun x => decide (highPart x.1.1 ≠ highPart ((x.1.1 + x.1.2) % dsaQ)))).map Prod.snd)
    if 130994 ≤ vecSize z ∨ 95154 ≤ vecSize (r.map (fun p => p.map lowPart)) ∨ 95232 ≤ vecSize e ∨ 80 < hints.flatten.length then
      signFrom key mu seed fuel (n + 4)
    else ct ++ z.flatMap (fun p => packBits 18 (p.map (fun x => (131072 + dsaQ - x) % dsaQ))) ++ packHints hints

/-- The signature of a message under a seed's key, with the standard's random input. -/
def mldsaSign (seed m rnd : Octets) : Octets :=
  let key := dsaKey seed
  let mu := messageHash key.hash m
  signFrom key mu (shake256 64 (key.secret ++ rnd ++ mu)) 814 0

/-- Whether a signature of a message stands under a public key. -/
def mldsaVerify (pub m sig : Octets) : Bool :=
  match unpackHints (sig.drop 2336) 4 0 with
  | none => false
  | some hints =>
    let z := (List.range 4).map (fun i => (unpackBits 18 (slice sig (32 + 576 * i) 576)).map (fun x => (131072 + dsaQ - x) % dsaQ))
    let t := (List.range 4).map (fun i => toPoints ((unpackBits 10 (slice pub (32 + 320 * i) 320)).map (fun x => 8192 * x)))
    let c := toPoints (challengePoly (sig.take 32))
    let zp := z.map toPoints
    let w := ((publicMatrix (pub.take 32)).zip t).map (fun e => ofPoints (polySub (rowTimes e.1 zp) (polyMul c e.2)))
    let w1 := (w.zip hints).map (fun e => e.1.zipIdx.map (fun x => hintedPart (e.2.contains x.2) x.1))
    decide (pub.length = 1312) && decide (sig.length = 2420) && decide (vecSize z < 130994) &&
      decide (sig.take 32 = commitHash (messageHash (shake256 64 pub) m) w1)

end Sys2Proof.Machine
end

