-- ==== Sys2Proof/Machine/Names.lean ====
section
/-! DEFINITION. Names.lean: the keys of the objects of the dictionary, under the spec's own names. The
key of an object is 256 times its index plus its subindex; the index of a side's object is the offset
from S (R51), a vport's configuration object v has index 0x2000 + v and its status object 0x2080 + v,
and the device-level objects that exist once per side or once per port (OD 1210+s, 1220+s, 1241+s,
1310+s, 1410+s, 1510+s, 1580+n) have index 0x2000 above their own, in the store of their side. -/

namespace Sys2Proof.Machine

/-- field_node_id of S+0010.01, R75. -/
abbrev Reg.field_node_id : Nat := 0x1001
/-- field_enable of S+0010.02, R75. -/
abbrev Reg.field_enable : Nat := 0x1002
/-- field_arb_rate of S+0010.03, R75. -/
abbrev Reg.field_arb_rate : Nat := 0x1003
/-- field_data_rate of S+0010.04, R75. -/
abbrev Reg.field_data_rate : Nat := 0x1004
/-- mgmt_mac of S+0010.05, R75. -/
abbrev Reg.mgmt_mac : Nat := 0x1005
/-- segment_timeout_ms of S+0010.06, R75. -/
abbrev Reg.segment_timeout_ms : Nat := 0x1006
/-- tyist_sdt of S+0010.07, R75. -/
abbrev Reg.tyist_sdt : Nat := 0x1007
/-- tyist_vcid of S+0010.08, R75. -/
abbrev Reg.tyist_vcid : Nat := 0x1008
/-- tyist_requests of S+0012.01, R75. -/
abbrev Reg.tyist_requests : Nat := 0x1201
/-- tyist_refusals of S+0012.02, R75. -/
abbrev Reg.tyist_refusals : Nat := 0x1202
/-- tyist_malformed of S+0012.03, R75. -/
abbrev Reg.tyist_malformed : Nat := 0x1203
/-- tyist_classic_ignored of S+0012.04, R75. -/
abbrev Reg.tyist_classic_ignored : Nat := 0x1204
/-- field_bus_off of S+0012.05, R75. -/
abbrev Reg.field_bus_off : Nat := 0x1205
/-- diag_vport of S+0020.01, R101. -/
abbrev Reg.diag_vport : Nat := 0x2001
/-- pm_drop_entry of S+0030.01, R562. -/
abbrev Reg.pm_drop_entry : Nat := 0x3001
/-- den_entries of S+0030.02, R562. -/
abbrev Reg.den_entries : Nat := 0x3002
/-- burrow_entries of S+0030.03, R562. -/
abbrev Reg.burrow_entries : Nat := 0x3003
/-- port_mode of S+0100+p.01, R98. -/
abbrev Reg.port_mode (p : Nat) : Nat := 0x10001 + 256 * p
/-- fec_mode of S+0100+p.02, R98. -/
abbrev Reg.fec_mode (p : Nat) : Nat := 0x10002 + 256 * p
/-- admin_up of S+0100+p.03, R98. -/
abbrev Reg.admin_up (p : Nat) : Nat := 0x10003 + 256 * p
/-- an_enable of S+0100+p.04, R98. -/
abbrev Reg.an_enable (p : Nat) : Nat := 0x10004 + 256 * p
/-- sgmii_speed of S+0100+p.05, R98. -/
abbrev Reg.sgmii_speed (p : Nat) : Nat := 0x10005 + 256 * p
/-- port_flags of S+0100+p.06, R98. -/
abbrev Reg.port_flags (p : Nat) : Nat := 0x10006 + 256 * p
/-- rx_max_frame of S+0100+p.07, R98. -/
abbrev Reg.rx_max_frame (p : Nat) : Nat := 0x10007 + 256 * p
/-- tx_max_wire of S+0100+p.08, R98. -/
abbrev Reg.tx_max_wire (p : Nat) : Nat := 0x10008 + 256 * p
/-- flow_control of S+0100+p.09, R98. -/
abbrev Reg.flow_control (p : Nat) : Nat := 0x10009 + 256 * p
/-- pfc_enable of S+0100+p.0A, R98. -/
abbrev Reg.pfc_enable (p : Nat) : Nat := 0x1000A + 256 * p
/-- pause_watchdog_ms of S+0100+p.0B, R98. -/
abbrev Reg.pause_watchdog_ms (p : Nat) : Nat := 0x1000B + 256 * p
/-- pause_holdoff_ms of S+0100+p.0C, R98. -/
abbrev Reg.pause_holdoff_ms (p : Nat) : Nat := 0x1000C + 256 * p
/-- link_fault_filter_ns of S+0100+p.0D, R98. -/
abbrev Reg.link_fault_filter_ns (p : Nat) : Nat := 0x1000D + 256 * p
/-- link_up_holdoff_ms of S+0100+p.0E, R98. -/
abbrev Reg.link_up_holdoff_ms (p : Nat) : Nat := 0x1000E + 256 * p
/-- tx_pause_quanta of S+0100+p.0F, R98. -/
abbrev Reg.tx_pause_quanta (p : Nat) : Nat := 0x1000F + 256 * p
/-- tx_eq of S+0100+p.10, R98. -/
abbrev Reg.tx_eq (p : Nat) : Nat := 0x10010 + 256 * p
/-- rx_adapt of S+0100+p.11, R98. -/
abbrev Reg.rx_adapt (p : Nat) : Nat := 0x10011 + 256 * p
/-- macsec_enable of S+0100+p.18, R98. -/
abbrev Reg.macsec_enable (p : Nat) : Nat := 0x10018 + 256 * p
/-- validate_frames of S+0100+p.19, R98. -/
abbrev Reg.validate_frames (p : Nat) : Nat := 0x10019 + 256 * p
/-- protect_frames of S+0100+p.1A, R98. -/
abbrev Reg.protect_frames (p : Nat) : Nat := 0x1001A + 256 * p
/-- confidentiality_offset of S+0100+p.1B, R98. -/
abbrev Reg.confidentiality_offset (p : Nat) : Nat := 0x1001B + 256 * p
/-- tx_active_sa of S+0100+p.1C, R98. -/
abbrev Reg.tx_active_sa (p : Nat) : Nat := 0x1001C + 256 * p
/-- sc_sci of S+0100+p.20+4c, R127. -/
abbrev Reg.sc_sci (p : Nat) (c : Nat) : Nat := 0x10020 + 256 * p + 4 * c
/-- sc_cipher of S+0100+p.21+4c, R127. -/
abbrev Reg.sc_cipher (p : Nat) (c : Nat) : Nat := 0x10021 + 256 * p + 4 * c
/-- sc_flags of S+0100+p.22+4c, R127. -/
abbrev Reg.sc_flags (p : Nat) (c : Nat) : Nat := 0x10022 + 256 * p + 4 * c
/-- sc_replay_window of S+0100+p.23+4c, R127. -/
abbrev Reg.sc_replay_window (p : Nat) (c : Nat) : Nat := 0x10023 + 256 * p + 4 * c
/-- sa_enable of S+0100+p.40+16a+0x0, R128. -/
abbrev Reg.sa_enable (p : Nat) (a : Nat) : Nat := 0x10040 + 256 * p + 16 * a
/-- sa_an of S+0100+p.40+16a+0x1, R128. -/
abbrev Reg.sa_an (p : Nat) (a : Nat) : Nat := 0x10041 + 256 * p + 16 * a
/-- sa_next_pn of S+0100+p.40+16a+0x2, R128. -/
abbrev Reg.sa_next_pn (p : Nat) (a : Nat) : Nat := 0x10042 + 256 * p + 16 * a
/-- sa_key of S+0100+p.40+16a+0x3, R128. -/
abbrev Reg.sa_key (p : Nat) (a : Nat) : Nat := 0x10043 + 256 * p + 16 * a
/-- sa_salt of S+0100+p.40+16a+0x7, R128. -/
abbrev Reg.sa_salt (p : Nat) (a : Nat) : Nat := 0x10047 + 256 * p + 16 * a
/-- sa_ssci of S+0100+p.40+16a+0x9, R128. -/
abbrev Reg.sa_ssci (p : Nat) (a : Nat) : Nat := 0x10049 + 256 * p + 16 * a
/-- link_state of S+0140+p.01, R105. -/
abbrev Reg.link_state (p : Nat) : Nat := 0x14001 + 256 * p
/-- speed_mbps of S+0140+p.02, R105. -/
abbrev Reg.speed_mbps (p : Nat) : Nat := 0x14002 + 256 * p
/-- pause_state of S+0140+p.03, R105. -/
abbrev Reg.pause_state (p : Nat) : Nat := 0x14003 + 256 * p
/-- holdoff_state of S+0140+p.04, R105. -/
abbrev Reg.holdoff_state (p : Nat) : Nat := 0x14004 + 256 * p
/-- macsec_expansion of S+0140+p.05, R105. -/
abbrev Reg.macsec_expansion (p : Nat) : Nat := 0x14005 + 256 * p
/-- fec_allowance of S+0140+p.06, R105. -/
abbrev Reg.fec_allowance (p : Nat) : Nat := 0x14006 + 256 * p
/-- start_alignment of S+0140+p.07, R105. -/
abbrev Reg.start_alignment (p : Nat) : Nat := 0x14007 + 256 * p
/-- an_partner of S+0140+p.08, R105. -/
abbrev Reg.an_partner (p : Nat) : Nat := 0x14008 + 256 * p
/-- last_link_down of S+0140+p.09, R105. -/
abbrev Reg.last_link_down (p : Nat) : Nat := 0x14009 + 256 * p
/-- link_changes of S+0140+p.0A, R105. -/
abbrev Reg.link_changes (p : Nat) : Nat := 0x1400A + 256 * p
/-- sa_state of S+0140+p.0B, R105. -/
abbrev Reg.sa_state (p : Nat) : Nat := 0x1400B + 256 * p
/-- rx_frames of S+0180+p.01, R138. -/
abbrev Reg.rx_frames (p : Nat) : Nat := 0x18001 + 256 * p
/-- rx_octets of S+0180+p.02, R138. -/
abbrev Reg.rx_octets (p : Nat) : Nat := 0x18002 + 256 * p
/-- rx_unicast of S+0180+p.03, R138. -/
abbrev Reg.rx_unicast (p : Nat) : Nat := 0x18003 + 256 * p
/-- rx_multicast of S+0180+p.04, R138. -/
abbrev Reg.rx_multicast (p : Nat) : Nat := 0x18004 + 256 * p
/-- rx_broadcast of S+0180+p.05, R138. -/
abbrev Reg.rx_broadcast (p : Nat) : Nat := 0x18005 + 256 * p
/-- rx_fcs_errors of S+0180+p.06, R138. -/
abbrev Reg.rx_fcs_errors (p : Nat) : Nat := 0x18006 + 256 * p
/-- rx_align_code_errors of S+0180+p.07, R138. -/
abbrev Reg.rx_align_code_errors (p : Nat) : Nat := 0x18007 + 256 * p
/-- rx_runts of S+0180+p.08, R138. -/
abbrev Reg.rx_runts (p : Nat) : Nat := 0x18008 + 256 * p
/-- rx_oversize of S+0180+p.09, R138. -/
abbrev Reg.rx_oversize (p : Nat) : Nat := 0x18009 + 256 * p
/-- rx_length_errors of S+0180+p.0A, R138. -/
abbrev Reg.rx_length_errors (p : Nat) : Nat := 0x1800A + 256 * p
/-- rx_drop_errored of S+0180+p.0B, R138. -/
abbrev Reg.rx_drop_errored (p : Nat) : Nat := 0x1800B + 256 * p
/-- rx_errored_delivered of S+0180+p.0C, R138. -/
abbrev Reg.rx_errored_delivered (p : Nat) : Nat := 0x1800C + 256 * p
/-- rx_drop_overflow of S+0180+p.0D, R138. -/
abbrev Reg.rx_drop_overflow (p : Nat) : Nat := 0x1800D + 256 * p
/-- rx_drop_lowpower of S+0180+p.0E, R138. -/
abbrev Reg.rx_drop_lowpower (p : Nat) : Nat := 0x1800E + 256 * p
/-- rx_drop_macsec of S+0180+p.0F, R138. -/
abbrev Reg.rx_drop_macsec (p : Nat) : Nat := 0x1800F + 256 * p
/-- rx_macsec_not_valid of S+0180+p.10, R138. -/
abbrev Reg.rx_macsec_not_valid (p : Nat) : Nat := 0x18010 + 256 * p
/-- rx_macsec_late of S+0180+p.11, R138. -/
abbrev Reg.rx_macsec_late (p : Nat) : Nat := 0x18011 + 256 * p
/-- rx_control_frames of S+0180+p.12, R138. -/
abbrev Reg.rx_control_frames (p : Nat) : Nat := 0x18012 + 256 * p
/-- rx_control_bad of S+0180+p.13, R138. -/
abbrev Reg.rx_control_bad (p : Nat) : Nat := 0x18013 + 256 * p
/-- rx_pause_frames of S+0180+p.14, R138. -/
abbrev Reg.rx_pause_frames (p : Nat) : Nat := 0x18014 + 256 * p
/-- rx_pfc_frames of S+0180+p.15, R138. -/
abbrev Reg.rx_pfc_frames (p : Nat) : Nat := 0x18015 + 256 * p
/-- pause_watchdog_trips of S+0180+p.16, R138. -/
abbrev Reg.pause_watchdog_trips (p : Nat) : Nat := 0x18016 + 256 * p
/-- tx_frames of S+0180+p.17, R138. -/
abbrev Reg.tx_frames (p : Nat) : Nat := 0x18017 + 256 * p
/-- tx_octets of S+0180+p.18, R138. -/
abbrev Reg.tx_octets (p : Nat) : Nat := 0x18018 + 256 * p
/-- tx_pause_frames of S+0180+p.19, R138. -/
abbrev Reg.tx_pause_frames (p : Nat) : Nat := 0x18019 + 256 * p
/-- tx_pfc_frames of S+0180+p.1A, R138. -/
abbrev Reg.tx_pfc_frames (p : Nat) : Nat := 0x1801A + 256 * p
/-- tx_drop_oversize of S+0180+p.1B, R138. -/
abbrev Reg.tx_drop_oversize (p : Nat) : Nat := 0x1801B + 256 * p
/-- tx_drop_link_down of S+0180+p.1C, R138. -/
abbrev Reg.tx_drop_link_down (p : Nat) : Nat := 0x1801C + 256 * p
/-- tx_drop_macsec of S+0180+p.1D, R138. -/
abbrev Reg.tx_drop_macsec (p : Nat) : Nat := 0x1801D + 256 * p
/-- tx_stomped of S+0180+p.1E, R138. -/
abbrev Reg.tx_stomped (p : Nat) : Nat := 0x1801E + 256 * p
/-- fec_corrected of S+0180+p.1F, R138. -/
abbrev Reg.fec_corrected (p : Nat) : Nat := 0x1801F + 256 * p
/-- fec_uncorrected of S+0180+p.20, R138. -/
abbrev Reg.fec_uncorrected (p : Nat) : Nat := 0x18020 + 256 * p
/-- wake_matches of S+0180+p.21, R138. -/
abbrev Reg.wake_matches (p : Nat) : Nat := 0x18021 + 256 * p
/-- rx_ifg_short of S+0180+p.22, R138. -/
abbrev Reg.rx_ifg_short (p : Nat) : Nat := 0x18022 + 256 * p
/-- den_hold of S+01C0+p.01, R133. -/
abbrev Reg.den_hold (p : Nat) : Nat := 0x1C001 + 256 * p
/-- den_rate of S+01C0+p.02, R133. -/
abbrev Reg.den_rate (p : Nat) : Nat := 0x1C002 + 256 * p
/-- wake_on_link of S+01C0+p.03, R133. -/
abbrev Reg.wake_on_link (p : Nat) : Nat := 0x1C003 + 256 * p
/-- pattern_enable of S+01C0+p.04, R133. -/
abbrev Reg.pattern_enable (p : Nat) : Nat := 0x1C004 + 256 * p
/-- pattern_offset of S+01C0+p.10+8k, R133. -/
abbrev Reg.pattern_offset (p : Nat) (k : Nat) : Nat := 0x1C010 + 256 * p + 8 * k
/-- pattern_mask of S+01C0+p.11+8k, R133. -/
abbrev Reg.pattern_mask (p : Nat) (k : Nat) : Nat := 0x1C011 + 256 * p + 8 * k
/-- pattern_value of S+01C0+p.12+8k, R133. -/
abbrev Reg.pattern_value (p : Nat) (k : Nat) : Nat := 0x1C012 + 256 * p + 8 * k
/-- wake_status of S+01C0+p.30, R133. -/
abbrev Reg.wake_status (p : Nat) : Nat := 0x1C030 + 256 * p
/-- last_wake of S+01C0+p.31, R133. -/
abbrev Reg.last_wake (p : Nat) : Nat := 0x1C031 + 256 * p
/-- tpid_extra_0 of S+0200.01 / .11, R165. -/
abbrev Reg.tpid_extra_0 (e : Nat) : Nat := 0x20001 + 16 * e
/-- tpid_extra_1 of S+0200.02 / .12, R165. -/
abbrev Reg.tpid_extra_1 (e : Nat) : Nat := 0x20002 + 16 * e
/-- rtag_ethertype of S+0200.03 / .13, R165. -/
abbrev Reg.rtag_ethertype (e : Nat) : Nat := 0x20003 + 16 * e
/-- hash_seed of S+0200.04 / .14, R165. -/
abbrev Reg.hash_seed (e : Nat) : Nat := 0x20004 + 16 * e
/-- shape_copy of S+0200.20, R165. -/
abbrev Reg.shape_copy : Nat := 0x20020
/-- parse_frames of S+0201.01, R168. -/
abbrev Reg.parse_frames : Nat := 0x20101
/-- parse_second_pass of S+0201.02, R168. -/
abbrev Reg.parse_second_pass : Nat := 0x20102
/-- parse_overdeep of S+0201.03, R168. -/
abbrev Reg.parse_overdeep : Nat := 0x20103
/-- parse_fragments of S+0201.04, R168. -/
abbrev Reg.parse_fragments : Nat := 0x20104
/-- parse_length_conflicts of S+0201.05, R168. -/
abbrev Reg.parse_length_conflicts : Nat := 0x20105
/-- parse_late_length of S+0201.06, R168. -/
abbrev Reg.parse_late_length : Nat := 0x20106
/-- parse_l3_malformed of S+0201.07, R168. -/
abbrev Reg.parse_l3_malformed : Nat := 0x20107
/-- parse_window_short of S+0201.08, R168. -/
abbrev Reg.parse_window_short : Nat := 0x20108
/-- parse_unmatched of S+0201.09, R168. -/
abbrev Reg.parse_unmatched : Nat := 0x20109
/-- parse_tyist of S+0201.0A, R168. -/
abbrev Reg.parse_tyist : Nat := 0x2010A
/-- parse_learning of S+0201.0B, R168. -/
abbrev Reg.parse_learning : Nat := 0x2010B
/-- parse_drop_ecc of S+0201.0C, R168. -/
abbrev Reg.parse_drop_ecc : Nat := 0x2010C
/-- parse_ecc_corrected of S+0201.0D, R168. -/
abbrev Reg.parse_ecc_corrected : Nat := 0x2010D
/-- scrub_interval_us of S+0300.01, R207. -/
abbrev Reg.scrub_interval_us : Nat := 0x30001
/-- profile_copy of S+0300.02, R207. -/
abbrev Reg.profile_copy : Nat := 0x30002
/-- search_lookups of S+0301.01, R209. -/
abbrev Reg.search_lookups : Nat := 0x30101
/-- search_hits of S+0301.02, R209. -/
abbrev Reg.search_hits : Nat := 0x30102
/-- search_misses of S+0301.03, R209. -/
abbrev Reg.search_misses : Nat := 0x30103
/-- search_multiple of S+0301.04, R209. -/
abbrev Reg.search_multiple : Nat := 0x30104
/-- search_drop_fenced of S+0301.05, R209. -/
abbrev Reg.search_drop_fenced : Nat := 0x30105
/-- search_drop_ecc of S+0301.06, R209. -/
abbrev Reg.search_drop_ecc : Nat := 0x30106
/-- search_corrected of S+0301.07, R209. -/
abbrev Reg.search_corrected : Nat := 0x30107
/-- search_unusable of S+0301.08, R209. -/
abbrev Reg.search_unusable : Nat := 0x30108
/-- lpm_searches of S+0301.09, R209. -/
abbrev Reg.lpm_searches : Nat := 0x30109
/-- lpm_segments_powered of S+0301.0A, R209. -/
abbrev Reg.lpm_segments_powered : Nat := 0x3010A
/-- lpm_segments_occupied of S+0301.0B, R209. -/
abbrev Reg.lpm_segments_occupied : Nat := 0x3010B
/-- badger_commands of S+0301.0C, R209. -/
abbrev Reg.badger_commands : Nat := 0x3010C
/-- badger_moves of S+0301.0D, R209. -/
abbrev Reg.badger_moves : Nat := 0x3010D
/-- badger_failures of S+0301.0E, R209. -/
abbrev Reg.badger_failures : Nat := 0x3010E
/-- probe_searches of S+0301.0F, R209. -/
abbrev Reg.probe_searches : Nat := 0x3010F
/-- badger_first of S+0302.01, R194. -/
abbrev Reg.badger_first : Nat := 0x30201
/-- badger_last of S+0302.02, R194. -/
abbrev Reg.badger_last : Nat := 0x30202
/-- badger_dir of S+0302.03, R194. -/
abbrev Reg.badger_dir : Nat := 0x30203
/-- badger_notify of S+0302.04, R194. -/
abbrev Reg.badger_notify : Nat := 0x30204
/-- badger_epoch_target of S+0302.05, R194. -/
abbrev Reg.badger_epoch_target : Nat := 0x30205
/-- badger_stage of S+0302.06, R194. -/
abbrev Reg.badger_stage : Nat := 0x30206
/-- badger_go of S+0302.20, R194. -/
abbrev Reg.badger_go : Nat := 0x30220
/-- badger_seq_issued of S+0303.01, R194. -/
abbrev Reg.badger_seq_issued : Nat := 0x30301
/-- badger_seq_done of S+0303.02, R194. -/
abbrev Reg.badger_seq_done : Nat := 0x30302
/-- badger_last_error of S+0303.03, R194. -/
abbrev Reg.badger_last_error : Nat := 0x30303
/-- probe_profile of S+0308+c.01, R201. -/
abbrev Reg.probe_profile (c : Nat) : Nat := 0x30801 + 256 * c
/-- probe_search of S+0308+c.02, R201. -/
abbrev Reg.probe_search (c : Nat) : Nat := 0x30802 + 256 * c
/-- probe_epoch of S+0308+c.03, R201. -/
abbrev Reg.probe_epoch (c : Nat) : Nat := 0x30803 + 256 * c
/-- probe_key of S+0308+c.04, R201. -/
abbrev Reg.probe_key (c : Nat) : Nat := 0x30804 + 256 * c
/-- probe_cmd of S+0308+c.0E, R201. -/
abbrev Reg.probe_cmd (c : Nat) : Nat := 0x3080E + 256 * c
/-- probe_result of S+0308+c.0F, R201. -/
abbrev Reg.probe_result (c : Nat) : Nat := 0x3080F + 256 * c
/-- probe_entry of S+0308+c.10, R201. -/
abbrev Reg.probe_entry (c : Nat) : Nat := 0x30810 + 256 * c
/-- bank_mode of S+0320+b.01, R174. -/
abbrev Reg.bank_mode (b : Nat) : Nat := 0x32001 + 256 * b
/-- bank_width of S+0320+b.02, R174. -/
abbrev Reg.bank_width (b : Nat) : Nat := 0x32002 + 256 * b
/-- run_start of S+0320+b.03, R174. -/
abbrev Reg.run_start (b : Nat) : Nat := 0x32003 + 256 * b
/-- bank_entries of S+0320+b.04, R174. -/
abbrev Reg.bank_entries (b : Nat) : Nat := 0x32004 + 256 * b
/-- bank_valid_amber of S+0320+b.05, R174. -/
abbrev Reg.bank_valid_amber (b : Nat) : Nat := 0x32005 + 256 * b
/-- bank_valid_jade of S+0320+b.06, R174. -/
abbrev Reg.bank_valid_jade (b : Nat) : Nat := 0x32006 + 256 * b
/-- bank_state of S+0320+b.07, R174. -/
abbrev Reg.bank_state (b : Nat) : Nat := 0x32007 + 256 * b
/-- engine_id of S+0400.01, R244. -/
abbrev Reg.engine_id : Nat := 0x40001
/-- ageing_time_s of S+0400.02, R244. -/
abbrev Reg.ageing_time_s : Nat := 0x40002
/-- station_seed_0 of S+0400.03, R244. -/
abbrev Reg.station_seed_0 : Nat := 0x40003
/-- station_seed_1 of S+0400.04, R244. -/
abbrev Reg.station_seed_1 : Nat := 0x40004
/-- learn_domain of S+0400.05, R244. -/
abbrev Reg.learn_domain : Nat := 0x40005
/-- flap_threshold of S+0400.06, R244. -/
abbrev Reg.flap_threshold : Nat := 0x40006
/-- flap_window_ms of S+0400.07, R244. -/
abbrev Reg.flap_window_ms : Nat := 0x40007
/-- flap_hold_s of S+0400.08, R244. -/
abbrev Reg.flap_hold_s : Nat := 0x40008
/-- flap_action of S+0400.09, R244. -/
abbrev Reg.flap_action : Nat := 0x40009
/-- learn_msg_dest of S+0400.0A, R244. -/
abbrev Reg.learn_msg_dest : Nat := 0x4000A
/-- learn_msg_vid of S+0400.0B, R244. -/
abbrev Reg.learn_msg_vid : Nat := 0x4000B
/-- learn_msg_interval_us of S+0400.0C, R244. -/
abbrev Reg.learn_msg_interval_us : Nat := 0x4000C
/-- learn_msg_batch_us of S+0400.0D, R244. -/
abbrev Reg.learn_msg_batch_us : Nat := 0x4000D
/-- announce of S+0400.0E, R244. -/
abbrev Reg.announce : Nat := 0x4000E
/-- station_used of S+0400.0F, R244. -/
abbrev Reg.station_used : Nat := 0x4000F
/-- stash_used of S+0400.10, R244. -/
abbrev Reg.stash_used : Nat := 0x40010
/-- vid_map_copy of S+0400.11, R244. -/
abbrev Reg.vid_map_copy : Nat := 0x40011
/-- station_dst_lookups of S+0401.01, R246. -/
abbrev Reg.station_dst_lookups : Nat := 0x40101
/-- station_dst_hits of S+0401.02, R246. -/
abbrev Reg.station_dst_hits : Nat := 0x40102
/-- station_dst_miss_flood of S+0401.03, R246. -/
abbrev Reg.station_dst_miss_flood : Nat := 0x40103
/-- station_drop_vid of S+0401.04, R246. -/
abbrev Reg.station_drop_vid : Nat := 0x40104
/-- station_drop_discard of S+0401.05, R246. -/
abbrev Reg.station_drop_discard : Nat := 0x40105
/-- station_drop_flap of S+0401.06, R246. -/
abbrev Reg.station_drop_flap : Nat := 0x40106
/-- station_drop_ecc of S+0401.07, R246. -/
abbrev Reg.station_drop_ecc : Nat := 0x40107
/-- learn_requests of S+0401.08, R246. -/
abbrev Reg.learn_requests : Nat := 0x40108
/-- learn_inserted of S+0401.09, R246. -/
abbrev Reg.learn_inserted : Nat := 0x40109
/-- learn_refreshed of S+0401.0A, R246. -/
abbrev Reg.learn_refreshed : Nat := 0x4010A
/-- learn_moves of S+0401.0B, R246. -/
abbrev Reg.learn_moves : Nat := 0x4010B
/-- learn_merged of S+0401.0C, R246. -/
abbrev Reg.learn_merged : Nat := 0x4010C
/-- learn_queue_drops of S+0401.0D, R246. -/
abbrev Reg.learn_queue_drops : Nat := 0x4010D
/-- learn_fail of S+0401.0E, R246. -/
abbrev Reg.learn_fail : Nat := 0x4010E
/-- learn_limit_refused of S+0401.0F, R246. -/
abbrev Reg.learn_limit_refused : Nat := 0x4010F
/-- learn_locked_suppressed of S+0401.10, R246. -/
abbrev Reg.learn_locked_suppressed : Nat := 0x40110
/-- learn_static_blocked of S+0401.11, R246. -/
abbrev Reg.learn_static_blocked : Nat := 0x40111
/-- learn_bad_sa of S+0401.12, R246. -/
abbrev Reg.learn_bad_sa : Nat := 0x40112
/-- learn_superseded of S+0401.13, R246. -/
abbrev Reg.learn_superseded : Nat := 0x40113
/-- flap_locks of S+0401.14, R246. -/
abbrev Reg.flap_locks : Nat := 0x40114
/-- aged_out of S+0401.15, R246. -/
abbrev Reg.aged_out : Nat := 0x40115
/-- flushed of S+0401.16, R246. -/
abbrev Reg.flushed : Nat := 0x40116
/-- stash_moves of S+0401.17, R246. -/
abbrev Reg.stash_moves : Nat := 0x40117
/-- rehash_queue_overflow of S+0401.18, R246. -/
abbrev Reg.rehash_queue_overflow : Nat := 0x40118
/-- station_corrected of S+0401.19, R246. -/
abbrev Reg.station_corrected : Nat := 0x40119
/-- station_unusable of S+0401.1A, R246. -/
abbrev Reg.station_unusable : Nat := 0x4011A
/-- msg_rx of S+0401.1B, R246. -/
abbrev Reg.msg_rx : Nat := 0x4011B
/-- msg_rx_malformed of S+0401.1C, R246. -/
abbrev Reg.msg_rx_malformed : Nat := 0x4011C
/-- msg_rx_own of S+0401.1D, R246. -/
abbrev Reg.msg_rx_own : Nat := 0x4011D
/-- rec_superseded of S+0401.1E, R246. -/
abbrev Reg.rec_superseded : Nat := 0x4011E
/-- msg_tx of S+0401.1F, R246. -/
abbrev Reg.msg_tx : Nat := 0x4011F
/-- msg_tx_overflow of S+0401.20, R246. -/
abbrev Reg.msg_tx_overflow : Nat := 0x40120
/-- station_cmd of S+0402.01, R242. -/
abbrev Reg.station_cmd : Nat := 0x40201
/-- station_stage of S+0402.02, R242. -/
abbrev Reg.station_stage : Nat := 0x40202
/-- station_cmd_slot of S+0402.05, R242. -/
abbrev Reg.station_cmd_slot : Nat := 0x40205
/-- flush_filter of S+0402.06, R242. -/
abbrev Reg.flush_filter : Nat := 0x40206
/-- station_cmd_result of S+0402.07, R242. -/
abbrev Reg.station_cmd_result : Nat := 0x40207
/-- rehash_head of S+0404.01, R242. -/
abbrev Reg.rehash_head : Nat := 0x40401
/-- rehash_dest of S+0404.02, R242. -/
abbrev Reg.rehash_dest : Nat := 0x40402
/-- rehash_pop of S+0404.03, R242. -/
abbrev Reg.rehash_pop : Nat := 0x40403
/-- rehash_count of S+0404.04, R242. -/
abbrev Reg.rehash_count : Nat := 0x40404
/-- vid_source of S+0440+p.01, R245. -/
abbrev Reg.vid_source (p : Nat) : Nat := 0x44001 + 256 * p
/-- pvid of S+0440+p.02, R245. -/
abbrev Reg.pvid (p : Nat) : Nat := 0x44002 + 256 * p
/-- learn_enable of S+0440+p.03, R245. -/
abbrev Reg.learn_enable (p : Nat) : Nat := 0x44003 + 256 * p
/-- learn_limit of S+0440+p.04, R245. -/
abbrev Reg.learn_limit (p : Nat) : Nat := 0x44004 + 256 * p
/-- learn_group of S+0440+p.05, R245. -/
abbrev Reg.learn_group (p : Nat) : Nat := 0x44005 + 256 * p
/-- flush_on_down of S+0440+p.06, R245. -/
abbrev Reg.flush_on_down (p : Nat) : Nat := 0x44006 + 256 * p
/-- learn_msg_tx of S+0440+p.07, R245. -/
abbrev Reg.learn_msg_tx (p : Nat) : Nat := 0x44007 + 256 * p
/-- learned_count of S+0440+p.08, R245. -/
abbrev Reg.learned_count (p : Nat) : Nat := 0x44008 + 256 * p
/-- epoch_live of S+0500.01, R282. -/
abbrev Reg.epoch_live : Nat := 0x50001
/-- epoch_flip of S+0500.02, R282. -/
abbrev Reg.epoch_flip : Nat := 0x50002
/-- flip_time of S+0500.03, R282. -/
abbrev Reg.flip_time : Nat := 0x50003
/-- flip_notify of S+0500.04, R282. -/
abbrev Reg.flip_notify : Nat := 0x50004
/-- flip_duration_ns of S+0500.05, R282. -/
abbrev Reg.flip_duration_ns : Nat := 0x50005
/-- inflight_amber of S+0500.06, R282. -/
abbrev Reg.inflight_amber : Nat := 0x50006
/-- inflight_jade of S+0500.07, R282. -/
abbrev Reg.inflight_jade : Nat := 0x50007
/-- epoch_sync of S+0500.08, R282. -/
abbrev Reg.epoch_sync : Nat := 0x50008
/-- ttl_trap_vport of S+0500.09, R282. -/
abbrev Reg.ttl_trap_vport : Nat := 0x50009
/-- action_frames of S+0501.01, R283. -/
abbrev Reg.action_frames : Nat := 0x50101
/-- action_drop_invalid of S+0501.02, R283. -/
abbrev Reg.action_drop_invalid : Nat := 0x50102
/-- action_drop_explicit of S+0501.03, R283. -/
abbrev Reg.action_drop_explicit : Nat := 0x50103
/-- action_drop_same_port of S+0501.04, R283. -/
abbrev Reg.action_drop_same_port : Nat := 0x50104
/-- action_drop_group_down of S+0501.05, R283. -/
abbrev Reg.action_drop_group_down : Nat := 0x50105
/-- action_drop_empty_list of S+0501.06, R283. -/
abbrev Reg.action_drop_empty_list : Nat := 0x50106
/-- action_drop_recirc_limit of S+0501.07, R283. -/
abbrev Reg.action_drop_recirc_limit : Nat := 0x50107
/-- action_drop_recirc_full of S+0501.08, R283. -/
abbrev Reg.action_drop_recirc_full : Nat := 0x50108
/-- action_drop_ttl of S+0501.09, R283. -/
abbrev Reg.action_drop_ttl : Nat := 0x50109
/-- action_drop_ecc of S+0501.0A, R283. -/
abbrev Reg.action_drop_ecc : Nat := 0x5010A
/-- frer_eliminated of S+0501.0B, R283. -/
abbrev Reg.frer_eliminated : Nat := 0x5010B
/-- frer_rogue of S+0501.0C, R283. -/
abbrev Reg.frer_rogue : Nat := 0x5010C
/-- frer_tagless of S+0501.0D, R283. -/
abbrev Reg.frer_tagless : Nat := 0x5010D
/-- recirculations of S+0501.0E, R283. -/
abbrev Reg.recirculations : Nat := 0x5010E
/-- replica_copies of S+0501.0F, R283. -/
abbrev Reg.replica_copies : Nat := 0x5010F
/-- mirror_copies of S+0501.10, R283. -/
abbrev Reg.mirror_copies : Nat := 0x50110
/-- ttl_trapped of S+0501.11, R283. -/
abbrev Reg.ttl_trapped : Nat := 0x50111
/-- action_l3_skipped of S+0501.12, R283. -/
abbrev Reg.action_l3_skipped : Nat := 0x50112
/-- action_vid_untagged of S+0501.13, R283. -/
abbrev Reg.action_vid_untagged : Nat := 0x50113
/-- epoch_flips of S+0501.14, R283. -/
abbrev Reg.epoch_flips : Nat := 0x50114
/-- mgmt_reserve_cells of S+0600.01, R320. -/
abbrev Reg.mgmt_reserve_cells : Nat := 0x60001
/-- shared_cells of S+0600.02, R320. -/
abbrev Reg.shared_cells : Nat := 0x60002
/-- shared_used of S+0600.03, R320. -/
abbrev Reg.shared_used : Nat := 0x60003
/-- ct_hold_slots of S+0600.04, R320. -/
abbrev Reg.ct_hold_slots : Nat := 0x60004
/-- ct_backoff_us of S+0600.05, R320. -/
abbrev Reg.ct_backoff_us : Nat := 0x60005
/-- crossing_fifo_cells of S+0600.06, R320. -/
abbrev Reg.crossing_fifo_cells : Nat := 0x60006
/-- mgmt_rate_bps of S+0600.07, R320. -/
abbrev Reg.mgmt_rate_bps : Nat := 0x60007
/-- mgmt_burst_bytes of S+0600.08, R320. -/
abbrev Reg.mgmt_burst_bytes : Nat := 0x60008
/-- cells_free of S+0600.09, R320. -/
abbrev Reg.cells_free : Nat := 0x60009
/-- cells_queued of S+0600.0A, R320. -/
abbrev Reg.cells_queued : Nat := 0x6000A
/-- cells_in_fabric of S+0600.0B, R320. -/
abbrev Reg.cells_in_fabric : Nat := 0x6000B
/-- cells_held of S+0600.0C, R320. -/
abbrev Reg.cells_held : Nat := 0x6000C
/-- credits_at_groups of S+0600.0D, R320. -/
abbrev Reg.credits_at_groups : Nat := 0x6000D
/-- slices_fenced of S+0600.0E, R320. -/
abbrev Reg.slices_fenced : Nat := 0x6000E
/-- middles_degraded of S+0600.0F, R320. -/
abbrev Reg.middles_degraded : Nat := 0x6000F
/-- sc_admitted of S+0601.01, R322. -/
abbrev Reg.sc_admitted : Nat := 0x60101
/-- sc_drop_shared of S+0601.02, R322. -/
abbrev Reg.sc_drop_shared : Nat := 0x60102
/-- sc_drop_early of S+0601.03, R322. -/
abbrev Reg.sc_drop_early : Nat := 0x60103
/-- sc_drop_fenced of S+0601.04, R322. -/
abbrev Reg.sc_drop_fenced : Nat := 0x60104
/-- sc_drop_no_target of S+0601.05, R322. -/
abbrev Reg.sc_drop_no_target : Nat := 0x60105
/-- sc_drop_mgmt_policer of S+0601.06, R322. -/
abbrev Reg.sc_drop_mgmt_policer : Nat := 0x60106
/-- sc_drop_mgmt_full of S+0601.07, R322. -/
abbrev Reg.sc_drop_mgmt_full : Nat := 0x60107
/-- sc_drop_ct_errored of S+0601.08, R322. -/
abbrev Reg.sc_drop_ct_errored : Nat := 0x60108
/-- sc_drop_reseq of S+0601.09, R322. -/
abbrev Reg.sc_drop_reseq : Nat := 0x60109
/-- sc_drop_ecc of S+0601.0A, R322. -/
abbrev Reg.sc_drop_ecc : Nat := 0x6010A
/-- sc_drop_degraded of S+0601.0B, R322. -/
abbrev Reg.sc_drop_degraded : Nat := 0x6010B
/-- sc_drop_cross_rx of S+0601.0C, R322. -/
abbrev Reg.sc_drop_cross_rx : Nat := 0x6010C
/-- sc_ce_marked of S+0601.0D, R322. -/
abbrev Reg.sc_ce_marked : Nat := 0x6010D
/-- sc_cut_through of S+0601.0E, R322. -/
abbrev Reg.sc_cut_through : Nat := 0x6010E
/-- sc_ct_stomped of S+0601.0F, R322. -/
abbrev Reg.sc_ct_stomped : Nat := 0x6010F
/-- sc_ct_underruns of S+0601.10, R322. -/
abbrev Reg.sc_ct_underruns : Nat := 0x60110
/-- sc_xoff_requests of S+0601.11, R322. -/
abbrev Reg.sc_xoff_requests : Nat := 0x60111
/-- sc_fabric_cells of S+0601.12, R322. -/
abbrev Reg.sc_fabric_cells : Nat := 0x60112
/-- sc_buffer_corrected of S+0601.13, R322. -/
abbrev Reg.sc_buffer_corrected : Nat := 0x60113
/-- audit_passes of S+0601.14, R322. -/
abbrev Reg.audit_passes : Nat := 0x60114
/-- ct_enable of S+0640+p.01, R321. -/
abbrev Reg.ct_enable (p : Nat) : Nat := 0x64001 + 256 * p
/-- xoff_cells of S+0640+p.02, R321. -/
abbrev Reg.xoff_cells (p : Nat) : Nat := 0x64002 + 256 * p
/-- xon_cells of S+0640+p.03, R321. -/
abbrev Reg.xon_cells (p : Nat) : Nat := 0x64003 + 256 * p
/-- headroom_cells of S+0640+p.04, R321. -/
abbrev Reg.headroom_cells (p : Nat) : Nat := 0x64004 + 256 * p
/-- ingress_cells of S+0640+p.05, R321. -/
abbrev Reg.ingress_cells (p : Nat) : Nat := 0x64005 + 256 * p
/-- min_cells of S+0640+p.10+4q, R321. -/
abbrev Reg.min_cells (p : Nat) (q : Nat) : Nat := 0x64010 + 256 * p + 4 * q
/-- alpha_exp of S+0640+p.11+4q, R321. -/
abbrev Reg.alpha_exp (p : Nat) (q : Nat) : Nat := 0x64011 + 256 * p + 4 * q
/-- ecn_mode of S+0640+p.12+4q, R321. -/
abbrev Reg.ecn_mode (p : Nat) (q : Nat) : Nat := 0x64012 + 256 * p + 4 * q
/-- ecn_cells of S+0640+p.13+4q, R321. -/
abbrev Reg.ecn_cells (p : Nat) (q : Nat) : Nat := 0x64013 + 256 * p + 4 * q
/-- queue_cells of S+0640+p.30+q, R321. -/
abbrev Reg.queue_cells (p : Nat) (q : Nat) : Nat := 0x64030 + 256 * p + q
/-- vp_queue_cells of S+0680+v.30+q, R321. -/
abbrev Reg.vp_queue_cells (v : Nat) (q : Nat) : Nat := 0x68030 + 256 * v + q
/-- granules_free of S+0700.01, R341. -/
abbrev Reg.granules_free : Nat := 0x70001
/-- reclaim_owner of S+0701.01, R341. -/
abbrev Reg.reclaim_owner : Nat := 0x70101
/-- reclaim of S+0701.02, R341. -/
abbrev Reg.reclaim : Nat := 0x70102
/-- pool_drop_deliver of S+0702.01, R341. -/
abbrev Reg.pool_drop_deliver : Nat := 0x70201
/-- bad_handle of S+0702.02, R341. -/
abbrev Reg.bad_handle : Nat := 0x70202
/-- wrong_owner of S+0702.03, R341. -/
abbrev Reg.wrong_owner : Nat := 0x70203
/-- free_after_reclaim of S+0702.04, R341. -/
abbrev Reg.free_after_reclaim : Nat := 0x70204
/-- pool_ecc_corrected of S+0702.05, R341. -/
abbrev Reg.pool_ecc_corrected : Nat := 0x70205
/-- pool_location of S+0710+p.01, R339. -/
abbrev Reg.pool_location (p : Nat) : Nat := 0x71001 + 256 * p
/-- pool_base of S+0710+p.02, R339. -/
abbrev Reg.pool_base (p : Nat) : Nat := 0x71002 + 256 * p
/-- buffer_size of S+0710+p.03, R339. -/
abbrev Reg.buffer_size (p : Nat) : Nat := 0x71003 + 256 * p
/-- buffer_count of S+0710+p.04, R339. -/
abbrev Reg.buffer_count (p : Nat) : Nat := 0x71004 + 256 * p
/-- successor of S+0710+p.05, R339. -/
abbrev Reg.successor (p : Nat) : Nat := 0x71005 + 256 * p
/-- pool_enable of S+0710+p.06, R339. -/
abbrev Reg.pool_enable (p : Nat) : Nat := 0x71006 + 256 * p
/-- low_watermark of S+0710+p.07, R339. -/
abbrev Reg.low_watermark (p : Nat) : Nat := 0x71007 + 256 * p
/-- pool_granules of S+0710+p.08, R339. -/
abbrev Reg.pool_granules (p : Nat) : Nat := 0x71008 + 256 * p
/-- pool_free of S+0710+p.09, R339. -/
abbrev Reg.pool_free (p : Nat) : Nat := 0x71009 + 256 * p
/-- pool_allocated of S+0710+p.0A, R339. -/
abbrev Reg.pool_allocated (p : Nat) : Nat := 0x7100A + 256 * p
/-- pool_allocs of S+0710+p.10, R339. -/
abbrev Reg.pool_allocs (p : Nat) : Nat := 0x71010 + 256 * p
/-- pool_frees of S+0710+p.11, R339. -/
abbrev Reg.pool_frees (p : Nat) : Nat := 0x71011 + 256 * p
/-- pool_fallback_out of S+0710+p.12, R339. -/
abbrev Reg.pool_fallback_out (p : Nat) : Nat := 0x71012 + 256 * p
/-- pool_alloc_fail of S+0710+p.13, R339. -/
abbrev Reg.pool_alloc_fail (p : Nat) : Nat := 0x71013 + 256 * p
/-- pool_double_free of S+0710+p.14, R339. -/
abbrev Reg.pool_double_free (p : Nat) : Nat := 0x71014 + 256 * p
/-- pool_quarantined of S+0710+p.15, R339. -/
abbrev Reg.pool_quarantined (p : Nat) : Nat := 0x71015 + 256 * p
/-- pool_allow of S+0740+o.01, R340. -/
abbrev Reg.pool_allow (o : Nat) : Nat := 0x74001 + 256 * o
/-- held_buffers of S+0740+o.02, R340. -/
abbrev Reg.held_buffers (o : Nat) : Nat := 0x74002 + 256 * o
/-- admin_strict_count of S+0800+p.01, R378. -/
abbrev Reg.admin_strict_count (p : Nat) : Nat := 0x80001 + 256 * p
/-- admin_gate_enable of S+0800+p.02, R378. -/
abbrev Reg.admin_gate_enable (p : Nat) : Nat := 0x80002 + 256 * p
/-- admin_base_time of S+0800+p.03, R378. -/
abbrev Reg.admin_base_time (p : Nat) : Nat := 0x80003 + 256 * p
/-- admin_cycle_time of S+0800+p.04, R378. -/
abbrev Reg.admin_cycle_time (p : Nat) : Nat := 0x80004 + 256 * p
/-- admin_list_length of S+0800+p.05, R378. -/
abbrev Reg.admin_list_length (p : Nat) : Nat := 0x80005 + 256 * p
/-- config_change of S+0800+p.06, R378. -/
abbrev Reg.config_change (p : Nat) : Nat := 0x80006 + 256 * p
/-- config_change_time of S+0800+p.07, R378. -/
abbrev Reg.config_change_time (p : Nat) : Nat := 0x80007 + 256 * p
/-- oper_strict_count of S+0800+p.08, R378. -/
abbrev Reg.oper_strict_count (p : Nat) : Nat := 0x80008 + 256 * p
/-- oper_gate_enable of S+0800+p.09, R378. -/
abbrev Reg.oper_gate_enable (p : Nat) : Nat := 0x80009 + 256 * p
/-- oper_base_time of S+0800+p.0A, R378. -/
abbrev Reg.oper_base_time (p : Nat) : Nat := 0x8000A + 256 * p
/-- oper_cycle_time of S+0800+p.0B, R378. -/
abbrev Reg.oper_cycle_time (p : Nat) : Nat := 0x8000B + 256 * p
/-- oper_list_length of S+0800+p.0C, R378. -/
abbrev Reg.oper_list_length (p : Nat) : Nat := 0x8000C + 256 * p
/-- gate_states of S+0800+p.0D, R378. -/
abbrev Reg.gate_states (p : Nat) : Nat := 0x8000D + 256 * p
/-- oper_entry of S+0800+p.0E, R378. -/
abbrev Reg.oper_entry (p : Nat) : Nat := 0x8000E + 256 * p
/-- admin_quantum of S+0800+p.10+q, R378. -/
abbrev Reg.admin_quantum (p : Nat) (q : Nat) : Nat := 0x80010 + 256 * p + q
/-- admin_idle_slope of S+0800+p.18+q, R378. -/
abbrev Reg.admin_idle_slope (p : Nat) (q : Nat) : Nat := 0x80018 + 256 * p + q
/-- oper_quantum of S+0800+p.20+q, R378. -/
abbrev Reg.oper_quantum (p : Nat) (q : Nat) : Nat := 0x80020 + 256 * p + q
/-- oper_idle_slope of S+0800+p.28+q, R378. -/
abbrev Reg.oper_idle_slope (p : Nat) (q : Nat) : Nat := 0x80028 + 256 * p + q
/-- cbs_credit of S+0800+p.30+q, R378. -/
abbrev Reg.cbs_credit (p : Nat) (q : Nat) : Nat := 0x80030 + 256 * p + q
/-- longest_open of S+0800+p.38+q, R378. -/
abbrev Reg.longest_open (p : Nat) (q : Nat) : Nat := 0x80038 + 256 * p + q
/-- sched_drop_never_fits of S+0800+p.40, R378. -/
abbrev Reg.sched_drop_never_fits (p : Nat) : Nat := 0x80040 + 256 * p
/-- sched_gate_overruns of S+0800+p.41, R378. -/
abbrev Reg.sched_gate_overruns (p : Nat) : Nat := 0x80041 + 256 * p
/-- config_changes of S+0800+p.42, R378. -/
abbrev Reg.config_changes (p : Nat) : Nat := 0x80042 + 256 * p
/-- ts_tx_requests of S+0800+p.43, R378. -/
abbrev Reg.ts_tx_requests (p : Nat) : Nat := 0x80043 + 256 * p
/-- ts_tx_overflow of S+0800+p.44, R378. -/
abbrev Reg.ts_tx_overflow (p : Nat) : Nat := 0x80044 + 256 * p
/-- ts_rx_offset_ps of S+0800+p.45, R378. -/
abbrev Reg.ts_rx_offset_ps (p : Nat) : Nat := 0x80045 + 256 * p
/-- ts_tx_offset_ps of S+0800+p.46, R378. -/
abbrev Reg.ts_tx_offset_ps (p : Nat) : Nat := 0x80046 + 256 * p
/-- strict_count of S+0840+v.01, R379. -/
abbrev Reg.strict_count (v : Nat) : Nat := 0x84001 + 256 * v
/-- vport_rate of S+0840+v.02, R379. -/
abbrev Reg.vport_rate (v : Nat) : Nat := 0x84002 + 256 * v
/-- quantum of S+0840+v.10+q, R379. -/
abbrev Reg.quantum (v : Nat) (q : Nat) : Nat := 0x84010 + 256 * v + q
/-- idle_slope of S+0840+v.18+q, R379. -/
abbrev Reg.idle_slope (v : Nat) (q : Nat) : Nat := 0x84018 + 256 * v + q
/-- vp_cbs_credit of S+0840+v.30+q, R379. -/
abbrev Reg.vp_cbs_credit (v : Nat) (q : Nat) : Nat := 0x84030 + 256 * v + q
/-- time_source of S+0900.01, R380. -/
abbrev Reg.time_source : Nat := 0x90001
/-- slew_limit_ns of S+0900.02, R380. -/
abbrev Reg.slew_limit_ns : Nat := 0x90002
/-- slew_rate_ppm of S+0900.03, R380. -/
abbrev Reg.slew_rate_ppm : Nat := 0x90003
/-- side_time of S+0900.04, R380. -/
abbrev Reg.side_time : Nat := 0x90004
/-- local_time of S+0900.05, R380. -/
abbrev Reg.local_time : Nat := 0x90005
/-- snapshot of S+0900.06, R380. -/
abbrev Reg.snapshot : Nat := 0x90006
/-- snap_local of S+0900.07, R380. -/
abbrev Reg.snap_local : Nat := 0x90007
/-- snap_domain of S+0900.08, .0A, .0C, .0E, R380. -/
abbrev Reg.snap_domain (d : Nat) : Nat := 0x90008 + 2 * d
/-- pol_frames of S+0901.01, R383. -/
abbrev Reg.pol_frames : Nat := 0x90101
/-- pol_drop_invalid of S+0901.02, R383. -/
abbrev Reg.pol_drop_invalid : Nat := 0x90102
/-- pol_drop_blocked of S+0901.03, R383. -/
abbrev Reg.pol_drop_blocked : Nat := 0x90103
/-- pol_drop_sdu of S+0901.04, R383. -/
abbrev Reg.pol_drop_sdu : Nat := 0x90104
/-- pol_drop_gate of S+0901.05, R383. -/
abbrev Reg.pol_drop_gate : Nat := 0x90105
/-- pol_drop_red of S+0901.06, R383. -/
abbrev Reg.pol_drop_red : Nat := 0x90106
/-- pol_drop_yellow of S+0901.07, R383. -/
abbrev Reg.pol_drop_yellow : Nat := 0x90107
/-- pol_drop_ecc of S+0901.08, R383. -/
abbrev Reg.pol_drop_ecc : Nat := 0x90108
/-- pol_green of S+0901.09, R383. -/
abbrev Reg.pol_green : Nat := 0x90109
/-- pol_yellow of S+0901.0A, R383. -/
abbrev Reg.pol_yellow : Nat := 0x9010A
/-- side_time_steps of S+0901.0B, R383. -/
abbrev Reg.side_time_steps : Nat := 0x9010B
/-- pps_in_edges of S+0901.0C, R383. -/
abbrev Reg.pps_in_edges : Nat := 0x9010C
/-- pps_in_out_of_window of S+0901.0D, R383. -/
abbrev Reg.pps_in_out_of_window : Nat := 0x9010D
/-- pps_in_missing of S+0901.0E, R383. -/
abbrev Reg.pps_in_missing : Nat := 0x9010E
/-- pps_in_glitches of S+0901.0F, R383. -/
abbrev Reg.pps_in_glitches : Nat := 0x9010F
/-- pol_select of S+0902.01, R382. -/
abbrev Reg.pol_select : Nat := 0x90201
/-- pol_cmd of S+0902.02, R382. -/
abbrev Reg.pol_cmd : Nat := 0x90202
/-- domain_time of S+0904+d.01, R381. -/
abbrev Reg.domain_time (d : Nat) : Nat := 0x90401 + 256 * d
/-- domain_rate of S+0904+d.03, R381. -/
abbrev Reg.domain_rate (d : Nat) : Nat := 0x90403 + 256 * d
/-- domain_adjust of S+0904+d.04, R381. -/
abbrev Reg.domain_adjust (d : Nat) : Nat := 0x90404 + 256 * d
/-- domain_set of S+0904+d.05, R381. -/
abbrev Reg.domain_set (d : Nat) : Nat := 0x90405 + 256 * d
/-- domain_gm_present of S+0904+d.07, R381. -/
abbrev Reg.domain_gm_present (d : Nat) : Nat := 0x90407 + 256 * d
/-- slew_remaining of S+0904+d.08, R381. -/
abbrev Reg.slew_remaining (d : Nat) : Nat := 0x90408 + 256 * d
/-- pps_out_enable of S+0908.01, R382. -/
abbrev Reg.pps_out_enable : Nat := 0x90801
/-- pps_out_domain of S+0908.02, R382. -/
abbrev Reg.pps_out_domain : Nat := 0x90802
/-- pps_out_width_ns of S+0908.03, R382. -/
abbrev Reg.pps_out_width_ns : Nat := 0x90803
/-- pps_out_offset_ns of S+0908.04, R382. -/
abbrev Reg.pps_out_offset_ns : Nat := 0x90804
/-- pps_in_enable of S+0908.05, R382. -/
abbrev Reg.pps_in_enable : Nat := 0x90805
/-- pps_in_window_ns of S+0908.06, R382. -/
abbrev Reg.pps_in_window_ns : Nat := 0x90806
/-- pps_in_last_local of S+0908.07, R382. -/
abbrev Reg.pps_in_last_local : Nat := 0x90807
/-- pps_in_last_side of S+0908.08, R382. -/
abbrev Reg.pps_in_last_side : Nat := 0x90808
/-- core_reset_vector of S+0A00.01, R414. -/
abbrev Reg.core_reset_vector : Nat := 0xA0001
/-- lockstep_pairs of S+0A00.02, R414. -/
abbrev Reg.lockstep_pairs : Nat := 0xA0002
/-- core_run of S+0A00.03, R414. -/
abbrev Reg.core_run : Nat := 0xA0003
/-- core_status of S+0A08+c.01, R414. -/
abbrev Reg.core_status (c : Nat) : Nat := 0xA0801 + 256 * c
/-- divergence_pc of S+0A08+c.02, R414. -/
abbrev Reg.divergence_pc (c : Nat) : Nat := 0xA0802 + 256 * c
/-- divergences of S+0A08+c.03, R414. -/
abbrev Reg.divergences (c : Nat) : Nat := 0xA0803 + 256 * c
/-- refusal_record of S+0A08+c.04, R414. -/
abbrev Reg.refusal_record (c : Nat) : Nat := 0xA0804 + 256 * c
/-- cache_corrected of S+0A08+c.05, R414. -/
abbrev Reg.cache_corrected (c : Nat) : Nat := 0xA0805 + 256 * c
/-- cache_uncorrectable of S+0A08+c.06, R414. -/
abbrev Reg.cache_uncorrectable (c : Nat) : Nat := 0xA0806 + 256 * c
/-- ld_frames of S+0A10.01, R414. -/
abbrev Reg.ld_frames : Nat := 0xA1001
/-- ld_octets of S+0A10.02, R414. -/
abbrev Reg.ld_octets : Nat := 0xA1002
/-- ld_drop_too_long of S+0A10.03, R414. -/
abbrev Reg.ld_drop_too_long : Nat := 0xA1003
/-- ld_drop_write_error of S+0A10.04, R414. -/
abbrev Reg.ld_drop_write_error : Nat := 0xA1004
/-- msi_discarded of S+0A10.05, R414. -/
abbrev Reg.msi_discarded : Nat := 0xA1005
/-- l3_corrected of S+0A10.06, R414. -/
abbrev Reg.l3_corrected : Nat := 0xA1006
/-- l3_uncorrectable of S+0A10.07, R414. -/
abbrev Reg.l3_uncorrectable : Nat := 0xA1007
/-- spm_scrub_interval_ms of S+0B00.01, R415. -/
abbrev Reg.spm_scrub_interval_ms : Nat := 0xB0001
/-- spm_banks_fenced of S+0B00.02, R415. -/
abbrev Reg.spm_banks_fenced : Nat := 0xB0002
/-- spm_corrected of S+0B00.03, R415. -/
abbrev Reg.spm_corrected : Nat := 0xB0003
/-- spm_uncorrectable of S+0B00.04, R415. -/
abbrev Reg.spm_uncorrectable : Nat := 0xB0004
/-- spm_fenced_accesses of S+0B00.05, R415. -/
abbrev Reg.spm_fenced_accesses : Nat := 0xB0005
/-- spm_accesses of S+0B10+m.01, R415. -/
abbrev Reg.spm_accesses (m : Nat) : Nat := 0xB1001 + 256 * m
/-- spm_conflicts of S+0B10+m.02, R415. -/
abbrev Reg.spm_conflicts (m : Nat) : Nat := 0xB1002 + 256 * m
/-- dram_ranks of S+0C00.01, R445. -/
abbrev Reg.dram_ranks : Nat := 0xC0001
/-- dram_density of S+0C00.02, R445. -/
abbrev Reg.dram_density : Nat := 0xC0002
/-- dram_inline_ecc of S+0C00.03, R445. -/
abbrev Reg.dram_inline_ecc : Nat := 0xC0003
/-- dram_link_ecc of S+0C00.04, R445. -/
abbrev Reg.dram_link_ecc : Nat := 0xC0004
/-- dram_raw_bytes of S+0C00.05, R445. -/
abbrev Reg.dram_raw_bytes : Nat := 0xC0005
/-- dram_usable_bytes of S+0C00.06, R445. -/
abbrev Reg.dram_usable_bytes : Nat := 0xC0006
/-- dram_state of S+0C00.07, R445. -/
abbrev Reg.dram_state : Nat := 0xC0007
/-- dram_temp_threshold_c of S+0C00.08, R445. -/
abbrev Reg.dram_temp_threshold_c : Nat := 0xC0008
/-- dram_temp_hysteresis_c of S+0C00.09, R445. -/
abbrev Reg.dram_temp_hysteresis_c : Nat := 0xC0009
/-- dram_temp_offset_c of S+0C00.0A, R445. -/
abbrev Reg.dram_temp_offset_c : Nat := 0xC000A
/-- dram_mr4_poll_us of S+0C00.0B, R445. -/
abbrev Reg.dram_mr4_poll_us : Nat := 0xC000B
/-- dram_refresh_mode of S+0C00.0C, R445. -/
abbrev Reg.dram_refresh_mode : Nat := 0xC000C
/-- dram_age_limit_ns of S+0C00.0D, R445. -/
abbrev Reg.dram_age_limit_ns : Nat := 0xC000D
/-- dram_scrub_interval_s of S+0C00.0E, R445. -/
abbrev Reg.dram_scrub_interval_s : Nat := 0xC000E
/-- dram_critical_cores of S+0C00.0F, R445. -/
abbrev Reg.dram_critical_cores : Nat := 0xC000F
/-- dram_critical_vports of S+0C00.10, R445. -/
abbrev Reg.dram_critical_vports : Nat := 0xC0010
/-- dram_ranks_fenced of S+0C00.11, R445. -/
abbrev Reg.dram_ranks_fenced : Nat := 0xC0011
/-- dram_temp_c of S+0C00.12, R445. -/
abbrev Reg.dram_temp_c : Nat := 0xC0012
/-- refresh_multiplier of S+0C00.13, R445. -/
abbrev Reg.refresh_multiplier : Nat := 0xC0013
/-- dram_reads of S+0C01.01, R448. -/
abbrev Reg.dram_reads : Nat := 0xC0101
/-- dram_writes of S+0C01.02, R448. -/
abbrev Reg.dram_writes : Nat := 0xC0102
/-- dram_write_merges of S+0C01.03, R448. -/
abbrev Reg.dram_write_merges : Nat := 0xC0103
/-- dram_forwarded of S+0C01.04, R448. -/
abbrev Reg.dram_forwarded : Nat := 0xC0104
/-- dram_hazard_drains of S+0C01.05, R448. -/
abbrev Reg.dram_hazard_drains : Nat := 0xC0105
/-- dram_drain_batches of S+0C01.06, R448. -/
abbrev Reg.dram_drain_batches : Nat := 0xC0106
/-- dram_refreshes of S+0C01.07, R448. -/
abbrev Reg.dram_refreshes : Nat := 0xC0107
/-- dram_refresh_forced of S+0C01.08, R448. -/
abbrev Reg.dram_refresh_forced : Nat := 0xC0108
/-- dram_repay_batches of S+0C01.09, R448. -/
abbrev Reg.dram_repay_batches : Nat := 0xC0109
/-- dram_rfm_issued of S+0C01.0A, R448. -/
abbrev Reg.dram_rfm_issued : Nat := 0xC010A
/-- dram_ecc_corrected of S+0C01.0B, R448. -/
abbrev Reg.dram_ecc_corrected : Nat := 0xC010B
/-- dram_ecc_uncorrectable of S+0C01.0C, R448. -/
abbrev Reg.dram_ecc_uncorrectable : Nat := 0xC010C
/-- dram_poisoned_writes of S+0C01.0D, R448. -/
abbrev Reg.dram_poisoned_writes : Nat := 0xC010D
/-- dram_link_corrected of S+0C01.0E, R448. -/
abbrev Reg.dram_link_corrected : Nat := 0xC010E
/-- dram_link_uncorrectable of S+0C01.0F, R448. -/
abbrev Reg.dram_link_uncorrectable : Nat := 0xC010F
/-- dram_fenced_accesses of S+0C01.10, R448. -/
abbrev Reg.dram_fenced_accesses : Nat := 0xC0110
/-- dram_beyond_capacity of S+0C01.11, R448. -/
abbrev Reg.dram_beyond_capacity : Nat := 0xC0111
/-- fsp_changes of S+0C01.12, R448. -/
abbrev Reg.fsp_changes : Nat := 0xC0112
/-- fsp_deferrals of S+0C01.13, R448. -/
abbrev Reg.fsp_deferrals : Nat := 0xC0113
/-- dram_retrain_steps of S+0C01.14, R448. -/
abbrev Reg.dram_retrain_steps : Nat := 0xC0114
/-- fsp_rate_k of S+0C04.01 to .03, R446. -/
abbrev Reg.fsp_rate_k (k : Nat) : Nat := 0xC0401 + k
/-- fsp_boot of S+0C04.04, R446. -/
abbrev Reg.fsp_boot : Nat := 0xC0404
/-- dram_train of S+0C04.05, R446. -/
abbrev Reg.dram_train : Nat := 0xC0405
/-- dram_retrain_interval_ms of S+0C04.06, R446. -/
abbrev Reg.dram_retrain_interval_ms : Nat := 0xC0406
/-- dram_osc_run_ns of S+0C04.07, R446. -/
abbrev Reg.dram_osc_run_ns : Nat := 0xC0407
/-- fsp_request of S+0C04.08, R446. -/
abbrev Reg.fsp_request : Nat := 0xC0408
/-- fsp_active of S+0C04.09, R446. -/
abbrev Reg.fsp_active : Nat := 0xC0409
/-- fsp_trained of S+0C04.0A, R446. -/
abbrev Reg.fsp_trained : Nat := 0xC040A
/-- reg_bytes_per_us of S+0C08+n.01, R447. -/
abbrev Reg.reg_bytes_per_us (n : Nat) : Nat := 0xC0801 + 256 * n
/-- port_requests of S+0C08+n.02, R447. -/
abbrev Reg.port_requests (n : Nat) : Nat := 0xC0802 + 256 * n
/-- port_bytes of S+0C08+n.03, R447. -/
abbrev Reg.port_bytes (n : Nat) : Nat := 0xC0803 + 256 * n
/-- reg_demotions of S+0C08+n.04, R447. -/
abbrev Reg.reg_demotions (n : Nat) : Nat := 0xC0804 + 256 * n
/-- age_promotions of S+0C08+n.05, R447. -/
abbrev Reg.age_promotions (n : Nat) : Nat := 0xC0805 + 256 * n
/-- counter_snapshot of S+0D00.01, R506. -/
abbrev Reg.counter_snapshot : Nat := 0xD0001
/-- snapshot_seq of S+0D00.02, R506. -/
abbrev Reg.snapshot_seq : Nat := 0xD0002
/-- snapshot_time of S+0D00.03, R506. -/
abbrev Reg.snapshot_time : Nat := 0xD0003
/-- snapshot_entries of S+0D00.04, R506. -/
abbrev Reg.snapshot_entries : Nat := 0xD0004
/-- counters_clear of S+0D00.05, R506. -/
abbrev Reg.counters_clear : Nat := 0xD0005
/-- saturated_count of S+0D00.06, R506. -/
abbrev Reg.saturated_count : Nat := 0xD0006
/-- last_saturated of S+0D00.07, R506. -/
abbrev Reg.last_saturated : Nat := 0xD0007
/-- port_frames_received of S+0D01.01, R506. -/
abbrev Reg.port_frames_received : Nat := 0xD0101
/-- vport_frames_sent of S+0D01.02, R506. -/
abbrev Reg.vport_frames_sent : Nat := 0xD0102
/-- copies_created of S+0D01.03, R506. -/
abbrev Reg.copies_created : Nat := 0xD0103
/-- port_frames_transmitted of S+0D01.04, R506. -/
abbrev Reg.port_frames_transmitted : Nat := 0xD0104
/-- vport_frames_delivered of S+0D01.05, R506. -/
abbrev Reg.vport_frames_delivered : Nat := 0xD0105
/-- drops_total of S+0D01.06, R506. -/
abbrev Reg.drops_total : Nat := 0xD0106
/-- frames_queued of S+0D01.07, R506. -/
abbrev Reg.frames_queued : Nat := 0xD0107
/-- frames_in_flight of S+0D01.08, R506. -/
abbrev Reg.frames_in_flight : Nat := 0xD0108
/-- identity_balance of S+0D01.09, R506. -/
abbrev Reg.identity_balance : Nat := 0xD0109
/-- mgmt_originated of S+0D02.01, R506. -/
abbrev Reg.mgmt_originated : Nat := 0xD0201
/-- mgmt_consumed of S+0D02.02, R506. -/
abbrev Reg.mgmt_consumed : Nat := 0xD0202
/-- crossing_frames_out of S+0D02.03, R506. -/
abbrev Reg.crossing_frames_out : Nat := 0xD0203
/-- crossing_frames_in of S+0D02.04, R506. -/
abbrev Reg.crossing_frames_in : Nat := 0xD0204
/-- live_frames_queued of S+0D02.05, R506. -/
abbrev Reg.live_frames_queued : Nat := 0xD0205
/-- live_frames_in_flight of S+0D02.06, R506. -/
abbrev Reg.live_frames_in_flight : Nat := 0xD0206
/-- samp_ring_base of S+0D10+c.01, R507. -/
abbrev Reg.samp_ring_base (c : Nat) : Nat := 0xD1001 + 256 * c
/-- samp_ring_size of S+0D10+c.02, R507. -/
abbrev Reg.samp_ring_size (c : Nat) : Nat := 0xD1002 + 256 * c
/-- samp_guest of S+0D10+c.03, R507. -/
abbrev Reg.samp_guest (c : Nat) : Nat := 0xD1003 + 256 * c
/-- samp_enable of S+0D10+c.04, R507. -/
abbrev Reg.samp_enable (c : Nat) : Nat := 0xD1004 + 256 * c
/-- samp_min_interval of S+0D10+c.05, R507. -/
abbrev Reg.samp_min_interval (c : Nat) : Nat := 0xD1005 + 256 * c
/-- samp_tail of S+0D10+c.06, R507. -/
abbrev Reg.samp_tail (c : Nat) : Nat := 0xD1006 + 256 * c
/-- samp_head of S+0D10+c.07, R507. -/
abbrev Reg.samp_head (c : Nat) : Nat := 0xD1007 + 256 * c
/-- samp_msi of S+0D10+c.08, R507. -/
abbrev Reg.samp_msi (c : Nat) : Nat := 0xD1008 + 256 * c
/-- samp_watermark of S+0D10+c.09, R507. -/
abbrev Reg.samp_watermark (c : Nat) : Nat := 0xD1009 + 256 * c
/-- samples_written of S+0D10+c.0A, R507. -/
abbrev Reg.samples_written (c : Nat) : Nat := 0xD100A + 256 * c
/-- samples_lost of S+0D10+c.0B, R507. -/
abbrev Reg.samples_lost (c : Nat) : Nat := 0xD100B + 256 * c
/-- side_state of S+0E00.01, R535. -/
abbrev Reg.side_state : Nat := 0xE0001
/-- pair_frequency of S+0E00.02, R535. -/
abbrev Reg.pair_frequency : Nat := 0xE0002
/-- pair_state of S+0E00.03, R535. -/
abbrev Reg.pair_state : Nat := 0xE0003
/-- pair_release of S+0E00.04, R535. -/
abbrev Reg.pair_release : Nat := 0xE0004
/-- degrade_release of S+0E00.05, R535. -/
abbrev Reg.degrade_release : Nat := 0xE0005
/-- fault_clear of S+0E00.06, R535. -/
abbrev Reg.fault_clear : Nat := 0xE0006
/-- unfence of S+0E00.07, R535. -/
abbrev Reg.unfence : Nat := 0xE0007
/-- event_ack of S+0E00.08, R535. -/
abbrev Reg.event_ack : Nat := 0xE0008
/-- ports_fenced of S+0E00.09, R535. -/
abbrev Reg.ports_fenced : Nat := 0xE0009
/-- vports_fenced of S+0E00.0A, R535. -/
abbrev Reg.vports_fenced : Nat := 0xE000A
/-- pairs_fenced of S+0E00.0B, R535. -/
abbrev Reg.pairs_fenced : Nat := 0xE000B
/-- ffr_min_class of S+0E00.0C, R535. -/
abbrev Reg.ffr_min_class : Nat := 0xE000C
/-- ffr_status of S+0E01.01, R535. -/
abbrev Reg.ffr_status : Nat := 0xE0101
/-- ffr_record of S+0E01.02, R535. -/
abbrev Reg.ffr_record : Nat := 0xE0102
/-- ffr_clear of S+0E01.06, R535. -/
abbrev Reg.ffr_clear : Nat := 0xE0106
/-- collector_messages of S+0E02.01, R535. -/
abbrev Reg.collector_messages : Nat := 0xE0201
/-- collector_queue_overflow of S+0E02.02, R535. -/
abbrev Reg.collector_queue_overflow : Nat := 0xE0202
/-- promotions of S+0E02.03, R535. -/
abbrev Reg.promotions : Nat := 0xE0203
/-- clears_refused of S+0E02.04, R535. -/
abbrev Reg.clears_refused : Nat := 0xE0204
/-- log_seq of S+0E02.05, R535. -/
abbrev Reg.log_seq : Nat := 0xE0205
/-- log_overwritten of S+0E02.06, R535. -/
abbrev Reg.log_overwritten : Nat := 0xE0206
/-- tj_warning_c of S+0E03.01, R644. -/
abbrev Reg.tj_warning_c : Nat := 0xE0301
/-- side_tj of S+0E03.02, R644. -/
abbrev Reg.side_tj : Nat := 0xE0302
/-- side_tj_max of S+0E03.03, R644. -/
abbrev Reg.side_tj_max : Nat := 0xE0303
/-- part_number of 1000.01, R6. -/
abbrev Reg.part_number : Nat := 0x100001
/-- silicon_revision of 1000.02, R6. -/
abbrev Reg.silicon_revision : Nat := 0x100002
/-- grade of 1000.03, R6. -/
abbrev Reg.grade : Nat := 0x100003
/-- ports_per_side of 1000.04, R6. -/
abbrev Reg.ports_per_side : Nat := 0x100004
/-- cores_per_side of 1000.05, R6. -/
abbrev Reg.cores_per_side : Nat := 0x100005
/-- boot_status of 1100.01, R591. -/
abbrev Reg.boot_status : Nat := 0x110001
/-- boot_slot of 1100.02, R591. -/
abbrev Reg.boot_slot : Nat := 0x110002
/-- boot_detail of 1100.03, R591. -/
abbrev Reg.boot_detail : Nat := 0x110003
/-- release_time of 1100.04, R591. -/
abbrev Reg.release_time : Nat := 0x110004
/-- security_version of 1100.05, R591. -/
abbrev Reg.security_version : Nat := 0x110005
/-- rollback_floor of 1100.06, R591. -/
abbrev Reg.rollback_floor : Nat := 0x110006
/-- version_commit of 1100.07, R591. -/
abbrev Reg.version_commit : Nat := 0x110007
/-- lifecycle of 1100.08, R591. -/
abbrev Reg.lifecycle : Nat := 0x110008
/-- persist_lost of 1100.09, R591. -/
abbrev Reg.persist_lost : Nat := 0x110009
/-- flash_errors of 1100.0A, R591. -/
abbrev Reg.flash_errors : Nat := 0x11000A
/-- fw_measure of 1101.01, R591. -/
abbrev Reg.fw_measure : Nat := 0x110101
/-- config_measure of 1101.05, R591. -/
abbrev Reg.config_measure : Nat := 0x110105
/-- host_config_writes of 1101.09, R591. -/
abbrev Reg.host_config_writes : Nat := 0x110109
/-- identity_key_hash of 1102.01, R591. -/
abbrev Reg.identity_key_hash : Nat := 0x110201
/-- device_serial of 1102.05, R591. -/
abbrev Reg.device_serial : Nat := 0x110205
/-- identity_status of 1102.06, R591. -/
abbrev Reg.identity_status : Nat := 0x110206
/-- identity_pubkey of 1103.01, R591. -/
abbrev Reg.identity_pubkey : Nat := 0x110301
/-- identity_cert of 1104.01, R591. -/
abbrev Reg.identity_cert : Nat := 0x110401
/-- attest_nonce of 1110.01, R591. -/
abbrev Reg.attest_nonce : Nat := 0x111001
/-- attest_request of 1110.05, R591. -/
abbrev Reg.attest_request : Nat := 0x111005
/-- attest_owner of 1110.06, R591. -/
abbrev Reg.attest_owner : Nat := 0x111006
/-- attest_failures of 1110.07, R591. -/
abbrev Reg.attest_failures : Nat := 0x111007
/-- attest_report of 1111.01, R591. -/
abbrev Reg.attest_report : Nat := 0x111101
/-- recovery_stage of 1120.01, R591. -/
abbrev Reg.recovery_stage : Nat := 0x112001
/-- recovery_apply of 1120.02, R591. -/
abbrev Reg.recovery_apply : Nat := 0x112002
/-- bundle_stage of 1180.01, R81. -/
abbrev Reg.bundle_stage : Nat := 0x118001
/-- bundle_apply of 1180.02, R81. -/
abbrev Reg.bundle_apply : Nat := 0x118002
/-- bundle_owner of 1180.03, R81. -/
abbrev Reg.bundle_owner : Nat := 0x118003
/-- bundle_result of 1181.01, R81. -/
abbrev Reg.bundle_result : Nat := 0x118101
/-- last_sequence of 1181.02, R81. -/
abbrev Reg.last_sequence : Nat := 0x118102
/-- bundles_applied of 1181.03, R81. -/
abbrev Reg.bundles_applied : Nat := 0x118103
/-- bundles_rejected of 1181.04, R81. -/
abbrev Reg.bundles_rejected : Nat := 0x118104
/-- owner_key_hash of 1182.01, .05, .09, .0D, R81. -/
abbrev Reg.owner_key_hash (k : Nat) : Nat := 0x118201 + 4 * k
/-- aon_status of 1200.01, R561. -/
abbrev Reg.aon_status : Nat := 0x120001
/-- wake_in_config of 1200.02, R561. -/
abbrev Reg.wake_in_config : Nat := 0x120002
/-- wake_in_glitches of 1200.03, R561. -/
abbrev Reg.wake_in_glitches : Nat := 0x120003
/-- burrow_rail_off of 1200.04, R561. -/
abbrev Reg.burrow_rail_off : Nat := 0x120004
/-- avs_enable of 1230.01, R561. -/
abbrev Reg.avs_enable : Nat := 0x123001
/-- vdd_core_mv of 1230.02, R561. -/
abbrev Reg.vdd_core_mv : Nat := 0x123002
/-- avs_fixed_mv of 1230.03, R561. -/
abbrev Reg.avs_fixed_mv : Nat := 0x123003
/-- avs_margin_low of 1230.04, R561. -/
abbrev Reg.avs_margin_low : Nat := 0x123004
/-- avs_margin_high of 1230.05, R561. -/
abbrev Reg.avs_margin_high : Nat := 0x123005
/-- avs_errors of 1230.06, R561. -/
abbrev Reg.avs_errors : Nat := 0x123006
/-- powered_hours of 1230.07, R561. -/
abbrev Reg.powered_hours : Nat := 0x123007
/-- age_shift of 1231.01 to .20, R561. -/
abbrev Reg.age_shift (k : Nat) : Nat := 0x123101 + k
/-- life_profile_hours of 1232.01, R650. -/
abbrev Reg.life_profile_hours : Nat := 0x123201
/-- life_shift_max of 1232.02, R650. -/
abbrev Reg.life_shift_max : Nat := 0x123202
/-- life_shift_expected of 1232.03, R650. -/
abbrev Reg.life_shift_expected : Nat := 0x123203
/-- life_projected_hours of 1232.04, R650. -/
abbrev Reg.life_projected_hours : Nat := 0x123204
/-- straps_sampled of 1240.01, R631. -/
abbrev Reg.straps_sampled : Nat := 0x124001
/-- rail_status of 1240.02, R631. -/
abbrev Reg.rail_status : Nat := 0x124002
/-- pcie_vendor_id of 1300.01, R485. -/
abbrev Reg.pcie_vendor_id : Nat := 0x130001
/-- link_speed of 1300.02, R485. -/
abbrev Reg.link_speed : Nat := 0x130002
/-- link_width of 1300.03, R485. -/
abbrev Reg.link_width : Nat := 0x130003
/-- pcie_cpl_timeout_ms of 1300.04, R485. -/
abbrev Reg.pcie_cpl_timeout_ms : Nat := 0x130004
/-- pcie_ur_sent of 1301.01, R485. -/
abbrev Reg.pcie_ur_sent : Nat := 0x130101
/-- pcie_malformed of 1301.02, R485. -/
abbrev Reg.pcie_malformed : Nat := 0x130102
/-- pcie_poisoned_rx of 1301.03, R485. -/
abbrev Reg.pcie_poisoned_rx : Nat := 0x130103
/-- pcie_unexpected_cpl of 1301.04, R485. -/
abbrev Reg.pcie_unexpected_cpl : Nat := 0x130104
/-- pcie_cpl_timeouts of 1301.05, R485. -/
abbrev Reg.pcie_cpl_timeouts : Nat := 0x130105
/-- refusal_record_pf0 of 1302.01, R59. -/
abbrev Reg.refusal_record_pf0 : Nat := 0x130201
/-- refusal_record_pf1 of 1303.01, R59. -/
abbrev Reg.refusal_record_pf1 : Nat := 0x130301
/-- aperture_object of 1320+a.01, R62. -/
abbrev Reg.aperture_object (a : Nat) : Nat := 0x132001 + 256 * a
/-- aperture_base of 1320+a.02, R62. -/
abbrev Reg.aperture_base (a : Nat) : Nat := 0x132002 + 256 * a
/-- aperture_stride of 1320+a.03, R62. -/
abbrev Reg.aperture_stride (a : Nat) : Nat := 0x132003 + 256 * a
/-- device_fault_state of 1400.01, R539. -/
abbrev Reg.device_fault_state : Nat := 0x140001
/-- device_fault_clear of 1400.02, R539. -/
abbrev Reg.device_fault_clear : Nat := 0x140002
/-- device_event_ack of 1400.03, R539. -/
abbrev Reg.device_event_ack : Nat := 0x140003
/-- device_ffr_min_class of 1400.04, R539. -/
abbrev Reg.device_ffr_min_class : Nat := 0x140004
/-- device_ffr_status of 1401.01, R539. -/
abbrev Reg.device_ffr_status : Nat := 0x140101
/-- device_ffr_record of 1401.02, R539. -/
abbrev Reg.device_ffr_record : Nat := 0x140102
/-- device_ffr_clear of 1401.06, R539. -/
abbrev Reg.device_ffr_clear : Nat := 0x140106
/-- test_unlock of 1500.01, R605. -/
abbrev Reg.test_unlock : Nat := 0x150001
/-- mbist_cmd of 1500.02, R605. -/
abbrev Reg.mbist_cmd : Nat := 0x150002
/-- mbist_fail_count of 1500.03, R605. -/
abbrev Reg.mbist_fail_count : Nat := 0x150003
/-- repair_stage of 1500.04, R605. -/
abbrev Reg.repair_stage : Nat := 0x150004
/-- repair_program of 1500.0B, R605. -/
abbrev Reg.repair_program : Nat := 0x15000B
/-- mbist_result of 1500.0C, R605. -/
abbrev Reg.mbist_result : Nat := 0x15000C
/-- device_mode of 1600.01, R20. -/
abbrev Reg.device_mode : Nat := 0x160001
/-- mode_status of 1600.02, R20. -/
abbrev Reg.mode_status : Nat := 0x160002
/-- crossing_bandwidth of 1600.03, R20. -/
abbrev Reg.crossing_bandwidth : Nat := 0x160003
/-- crossing_cells_ab of 1601.01, R20. -/
abbrev Reg.crossing_cells_ab : Nat := 0x160101
/-- crossing_cells_ba of 1601.02, R20. -/
abbrev Reg.crossing_cells_ba : Nat := 0x160102
/-- crossing_drops_ab of 1601.03, R20. -/
abbrev Reg.crossing_drops_ab : Nat := 0x160103
/-- crossing_drops_ba of 1601.04, R20. -/
abbrev Reg.crossing_drops_ba : Nat := 0x160104
/-- placement of C.01, R460. -/
abbrev Reg.placement (v : Nat) : Nat := 0x200001 + 256 * v
/-- guest_core of C.02, R460. -/
abbrev Reg.guest_core (v : Nat) : Nat := 0x200002 + 256 * v
/-- guest_file of C.03, R460. -/
abbrev Reg.guest_file (v : Nat) : Nat := 0x200003 + 256 * v
/-- msi_base of C.04, R460. -/
abbrev Reg.msi_base (v : Nat) : Nat := 0x200004 + 256 * v
/-- rx_ring_base of C.05, R460. -/
abbrev Reg.rx_ring_base (v : Nat) : Nat := 0x200005 + 256 * v
/-- tx_ring_base of C.06, R460. -/
abbrev Reg.tx_ring_base (v : Nat) : Nat := 0x200006 + 256 * v
/-- txc_ring_base of C.07, R460. -/
abbrev Reg.txc_ring_base (v : Nat) : Nat := 0x200007 + 256 * v
/-- fill_ring_base of C.08, R460. -/
abbrev Reg.fill_ring_base (v : Nat) : Nat := 0x200008 + 256 * v
/-- stale_ring_base of C.09, R460. -/
abbrev Reg.stale_ring_base (v : Nat) : Nat := 0x200009 + 256 * v
/-- ring_sizes of C.0A, R460. -/
abbrev Reg.ring_sizes (v : Nat) : Nat := 0x20000A + 256 * v
/-- rx_pool of C.0B, R460. -/
abbrev Reg.rx_pool (v : Nat) : Nat := 0x20000B + 256 * v
/-- tx_pool of C.0C, R460. -/
abbrev Reg.tx_pool (v : Nat) : Nat := 0x20000C + 256 * v
/-- dma_window_base of C.0D, R460. -/
abbrev Reg.dma_window_base (v : Nat) : Nat := 0x20000D + 256 * v
/-- dma_window_limit of C.0E, R460. -/
abbrev Reg.dma_window_limit (v : Nat) : Nat := 0x20000E + 256 * v
/-- dma_credits of C.0F, R460. -/
abbrev Reg.dma_credits (v : Nat) : Nat := 0x20000F + 256 * v
/-- share_cells of C.10, R460. -/
abbrev Reg.share_cells (v : Nat) : Nat := 0x200010 + 256 * v
/-- station_quota of C.11, R460. -/
abbrev Reg.station_quota (v : Nat) : Nat := 0x200011 + 256 * v
/-- tx_meter of C.12, R460. -/
abbrev Reg.tx_meter (v : Nat) : Nat := 0x200012 + 256 * v
/-- vp_pvid of C.13, R460. -/
abbrev Reg.vp_pvid (v : Nat) : Nat := 0x200013 + 256 * v
/-- vp_learn_enable of C.14, R460. -/
abbrev Reg.vp_learn_enable (v : Nat) : Nat := 0x200014 + 256 * v
/-- irq_count of C.15, R460. -/
abbrev Reg.irq_count (v : Nat) : Nat := 0x200015 + 256 * v
/-- irq_delay_ns of C.16, R460. -/
abbrev Reg.irq_delay_ns (v : Nat) : Nat := 0x200016 + 256 * v
/-- freeze_deadline_us of C.17, R460. -/
abbrev Reg.freeze_deadline_us (v : Nat) : Nat := 0x200017 + 256 * v
/-- vport_ctl of C.18, R460. -/
abbrev Reg.vport_ctl (v : Nat) : Nat := 0x200018 + 256 * v
/-- search_first of C.1A, R460. -/
abbrev Reg.search_first (v : Nat) : Nat := 0x20001A + 256 * v
/-- search_units of C.1B, R460. -/
abbrev Reg.search_units (v : Nat) : Nat := 0x20001B + 256 * v
/-- vp_min_cells of C.20+q, R460. -/
abbrev Reg.vp_min_cells (v : Nat) (q : Nat) : Nat := 0x200020 + 256 * v + q
/-- vp_alpha_exp of C.28+q, R460. -/
abbrev Reg.vp_alpha_exp (v : Nat) (q : Nat) : Nat := 0x200028 + 256 * v + q
/-- vport_state of T.01, R461. -/
abbrev Reg.vport_state (v : Nat) : Nat := 0x208001 + 256 * v
/-- generation of T.02, R461. -/
abbrev Reg.generation (v : Nat) : Nat := 0x208002 + 256 * v
/-- over_share of T.03, R461. -/
abbrev Reg.over_share (v : Nat) : Nat := 0x208003 + 256 * v
/-- vport_cells of T.04, R461. -/
abbrev Reg.vport_cells (v : Nat) : Nat := 0x208004 + 256 * v
/-- credits_available of T.05, R461. -/
abbrev Reg.credits_available (v : Nat) : Nat := 0x208005 + 256 * v
/-- credits_in_flight of T.06, R461. -/
abbrev Reg.credits_in_flight (v : Nat) : Nat := 0x208006 + 256 * v
/-- credits_unreturned of T.07, R461. -/
abbrev Reg.credits_unreturned (v : Nat) : Nat := 0x208007 + 256 * v
/-- in_flight_left of T.08, R461. -/
abbrev Reg.in_flight_left (v : Nat) : Nat := 0x208008 + 256 * v
/-- restore_detail of T.09, R461. -/
abbrev Reg.restore_detail (v : Nat) : Nat := 0x208009 + 256 * v
/-- tx_tail of T.10, R461. -/
abbrev Reg.tx_tail (v : Nat) : Nat := 0x208010 + 256 * v
/-- tx_head of T.11, R461. -/
abbrev Reg.tx_head (v : Nat) : Nat := 0x208011 + 256 * v
/-- fill_tail of T.12, R461. -/
abbrev Reg.fill_tail (v : Nat) : Nat := 0x208012 + 256 * v
/-- fill_head of T.13, R461. -/
abbrev Reg.fill_head (v : Nat) : Nat := 0x208013 + 256 * v
/-- rx_tail of T.14, R461. -/
abbrev Reg.rx_tail (v : Nat) : Nat := 0x208014 + 256 * v
/-- rx_head of T.15, R461. -/
abbrev Reg.rx_head (v : Nat) : Nat := 0x208015 + 256 * v
/-- txc_tail of T.16, R461. -/
abbrev Reg.txc_tail (v : Nat) : Nat := 0x208016 + 256 * v
/-- txc_head of T.17, R461. -/
abbrev Reg.txc_head (v : Nat) : Nat := 0x208017 + 256 * v
/-- stale_tail of T.18, R461. -/
abbrev Reg.stale_tail (v : Nat) : Nat := 0x208018 + 256 * v
/-- stale_head of T.19, R461. -/
abbrev Reg.stale_head (v : Nat) : Nat := 0x208019 + 256 * v
/-- vp_vport_frames_sent of T.20, R461. -/
abbrev Reg.vp_vport_frames_sent (v : Nat) : Nat := 0x208020 + 256 * v
/-- vp_vport_frames_delivered of T.21, R461. -/
abbrev Reg.vp_vport_frames_delivered (v : Nat) : Nat := 0x208021 + 256 * v
/-- vp_tx_octets of T.22, R461. -/
abbrev Reg.vp_tx_octets (v : Nat) : Nat := 0x208022 + 256 * v
/-- vp_rx_octets of T.23, R461. -/
abbrev Reg.vp_rx_octets (v : Nat) : Nat := 0x208023 + 256 * v
/-- vp_drop_share of T.24, R461. -/
abbrev Reg.vp_drop_share (v : Nat) : Nat := 0x208024 + 256 * v
/-- vp_drop_reset of T.25, R461. -/
abbrev Reg.vp_drop_reset (v : Nat) : Nat := 0x208025 + 256 * v
/-- vp_drop_too_long of T.26, R461. -/
abbrev Reg.vp_drop_too_long (v : Nat) : Nat := 0x208026 + 256 * v
/-- stale_results of T.27, R461. -/
abbrev Reg.stale_results (v : Nat) : Nat := 0x208027 + 256 * v
/-- stale_overflow of T.28, R461. -/
abbrev Reg.stale_overflow (v : Nat) : Nat := 0x208028 + 256 * v
/-- flushed_descriptors of T.29, R461. -/
abbrev Reg.flushed_descriptors (v : Nat) : Nat := 0x208029 + 256 * v
/-- bad_descriptors of T.2A, R461. -/
abbrev Reg.bad_descriptors (v : Nat) : Nat := 0x20802A + 256 * v
/-- host_dma_errors of T.2B, R461. -/
abbrev Reg.host_dma_errors (v : Nat) : Nat := 0x20802B + 256 * v
/-- bad_doorbell of T.2C, R461. -/
abbrev Reg.bad_doorbell (v : Nat) : Nat := 0x20802C + 256 * v
/-- vf_refusal_record of T.3F, R461. -/
abbrev Reg.vf_refusal_record (v : Nat) : Nat := 0x20803F + 256 * v
/-- power_request of 1210+s.01, R560. -/
abbrev Reg.power_request : Nat := 0x321001
/-- power_state of 1210+s.02, R560. -/
abbrev Reg.power_state : Nat := 0x321002
/-- side_reset of 1210+s.03, R560. -/
abbrev Reg.side_reset : Nat := 0x321003
/-- wake_cause of 1210+s.04, R560. -/
abbrev Reg.wake_cause : Nat := 0x321004
/-- den_wake_exit of 1210+s.05, R560. -/
abbrev Reg.den_wake_exit : Nat := 0x321005
/-- den_drain_us of 1210+s.06, R560. -/
abbrev Reg.den_drain_us : Nat := 0x321006
/-- den_dram_sr of 1210+s.07, R560. -/
abbrev Reg.den_dram_sr : Nat := 0x321007
/-- burrow_dram of 1210+s.08, R560. -/
abbrev Reg.burrow_dram : Nat := 0x321008
/-- wake_in_mask of 1210+s.09, R560. -/
abbrev Reg.wake_in_mask : Nat := 0x321009
/-- field_wake of 1210+s.0A, R560. -/
abbrev Reg.field_wake : Nat := 0x32100A
/-- wake_timer_ms of 1210+s.0B, R560. -/
abbrev Reg.wake_timer_ms : Nat := 0x32100B
/-- last_transition of 1210+s.0C, R560. -/
abbrev Reg.last_transition : Nat := 0x32100C
/-- pll_locked of 1220+s.01, R561. -/
abbrev Reg.pll_locked : Nat := 0x322001
/-- core_pll_mhz of 1220+s.02, R561. -/
abbrev Reg.core_pll_mhz : Nat := 0x322002
/-- core_divider of 1220+s.03, R561. -/
abbrev Reg.core_divider : Nat := 0x322003
/-- pll_retries of 1220+s.04, R561. -/
abbrev Reg.pll_retries : Nat := 0x322004
/-- side_reset_cause of 1241+s.01, R631. -/
abbrev Reg.side_reset_cause : Nat := 0x324101
/-- side_resets of 1241+s.02, R631. -/
abbrev Reg.side_resets : Nat := 0x324102
/-- vport_cells_total of 1310+s.01, R485. -/
abbrev Reg.vport_cells_total : Nat := 0x331001
/-- vports_created of 1310+s.02, R485. -/
abbrev Reg.vports_created : Nat := 0x331002
/-- dma_credits_used of 1310+s.03, R485. -/
abbrev Reg.dma_credits_used : Nat := 0x331003
/-- side_state_copy of 1410+s.01, R539. -/
abbrev Reg.side_state_copy : Nat := 0x341001
/-- side_ffr_status_copy of 1410+s.02, R539. -/
abbrev Reg.side_ffr_status_copy : Nat := 0x341002
/-- side_ffr_record_copy of 1410+s.03, R539. -/
abbrev Reg.side_ffr_record_copy : Nat := 0x341003
/-- field_test_scope of 1510+s.01, R611. -/
abbrev Reg.field_test_scope : Nat := 0x351001
/-- field_test_period_h of 1510+s.02, R611. -/
abbrev Reg.field_test_period_h : Nat := 0x351002
/-- field_test_boot of 1510+s.03, R611. -/
abbrev Reg.field_test_boot : Nat := 0x351003
/-- field_test_request of 1510+s.04, R611. -/
abbrev Reg.field_test_request : Nat := 0x351004
/-- field_test_result of 1510+s.05, R611. -/
abbrev Reg.field_test_result : Nat := 0x351005
/-- field_test_fail_unit of 1510+s.06, R611. -/
abbrev Reg.field_test_fail_unit : Nat := 0x351006
/-- field_test_last of 1510+s.07, R611. -/
abbrev Reg.field_test_last : Nat := 0x351007
/-- field_test_runs of 1510+s.08, R611. -/
abbrev Reg.field_test_runs : Nat := 0x351008
/-- port_test of 1580+n.01, R595. -/
abbrev Reg.port_test (p : Nat) : Nat := 0x358001 + 256 * p
/-- prbs_pattern of 1580+n.02, R595. -/
abbrev Reg.prbs_pattern (p : Nat) : Nat := 0x358002 + 256 * p
/-- prbs_invert of 1580+n.03, R595. -/
abbrev Reg.prbs_invert (p : Nat) : Nat := 0x358003 + 256 * p
/-- test_rate_mbd of 1580+n.04, R595. -/
abbrev Reg.test_rate_mbd (p : Nat) : Nat := 0x358004 + 256 * p
/-- prbs_tx of 1580+n.05, R595. -/
abbrev Reg.prbs_tx (p : Nat) : Nat := 0x358005 + 256 * p
/-- prbs_rx of 1580+n.06, R595. -/
abbrev Reg.prbs_rx (p : Nat) : Nat := 0x358006 + 256 * p
/-- prbs_lock of 1580+n.07, R595. -/
abbrev Reg.prbs_lock (p : Nat) : Nat := 0x358007 + 256 * p
/-- prbs_bits of 1580+n.08, R595. -/
abbrev Reg.prbs_bits (p : Nat) : Nat := 0x358008 + 256 * p
/-- prbs_errors of 1580+n.09, R595. -/
abbrev Reg.prbs_errors (p : Nat) : Nat := 0x358009 + 256 * p
/-- loopback of 1580+n.0A, R595. -/
abbrev Reg.loopback (p : Nat) : Nat := 0x35800A + 256 * p
/-- eye_cmd of 1580+n.0B, R595. -/
abbrev Reg.eye_cmd (p : Nat) : Nat := 0x35800B + 256 * p
/-- eye_dwell_log2 of 1580+n.0C, R595. -/
abbrev Reg.eye_dwell_log2 (p : Nat) : Nat := 0x35800C + 256 * p
/-- gen_count of 1580+n.10, R595. -/
abbrev Reg.gen_count (p : Nat) : Nat := 0x358010 + 256 * p
/-- gen_length_min of 1580+n.11, R595. -/
abbrev Reg.gen_length_min (p : Nat) : Nat := 0x358011 + 256 * p
/-- gen_length_max of 1580+n.12, R595. -/
abbrev Reg.gen_length_max (p : Nat) : Nat := 0x358012 + 256 * p
/-- gen_idle of 1580+n.13, R595. -/
abbrev Reg.gen_idle (p : Nat) : Nat := 0x358013 + 256 * p
/-- gen_payload of 1580+n.14, R595. -/
abbrev Reg.gen_payload (p : Nat) : Nat := 0x358014 + 256 * p
/-- gen_fill of 1580+n.15, R595. -/
abbrev Reg.gen_fill (p : Nat) : Nat := 0x358015 + 256 * p
/-- gen_cmd of 1580+n.16, R595. -/
abbrev Reg.gen_cmd (p : Nat) : Nat := 0x358016 + 256 * p
/-- gen_frames of 1580+n.17, R595. -/
abbrev Reg.gen_frames (p : Nat) : Nat := 0x358017 + 256 * p
/-- chk_frames of 1580+n.18, R595. -/
abbrev Reg.chk_frames (p : Nat) : Nat := 0x358018 + 256 * p
/-- chk_fcs_errors of 1580+n.19, R595. -/
abbrev Reg.chk_fcs_errors (p : Nat) : Nat := 0x358019 + 256 * p
/-- chk_payload_errors of 1580+n.1A, R595. -/
abbrev Reg.chk_payload_errors (p : Nat) : Nat := 0x35801A + 256 * p
/-- chk_seq_errors of 1580+n.1B, R595. -/
abbrev Reg.chk_seq_errors (p : Nat) : Nat := 0x35801B + 256 * p
/-- eye_image of 1580+n.20, R595. -/
abbrev Reg.eye_image (p : Nat) : Nat := 0x358020 + 256 * p

end Sys2Proof.Machine
end

