-- ==== Sys2Proof/Machine/ObjTable.lean ====
section
/-! DEFINITION. ObjTable.lean: the object tables of the spec, one row for one object or one family of
like objects: where it stands, its type, who may read and write it (R10, R11), its default (R47) and the
range a written value must lie in (R49). The rows are the spec's own tables, chapter by chapter. -/

namespace Sys2Proof.Machine

/-- The types of R45. A bit-field or time type that fills one slot has the width of its unsigned type. -/
inductive ObjType where
  | bool | u8 | u16 | u32 | u64 | i32 | i64 | enum8 | mac48 | time96 | domain
  | octets (n : Nat)
  deriving DecidableEq, Repr

/-- The write qualifiers of R10. -/
inductive Qual where
  | set | w1c | w1s | trig | once
  deriving DecidableEq, Repr

/-- What a written value must satisfy (R49), and which of its bits are defined (R12). -/
inductive Check where
  | any
  | upto (n : Nat)
  | range (lo hi : Nat)
  | zeroOr (lo hi : Nat)
  | signed (lim : Nat)
  | signed64 (lim : Nat)
  | mask (m : Nat)
  | counter
  | upTo63or255
  | upto2047orNone
  deriving DecidableEq, Repr

/-- The requester letters of the Access columns, one bit each: H 1, F 2, B 4, G 8, O 16. -/
abbrev Req.H : Nat := 1
abbrev Req.B : Nat := 4
abbrev Req.BO : Nat := 20
abbrev Req.HB : Nat := 5
abbrev Req.HBG : Nat := 13
abbrev Req.HBO : Nat := 21
abbrev Req.HF : Nat := 3
abbrev Req.HFGO : Nat := 27
abbrev Req.HFO : Nat := 19
abbrev Req.HG : Nat := 9
abbrev Req.HGO : Nat := 25
abbrev Req.HO : Nat := 17
abbrev Req.F : Nat := 2
abbrev Req.G : Nat := 8
abbrev Req.O : Nat := 16

/-- One row: the key of the first object, how many instances (index by index), how many repeated
subindexes and their distance, the type, the read and write sets, the qualifier, the default and the
check. -/
structure ObjRow where
  base : Nat
  insts : Nat
  subs : Nat
  step : Nat
  ty : ObjType
  rd : Nat
  wr : Nat
  qual : Qual
  dflt : Nat
  chk : Check
  deriving DecidableEq, Repr

/-- Objects of spec/00_scope.md. Device level. -/
def devRows00 : List ObjRow :=
  [⟨0x100001, 1, 1, 0, .u32, Req.HFGO, 0, .set, 0, .any⟩,
   ⟨0x100002, 1, 1, 0, .u16, Req.HFGO, 0, .set, 0, .any⟩,
   ⟨0x100003, 1, 1, 0, .enum8, Req.HFGO, 0, .set, 0, .any⟩,
   ⟨0x100004, 1, 1, 0, .u8, Req.HFGO, 0, .set, 0, .any⟩,
   ⟨0x100005, 1, 1, 0, .u8, Req.HFGO, 0, .set, 0, .any⟩]

/-- Objects of spec/01_architecture.md. Device level. -/
def devRows01 : List ObjRow :=
  [⟨0x160001, 1, 1, 0, .enum8, Req.HFGO, Req.BO, .once, 0, (.upto 1)⟩,
   ⟨0x160002, 1, 1, 0, .enum8, Req.HFGO, 0, .set, 0, .any⟩,
   ⟨0x160003, 1, 1, 0, .u32, Req.HFGO, 0, .set, 1200, .any⟩,
   ⟨0x160101, 1, 1, 0, .u64, Req.HFGO, 0, .set, 0, .any⟩,
   ⟨0x160102, 1, 1, 0, .u64, Req.HFGO, 0, .set, 0, .any⟩,
   ⟨0x160103, 1, 1, 0, .u64, Req.HFGO, 0, .set, 0, .any⟩,
   ⟨0x160104, 1, 1, 0, .u64, Req.HFGO, 0, .set, 0, .any⟩]

/-- Objects of spec/02_object_dictionary.md.  -/
def sideRows02 : List ObjRow :=
  [⟨0x1001, 1, 1, 0, .u8, Req.HFGO, Req.HB, .set, 0, (.range 1 127)⟩,
   ⟨0x1002, 1, 1, 0, .bool, Req.HFGO, Req.HB, .set, 1, .any⟩,
   ⟨0x1003, 1, 1, 0, .enum8, Req.HFGO, Req.HB, .set, 2, (.upto 3)⟩,
   ⟨0x1004, 1, 1, 0, .enum8, Req.HFGO, Req.HB, .set, 4, (.upto 5)⟩,
   ⟨0x1005, 1, 1, 0, .mac48, Req.HFGO, Req.HB, .set, 0, .any⟩,
   ⟨0x1006, 1, 1, 0, .u16, Req.HFGO, Req.HB, .set, 100, (.range 10 10000)⟩,
   ⟨0x1007, 1, 1, 0, .u8, Req.HFGO, Req.HB, .set, 224, .any⟩,
   ⟨0x1008, 1, 1, 0, .u8, Req.HFGO, Req.HB, .set, 0, .any⟩,
   ⟨0x1201, 1, 1, 0, .u64, Req.HFGO, Req.H, .set, 0, .counter⟩,
   ⟨0x1202, 1, 1, 0, .u64, Req.HFGO, Req.H, .set, 0, .counter⟩,
   ⟨0x1203, 1, 1, 0, .u64, Req.HFGO, Req.H, .set, 0, .counter⟩,
   ⟨0x1204, 1, 1, 0, .u64, Req.HFGO, Req.H, .set, 0, .counter⟩,
   ⟨0x1205, 1, 1, 0, .u64, Req.HFGO, Req.H, .set, 0, .counter⟩,
   ⟨0x100001, 1, 1, 0, .u32, Req.HFGO, 0, .set, 0, .any⟩,
   ⟨0x100002, 1, 1, 0, .u16, Req.HFGO, 0, .set, 0, .any⟩,
   ⟨0x100003, 1, 1, 0, .u8, Req.HFO, Req.HB, .set, 0, (.mask 3)⟩,
   ⟨0x100004, 1, 1, 0, .u32, Req.HFO, Req.HB, .set, 0, .any⟩,
   ⟨0x100010, 1, 1, 0, .domain, Req.HFO, Req.HB, .set, 0, .any⟩,
   ⟨0x110001, 32, 1, 0, .u32, Req.HFGO, 0, .set, 0, .any⟩,
   ⟨0x110002, 32, 1, 0, .u16, Req.HFGO, 0, .set, 0, .any⟩,
   ⟨0x110003, 32, 1, 0, .u8, Req.HFO, Req.HB, .set, 0, (.mask 3)⟩,
   ⟨0x110004, 32, 1, 0, .u32, Req.HFO, Req.HB, .set, 0, .any⟩,
   ⟨0x110010, 32, 1, 0, .domain, Req.HFO, Req.HB, .set, 0, .any⟩,
   ⟨0x118001, 1, 1, 0, .u32, Req.HFGO, 0, .set, 0, .any⟩,
   ⟨0x118002, 1, 1, 0, .u16, Req.HFGO, 0, .set, 0, .any⟩,
   ⟨0x118003, 1, 1, 0, .u8, Req.HFO, Req.HB, .set, 0, (.mask 3)⟩,
   ⟨0x118004, 1, 1, 0, .u32, Req.HFO, Req.HB, .set, 0, .any⟩,
   ⟨0x118010, 1, 1, 0, .domain, Req.HFO, Req.HB, .set, 0, .any⟩,
   ⟨0x120001, 1, 1, 0, .u32, Req.HFGO, 0, .set, 0, .any⟩,
   ⟨0x120002, 1, 1, 0, .u16, Req.HFGO, 0, .set, 0, .any⟩,
   ⟨0x120003, 1, 1, 0, .u8, Req.HFO, Req.HB, .set, 0, (.mask 3)⟩,
   ⟨0x120004, 1, 1, 0, .u32, Req.HFO, Req.HB, .set, 0, .any⟩,
   ⟨0x120010, 1, 1, 0, .domain, Req.HFO, Req.HB, .set, 0, .any⟩,
   ⟨0x120101, 1, 1, 0, .u32, Req.HFGO, 0, .set, 0, .any⟩,
   ⟨0x120102, 1, 1, 0, .u16, Req.HFGO, 0, .set, 0, .any⟩,
   ⟨0x120103, 1, 1, 0, .u8, Req.HFO, Req.HB, .set, 0, (.mask 3)⟩,
   ⟨0x120104, 1, 1, 0, .u32, Req.HFO, Req.HB, .set, 0, .any⟩,
   ⟨0x120110, 1, 1, 0, .domain, Req.HFO, Req.HB, .set, 0, .any⟩,
   ⟨0x130001, 1, 1, 0, .u32, Req.HFGO, 0, .set, 0, .any⟩,
   ⟨0x130002, 1, 1, 0, .u16, Req.HFGO, 0, .set, 0, .any⟩,
   ⟨0x130003, 1, 1, 0, .u8, Req.HFO, Req.HB, .set, 0, (.mask 3)⟩,
   ⟨0x130004, 1, 1, 0, .u32, Req.HFO, Req.HB, .set, 0, .any⟩,
   ⟨0x130010, 1, 1, 0, .domain, Req.HFO, Req.HB, .set, 0, .any⟩,
   ⟨0x130101, 1, 1, 0, .u32, Req.HFGO, 0, .set, 0, .any⟩,
   ⟨0x130102, 1, 1, 0, .u16, Req.HFGO, 0, .set, 0, .any⟩]

/-- Objects of spec/02_object_dictionary.md.  -/
def sideRows02b : List ObjRow :=
  [⟨0x130103, 1, 1, 0, .u8, Req.HFO, Req.HB, .set, 0, (.mask 3)⟩,
   ⟨0x130104, 1, 1, 0, .u32, Req.HFO, Req.HB, .set, 0, .any⟩,
   ⟨0x130110, 1, 1, 0, .domain, Req.HFO, Req.HB, .set, 0, .any⟩,
   ⟨0x130201, 1, 1, 0, .u32, Req.HFGO, 0, .set, 0, .any⟩,
   ⟨0x130202, 1, 1, 0, .u16, Req.HFGO, 0, .set, 0, .any⟩,
   ⟨0x130203, 1, 1, 0, .u8, Req.HFO, Req.HB, .set, 0, (.mask 3)⟩,
   ⟨0x130204, 1, 1, 0, .u32, Req.HFO, Req.HB, .set, 0, .any⟩,
   ⟨0x130210, 1, 1, 0, .domain, Req.HFO, Req.HB, .set, 0, .any⟩,
   ⟨0x130301, 1, 1, 0, .u32, Req.HFGO, 0, .set, 0, .any⟩,
   ⟨0x130302, 1, 1, 0, .u16, Req.HFGO, 0, .set, 0, .any⟩,
   ⟨0x130303, 1, 1, 0, .u8, Req.HFO, Req.HB, .set, 0, (.mask 3)⟩,
   ⟨0x130304, 1, 1, 0, .u32, Req.HFO, Req.HB, .set, 0, .any⟩,
   ⟨0x130310, 1, 1, 0, .domain, Req.HFO, Req.HB, .set, 0, .any⟩,
   ⟨0x130401, 1, 1, 0, .u32, Req.HFGO, 0, .set, 0, .any⟩,
   ⟨0x130402, 1, 1, 0, .u16, Req.HFGO, 0, .set, 0, .any⟩,
   ⟨0x130403, 1, 1, 0, .u8, Req.HFO, Req.HB, .set, 0, (.mask 3)⟩,
   ⟨0x130404, 1, 1, 0, .u32, Req.HFO, Req.HB, .set, 0, .any⟩,
   ⟨0x130410, 1, 1, 0, .domain, Req.HFO, Req.HB, .set, 0, .any⟩,
   ⟨0x130501, 1, 1, 0, .u32, Req.HFGO, 0, .set, 0, .any⟩,
   ⟨0x130502, 1, 1, 0, .u16, Req.HFGO, 0, .set, 0, .any⟩,
   ⟨0x130503, 1, 1, 0, .u8, Req.HFO, Req.HB, .set, 0, (.mask 3)⟩,
   ⟨0x130504, 1, 1, 0, .u32, Req.HFO, Req.HB, .set, 0, .any⟩,
   ⟨0x130510, 1, 1, 0, .domain, Req.HFO, 0, .set, 0, .any⟩,
   ⟨0x130601, 1, 1, 0, .u32, Req.HFGO, 0, .set, 0, .any⟩,
   ⟨0x130602, 1, 1, 0, .u16, Req.HFGO, 0, .set, 0, .any⟩,
   ⟨0x130603, 1, 1, 0, .u8, Req.HFO, Req.HB, .set, 0, (.mask 3)⟩,
   ⟨0x130604, 1, 1, 0, .u32, Req.HFO, Req.HB, .set, 0, .any⟩,
   ⟨0x130610, 1, 1, 0, .domain, Req.HFO, Req.HB, .set, 0, .any⟩,
   ⟨0x140001, 1, 1, 0, .u32, Req.HFGO, 0, .set, 0, .any⟩,
   ⟨0x140002, 1, 1, 0, .u16, Req.HFGO, 0, .set, 0, .any⟩,
   ⟨0x140003, 1, 1, 0, .u8, Req.HFO, Req.HB, .set, 0, (.mask 3)⟩,
   ⟨0x140004, 1, 1, 0, .u32, Req.HFO, Req.HB, .set, 0, .any⟩,
   ⟨0x140010, 1, 1, 0, .domain, Req.HFO, Req.HB, .set, 0, .any⟩,
   ⟨0x140101, 1, 1, 0, .u32, Req.HFGO, 0, .set, 0, .any⟩,
   ⟨0x140102, 1, 1, 0, .u16, Req.HFGO, 0, .set, 0, .any⟩,
   ⟨0x140103, 1, 1, 0, .u8, Req.HFO, Req.HB, .set, 0, (.mask 3)⟩,
   ⟨0x140104, 1, 1, 0, .u32, Req.HFO, Req.HB, .set, 0, .any⟩,
   ⟨0x140110, 1, 1, 0, .domain, Req.HFO, 0, .set, 0, .any⟩,
   ⟨0x140201, 1, 1, 0, .u32, Req.HFGO, 0, .set, 0, .any⟩,
   ⟨0x140202, 1, 1, 0, .u16, Req.HFGO, 0, .set, 0, .any⟩,
   ⟨0x140203, 1, 1, 0, .u8, Req.HFO, Req.HB, .set, 0, (.mask 3)⟩,
   ⟨0x140204, 1, 1, 0, .u32, Req.HFO, Req.HB, .set, 0, .any⟩,
   ⟨0x140210, 1, 1, 0, .domain, Req.HFO, Req.HB, .set, 0, .any⟩,
   ⟨0x140301, 1, 1, 0, .u32, Req.HFGO, 0, .set, 0, .any⟩,
   ⟨0x140302, 1, 1, 0, .u16, Req.HFGO, 0, .set, 0, .any⟩]

/-- Objects of spec/02_object_dictionary.md.  -/
def sideRows02c : List ObjRow :=
  [⟨0x140303, 1, 1, 0, .u8, Req.HFO, Req.HB, .set, 0, (.mask 3)⟩,
   ⟨0x140304, 1, 1, 0, .u32, Req.HFO, Req.HB, .set, 0, .any⟩,
   ⟨0x140310, 1, 1, 0, .domain, Req.HFO, Req.HB, .set, 0, .any⟩,
   ⟨0x140401, 1, 1, 0, .u32, Req.HFGO, 0, .set, 0, .any⟩,
   ⟨0x140402, 1, 1, 0, .u16, Req.HFGO, 0, .set, 0, .any⟩,
   ⟨0x140403, 1, 1, 0, .u8, Req.HFO, Req.HB, .set, 0, (.mask 3)⟩,
   ⟨0x140404, 1, 1, 0, .u32, Req.HFO, Req.HB, .set, 0, .any⟩,
   ⟨0x140410, 1, 1, 0, .domain, Req.HFO, 0, .set, 0, .any⟩,
   ⟨0x140501, 1, 1, 0, .u32, Req.HFGO, 0, .set, 0, .any⟩,
   ⟨0x140502, 1, 1, 0, .u16, Req.HFGO, 0, .set, 0, .any⟩,
   ⟨0x140503, 1, 1, 0, .u8, Req.HFO, Req.HB, .set, 0, (.mask 3)⟩,
   ⟨0x140504, 1, 1, 0, .u32, Req.HFO, Req.HB, .set, 0, .any⟩,
   ⟨0x140510, 1, 1, 0, .domain, Req.HFO, 0, .set, 0, .any⟩,
   ⟨0x140601, 1, 1, 0, .u32, Req.HFGO, 0, .set, 0, .any⟩,
   ⟨0x140602, 1, 1, 0, .u16, Req.HFGO, 0, .set, 0, .any⟩,
   ⟨0x140603, 1, 1, 0, .u8, Req.HFO, Req.HB, .set, 0, (.mask 3)⟩,
   ⟨0x140604, 1, 1, 0, .u32, Req.HFO, Req.HB, .set, 0, .any⟩,
   ⟨0x140610, 1, 1, 0, .domain, Req.HFO, Req.HB, .set, 0, .any⟩,
   ⟨0x140701, 1, 1, 0, .u32, Req.HFGO, 0, .set, 0, .any⟩,
   ⟨0x140702, 1, 1, 0, .u16, Req.HFGO, 0, .set, 0, .any⟩,
   ⟨0x140703, 1, 1, 0, .u8, Req.HFO, Req.HB, .set, 0, (.mask 3)⟩,
   ⟨0x140704, 1, 1, 0, .u32, Req.HFO, Req.HB, .set, 0, .any⟩,
   ⟨0x140710, 1, 1, 0, .domain, Req.HFO, Req.HB, .set, 0, .any⟩,
   ⟨0x140801, 1, 1, 0, .u32, Req.HFGO, 0, .set, 0, .any⟩,
   ⟨0x140802, 1, 1, 0, .u16, Req.HFGO, 0, .set, 0, .any⟩,
   ⟨0x140803, 1, 1, 0, .u8, Req.HFO, Req.HB, .set, 0, (.mask 3)⟩,
   ⟨0x140804, 1, 1, 0, .u32, Req.HFO, Req.HB, .set, 0, .any⟩,
   ⟨0x140810, 1, 1, 0, .domain, Req.HFO, 0, .set, 0, .any⟩,
   ⟨0x150001, 1, 1, 0, .u32, Req.HFGO, 0, .set, 0, .any⟩,
   ⟨0x150002, 1, 1, 0, .u16, Req.HFGO, 0, .set, 0, .any⟩,
   ⟨0x150003, 1, 1, 0, .u8, Req.HFO, Req.HB, .set, 0, (.mask 3)⟩,
   ⟨0x150004, 1, 1, 0, .u32, Req.HFO, Req.HB, .set, 0, .any⟩,
   ⟨0x150010, 1, 1, 0, .domain, Req.HFO, Req.H, .set, 0, .any⟩,
   ⟨0x150101, 1, 1, 0, .u32, Req.HFGO, 0, .set, 0, .any⟩,
   ⟨0x150102, 1, 1, 0, .u16, Req.HFGO, 0, .set, 0, .any⟩,
   ⟨0x150103, 1, 1, 0, .u8, Req.HFO, Req.HB, .set, 0, (.mask 3)⟩,
   ⟨0x150104, 1, 1, 0, .u32, Req.HFO, Req.HB, .set, 0, .any⟩,
   ⟨0x150110, 1, 1, 0, .domain, Req.HFO, Req.H, .set, 0, .any⟩,
   ⟨0x150201, 1, 1, 0, .u32, Req.HFGO, 0, .set, 0, .any⟩,
   ⟨0x150202, 1, 1, 0, .u16, Req.HFGO, 0, .set, 0, .any⟩,
   ⟨0x150203, 1, 1, 0, .u8, Req.HFO, Req.HB, .set, 0, (.mask 3)⟩,
   ⟨0x150204, 1, 1, 0, .u32, Req.HFO, Req.HB, .set, 0, .any⟩,
   ⟨0x150210, 1, 1, 0, .domain, Req.HO, Req.HO, .set, 0, .any⟩,
   ⟨0x160001, 64, 1, 0, .u32, Req.HFGO, 0, .set, 0, .any⟩,
   ⟨0x160002, 64, 1, 0, .u16, Req.HFGO, 0, .set, 0, .any⟩]

/-- Objects of spec/02_object_dictionary.md.  -/
def sideRows02d : List ObjRow :=
  [⟨0x160003, 64, 1, 0, .u8, Req.HFO, Req.HB, .set, 0, (.mask 3)⟩,
   ⟨0x160004, 64, 1, 0, .u32, Req.HFO, Req.HB, .set, 0, .any⟩,
   ⟨0x160010, 64, 1, 0, .domain, Req.HFO, Req.HB, .set, 0, .any⟩,
   ⟨0x170001, 1, 1, 0, .u32, Req.HFGO, 0, .set, 0, .any⟩,
   ⟨0x170002, 1, 1, 0, .u16, Req.HFGO, 0, .set, 0, .any⟩,
   ⟨0x170003, 1, 1, 0, .u8, Req.HFO, Req.HB, .set, 0, (.mask 3)⟩,
   ⟨0x170004, 1, 1, 0, .u32, Req.HFO, Req.HB, .set, 0, .any⟩,
   ⟨0x170010, 1, 1, 0, .domain, Req.HFO, 0, .set, 0, .any⟩,
   ⟨0x180001, 1, 1, 0, .u32, Req.HFGO, 0, .set, 0, .any⟩,
   ⟨0x180002, 1, 1, 0, .u16, Req.HFGO, 0, .set, 0, .any⟩,
   ⟨0x180003, 1, 1, 0, .u8, Req.HFO, Req.HB, .set, 0, (.mask 3)⟩,
   ⟨0x180004, 1, 1, 0, .u32, Req.HFO, Req.HB, .set, 0, .any⟩,
   ⟨0x180010, 1, 1, 0, .domain, Req.HFO, Req.HB, .set, 0, .any⟩,
   ⟨0x180101, 1, 1, 0, .u32, Req.HFGO, 0, .set, 0, .any⟩,
   ⟨0x180102, 1, 1, 0, .u16, Req.HFGO, 0, .set, 0, .any⟩,
   ⟨0x180103, 1, 1, 0, .u8, Req.HFO, Req.HB, .set, 0, (.mask 3)⟩,
   ⟨0x180104, 1, 1, 0, .u32, Req.HFO, Req.HB, .set, 0, .any⟩,
   ⟨0x180110, 1, 1, 0, .domain, Req.HFO, 0, .set, 0, .any⟩,
   ⟨0x180201, 1, 1, 0, .u32, Req.HFGO, 0, .set, 0, .any⟩,
   ⟨0x180202, 1, 1, 0, .u16, Req.HFGO, 0, .set, 0, .any⟩,
   ⟨0x180203, 1, 1, 0, .u8, Req.HFO, Req.HB, .set, 0, (.mask 3)⟩,
   ⟨0x180204, 1, 1, 0, .u32, Req.HFO, Req.HB, .set, 0, .any⟩,
   ⟨0x180210, 1, 1, 0, .domain, Req.HFO, 0, .set, 0, .any⟩]

/-- Objects of spec/02_object_dictionary.md. Device level. -/
def devRows02 : List ObjRow :=
  [⟨0x130201, 1, 1, 0, .u64, Req.H, Req.H, .set, 0, (.mask 0xFFFFFFFF80FFFFFF)⟩,
   ⟨0x130301, 1, 1, 0, .u64, Req.H, Req.H, .set, 0, (.mask 0xFFFFFFFF80FFFFFF)⟩,
   ⟨0x132001, 32, 1, 0, .u32, Req.H, Req.H, .set, 0, (.mask 0xFFFFFF00)⟩,
   ⟨0x132002, 32, 1, 0, .u32, Req.H, Req.H, .set, 0, .any⟩,
   ⟨0x132003, 32, 1, 0, .u32, Req.H, 0, .set, 0, .any⟩,
   ⟨0x118001, 1, 1, 0, .domain, Req.HFO, Req.HF, .set, 0, .any⟩,
   ⟨0x118002, 1, 1, 0, .enum8, Req.HFO, Req.HF, .trig, 0, .any⟩,
   ⟨0x118003, 1, 1, 0, .enum8, Req.HFO, 0, .set, 0, .any⟩,
   ⟨0x118101, 1, 1, 0, .u32, Req.HFGO, 0, .set, 0, .any⟩,
   ⟨0x118102, 1, 1, 0, .u64, Req.HFGO, 0, .set, 0, .any⟩,
   ⟨0x118103, 1, 1, 0, .u32, Req.HFGO, Req.H, .set, 0, .counter⟩,
   ⟨0x118104, 1, 1, 0, .u32, Req.HFGO, Req.H, .set, 0, .counter⟩,
   ⟨0x118201, 1, 4, 4, (.octets 32), Req.HFGO, 0, .set, 0, .any⟩,
   ⟨0x148001, 1, 1, 0, .u32, Req.HFGO, 0, .set, 0, .any⟩,
   ⟨0x148002, 1, 1, 0, .u16, Req.HFGO, 0, .set, 0, .any⟩,
   ⟨0x148003, 1, 1, 0, .u8, Req.HFO, Req.HB, .set, 0, (.mask 3)⟩,
   ⟨0x148004, 1, 1, 0, .u32, Req.HFO, Req.HB, .set, 0, .any⟩,
   ⟨0x148010, 1, 1, 0, .domain, Req.HFO, Req.HB, .set, 0, .any⟩,
   ⟨0x148101, 1, 1, 0, .u32, Req.HFGO, 0, .set, 0, .any⟩,
   ⟨0x148102, 1, 1, 0, .u16, Req.HFGO, 0, .set, 0, .any⟩,
   ⟨0x148103, 1, 1, 0, .u8, Req.HFO, Req.HB, .set, 0, (.mask 3)⟩,
   ⟨0x148104, 1, 1, 0, .u32, Req.HFO, Req.HB, .set, 0, .any⟩,
   ⟨0x148110, 1, 1, 0, .domain, Req.HFO, 0, .set, 0, .any⟩,
   ⟨0x148201, 1, 1, 0, .u32, Req.HFGO, 0, .set, 0, .any⟩,
   ⟨0x148202, 1, 1, 0, .u16, Req.HFGO, 0, .set, 0, .any⟩,
   ⟨0x148203, 1, 1, 0, .u8, Req.HFO, Req.HB, .set, 0, (.mask 3)⟩,
   ⟨0x148204, 1, 1, 0, .u32, Req.HFO, Req.HB, .set, 0, .any⟩,
   ⟨0x148210, 1, 1, 0, .domain, Req.HFO, 0, .set, 0, .any⟩]

/-- Objects of spec/03_ports_and_mac.md.  -/
def sideRows03 : List ObjRow :=
  [⟨0x10001, 64, 1, 0, .enum8, Req.HFO, Req.HB, .set, 0, (.upto 7)⟩,
   ⟨0x10002, 64, 1, 0, .enum8, Req.HFO, Req.HB, .set, 0, (.upto 2)⟩,
   ⟨0x10003, 64, 1, 0, .bool, Req.HFO, Req.HB, .set, 0, .any⟩,
   ⟨0x10004, 64, 1, 0, .bool, Req.HFO, Req.HB, .set, 1, .any⟩,
   ⟨0x10005, 64, 1, 0, .enum8, Req.HFO, Req.HB, .set, 0, (.upto 3)⟩,
   ⟨0x10006, 64, 1, 0, .u16, Req.HFO, Req.HB, .set, 64, (.mask 0x00FC)⟩,
   ⟨0x10007, 64, 1, 0, .u16, Req.HFO, Req.HB, .set, 9216, (.range 64 9216)⟩,
   ⟨0x10008, 64, 1, 0, .u16, Req.HFO, Req.HB, .set, 9262, (.range 64 9262)⟩,
   ⟨0x10009, 64, 1, 0, .enum8, Req.HFO, Req.HB, .set, 0, (.upto 2)⟩,
   ⟨0x1000A, 64, 1, 0, .u8, Req.HFO, Req.HB, .set, 0, .any⟩,
   ⟨0x1000B, 64, 1, 0, .u16, Req.HFO, Req.HB, .set, 100, (.range 1 10000)⟩,
   ⟨0x1000C, 64, 1, 0, .u16, Req.HFO, Req.HB, .set, 1000, (.range 1 10000)⟩,
   ⟨0x1000D, 64, 1, 0, .u16, Req.HFO, Req.HB, .set, 2000, (.upto 8000)⟩,
   ⟨0x1000E, 64, 1, 0, .u16, Req.HFO, Req.HB, .set, 10, (.upto 1000)⟩,
   ⟨0x1000F, 64, 1, 0, .u16, Req.HFO, Req.HB, .set, 65535, (.range 1 65535)⟩,
   ⟨0x10010, 64, 1, 0, .u32, Req.HFO, Req.HB, .set, 552, (.mask 0x000F073F)⟩,
   ⟨0x10011, 64, 1, 0, .enum8, Req.HFO, Req.HB, .set, 0, (.upto 1)⟩,
   ⟨0x10018, 64, 1, 0, .bool, Req.HFO, Req.HB, .set, 0, .any⟩,
   ⟨0x10019, 64, 1, 0, .enum8, Req.HFO, Req.HB, .set, 2, (.upto 2)⟩,
   ⟨0x1001A, 64, 1, 0, .bool, Req.HFO, Req.HB, .set, 1, .any⟩,
   ⟨0x1001B, 64, 1, 0, .enum8, Req.HFO, Req.HB, .set, 0, (.upto 2)⟩,
   ⟨0x1001C, 64, 1, 0, .u8, Req.HFO, Req.HB, .set, 0, (.upto 1)⟩,
   ⟨0x2001, 1, 1, 0, .u8, Req.HFO, Req.HB, .set, 255, .upTo63or255⟩,
   ⟨0x14001, 64, 1, 0, .enum8, Req.HFO, 0, .set, 0, .any⟩,
   ⟨0x14002, 64, 1, 0, .u32, Req.HFO, 0, .set, 0, .any⟩,
   ⟨0x14003, 64, 1, 0, .u16, Req.HFO, 0, .set, 0, .any⟩,
   ⟨0x14004, 64, 1, 0, .u16, Req.HFO, 0, .set, 0, .any⟩,
   ⟨0x14005, 64, 1, 0, .u8, Req.HFO, 0, .set, 0, .any⟩,
   ⟨0x14006, 64, 1, 0, .u8, Req.HFO, 0, .set, 0, .any⟩,
   ⟨0x14007, 64, 1, 0, .u8, Req.HFO, 0, .set, 0, .any⟩,
   ⟨0x14008, 64, 1, 0, .u16, Req.HFO, 0, .set, 0, .any⟩,
   ⟨0x14009, 64, 1, 0, .u64, Req.HFO, 0, .set, 0, .any⟩,
   ⟨0x1400A, 64, 1, 0, .u32, Req.HFO, Req.H, .set, 0, .counter⟩,
   ⟨0x1400B, 64, 1, 0, .u16, Req.HFO, 0, .set, 0, .any⟩,
   ⟨0x10020, 64, 4, 4, .u64, Req.HFO, Req.HB, .set, 0, .any⟩,
   ⟨0x10021, 64, 4, 4, .enum8, Req.HFO, Req.HB, .set, 0, (.upto 3)⟩,
   ⟨0x10022, 64, 4, 4, .u8, Req.HFO, Req.HB, .set, 1, (.mask 0x07)⟩,
   ⟨0x10023, 64, 4, 4, .u32, Req.HFO, Req.HB, .set, 0, .any⟩,
   ⟨0x10040, 64, 8, 16, .bool, Req.HFO, Req.HB, .set, 0, .any⟩,
   ⟨0x10041, 64, 8, 16, .u8, Req.HFO, Req.HB, .set, 0, (.upto 3)⟩,
   ⟨0x10042, 64, 8, 16, .u64, Req.HFO, Req.HB, .set, 1, .any⟩,
   ⟨0x10043, 64, 8, 16, (.octets 32), 0, Req.HB, .set, 0, .any⟩,
   ⟨0x10047, 64, 8, 16, (.octets 12), 0, Req.HB, .set, 0, .any⟩,
   ⟨0x10049, 64, 8, 16, .u32, 0, Req.HB, .set, 0, .any⟩,
   ⟨0x1C001, 64, 1, 0, .bool, Req.HFO, Req.HB, .set, 0, .any⟩]

/-- Objects of spec/03_ports_and_mac.md.  -/
def sideRows03b : List ObjRow :=
  [⟨0x1C002, 64, 1, 0, .enum8, Req.HFO, Req.HB, .set, 0, (.upto 1)⟩,
   ⟨0x1C003, 64, 1, 0, .enum8, Req.HFO, Req.HB, .set, 0, (.upto 3)⟩,
   ⟨0x1C004, 64, 1, 0, .u8, Req.HFO, Req.HB, .set, 0, (.mask 0x0F)⟩,
   ⟨0x1C010, 64, 4, 8, .u8, Req.HFO, Req.HB, .set, 0, (.upto 80)⟩,
   ⟨0x1C011, 64, 4, 8, .u64, Req.HFO, Req.HB, .set, 0, (.mask 0xFFFFFFFFFFFF)⟩,
   ⟨0x1C012, 64, 4, 8, (.octets 48), Req.HFO, Req.HB, .set, 0, .any⟩,
   ⟨0x1C030, 64, 1, 0, .u8, Req.HFO, Req.HB, .w1c, 0, (.mask 0x1F)⟩,
   ⟨0x1C031, 64, 1, 0, .u64, Req.HFO, 0, .set, 0, .any⟩,
   ⟨0x18001, 64, 1, 0, .u64, Req.HFO, Req.H, .set, 0, .counter⟩,
   ⟨0x18002, 64, 1, 0, .u64, Req.HFO, Req.H, .set, 0, .counter⟩,
   ⟨0x18003, 64, 1, 0, .u64, Req.HFO, Req.H, .set, 0, .counter⟩,
   ⟨0x18004, 64, 1, 0, .u64, Req.HFO, Req.H, .set, 0, .counter⟩,
   ⟨0x18005, 64, 1, 0, .u64, Req.HFO, Req.H, .set, 0, .counter⟩,
   ⟨0x18006, 64, 1, 0, .u64, Req.HFO, Req.H, .set, 0, .counter⟩,
   ⟨0x18007, 64, 1, 0, .u64, Req.HFO, Req.H, .set, 0, .counter⟩,
   ⟨0x18008, 64, 1, 0, .u64, Req.HFO, Req.H, .set, 0, .counter⟩,
   ⟨0x18009, 64, 1, 0, .u64, Req.HFO, Req.H, .set, 0, .counter⟩,
   ⟨0x1800A, 64, 1, 0, .u64, Req.HFO, Req.H, .set, 0, .counter⟩,
   ⟨0x1800B, 64, 1, 0, .u64, Req.HFO, Req.H, .set, 0, .counter⟩,
   ⟨0x1800C, 64, 1, 0, .u64, Req.HFO, Req.H, .set, 0, .counter⟩,
   ⟨0x1800D, 64, 1, 0, .u64, Req.HFO, Req.H, .set, 0, .counter⟩,
   ⟨0x1800E, 64, 1, 0, .u64, Req.HFO, Req.H, .set, 0, .counter⟩,
   ⟨0x1800F, 64, 1, 0, .u64, Req.HFO, Req.H, .set, 0, .counter⟩,
   ⟨0x18010, 64, 1, 0, .u64, Req.HFO, Req.H, .set, 0, .counter⟩,
   ⟨0x18011, 64, 1, 0, .u64, Req.HFO, Req.H, .set, 0, .counter⟩,
   ⟨0x18012, 64, 1, 0, .u64, Req.HFO, Req.H, .set, 0, .counter⟩,
   ⟨0x18013, 64, 1, 0, .u64, Req.HFO, Req.H, .set, 0, .counter⟩,
   ⟨0x18014, 64, 1, 0, .u64, Req.HFO, Req.H, .set, 0, .counter⟩,
   ⟨0x18015, 64, 1, 0, .u64, Req.HFO, Req.H, .set, 0, .counter⟩,
   ⟨0x18016, 64, 1, 0, .u64, Req.HFO, Req.H, .set, 0, .counter⟩,
   ⟨0x18017, 64, 1, 0, .u64, Req.HFO, Req.H, .set, 0, .counter⟩,
   ⟨0x18018, 64, 1, 0, .u64, Req.HFO, Req.H, .set, 0, .counter⟩,
   ⟨0x18019, 64, 1, 0, .u64, Req.HFO, Req.H, .set, 0, .counter⟩,
   ⟨0x1801A, 64, 1, 0, .u64, Req.HFO, Req.H, .set, 0, .counter⟩,
   ⟨0x1801B, 64, 1, 0, .u64, Req.HFO, Req.H, .set, 0, .counter⟩,
   ⟨0x1801C, 64, 1, 0, .u64, Req.HFO, Req.H, .set, 0, .counter⟩,
   ⟨0x1801D, 64, 1, 0, .u64, Req.HFO, Req.H, .set, 0, .counter⟩,
   ⟨0x1801E, 64, 1, 0, .u64, Req.HFO, Req.H, .set, 0, .counter⟩,
   ⟨0x1801F, 64, 1, 0, .u64, Req.HFO, Req.H, .set, 0, .counter⟩,
   ⟨0x18020, 64, 1, 0, .u64, Req.HFO, Req.H, .set, 0, .counter⟩,
   ⟨0x18021, 64, 1, 0, .u64, Req.HFO, Req.H, .set, 0, .counter⟩,
   ⟨0x18022, 64, 1, 0, .u64, Req.HFO, Req.H, .set, 0, .counter⟩]

/-- Objects of spec/04_parser.md.  -/
def sideRows04 : List ObjRow :=
  [⟨0x20001, 1, 2, 16, .u16, Req.HFO, Req.HB, .set, 0, (.zeroOr 0x600 0xFFFF)⟩,
   ⟨0x20002, 1, 2, 16, .u16, Req.HFO, Req.HB, .set, 0, (.zeroOr 0x600 0xFFFF)⟩,
   ⟨0x20003, 1, 2, 16, .u16, Req.HFO, Req.HB, .set, 61889, (.range 0x600 0xFFFF)⟩,
   ⟨0x20004, 1, 2, 16, .u32, Req.HFO, Req.HB, .set, 0, .any⟩,
   ⟨0x20020, 1, 1, 0, .enum8, Req.HFO, Req.HB, .trig, 0, .any⟩,
   ⟨0x20101, 1, 1, 0, .u64, Req.HFO, Req.H, .set, 0, .counter⟩,
   ⟨0x20102, 1, 1, 0, .u64, Req.HFO, Req.H, .set, 0, .counter⟩,
   ⟨0x20103, 1, 1, 0, .u64, Req.HFO, Req.H, .set, 0, .counter⟩,
   ⟨0x20104, 1, 1, 0, .u64, Req.HFO, Req.H, .set, 0, .counter⟩,
   ⟨0x20105, 1, 1, 0, .u64, Req.HFO, Req.H, .set, 0, .counter⟩,
   ⟨0x20106, 1, 1, 0, .u64, Req.HFO, Req.H, .set, 0, .counter⟩,
   ⟨0x20107, 1, 1, 0, .u64, Req.HFO, Req.H, .set, 0, .counter⟩,
   ⟨0x20108, 1, 1, 0, .u64, Req.HFO, Req.H, .set, 0, .counter⟩,
   ⟨0x20109, 1, 1, 0, .u64, Req.HFO, Req.H, .set, 0, .counter⟩,
   ⟨0x2010A, 1, 1, 0, .u64, Req.HFO, Req.H, .set, 0, .counter⟩,
   ⟨0x2010B, 1, 1, 0, .u64, Req.HFO, Req.H, .set, 0, .counter⟩,
   ⟨0x2010C, 1, 1, 0, .u64, Req.HFO, Req.H, .set, 0, .counter⟩,
   ⟨0x2010D, 1, 1, 0, .u64, Req.HFO, Req.H, .set, 0, .counter⟩]

/-- Objects of spec/05_associative_search.md.  -/
def sideRows05 : List ObjRow :=
  [⟨0x32001, 32, 1, 0, .enum8, Req.HFO, Req.HB, .set, 0, (.upto 3)⟩,
   ⟨0x32002, 32, 1, 0, .enum8, Req.HFO, Req.HB, .set, 0, (.upto 2)⟩,
   ⟨0x32003, 32, 1, 0, .bool, Req.HFO, Req.HB, .set, 1, .any⟩,
   ⟨0x32004, 32, 1, 0, .u16, Req.HFO, 0, .set, 0, .any⟩,
   ⟨0x32005, 32, 1, 0, .u16, Req.HFO, 0, .set, 0, .any⟩,
   ⟨0x32006, 32, 1, 0, .u16, Req.HFO, 0, .set, 0, .any⟩,
   ⟨0x32007, 32, 1, 0, .enum8, Req.HFO, 0, .set, 0, .any⟩,
   ⟨0x30201, 1, 1, 0, .u16, Req.HFO, Req.HB, .set, 0, .any⟩,
   ⟨0x30202, 1, 1, 0, .u16, Req.HFO, Req.HB, .set, 0, .any⟩,
   ⟨0x30203, 1, 1, 0, .enum8, Req.HFO, Req.HB, .set, 0, (.upto 1)⟩,
   ⟨0x30204, 1, 1, 0, .bool, Req.HFO, Req.HB, .set, 0, .any⟩,
   ⟨0x30205, 1, 1, 0, .u8, Req.HFO, Req.HB, .set, 0, (.mask 3)⟩,
   ⟨0x30206, 1, 1, 0, (.octets 176), Req.HFO, Req.HB, .set, 0, .any⟩,
   ⟨0x30220, 1, 1, 0, .enum8, Req.HFO, Req.HB, .trig, 0, .any⟩,
   ⟨0x30301, 1, 1, 0, .u32, Req.HFO, 0, .set, 0, .any⟩,
   ⟨0x30302, 1, 1, 0, .u32, Req.HFO, 0, .set, 0, .any⟩,
   ⟨0x30303, 1, 1, 0, .u64, Req.HFO, Req.H, .set, 0, (.mask 0xFFFFFFFFFF00FFFF)⟩,
   ⟨0x30801, 4, 1, 0, .u8, Req.HO, Req.HO, .set, 0, .any⟩,
   ⟨0x30802, 4, 1, 0, .u8, Req.HO, Req.HO, .set, 0, (.upto 3)⟩,
   ⟨0x30803, 4, 1, 0, .enum8, Req.HO, Req.HO, .set, 0, (.upto 1)⟩,
   ⟨0x30804, 4, 1, 0, (.octets 80), Req.HO, Req.HO, .set, 0, .any⟩,
   ⟨0x3080E, 4, 1, 0, .enum8, Req.HO, Req.HO, .trig, 0, .any⟩,
   ⟨0x3080F, 4, 1, 0, .u64, Req.HO, 0, .set, 0, .any⟩,
   ⟨0x30810, 4, 1, 0, .u64, Req.HO, 0, .set, 0, .any⟩,
   ⟨0x30001, 1, 1, 0, .u32, Req.HFO, Req.HB, .set, 100, (.range 20 200)⟩,
   ⟨0x30002, 1, 1, 0, .enum8, Req.HFO, Req.HB, .trig, 0, .any⟩,
   ⟨0x30101, 1, 1, 0, .u64, Req.HFO, Req.H, .set, 0, .counter⟩,
   ⟨0x30102, 1, 1, 0, .u64, Req.HFO, Req.H, .set, 0, .counter⟩,
   ⟨0x30103, 1, 1, 0, .u64, Req.HFO, Req.H, .set, 0, .counter⟩,
   ⟨0x30104, 1, 1, 0, .u64, Req.HFO, Req.H, .set, 0, .counter⟩,
   ⟨0x30105, 1, 1, 0, .u64, Req.HFO, Req.H, .set, 0, .counter⟩,
   ⟨0x30106, 1, 1, 0, .u64, Req.HFO, Req.H, .set, 0, .counter⟩,
   ⟨0x30107, 1, 1, 0, .u64, Req.HFO, Req.H, .set, 0, .counter⟩,
   ⟨0x30108, 1, 1, 0, .u64, Req.HFO, Req.H, .set, 0, .counter⟩,
   ⟨0x30109, 1, 1, 0, .u64, Req.HFO, Req.H, .set, 0, .counter⟩,
   ⟨0x3010A, 1, 1, 0, .u64, Req.HFO, Req.H, .set, 0, .counter⟩,
   ⟨0x3010B, 1, 1, 0, .u64, Req.HFO, Req.H, .set, 0, .counter⟩,
   ⟨0x3010C, 1, 1, 0, .u64, Req.HFO, Req.H, .set, 0, .counter⟩,
   ⟨0x3010D, 1, 1, 0, .u64, Req.HFO, Req.H, .set, 0, .counter⟩,
   ⟨0x3010E, 1, 1, 0, .u64, Req.HFO, Req.H, .set, 0, .counter⟩,
   ⟨0x3010F, 1, 1, 0, .u64, Req.HFO, Req.H, .set, 0, .counter⟩]

/-- Objects of spec/06_station_tables.md.  -/
def sideRows06 : List ObjRow :=
  [⟨0x40201, 1, 1, 0, .enum8, Req.HFO, Req.HB, .trig, 0, .any⟩,
   ⟨0x40202, 1, 1, 0, (.octets 24), Req.HFO, Req.HB, .set, 0, .any⟩,
   ⟨0x40205, 1, 1, 0, .u32, Req.HFO, Req.HB, .set, 0, .any⟩,
   ⟨0x40206, 1, 1, 0, .u64, Req.HFO, Req.HB, .set, 0, (.mask 0xFFFFFFFFFC000000)⟩,
   ⟨0x40207, 1, 1, 0, .u32, Req.HFO, 0, .set, 0, .any⟩,
   ⟨0x40401, 1, 1, 0, .u64, Req.HFO, 0, .set, 0, .any⟩,
   ⟨0x40402, 1, 1, 0, .u16, Req.HFO, 0, .set, 0, .any⟩,
   ⟨0x40403, 1, 1, 0, .enum8, Req.HFO, Req.HO, .trig, 0, .any⟩,
   ⟨0x40404, 1, 1, 0, .u8, Req.HFO, 0, .set, 0, .any⟩,
   ⟨0x40001, 1, 1, 0, .u16, Req.HFO, Req.HB, .set, 0, (.upto 4095)⟩,
   ⟨0x40002, 1, 1, 0, .u32, Req.HFO, Req.HB, .set, 300, (.range 1 604800)⟩,
   ⟨0x40003, 1, 1, 0, .u32, Req.HFO, Req.HB, .set, 324508639, .any⟩,
   ⟨0x40004, 1, 1, 0, .u32, Req.HFO, Req.HB, .set, 610839776, .any⟩,
   ⟨0x40005, 1, 1, 0, .u8, Req.HFO, Req.HB, .set, 0, (.upto 3)⟩,
   ⟨0x40006, 1, 1, 0, .u8, Req.HFO, Req.HB, .set, 5, (.range 1 31)⟩,
   ⟨0x40007, 1, 1, 0, .u16, Req.HFO, Req.HB, .set, 1000, (.range 1 60000)⟩,
   ⟨0x40008, 1, 1, 0, .u32, Req.HFO, Req.HB, .set, 60, (.upto 86400)⟩,
   ⟨0x40009, 1, 1, 0, .enum8, Req.HFO, Req.HB, .set, 0, (.upto 1)⟩,
   ⟨0x4000A, 1, 1, 0, .mac48, Req.HFO, Req.HB, .set, 3613342564353, .any⟩,
   ⟨0x4000B, 1, 1, 0, .u16, Req.HFO, Req.HB, .set, 0, (.upto 4094)⟩,
   ⟨0x4000C, 1, 1, 0, .u16, Req.HFO, Req.HB, .set, 200, (.range 10 10000)⟩,
   ⟨0x4000D, 1, 1, 0, .u16, Req.HFO, Req.HB, .set, 20, (.range 1 1000)⟩,
   ⟨0x4000E, 1, 1, 0, .enum8, Req.HFO, Req.HB, .trig, 0, .any⟩,
   ⟨0x4000F, 1, 1, 0, .u32, Req.HFO, 0, .set, 0, .any⟩,
   ⟨0x40010, 1, 1, 0, .u8, Req.HFO, 0, .set, 0, .any⟩,
   ⟨0x40011, 1, 1, 0, .enum8, Req.HFO, Req.HB, .trig, 0, .any⟩,
   ⟨0x44001, 64, 1, 0, .enum8, Req.HFO, Req.HB, .set, 0, (.upto 2)⟩,
   ⟨0x44002, 64, 1, 0, .u16, Req.HFO, Req.HB, .set, 1, (.range 1 4094)⟩,
   ⟨0x44003, 64, 1, 0, .bool, Req.HFO, Req.HB, .set, 1, .any⟩,
   ⟨0x44004, 64, 1, 0, .u32, Req.HFO, Req.HB, .set, 262144, (.upto 262144)⟩,
   ⟨0x44005, 64, 1, 0, .u8, Req.HFO, Req.HB, .set, 255, .any⟩,
   ⟨0x44006, 64, 1, 0, .bool, Req.HFO, Req.HB, .set, 1, .any⟩,
   ⟨0x44007, 64, 1, 0, .bool, Req.HFO, Req.HB, .set, 0, .any⟩,
   ⟨0x44008, 64, 1, 0, .u32, Req.HFO, 0, .set, 0, .any⟩,
   ⟨0x40101, 1, 1, 0, .u64, Req.HFO, Req.H, .set, 0, .counter⟩,
   ⟨0x40102, 1, 1, 0, .u64, Req.HFO, Req.H, .set, 0, .counter⟩,
   ⟨0x40103, 1, 1, 0, .u64, Req.HFO, Req.H, .set, 0, .counter⟩,
   ⟨0x40104, 1, 1, 0, .u64, Req.HFO, Req.H, .set, 0, .counter⟩,
   ⟨0x40105, 1, 1, 0, .u64, Req.HFO, Req.H, .set, 0, .counter⟩,
   ⟨0x40106, 1, 1, 0, .u64, Req.HFO, Req.H, .set, 0, .counter⟩,
   ⟨0x40107, 1, 1, 0, .u64, Req.HFO, Req.H, .set, 0, .counter⟩,
   ⟨0x40108, 1, 1, 0, .u64, Req.HFO, Req.H, .set, 0, .counter⟩,
   ⟨0x40109, 1, 1, 0, .u64, Req.HFO, Req.H, .set, 0, .counter⟩,
   ⟨0x4010A, 1, 1, 0, .u64, Req.HFO, Req.H, .set, 0, .counter⟩,
   ⟨0x4010B, 1, 1, 0, .u64, Req.HFO, Req.H, .set, 0, .counter⟩]

/-- Objects of spec/06_station_tables.md.  -/
def sideRows06b : List ObjRow :=
  [⟨0x4010C, 1, 1, 0, .u64, Req.HFO, Req.H, .set, 0, .counter⟩,
   ⟨0x4010D, 1, 1, 0, .u64, Req.HFO, Req.H, .set, 0, .counter⟩,
   ⟨0x4010E, 1, 1, 0, .u64, Req.HFO, Req.H, .set, 0, .counter⟩,
   ⟨0x4010F, 1, 1, 0, .u64, Req.HFO, Req.H, .set, 0, .counter⟩,
   ⟨0x40110, 1, 1, 0, .u64, Req.HFO, Req.H, .set, 0, .counter⟩,
   ⟨0x40111, 1, 1, 0, .u64, Req.HFO, Req.H, .set, 0, .counter⟩,
   ⟨0x40112, 1, 1, 0, .u64, Req.HFO, Req.H, .set, 0, .counter⟩,
   ⟨0x40113, 1, 1, 0, .u64, Req.HFO, Req.H, .set, 0, .counter⟩,
   ⟨0x40114, 1, 1, 0, .u64, Req.HFO, Req.H, .set, 0, .counter⟩,
   ⟨0x40115, 1, 1, 0, .u64, Req.HFO, Req.H, .set, 0, .counter⟩,
   ⟨0x40116, 1, 1, 0, .u64, Req.HFO, Req.H, .set, 0, .counter⟩,
   ⟨0x40117, 1, 1, 0, .u64, Req.HFO, Req.H, .set, 0, .counter⟩,
   ⟨0x40118, 1, 1, 0, .u64, Req.HFO, Req.H, .set, 0, .counter⟩,
   ⟨0x40119, 1, 1, 0, .u64, Req.HFO, Req.H, .set, 0, .counter⟩,
   ⟨0x4011A, 1, 1, 0, .u64, Req.HFO, Req.H, .set, 0, .counter⟩,
   ⟨0x4011B, 1, 1, 0, .u64, Req.HFO, Req.H, .set, 0, .counter⟩,
   ⟨0x4011C, 1, 1, 0, .u64, Req.HFO, Req.H, .set, 0, .counter⟩,
   ⟨0x4011D, 1, 1, 0, .u64, Req.HFO, Req.H, .set, 0, .counter⟩,
   ⟨0x4011E, 1, 1, 0, .u64, Req.HFO, Req.H, .set, 0, .counter⟩,
   ⟨0x4011F, 1, 1, 0, .u64, Req.HFO, Req.H, .set, 0, .counter⟩,
   ⟨0x40120, 1, 1, 0, .u64, Req.HFO, Req.H, .set, 0, .counter⟩]

/-- Objects of spec/07_actions_and_epochs.md.  -/
def sideRows07 : List ObjRow :=
  [⟨0x50001, 1, 1, 0, .enum8, Req.HFGO, 0, .set, 0, .any⟩,
   ⟨0x50002, 1, 1, 0, .enum8, Req.HFO, Req.HB, .trig, 0, .any⟩,
   ⟨0x50003, 1, 1, 0, .u64, Req.HFO, Req.HB, .set, 0, .any⟩,
   ⟨0x50004, 1, 1, 0, .bool, Req.HFO, Req.HB, .set, 0, .any⟩,
   ⟨0x50005, 1, 1, 0, .u32, Req.HFO, 0, .set, 0, .any⟩,
   ⟨0x50006, 1, 1, 0, .u32, Req.HFO, 0, .set, 0, .any⟩,
   ⟨0x50007, 1, 1, 0, .u32, Req.HFO, 0, .set, 0, .any⟩,
   ⟨0x50008, 1, 1, 0, .enum8, Req.HFO, Req.HB, .trig, 0, .any⟩,
   ⟨0x50009, 1, 1, 0, .u8, Req.HFO, Req.HB, .set, 255, .any⟩,
   ⟨0x50101, 1, 1, 0, .u64, Req.HFO, Req.H, .set, 0, .counter⟩,
   ⟨0x50102, 1, 1, 0, .u64, Req.HFO, Req.H, .set, 0, .counter⟩,
   ⟨0x50103, 1, 1, 0, .u64, Req.HFO, Req.H, .set, 0, .counter⟩,
   ⟨0x50104, 1, 1, 0, .u64, Req.HFO, Req.H, .set, 0, .counter⟩,
   ⟨0x50105, 1, 1, 0, .u64, Req.HFO, Req.H, .set, 0, .counter⟩,
   ⟨0x50106, 1, 1, 0, .u64, Req.HFO, Req.H, .set, 0, .counter⟩,
   ⟨0x50107, 1, 1, 0, .u64, Req.HFO, Req.H, .set, 0, .counter⟩,
   ⟨0x50108, 1, 1, 0, .u64, Req.HFO, Req.H, .set, 0, .counter⟩,
   ⟨0x50109, 1, 1, 0, .u64, Req.HFO, Req.H, .set, 0, .counter⟩,
   ⟨0x5010A, 1, 1, 0, .u64, Req.HFO, Req.H, .set, 0, .counter⟩,
   ⟨0x5010B, 1, 1, 0, .u64, Req.HFO, Req.H, .set, 0, .counter⟩,
   ⟨0x5010C, 1, 1, 0, .u64, Req.HFO, Req.H, .set, 0, .counter⟩,
   ⟨0x5010D, 1, 1, 0, .u64, Req.HFO, Req.H, .set, 0, .counter⟩,
   ⟨0x5010E, 1, 1, 0, .u64, Req.HFO, Req.H, .set, 0, .counter⟩,
   ⟨0x5010F, 1, 1, 0, .u64, Req.HFO, Req.H, .set, 0, .counter⟩,
   ⟨0x50110, 1, 1, 0, .u64, Req.HFO, Req.H, .set, 0, .counter⟩,
   ⟨0x50111, 1, 1, 0, .u64, Req.HFO, Req.H, .set, 0, .counter⟩,
   ⟨0x50112, 1, 1, 0, .u64, Req.HFO, Req.H, .set, 0, .counter⟩,
   ⟨0x50113, 1, 1, 0, .u64, Req.HFO, Req.H, .set, 0, .counter⟩,
   ⟨0x50114, 1, 1, 0, .u64, Req.HFO, Req.H, .set, 0, .counter⟩]

/-- Objects of spec/08_switch_core.md.  -/
def sideRows08 : List ObjRow :=
  [⟨0x60001, 1, 1, 0, .u32, Req.HFO, Req.HB, .set, 512, (.range 64 4096)⟩,
   ⟨0x60002, 1, 1, 0, .u32, Req.HFO, 0, .set, 0, .any⟩,
   ⟨0x60003, 1, 1, 0, .u32, Req.HFO, 0, .set, 0, .any⟩,
   ⟨0x60004, 1, 1, 0, .u8, Req.HFO, Req.HB, .set, 10, (.range 2 30)⟩,
   ⟨0x60005, 1, 1, 0, .u32, Req.HFO, Req.HB, .set, 1000, (.upto 1000000)⟩,
   ⟨0x60006, 1, 1, 0, .u16, Req.HFO, Req.HB, .set, 128, (.range 36 512)⟩,
   ⟨0x60007, 1, 1, 0, .u32, Req.HFO, 0, .set, 10000000, .any⟩,
   ⟨0x60008, 1, 1, 0, .u32, Req.HFO, 0, .set, 16384, .any⟩,
   ⟨0x60009, 1, 1, 0, .u32, Req.HFO, 0, .set, 196608, .any⟩,
   ⟨0x6000A, 1, 1, 0, .u32, Req.HFO, 0, .set, 0, .any⟩,
   ⟨0x6000B, 1, 1, 0, .u32, Req.HFO, 0, .set, 0, .any⟩,
   ⟨0x6000C, 1, 1, 0, .u32, Req.HFO, 0, .set, 0, .any⟩,
   ⟨0x6000D, 1, 1, 0, .u16, Req.HFO, 0, .set, 0, .any⟩,
   ⟨0x6000E, 1, 1, 0, .u8, Req.HFO, 0, .set, 0, .any⟩,
   ⟨0x6000F, 1, 1, 0, .u8, Req.HFO, 0, .set, 0, .any⟩,
   ⟨0x64001, 64, 1, 0, .bool, Req.HFO, Req.HB, .set, 1, .any⟩,
   ⟨0x64002, 64, 1, 0, .u32, Req.HFO, Req.HB, .set, 384, (.range 1 65535)⟩,
   ⟨0x64003, 64, 1, 0, .u32, Req.HFO, Req.HB, .set, 256, (.upto 65534)⟩,
   ⟨0x64004, 64, 1, 0, .u32, Req.HFO, Req.HB, .set, 0, (.upto 4096)⟩,
   ⟨0x64005, 64, 1, 0, .u32, Req.HFO, 0, .set, 0, .any⟩,
   ⟨0x64010, 64, 8, 4, .u32, Req.HFO, Req.HB, .set, 8, (.upto 16384)⟩,
   ⟨0x64011, 64, 8, 4, .enum8, Req.HFO, Req.HB, .set, 7, (.upto 10)⟩,
   ⟨0x64012, 64, 8, 4, .enum8, Req.HFO, Req.HB, .set, 0, (.upto 2)⟩,
   ⟨0x64013, 64, 8, 4, .u32, Req.HFO, Req.HB, .set, 1024, (.range 1 196608)⟩,
   ⟨0x64030, 64, 8, 1, .u32, Req.HFO, 0, .set, 0, .any⟩,
   ⟨0x68030, 64, 8, 1, .u32, Req.HFGO, 0, .set, 0, .any⟩,
   ⟨0x60101, 1, 1, 0, .u64, Req.HFO, Req.H, .set, 0, .counter⟩,
   ⟨0x60102, 1, 1, 0, .u64, Req.HFO, Req.H, .set, 0, .counter⟩,
   ⟨0x60103, 1, 1, 0, .u64, Req.HFO, Req.H, .set, 0, .counter⟩,
   ⟨0x60104, 1, 1, 0, .u64, Req.HFO, Req.H, .set, 0, .counter⟩,
   ⟨0x60105, 1, 1, 0, .u64, Req.HFO, Req.H, .set, 0, .counter⟩,
   ⟨0x60106, 1, 1, 0, .u64, Req.HFO, Req.H, .set, 0, .counter⟩,
   ⟨0x60107, 1, 1, 0, .u64, Req.HFO, Req.H, .set, 0, .counter⟩,
   ⟨0x60108, 1, 1, 0, .u64, Req.HFO, Req.H, .set, 0, .counter⟩,
   ⟨0x60109, 1, 1, 0, .u64, Req.HFO, Req.H, .set, 0, .counter⟩,
   ⟨0x6010A, 1, 1, 0, .u64, Req.HFO, Req.H, .set, 0, .counter⟩,
   ⟨0x6010B, 1, 1, 0, .u64, Req.HFO, Req.H, .set, 0, .counter⟩,
   ⟨0x6010C, 1, 1, 0, .u64, Req.HFO, Req.H, .set, 0, .counter⟩,
   ⟨0x6010D, 1, 1, 0, .u64, Req.HFO, Req.H, .set, 0, .counter⟩,
   ⟨0x6010E, 1, 1, 0, .u64, Req.HFO, Req.H, .set, 0, .counter⟩,
   ⟨0x6010F, 1, 1, 0, .u64, Req.HFO, Req.H, .set, 0, .counter⟩,
   ⟨0x60110, 1, 1, 0, .u64, Req.HFO, Req.H, .set, 0, .counter⟩,
   ⟨0x60111, 1, 1, 0, .u64, Req.HFO, Req.H, .set, 0, .counter⟩,
   ⟨0x60112, 1, 1, 0, .u64, Req.HFO, Req.H, .set, 0, .counter⟩,
   ⟨0x60113, 1, 1, 0, .u64, Req.HFO, Req.H, .set, 0, .counter⟩]

/-- Objects of spec/08_switch_core.md.  -/
def sideRows08b : List ObjRow :=
  [⟨0x60114, 1, 1, 0, .u64, Req.HFO, Req.H, .set, 0, .counter⟩]

/-- Objects of spec/09_buffer_pools.md.  -/
def sideRows09 : List ObjRow :=
  [⟨0x71001, 1, 1, 0, .enum8, Req.HFO, 0, .set, 0, .any⟩,
   ⟨0x71101, 7, 1, 0, .enum8, Req.HFO, Req.HB, .set, 1, (.upto 2)⟩,
   ⟨0x71002, 1, 1, 0, .u64, Req.HFO, 0, .set, 0, .any⟩,
   ⟨0x71102, 7, 1, 0, .u64, Req.HFO, Req.HB, .set, 0, .any⟩,
   ⟨0x71003, 1, 1, 0, .enum8, Req.HFO, 0, .set, 0, .any⟩,
   ⟨0x71103, 7, 1, 0, .enum8, Req.HFO, Req.HB, .set, 0, (.upto 6)⟩,
   ⟨0x71004, 1, 1, 0, .u32, Req.HFO, 0, .set, 196608, .any⟩,
   ⟨0x71104, 7, 1, 0, .u32, Req.HFO, Req.HB, .set, 0, (.range 1 1900544)⟩,
   ⟨0x71005, 1, 1, 0, .u8, Req.HFO, 0, .set, 0, .any⟩,
   ⟨0x71105, 7, 1, 0, .u8, Req.HFO, Req.HB, .set, 0, (.upto 7)⟩,
   ⟨0x71006, 1, 1, 0, .bool, Req.HFO, 0, .set, 1, .any⟩,
   ⟨0x71106, 7, 1, 0, .bool, Req.HFO, Req.HB, .set, 0, .any⟩,
   ⟨0x71007, 8, 1, 0, .u32, Req.HFO, Req.HB, .set, 0, .any⟩,
   ⟨0x71008, 8, 1, 0, .u64, Req.HFO, 0, .set, 0, .any⟩,
   ⟨0x71009, 8, 1, 0, .u32, Req.HFGO, 0, .set, 0, .any⟩,
   ⟨0x7100A, 8, 1, 0, .u32, Req.HFGO, 0, .set, 0, .any⟩,
   ⟨0x71010, 8, 1, 0, .u64, Req.HFO, Req.H, .set, 0, .counter⟩,
   ⟨0x71011, 8, 1, 0, .u64, Req.HFO, Req.H, .set, 0, .counter⟩,
   ⟨0x71012, 8, 1, 0, .u64, Req.HFO, Req.H, .set, 0, .counter⟩,
   ⟨0x71013, 8, 1, 0, .u64, Req.HFO, Req.H, .set, 0, .counter⟩,
   ⟨0x71014, 8, 1, 0, .u64, Req.HFO, Req.H, .set, 0, .counter⟩,
   ⟨0x71015, 8, 1, 0, .u32, Req.HFO, 0, .set, 0, .any⟩,
   ⟨0x74001, 73, 1, 0, .u8, Req.HGO, Req.H, .set, 254, (.mask 0xFE)⟩,
   ⟨0x74002, 73, 1, 0, .u32, Req.HGO, 0, .set, 0, .any⟩,
   ⟨0x70001, 1, 1, 0, .u8, Req.HFO, 0, .set, 0, .any⟩,
   ⟨0x70101, 1, 1, 0, .u8, Req.HFO, Req.H, .set, 0, (.upto 72)⟩,
   ⟨0x70102, 1, 1, 0, .enum8, Req.HFO, Req.H, .trig, 0, .any⟩,
   ⟨0x70201, 1, 1, 0, .u64, Req.HFO, Req.H, .set, 0, .counter⟩,
   ⟨0x70202, 1, 1, 0, .u64, Req.HFO, Req.H, .set, 0, .counter⟩,
   ⟨0x70203, 1, 1, 0, .u64, Req.HFO, Req.H, .set, 0, .counter⟩,
   ⟨0x70204, 1, 1, 0, .u64, Req.HFO, Req.H, .set, 0, .counter⟩,
   ⟨0x70205, 1, 1, 0, .u64, Req.HFO, Req.H, .set, 0, .counter⟩]

/-- Objects of spec/10_scheduling_and_time.md.  -/
def sideRows10 : List ObjRow :=
  [⟨0x80001, 64, 1, 0, .u8, Req.HFO, Req.HB, .set, 1, (.upto 4)⟩,
   ⟨0x80002, 64, 1, 0, .bool, Req.HFO, Req.HB, .set, 0, .any⟩,
   ⟨0x80003, 64, 1, 0, .u64, Req.HFO, Req.HB, .set, 0, .any⟩,
   ⟨0x80004, 64, 1, 0, .u32, Req.HFO, Req.HB, .set, 1000000, (.range 64 1000000000)⟩,
   ⟨0x80005, 64, 1, 0, .u16, Req.HFO, Req.HB, .set, 0, (.upto 256)⟩,
   ⟨0x80006, 64, 1, 0, .enum8, Req.HFO, Req.HB, .trig, 0, .any⟩,
   ⟨0x80007, 64, 1, 0, .u64, Req.HFO, 0, .set, 0, .any⟩,
   ⟨0x80008, 64, 1, 0, .u8, Req.HFO, 0, .set, 1, .any⟩,
   ⟨0x80009, 64, 1, 0, .bool, Req.HFO, 0, .set, 0, .any⟩,
   ⟨0x8000A, 64, 1, 0, .u64, Req.HFO, 0, .set, 0, .any⟩,
   ⟨0x8000B, 64, 1, 0, .u32, Req.HFO, 0, .set, 1000000, .any⟩,
   ⟨0x8000C, 64, 1, 0, .u16, Req.HFO, 0, .set, 0, .any⟩,
   ⟨0x8000D, 64, 1, 0, .u8, Req.HFO, 0, .set, 0, .any⟩,
   ⟨0x8000E, 64, 1, 0, .u16, Req.HFO, 0, .set, 0, .any⟩,
   ⟨0x80010, 64, 8, 1, .u32, Req.HFO, Req.HB, .set, 2048, (.range 64 65536)⟩,
   ⟨0x80018, 64, 8, 1, .u64, Req.HFO, Req.HB, .set, 0, .any⟩,
   ⟨0x80020, 64, 8, 1, .u32, Req.HFO, 0, .set, 2048, .any⟩,
   ⟨0x80028, 64, 8, 1, .u64, Req.HFO, 0, .set, 0, .any⟩,
   ⟨0x80030, 64, 8, 1, .i64, Req.HFO, 0, .set, 0, .any⟩,
   ⟨0x80038, 64, 8, 1, .u32, Req.HFO, 0, .set, 0, .any⟩,
   ⟨0x80040, 64, 1, 0, .u64, Req.HFO, Req.H, .set, 0, .counter⟩,
   ⟨0x80041, 64, 1, 0, .u64, Req.HFO, Req.H, .set, 0, .counter⟩,
   ⟨0x80042, 64, 1, 0, .u64, Req.HFO, Req.H, .set, 0, .counter⟩,
   ⟨0x80043, 64, 1, 0, .u64, Req.HFO, Req.H, .set, 0, .counter⟩,
   ⟨0x80044, 64, 1, 0, .u64, Req.HFO, Req.H, .set, 0, .counter⟩,
   ⟨0x80045, 64, 1, 0, .i32, Req.HFO, Req.HB, .set, 0, (.signed 100000)⟩,
   ⟨0x80046, 64, 1, 0, .i32, Req.HFO, Req.HB, .set, 0, (.signed 100000)⟩,
   ⟨0x84001, 64, 1, 0, .u8, Req.HFGO, Req.HB, .set, 1, (.upto 4)⟩,
   ⟨0x84002, 64, 1, 0, .u64, Req.HFGO, Req.HB, .set, 100000000000, (.range 1000000 100000000000)⟩,
   ⟨0x84010, 64, 8, 1, .u32, Req.HFGO, Req.HB, .set, 2048, (.range 64 65536)⟩,
   ⟨0x84018, 64, 8, 1, .u64, Req.HFGO, Req.HB, .set, 0, .any⟩,
   ⟨0x84030, 64, 8, 1, .i64, Req.HFGO, 0, .set, 0, .any⟩,
   ⟨0x90001, 1, 1, 0, .enum8, Req.HFO, Req.HB, .set, 0, (.upto 4)⟩,
   ⟨0x90002, 1, 1, 0, .u32, Req.HFO, Req.HB, .set, 1000, (.upto 1000000)⟩,
   ⟨0x90003, 1, 1, 0, .u16, Req.HFO, Req.HB, .set, 100, (.range 1 500)⟩,
   ⟨0x90004, 1, 1, 0, .u64, Req.HFGO, 0, .set, 0, .any⟩,
   ⟨0x90005, 1, 1, 0, .u64, Req.HFGO, 0, .set, 0, .any⟩,
   ⟨0x90006, 1, 1, 0, .enum8, Req.HFO, Req.H, .trig, 0, .any⟩,
   ⟨0x90007, 1, 1, 0, .u64, Req.HFO, 0, .set, 0, .any⟩,
   ⟨0x90008, 1, 4, 2, .time96, Req.HFO, 0, .set, 0, .any⟩,
   ⟨0x90401, 4, 1, 0, .time96, Req.HFGO, 0, .set, 0, .any⟩,
   ⟨0x90403, 4, 1, 0, .i64, Req.HFO, Req.HB, .set, 0, (.signed64 32768000000)⟩,
   ⟨0x90404, 4, 1, 0, .i64, Req.HFO, Req.HB, .trig, 0, .any⟩,
   ⟨0x90405, 4, 1, 0, .time96, Req.HFO, Req.HB, .set, 0, .any⟩,
   ⟨0x90407, 4, 1, 0, .bool, Req.HFO, Req.HB, .set, 0, .any⟩]

/-- Objects of spec/10_scheduling_and_time.md.  -/
def sideRows10b : List ObjRow :=
  [⟨0x90408, 4, 1, 0, .i64, Req.HFO, 0, .set, 0, .any⟩,
   ⟨0x90801, 1, 1, 0, .bool, Req.HFO, Req.HB, .set, 0, .any⟩,
   ⟨0x90802, 1, 1, 0, .enum8, Req.HFO, Req.HB, .set, 4, (.upto 4)⟩,
   ⟨0x90803, 1, 1, 0, .u32, Req.HFO, Req.HB, .set, 100000000, (.range 1000 500000000)⟩,
   ⟨0x90804, 1, 1, 0, .i32, Req.HFO, Req.HB, .set, 0, (.signed 1000000)⟩,
   ⟨0x90805, 1, 1, 0, .bool, Req.HFO, Req.HB, .set, 0, .any⟩,
   ⟨0x90806, 1, 1, 0, .u32, Req.HFO, Req.HB, .set, 1000000, (.range 1000 100000000)⟩,
   ⟨0x90807, 1, 1, 0, .u64, Req.HFO, 0, .set, 0, .any⟩,
   ⟨0x90808, 1, 1, 0, .u64, Req.HFO, 0, .set, 0, .any⟩,
   ⟨0x90201, 1, 1, 0, .u16, Req.HFO, Req.HB, .set, 0, .any⟩,
   ⟨0x90202, 1, 1, 0, .enum8, Req.HFO, Req.HB, .trig, 0, .any⟩,
   ⟨0x90101, 1, 1, 0, .u64, Req.HFO, Req.H, .set, 0, .counter⟩,
   ⟨0x90102, 1, 1, 0, .u64, Req.HFO, Req.H, .set, 0, .counter⟩,
   ⟨0x90103, 1, 1, 0, .u64, Req.HFO, Req.H, .set, 0, .counter⟩,
   ⟨0x90104, 1, 1, 0, .u64, Req.HFO, Req.H, .set, 0, .counter⟩,
   ⟨0x90105, 1, 1, 0, .u64, Req.HFO, Req.H, .set, 0, .counter⟩,
   ⟨0x90106, 1, 1, 0, .u64, Req.HFO, Req.H, .set, 0, .counter⟩,
   ⟨0x90107, 1, 1, 0, .u64, Req.HFO, Req.H, .set, 0, .counter⟩,
   ⟨0x90108, 1, 1, 0, .u64, Req.HFO, Req.H, .set, 0, .counter⟩,
   ⟨0x90109, 1, 1, 0, .u64, Req.HFO, Req.H, .set, 0, .counter⟩,
   ⟨0x9010A, 1, 1, 0, .u64, Req.HFO, Req.H, .set, 0, .counter⟩,
   ⟨0x9010B, 1, 1, 0, .u64, Req.HFO, Req.H, .set, 0, .counter⟩,
   ⟨0x9010C, 1, 1, 0, .u64, Req.HFO, Req.H, .set, 0, .counter⟩,
   ⟨0x9010D, 1, 1, 0, .u64, Req.HFO, Req.H, .set, 0, .counter⟩,
   ⟨0x9010E, 1, 1, 0, .u64, Req.HFO, Req.H, .set, 0, .counter⟩,
   ⟨0x9010F, 1, 1, 0, .u64, Req.HFO, Req.H, .set, 0, .counter⟩]

/-- Objects of spec/11_compute_and_scratchpad.md.  -/
def sideRows11 : List ObjRow :=
  [⟨0xA0001, 1, 1, 0, .u64, Req.HFO, Req.HBO, .set, 268435456, .any⟩,
   ⟨0xA0002, 1, 1, 0, .u8, Req.HFO, Req.BO, .once, 0, (.mask 0x0F)⟩,
   ⟨0xA0003, 1, 1, 0, .u8, Req.HFO, Req.HBO, .set, 0, .any⟩,
   ⟨0xA0801, 8, 1, 0, .enum8, Req.HFO, 0, .set, 0, .any⟩,
   ⟨0xA0802, 8, 1, 0, .u64, Req.HFO, 0, .set, 0, .any⟩,
   ⟨0xA0803, 8, 1, 0, .u64, Req.HFO, Req.H, .set, 0, .counter⟩,
   ⟨0xA0804, 8, 1, 0, .u64, Req.HO, Req.H, .set, 0, (.mask 0xFFFFFFFF80FFFFFF)⟩,
   ⟨0xA0805, 8, 1, 0, .u64, Req.HFO, Req.H, .set, 0, .counter⟩,
   ⟨0xA0806, 8, 1, 0, .u64, Req.HFO, Req.H, .set, 0, .counter⟩,
   ⟨0xA1001, 1, 1, 0, .u64, Req.HFO, Req.H, .set, 0, .counter⟩,
   ⟨0xA1002, 1, 1, 0, .u64, Req.HFO, Req.H, .set, 0, .counter⟩,
   ⟨0xA1003, 1, 1, 0, .u64, Req.HFO, Req.H, .set, 0, .counter⟩,
   ⟨0xA1004, 1, 1, 0, .u64, Req.HFO, Req.H, .set, 0, .counter⟩,
   ⟨0xA1005, 1, 1, 0, .u64, Req.HFO, Req.H, .set, 0, .counter⟩,
   ⟨0xA1006, 1, 1, 0, .u64, Req.HFO, Req.H, .set, 0, .counter⟩,
   ⟨0xA1007, 1, 1, 0, .u64, Req.HFO, Req.H, .set, 0, .counter⟩,
   ⟨0xB0001, 1, 1, 0, .u16, Req.HFO, Req.HB, .set, 100, (.range 10 1000)⟩,
   ⟨0xB0002, 1, 1, 0, .u64, Req.HFO, 0, .set, 0, .any⟩,
   ⟨0xB0003, 1, 1, 0, .u64, Req.HFO, Req.H, .set, 0, .counter⟩,
   ⟨0xB0004, 1, 1, 0, .u64, Req.HFO, Req.H, .set, 0, .counter⟩,
   ⟨0xB0005, 1, 1, 0, .u64, Req.HFO, Req.H, .set, 0, .counter⟩,
   ⟨0xB1001, 14, 1, 0, .u64, Req.HFO, Req.H, .set, 0, .counter⟩,
   ⟨0xB1002, 14, 1, 0, .u64, Req.HFO, Req.H, .set, 0, .counter⟩]

/-- Objects of spec/12_dram.md.  -/
def sideRows12 : List ObjRow :=
  [⟨0xC0001, 1, 1, 0, .u8, Req.HFO, Req.HBO, .set, 1, (.range 1 2)⟩,
   ⟨0xC0002, 1, 1, 0, .enum8, Req.HFO, Req.HBO, .set, 2, (.upto 3)⟩,
   ⟨0xC0003, 1, 1, 0, .bool, Req.HFO, Req.HBO, .set, 0, .any⟩,
   ⟨0xC0004, 1, 1, 0, .bool, Req.HFO, Req.HBO, .set, 1, .any⟩,
   ⟨0xC0005, 1, 1, 0, .u64, Req.HFGO, 0, .set, 0, .any⟩,
   ⟨0xC0006, 1, 1, 0, .u64, Req.HFGO, 0, .set, 0, .any⟩,
   ⟨0xC0007, 1, 1, 0, .enum8, Req.HFGO, 0, .set, 0, .any⟩,
   ⟨0xC0008, 1, 1, 0, .u8, Req.HFO, Req.HB, .set, 85, (.range 60 95)⟩,
   ⟨0xC0009, 1, 1, 0, .u8, Req.HFO, Req.HB, .set, 3, (.range 1 10)⟩,
   ⟨0xC000A, 1, 1, 0, .i32, Req.HFO, Req.HB, .set, 0, (.signed 20)⟩,
   ⟨0xC000B, 1, 1, 0, .u32, Req.HFO, Req.HB, .set, 250, (.range 16 10000)⟩,
   ⟨0xC000C, 1, 1, 0, .enum8, Req.HFO, Req.HB, .set, 0, (.upto 1)⟩,
   ⟨0xC000D, 1, 1, 0, .u32, Req.HFO, Req.HB, .set, 2000, (.range 200 100000)⟩,
   ⟨0xC000E, 1, 1, 0, .u32, Req.HFO, Req.HB, .set, 3600, (.range 60 86400)⟩,
   ⟨0xC000F, 1, 1, 0, .u8, Req.HFO, Req.HB, .set, 0, .any⟩,
   ⟨0xC0010, 1, 1, 0, .u64, Req.HFO, Req.HB, .set, 0, .any⟩,
   ⟨0xC0011, 1, 1, 0, .u8, Req.HFO, 0, .set, 0, .any⟩,
   ⟨0xC0012, 1, 1, 0, .i32, Req.HFO, 0, .set, 0, .any⟩,
   ⟨0xC0013, 1, 1, 0, .u16, Req.HFO, 0, .set, 0, .any⟩,
   ⟨0xC0401, 1, 1, 0, .enum8, Req.HFO, Req.HBO, .set, 6, (.upto 6)⟩,
   ⟨0xC0402, 1, 1, 0, .enum8, Req.HFO, Req.HBO, .set, 4, (.upto 6)⟩,
   ⟨0xC0403, 1, 1, 0, .enum8, Req.HFO, Req.HBO, .set, 1, (.upto 6)⟩,
   ⟨0xC0404, 1, 1, 0, .u8, Req.HFO, Req.HBO, .set, 0, (.upto 2)⟩,
   ⟨0xC0405, 1, 1, 0, .enum8, Req.HFO, Req.HO, .trig, 0, .any⟩,
   ⟨0xC0406, 1, 1, 0, .u16, Req.HFO, Req.HB, .set, 50, (.zeroOr 10 1000)⟩,
   ⟨0xC0407, 1, 1, 0, .u16, Req.HFO, Req.HB, .set, 2048, (.range 512 8192)⟩,
   ⟨0xC0408, 1, 1, 0, .enum8, Req.HFO, Req.HB, .trig, 0, .any⟩,
   ⟨0xC0409, 1, 1, 0, .u8, Req.HFGO, 0, .set, 0, .any⟩,
   ⟨0xC040A, 1, 1, 0, .u8, Req.HFO, 0, .set, 0, .any⟩,
   ⟨0xC0801, 8, 1, 0, .u32, Req.HFO, Req.HB, .set, 8192, (.range 64 68266)⟩,
   ⟨0xC0802, 8, 1, 0, .u64, Req.HFO, Req.H, .set, 0, .counter⟩,
   ⟨0xC0803, 8, 1, 0, .u64, Req.HFO, Req.H, .set, 0, .counter⟩,
   ⟨0xC0804, 8, 1, 0, .u64, Req.HFO, Req.H, .set, 0, .counter⟩,
   ⟨0xC0805, 8, 1, 0, .u64, Req.HFO, Req.H, .set, 0, .counter⟩,
   ⟨0xC0101, 1, 1, 0, .u64, Req.HFO, Req.H, .set, 0, .counter⟩,
   ⟨0xC0102, 1, 1, 0, .u64, Req.HFO, Req.H, .set, 0, .counter⟩,
   ⟨0xC0103, 1, 1, 0, .u64, Req.HFO, Req.H, .set, 0, .counter⟩,
   ⟨0xC0104, 1, 1, 0, .u64, Req.HFO, Req.H, .set, 0, .counter⟩,
   ⟨0xC0105, 1, 1, 0, .u64, Req.HFO, Req.H, .set, 0, .counter⟩,
   ⟨0xC0106, 1, 1, 0, .u64, Req.HFO, Req.H, .set, 0, .counter⟩,
   ⟨0xC0107, 1, 1, 0, .u64, Req.HFO, Req.H, .set, 0, .counter⟩,
   ⟨0xC0108, 1, 1, 0, .u64, Req.HFO, Req.H, .set, 0, .counter⟩,
   ⟨0xC0109, 1, 1, 0, .u64, Req.HFO, Req.H, .set, 0, .counter⟩,
   ⟨0xC010A, 1, 1, 0, .u64, Req.HFO, Req.H, .set, 0, .counter⟩,
   ⟨0xC010B, 1, 1, 0, .u64, Req.HFO, Req.H, .set, 0, .counter⟩]

/-- Objects of spec/12_dram.md.  -/
def sideRows12b : List ObjRow :=
  [⟨0xC010C, 1, 1, 0, .u64, Req.HFO, Req.H, .set, 0, .counter⟩,
   ⟨0xC010D, 1, 1, 0, .u64, Req.HFO, Req.H, .set, 0, .counter⟩,
   ⟨0xC010E, 1, 1, 0, .u64, Req.HFO, Req.H, .set, 0, .counter⟩,
   ⟨0xC010F, 1, 1, 0, .u64, Req.HFO, Req.H, .set, 0, .counter⟩,
   ⟨0xC0110, 1, 1, 0, .u64, Req.HFO, Req.H, .set, 0, .counter⟩,
   ⟨0xC0111, 1, 1, 0, .u64, Req.HFO, Req.H, .set, 0, .counter⟩,
   ⟨0xC0112, 1, 1, 0, .u64, Req.HFO, Req.H, .set, 0, .counter⟩,
   ⟨0xC0113, 1, 1, 0, .u64, Req.HFO, Req.H, .set, 0, .counter⟩,
   ⟨0xC0114, 1, 1, 0, .u64, Req.HFO, Req.H, .set, 0, .counter⟩]

/-- Objects of spec/13_host_and_vports.md.  -/
def sideRows13 : List ObjRow :=
  [⟨0x200001, 64, 1, 0, .enum8, Req.HFGO, Req.HB, .set, 1, (.range 1 2)⟩,
   ⟨0x200002, 64, 1, 0, .u8, Req.HFGO, Req.HB, .set, 0, (.upto 7)⟩,
   ⟨0x200003, 64, 1, 0, .u8, Req.HFGO, Req.HB, .set, 1, (.upto 7)⟩,
   ⟨0x200004, 64, 1, 0, .u8, Req.HFGO, Req.HB, .set, 1, (.range 1 252)⟩,
   ⟨0x200005, 64, 1, 0, .u64, Req.HFGO, Req.HB, .set, 0, .any⟩,
   ⟨0x200006, 64, 1, 0, .u64, Req.HFGO, Req.HB, .set, 0, .any⟩,
   ⟨0x200007, 64, 1, 0, .u64, Req.HFGO, Req.HB, .set, 0, .any⟩,
   ⟨0x200008, 64, 1, 0, .u64, Req.HFGO, Req.HB, .set, 0, .any⟩,
   ⟨0x200009, 64, 1, 0, .u64, Req.HFGO, Req.HB, .set, 0, .any⟩,
   ⟨0x20000A, 64, 1, 0, .u32, Req.HFGO, Req.HB, .set, 125269760, (.mask 0x0FFFFF00)⟩,
   ⟨0x20000B, 64, 1, 0, .u8, Req.HFGO, Req.HB, .set, 1, (.range 1 7)⟩,
   ⟨0x20000C, 64, 1, 0, .u8, Req.HFGO, Req.HB, .set, 1, (.range 1 7)⟩,
   ⟨0x20000D, 64, 1, 0, .u64, Req.HFGO, Req.HB, .set, 0, .any⟩,
   ⟨0x20000E, 64, 1, 0, .u64, Req.HFGO, Req.HB, .set, 0, .any⟩,
   ⟨0x20000F, 64, 1, 0, .u16, Req.HFGO, Req.HB, .set, 256, (.range 16 4096)⟩,
   ⟨0x200010, 64, 1, 0, .u32, Req.HFGO, Req.HB, .set, 4096, (.upto 196608)⟩,
   ⟨0x200011, 64, 1, 0, .u32, Req.HFGO, Req.HB, .set, 1024, (.upto 262144)⟩,
   ⟨0x200012, 64, 1, 0, .u16, Req.HFGO, Req.HB, .set, 65535, .upto2047orNone⟩,
   ⟨0x200013, 64, 1, 0, .u16, Req.HFGO, Req.HB, .set, 1, (.range 1 4094)⟩,
   ⟨0x200014, 64, 1, 0, .bool, Req.HFGO, Req.HB, .set, 1, .any⟩,
   ⟨0x200015, 64, 1, 0, .u16, Req.HFGO, Req.HBG, .set, 1, .any⟩,
   ⟨0x200016, 64, 1, 0, .u32, Req.HFGO, Req.HBG, .set, 10000, (.upto 10000000)⟩,
   ⟨0x200017, 64, 1, 0, .u32, Req.HFGO, Req.HB, .set, 1000, .any⟩,
   ⟨0x200018, 64, 1, 0, .enum8, Req.HFGO, Req.HB, .trig, 0, .any⟩,
   ⟨0x20001A, 64, 1, 0, .u16, Req.HFGO, Req.HB, .set, 0, .any⟩,
   ⟨0x20001B, 64, 1, 0, .u16, Req.HFGO, Req.HB, .set, 0, .any⟩,
   ⟨0x200020, 64, 8, 1, .u32, Req.HFGO, Req.HB, .set, 8, (.upto 16384)⟩,
   ⟨0x200028, 64, 8, 1, .enum8, Req.HFGO, Req.HB, .set, 7, (.upto 10)⟩,
   ⟨0x208001, 64, 1, 0, .enum8, Req.HFGO, 0, .set, 0, .any⟩,
   ⟨0x208002, 64, 1, 0, .u32, Req.HFGO, 0, .set, 0, .any⟩,
   ⟨0x208003, 64, 1, 0, .bool, Req.HFGO, 0, .set, 0, .any⟩,
   ⟨0x208004, 64, 1, 0, .u32, Req.HFGO, 0, .set, 0, .any⟩,
   ⟨0x208005, 64, 1, 0, .u16, Req.HFGO, 0, .set, 0, .any⟩,
   ⟨0x208006, 64, 1, 0, .u16, Req.HFGO, 0, .set, 0, .any⟩,
   ⟨0x208007, 64, 1, 0, .u16, Req.HFGO, 0, .set, 0, .any⟩,
   ⟨0x208008, 64, 1, 0, .u16, Req.HFGO, 0, .set, 0, .any⟩,
   ⟨0x208009, 64, 1, 0, .u8, Req.HFGO, 0, .set, 0, .any⟩,
   ⟨0x208010, 64, 1, 0, .u32, Req.HGO, Req.HG, .set, 0, .any⟩,
   ⟨0x208011, 64, 1, 0, .u32, Req.HFGO, 0, .set, 0, .any⟩,
   ⟨0x208012, 64, 1, 0, .u32, Req.HGO, Req.HG, .set, 0, .any⟩,
   ⟨0x208013, 64, 1, 0, .u32, Req.HFGO, 0, .set, 0, .any⟩,
   ⟨0x208014, 64, 1, 0, .u32, Req.HFGO, 0, .set, 0, .any⟩,
   ⟨0x208015, 64, 1, 0, .u32, Req.HGO, Req.HG, .set, 0, .any⟩,
   ⟨0x208016, 64, 1, 0, .u32, Req.HFGO, 0, .set, 0, .any⟩,
   ⟨0x208017, 64, 1, 0, .u32, Req.HGO, Req.HG, .set, 0, .any⟩]

/-- Objects of spec/13_host_and_vports.md.  -/
def sideRows13b : List ObjRow :=
  [⟨0x208018, 64, 1, 0, .u32, Req.HFGO, 0, .set, 0, .any⟩,
   ⟨0x208019, 64, 1, 0, .u32, Req.HGO, Req.HG, .set, 0, .any⟩,
   ⟨0x208020, 64, 1, 0, .u64, Req.HFGO, Req.H, .set, 0, .counter⟩,
   ⟨0x208021, 64, 1, 0, .u64, Req.HFGO, Req.H, .set, 0, .counter⟩,
   ⟨0x208022, 64, 1, 0, .u64, Req.HFGO, Req.H, .set, 0, .counter⟩,
   ⟨0x208023, 64, 1, 0, .u64, Req.HFGO, Req.H, .set, 0, .counter⟩,
   ⟨0x208024, 64, 1, 0, .u64, Req.HFGO, Req.H, .set, 0, .counter⟩,
   ⟨0x208025, 64, 1, 0, .u64, Req.HFGO, Req.H, .set, 0, .counter⟩,
   ⟨0x208026, 64, 1, 0, .u64, Req.HFGO, Req.H, .set, 0, .counter⟩,
   ⟨0x208027, 64, 1, 0, .u64, Req.HFGO, Req.H, .set, 0, .counter⟩,
   ⟨0x208028, 64, 1, 0, .u64, Req.HFGO, Req.H, .set, 0, .counter⟩,
   ⟨0x208029, 64, 1, 0, .u64, Req.HFGO, Req.H, .set, 0, .counter⟩,
   ⟨0x20802A, 64, 1, 0, .u64, Req.HFGO, Req.H, .set, 0, .counter⟩,
   ⟨0x20802B, 64, 1, 0, .u64, Req.HFGO, Req.H, .set, 0, .counter⟩,
   ⟨0x20802C, 64, 1, 0, .u64, Req.HFGO, Req.H, .set, 0, .counter⟩,
   ⟨0x20803F, 64, 1, 0, .u64, Req.HG, Req.H, .set, 0, (.mask 0xFFFFFFFF80FFFFFF)⟩,
   ⟨0x331001, 1, 1, 0, .u32, Req.HFO, Req.HB, .set, 65536, .any⟩,
   ⟨0x331002, 1, 1, 0, .u8, Req.HFO, 0, .set, 0, .any⟩,
   ⟨0x331003, 1, 1, 0, .u16, Req.HFO, 0, .set, 0, .any⟩]

/-- Objects of spec/13_host_and_vports.md. Device level. -/
def devRows13 : List ObjRow :=
  [⟨0x130001, 1, 1, 0, .u16, Req.HFGO, 0, .set, 0, .any⟩,
   ⟨0x130002, 1, 1, 0, .enum8, Req.HFO, 0, .set, 0, .any⟩,
   ⟨0x130003, 1, 1, 0, .u8, Req.HFO, 0, .set, 0, .any⟩,
   ⟨0x130004, 1, 1, 0, .u8, Req.HFO, Req.HBO, .set, 50, (.range 1 64)⟩,
   ⟨0x130101, 1, 1, 0, .u64, Req.HFO, Req.H, .set, 0, .counter⟩,
   ⟨0x130102, 1, 1, 0, .u64, Req.HFO, Req.H, .set, 0, .counter⟩,
   ⟨0x130103, 1, 1, 0, .u64, Req.HFO, Req.H, .set, 0, .counter⟩,
   ⟨0x130104, 1, 1, 0, .u64, Req.HFO, Req.H, .set, 0, .counter⟩,
   ⟨0x130105, 1, 1, 0, .u64, Req.HFO, Req.H, .set, 0, .counter⟩]

/-- Objects of spec/14_counters.md.  -/
def sideRows14 : List ObjRow :=
  [⟨0xD0001, 1, 1, 0, .enum8, Req.HFO, Req.HO, .trig, 0, .any⟩,
   ⟨0xD0002, 1, 1, 0, .u32, Req.HFO, 0, .set, 0, .any⟩,
   ⟨0xD0003, 1, 1, 0, .u64, Req.HFO, 0, .set, 0, .any⟩,
   ⟨0xD0004, 1, 1, 0, .u32, Req.HFO, 0, .set, 0, .any⟩,
   ⟨0xD0005, 1, 1, 0, .enum8, Req.HFO, Req.H, .trig, 0, .any⟩,
   ⟨0xD0006, 1, 1, 0, .u32, Req.HFO, Req.H, .set, 0, .counter⟩,
   ⟨0xD0007, 1, 1, 0, .u32, Req.HFO, Req.H, .set, 0, (.mask 0xFFFFFF00)⟩,
   ⟨0xD0101, 1, 1, 0, .u64, Req.HFO, 0, .set, 0, .any⟩,
   ⟨0xD0102, 1, 1, 0, .u64, Req.HFO, 0, .set, 0, .any⟩,
   ⟨0xD0103, 1, 1, 0, .u64, Req.HFO, 0, .set, 0, .any⟩,
   ⟨0xD0104, 1, 1, 0, .u64, Req.HFO, 0, .set, 0, .any⟩,
   ⟨0xD0105, 1, 1, 0, .u64, Req.HFO, 0, .set, 0, .any⟩,
   ⟨0xD0106, 1, 1, 0, .u64, Req.HFO, 0, .set, 0, .any⟩,
   ⟨0xD0107, 1, 1, 0, .u64, Req.HFO, 0, .set, 0, .any⟩,
   ⟨0xD0108, 1, 1, 0, .u64, Req.HFO, 0, .set, 0, .any⟩,
   ⟨0xD0109, 1, 1, 0, .i64, Req.HFO, 0, .set, 0, .any⟩,
   ⟨0xD0201, 1, 1, 0, .u64, Req.HFO, Req.H, .set, 0, .counter⟩,
   ⟨0xD0202, 1, 1, 0, .u64, Req.HFO, Req.H, .set, 0, .counter⟩,
   ⟨0xD0203, 1, 1, 0, .u64, Req.HFO, Req.H, .set, 0, .counter⟩,
   ⟨0xD0204, 1, 1, 0, .u64, Req.HFO, Req.H, .set, 0, .counter⟩,
   ⟨0xD0205, 1, 1, 0, .u32, Req.HFO, 0, .set, 0, .any⟩,
   ⟨0xD0206, 1, 1, 0, .u32, Req.HFO, 0, .set, 0, .any⟩,
   ⟨0xD1001, 8, 1, 0, .u32, Req.HFO, Req.HB, .set, 0, .any⟩,
   ⟨0xD1002, 8, 1, 0, .enum8, Req.HFO, Req.HB, .set, 0, (.upto 8)⟩,
   ⟨0xD1003, 8, 1, 0, .u8, Req.HFO, Req.H, .set, 255, .any⟩,
   ⟨0xD1004, 8, 1, 0, .u32, Req.HFGO, Req.HGO, .set, 0, (.mask 0xFFFFFFF8)⟩,
   ⟨0xD1005, 8, 1, 0, .u32, Req.HFGO, Req.HGO, .set, 4096, (.range 64 1048576)⟩,
   ⟨0xD1006, 8, 1, 0, .u32, Req.HFGO, 0, .set, 0, .any⟩,
   ⟨0xD1007, 8, 1, 0, .u32, Req.HFGO, Req.HGO, .set, 0, .any⟩,
   ⟨0xD1008, 8, 1, 0, .u32, Req.HFGO, Req.HB, .set, 0, (.mask 0x070700FF)⟩,
   ⟨0xD1009, 8, 1, 0, .u32, Req.HFGO, Req.HGO, .set, 32, .any⟩,
   ⟨0xD100A, 8, 1, 0, .u64, Req.HFGO, Req.H, .set, 0, .counter⟩,
   ⟨0xD100B, 8, 1, 0, .u64, Req.HFGO, Req.H, .set, 0, .counter⟩]

/-- Objects of spec/15_faults_and_events.md.  -/
def sideRows15 : List ObjRow :=
  [⟨0xE0001, 1, 1, 0, .enum8, Req.HFGO, 0, .set, 0, .any⟩,
   ⟨0xE0002, 1, 1, 0, .enum8, Req.HFO, Req.HB, .set, 1, (.upto 2)⟩,
   ⟨0xE0003, 1, 1, 0, .enum8, Req.HFO, 0, .set, 0, .any⟩,
   ⟨0xE0004, 1, 1, 0, .enum8, Req.HFO, Req.HB, .trig, 0, .any⟩,
   ⟨0xE0005, 1, 1, 0, .enum8, Req.HFO, Req.HB, .trig, 0, .any⟩,
   ⟨0xE0006, 1, 1, 0, .u32, Req.HFO, Req.HBO, .trig, 0, .any⟩,
   ⟨0xE0007, 1, 1, 0, .u32, Req.HFO, Req.HBO, .trig, 0, .any⟩,
   ⟨0xE0008, 1, 1, 0, .u32, Req.HFO, Req.HO, .trig, 0, .any⟩,
   ⟨0xE0009, 1, 1, 0, .u64, Req.HFO, 0, .set, 0, .any⟩,
   ⟨0xE000A, 1, 1, 0, .u64, Req.HFO, 0, .set, 0, .any⟩,
   ⟨0xE000B, 1, 1, 0, .u8, Req.HFO, 0, .set, 0, .any⟩,
   ⟨0xE000C, 1, 1, 0, .enum8, Req.HFO, Req.HB, .set, 2, (.upto 3)⟩,
   ⟨0xE0101, 1, 1, 0, .u64, Req.HFO, 0, .set, 0, .any⟩,
   ⟨0xE0102, 1, 1, 0, (.octets 32), Req.HFO, 0, .set, 0, .any⟩,
   ⟨0xE0106, 1, 1, 0, .enum8, Req.HFO, Req.HBO, .trig, 0, .any⟩,
   ⟨0xE0201, 1, 1, 0, .u64, Req.HFO, Req.H, .set, 0, .counter⟩,
   ⟨0xE0202, 1, 1, 0, .u64, Req.HFO, Req.H, .set, 0, .counter⟩,
   ⟨0xE0203, 1, 1, 0, .u64, Req.HFO, Req.H, .set, 0, .counter⟩,
   ⟨0xE0204, 1, 1, 0, .u64, Req.HFO, Req.H, .set, 0, .counter⟩,
   ⟨0xE0205, 1, 1, 0, .u32, Req.HFO, 0, .set, 0, .any⟩,
   ⟨0xE0206, 1, 1, 0, .u64, Req.HFO, Req.H, .set, 0, .counter⟩,
   ⟨0x341001, 1, 1, 0, .enum8, Req.HFO, 0, .set, 0, .any⟩,
   ⟨0x341002, 1, 1, 0, .u64, Req.HFO, 0, .set, 0, .any⟩,
   ⟨0x341003, 1, 1, 0, (.octets 32), Req.HFO, 0, .set, 0, .any⟩]

/-- Objects of spec/15_faults_and_events.md. Device level. -/
def devRows15 : List ObjRow :=
  [⟨0x140001, 1, 1, 0, .enum8, Req.HFGO, 0, .set, 0, .any⟩,
   ⟨0x140002, 1, 1, 0, .u32, Req.HFO, Req.HBO, .trig, 0, .any⟩,
   ⟨0x140003, 1, 1, 0, .u32, Req.HFO, Req.HO, .trig, 0, .any⟩,
   ⟨0x140004, 1, 1, 0, .enum8, Req.HFO, Req.HB, .set, 2, (.upto 3)⟩,
   ⟨0x140101, 1, 1, 0, .u64, Req.HFO, 0, .set, 0, .any⟩,
   ⟨0x140102, 1, 1, 0, (.octets 32), Req.HFO, 0, .set, 0, .any⟩,
   ⟨0x140106, 1, 1, 0, .enum8, Req.HFO, Req.HBO, .trig, 0, .any⟩]

/-- Objects of spec/16_power_and_clocks.md.  -/
def sideRows16 : List ObjRow :=
  [⟨0x321001, 1, 1, 0, .enum8, Req.HFO, Req.HBO, .trig, 0, .any⟩,
   ⟨0x321002, 1, 1, 0, .enum8, Req.HFGO, 0, .set, 0, .any⟩,
   ⟨0x321003, 1, 1, 0, .enum8, Req.HFO, Req.HBO, .trig, 0, .any⟩,
   ⟨0x321004, 1, 1, 0, .u8, Req.HFO, Req.HO, .w1c, 0, (.mask 0x3F)⟩,
   ⟨0x321005, 1, 1, 0, .bool, Req.HFO, Req.HB, .set, 1, .any⟩,
   ⟨0x321006, 1, 1, 0, .u16, Req.HFO, Req.HB, .set, 100, (.range 10 10000)⟩,
   ⟨0x321007, 1, 1, 0, .bool, Req.HFO, Req.HB, .set, 0, .any⟩,
   ⟨0x321008, 1, 1, 0, .bool, Req.HFO, Req.HB, .set, 1, .any⟩,
   ⟨0x321009, 1, 1, 0, .u8, Req.HFO, Req.HB, .set, 0, (.mask 0x0F)⟩,
   ⟨0x32100A, 1, 1, 0, .bool, Req.HFO, Req.HB, .set, 1, .any⟩,
   ⟨0x32100B, 1, 1, 0, .u32, Req.HFO, Req.HB, .set, 0, .any⟩,
   ⟨0x32100C, 1, 1, 0, .u64, Req.HFO, 0, .set, 0, .any⟩,
   ⟨0x322001, 1, 1, 0, .u8, Req.HFO, 0, .set, 0, .any⟩,
   ⟨0x322002, 1, 1, 0, .u16, Req.HFO, Req.HBO, .set, 3000, .any⟩,
   ⟨0x322003, 1, 1, 0, .u16, Req.HFO, Req.HBO, .set, 0, .any⟩,
   ⟨0x322004, 1, 1, 0, .u32, Req.HFO, Req.H, .set, 0, .counter⟩,
   ⟨0x3001, 1, 1, 0, .u64, Req.HFO, Req.H, .set, 0, .counter⟩,
   ⟨0x3002, 1, 1, 0, .u64, Req.HFO, Req.H, .set, 0, .counter⟩,
   ⟨0x3003, 1, 1, 0, .u64, Req.HFO, Req.H, .set, 0, .counter⟩]

/-- Objects of spec/16_power_and_clocks.md. Device level. -/
def devRows16 : List ObjRow :=
  [⟨0x120001, 1, 1, 0, .u8, Req.HFGO, 0, .set, 0, .any⟩,
   ⟨0x120002, 1, 1, 0, .u8, Req.HFO, Req.HB, .set, 85, .any⟩,
   ⟨0x120003, 1, 1, 0, .u32, Req.HFO, Req.H, .set, 0, .counter⟩,
   ⟨0x120004, 1, 1, 0, .bool, Req.HFO, Req.HB, .set, 1, .any⟩,
   ⟨0x123001, 1, 1, 0, .bool, Req.HFO, Req.BO, .set, 1, .any⟩,
   ⟨0x123002, 1, 1, 0, .u16, Req.HFO, 0, .set, 0, .any⟩,
   ⟨0x123003, 1, 1, 0, .u16, Req.HFO, 0, .set, 0, (.range 650 850)⟩,
   ⟨0x123004, 1, 1, 0, .u16, Req.HFO, Req.BO, .set, 40, .any⟩,
   ⟨0x123005, 1, 1, 0, .u16, Req.HFO, Req.BO, .set, 70, .any⟩,
   ⟨0x123006, 1, 1, 0, .u32, Req.HFO, Req.H, .set, 0, .counter⟩,
   ⟨0x123007, 1, 1, 0, .u32, Req.HFGO, 0, .set, 0, .any⟩,
   ⟨0x123101, 1, 32, 1, .i32, Req.HFO, 0, .set, 0, .any⟩]

/-- Objects of spec/17_boot_and_identity.md. Device level. -/
def devRows17 : List ObjRow :=
  [⟨0x110001, 1, 1, 0, .enum8, Req.HFGO, 0, .set, 0, .any⟩,
   ⟨0x110002, 1, 1, 0, .u8, Req.HFGO, 0, .set, 0, .any⟩,
   ⟨0x110003, 1, 1, 0, .u32, Req.HFGO, 0, .set, 0, .any⟩,
   ⟨0x110004, 1, 1, 0, .u64, Req.HFGO, 0, .set, 0, .any⟩,
   ⟨0x110005, 1, 1, 0, .u8, Req.HFGO, 0, .set, 0, .any⟩,
   ⟨0x110006, 1, 1, 0, .u8, Req.HFGO, 0, .set, 0, .any⟩,
   ⟨0x110007, 1, 1, 0, .enum8, Req.HFO, Req.B, .trig, 0, .any⟩,
   ⟨0x110008, 1, 1, 0, .enum8, Req.HFGO, 0, .set, 0, .any⟩,
   ⟨0x110009, 1, 1, 0, .bool, Req.HFO, 0, .set, 0, .any⟩,
   ⟨0x11000A, 1, 1, 0, .u32, Req.HFO, Req.H, .set, 0, .counter⟩,
   ⟨0x110101, 1, 1, 0, (.octets 32), Req.HFGO, 0, .set, 0, .any⟩,
   ⟨0x110105, 1, 1, 0, (.octets 32), Req.HFGO, 0, .set, 0, .any⟩,
   ⟨0x110109, 1, 1, 0, .u64, Req.HFGO, 0, .set, 0, .any⟩,
   ⟨0x110201, 1, 1, 0, (.octets 32), Req.HFGO, 0, .set, 0, .any⟩,
   ⟨0x110205, 1, 1, 0, .u64, Req.HFGO, 0, .set, 0, .any⟩,
   ⟨0x110206, 1, 1, 0, .enum8, Req.HFGO, 0, .set, 0, .any⟩,
   ⟨0x110301, 1, 1, 0, .domain, Req.HFGO, 0, .set, 0, .any⟩,
   ⟨0x110401, 1, 1, 0, .domain, Req.HFGO, 0, .set, 0, .any⟩,
   ⟨0x111001, 1, 1, 0, (.octets 32), Req.HFO, Req.HF, .set, 0, .any⟩,
   ⟨0x111005, 1, 1, 0, .enum8, Req.HFO, Req.HF, .trig, 0, .any⟩,
   ⟨0x111006, 1, 1, 0, .enum8, Req.HFO, 0, .set, 0, .any⟩,
   ⟨0x111007, 1, 1, 0, .u32, Req.HFO, Req.H, .set, 0, .counter⟩,
   ⟨0x111101, 1, 1, 0, .domain, Req.HFGO, 0, .set, 0, .any⟩,
   ⟨0x112001, 1, 1, 0, .domain, Req.H, Req.H, .set, 0, .any⟩,
   ⟨0x112002, 1, 1, 0, .enum8, Req.H, Req.H, .trig, 0, .any⟩]

/-- Objects of spec/18_test.md.  -/
def sideRows18 : List ObjRow :=
  [⟨0x358001, 64, 1, 0, .bool, Req.HFO, Req.H, .set, 0, .any⟩,
   ⟨0x358002, 64, 1, 0, .enum8, Req.HFO, Req.H, .set, 0, (.upto 6)⟩,
   ⟨0x358003, 64, 1, 0, .bool, Req.HFO, Req.H, .set, 0, .any⟩,
   ⟨0x358004, 64, 1, 0, .u32, Req.HFO, Req.H, .set, 0, (.zeroOr 1250 28125)⟩,
   ⟨0x358005, 64, 1, 0, .bool, Req.HFO, Req.H, .set, 0, .any⟩,
   ⟨0x358006, 64, 1, 0, .bool, Req.HFO, Req.H, .set, 0, .any⟩,
   ⟨0x358007, 64, 1, 0, .bool, Req.HFO, 0, .set, 0, .any⟩,
   ⟨0x358008, 64, 1, 0, .u64, Req.HFO, Req.H, .set, 0, .counter⟩,
   ⟨0x358009, 64, 1, 0, .u64, Req.HFO, Req.H, .set, 0, .counter⟩,
   ⟨0x35800A, 64, 1, 0, .enum8, Req.HFO, Req.H, .set, 0, (.upto 3)⟩,
   ⟨0x35800B, 64, 1, 0, .enum8, Req.HFO, Req.H, .trig, 0, .any⟩,
   ⟨0x35800C, 64, 1, 0, .u8, Req.HFO, Req.H, .set, 20, (.range 10 36)⟩,
   ⟨0x358010, 64, 1, 0, .u64, Req.HFO, Req.H, .set, 0, .any⟩,
   ⟨0x358011, 64, 1, 0, .u16, Req.HFO, Req.H, .set, 64, (.range 64 9216)⟩,
   ⟨0x358012, 64, 1, 0, .u16, Req.HFO, Req.H, .set, 64, (.range 64 9216)⟩,
   ⟨0x358013, 64, 1, 0, .u16, Req.HFO, Req.H, .set, 12, (.range 12 65535)⟩,
   ⟨0x358014, 64, 1, 0, .enum8, Req.HFO, Req.H, .set, 0, (.upto 2)⟩,
   ⟨0x358015, 64, 1, 0, .u8, Req.HFO, Req.H, .set, 85, .any⟩,
   ⟨0x358016, 64, 1, 0, .enum8, Req.HFO, Req.H, .trig, 0, .any⟩,
   ⟨0x358017, 64, 1, 0, .u64, Req.HFO, Req.H, .set, 0, .counter⟩,
   ⟨0x358018, 64, 1, 0, .u64, Req.HFO, Req.H, .set, 0, .counter⟩,
   ⟨0x358019, 64, 1, 0, .u64, Req.HFO, Req.H, .set, 0, .counter⟩,
   ⟨0x35801A, 64, 1, 0, .u64, Req.HFO, Req.H, .set, 0, .counter⟩,
   ⟨0x35801B, 64, 1, 0, .u64, Req.HFO, Req.H, .set, 0, .counter⟩,
   ⟨0x358020, 64, 1, 0, .domain, Req.HFO, 0, .set, 0, .any⟩,
   ⟨0x351001, 1, 1, 0, .u8, Req.HFO, Req.HB, .set, 31, (.mask 0x1F)⟩,
   ⟨0x351002, 1, 1, 0, .u16, Req.HFO, Req.HB, .set, 0, .any⟩,
   ⟨0x351003, 1, 1, 0, .bool, Req.HFO, Req.HB, .set, 0, .any⟩,
   ⟨0x351004, 1, 1, 0, .enum8, Req.HFO, Req.HB, .trig, 0, .any⟩,
   ⟨0x351005, 1, 1, 0, .u16, Req.HFO, 0, .set, 0, .any⟩,
   ⟨0x351006, 1, 1, 0, .u16, Req.HFO, 0, .set, 0, .any⟩,
   ⟨0x351007, 1, 1, 0, .u64, Req.HFO, 0, .set, 0, .any⟩,
   ⟨0x351008, 1, 1, 0, .u32, Req.HFO, Req.H, .set, 0, .counter⟩]

/-- Objects of spec/18_test.md. Device level. -/
def devRows18 : List ObjRow :=
  [⟨0x150001, 1, 1, 0, .bool, Req.HFO, Req.B, .set, 0, .any⟩,
   ⟨0x150002, 1, 1, 0, .enum8, Req.HFO, Req.H, .trig, 0, .any⟩,
   ⟨0x150003, 1, 1, 0, .u16, Req.HFO, 0, .set, 0, .any⟩,
   ⟨0x150004, 1, 1, 0, (.octets 56), Req.HFO, Req.H, .set, 0, .any⟩,
   ⟨0x15000B, 1, 1, 0, .enum8, Req.HFO, Req.H, .trig, 0, .any⟩,
   ⟨0x15000C, 1, 1, 0, .domain, Req.HFO, 0, .set, 0, .any⟩]

/-- Objects of spec/19_balls_and_supplies.md.  -/
def sideRows19 : List ObjRow :=
  [⟨0x324101, 1, 1, 0, .enum8, Req.HFGO, 0, .set, 0, .any⟩,
   ⟨0x324102, 1, 1, 0, .u32, Req.HFO, Req.H, .set, 0, .counter⟩]

/-- Objects of spec/19_balls_and_supplies.md. Device level. -/
def devRows19 : List ObjRow :=
  [⟨0x124001, 1, 1, 0, .u16, Req.HFGO, 0, .set, 0, .any⟩,
   ⟨0x124002, 1, 1, 0, .u16, Req.HFGO, 0, .set, 0, .any⟩]

/-- Objects of spec/20_electrical_and_life.md.  -/
def sideRows20 : List ObjRow :=
  [⟨0xE0301, 1, 1, 0, .u8, Req.HFO, Req.HB, .set, 115, (.range 90 125)⟩,
   ⟨0xE0302, 1, 1, 0, .i32, Req.HFGO, 0, .set, 0, .any⟩,
   ⟨0xE0303, 1, 1, 0, .i32, Req.HFO, Req.H, .set, 0, .any⟩]

/-- Objects of spec/20_electrical_and_life.md. Device level. -/
def devRows20 : List ObjRow :=
  [⟨0x123201, 1, 1, 0, .u32, Req.HFGO, 0, .set, 0, .any⟩,
   ⟨0x123202, 1, 1, 0, .i32, Req.HFGO, 0, .set, 0, .any⟩,
   ⟨0x123203, 1, 1, 0, .i32, Req.HFGO, 0, .set, 0, .any⟩,
   ⟨0x123204, 1, 1, 0, .u32, Req.HFGO, 0, .set, 0, .any⟩]

/-- The objects of one side (R51). -/
def sideRows : List ObjRow :=
  sideRows02 ++ (sideRows02b ++ (sideRows02c ++ (sideRows02d ++ (sideRows03 ++ (sideRows03b ++ (sideRows04 ++ (sideRows05 ++ (sideRows06 ++ (sideRows06b ++ (sideRows07 ++ (sideRows08 ++ (sideRows08b ++ (sideRows09 ++ (sideRows10 ++ (sideRows10b ++ (sideRows11 ++ (sideRows12 ++ (sideRows12b ++ (sideRows13 ++ (sideRows13b ++ (sideRows14 ++ (sideRows15 ++ (sideRows16 ++ (sideRows18 ++ (sideRows19 ++ (sideRows20))))))))))))))))))))))))))

/-- The device-level objects (R50). -/
def devRows : List ObjRow :=
  devRows00 ++ (devRows01 ++ (devRows02 ++ (devRows13 ++ (devRows15 ++ (devRows16 ++ (devRows17 ++ (devRows18 ++ (devRows19 ++ (devRows20)))))))))

/-- The number of slots a type occupies (R45). -/
def ObjType.slots : ObjType → Nat
  | .time96 => 2
  | .octets n => ceilDiv n 8
  | _ => 1

/-- The number of bytes of a value in Tyist and bundles (R45); none for a DOMAIN. -/
def ObjType.bytes : ObjType → Option Nat
  | .bool | .u8 | .enum8 => some 1
  | .u16 => some 2
  | .u32 | .i32 => some 4
  | .u64 | .i64 => some 8
  | .mac48 => some 6
  | .time96 => some 12
  | .octets n => some n
  | .domain => none

/-- Whether a key is a slot of some object of a row. -/
def ObjRow.holds (r : ObjRow) (k : Nat) : Bool :=
  decide (r.base ≤ k) &&
  (let i := (k - r.base) / 256
   let s := (k - r.base) % 256
   decide (r.base % 256 + s < 256) && decide (i < r.insts) &&
   if r.step = 0 then decide (s < r.ty.slots)
   else decide (s / r.step < r.subs) && decide (s % r.step < r.ty.slots))

/-- The slot of its object that a key of the row is, counted from 0. -/
def ObjRow.slotOf (r : ObjRow) (k : Nat) : Nat :=
  let s := (k - r.base) % 256
  if r.step = 0 then s else s % r.step

/-- The row that assigns a key, if one does (R50). -/
def findRow (rows : List ObjRow) (k : Nat) : Option ObjRow := rows.find? (fun r => r.holds k)

/-- The value a side's object slot holds before anything has written it (R47, R48). -/
def sideDefault (k : Nat) : Nat := ((findRow sideRows k).map (·.dflt)).getD 0

/-- The same for a device-level object. -/
def devDefault (k : Nat) : Nat := ((findRow devRows k).map (·.dflt)).getD 0

end Sys2Proof.Machine
end

