-- ==== Sys2Proof/Machine/State.lean ====
section
/-! DEFINITION. State.lean: the state of the device as plain data. -/

namespace Sys2Proof.Machine

/-- What a side puts out: on its ports, to its guests, to the host, on its field port. Newest first in
the lists that hold them. -/
inductive Output where
  /-- A frame sent on a port, FCS included; `stomped` for a stomped finish (R306). -/
  | frame (p : Nat) (octets : Octets) (stomped : Bool)
  /-- Octets written to host memory through function `fn` (R468). -/
  | hostWrite (fn addr : Nat) (data : Octets)
  /-- An MSI-X vector of a function sent (R464, R533). -/
  | msix (fn vector : Nat)
  /-- What a scratchpad request answers (R408 to R413): the bytes, or none for an error or an access fault; an SC
  answers one byte, 0 when it has stored. -/
  | spm (master : Nat) (value : Option Octets)
  /-- What a DRAM request answers (R422, R428, R432, R441): none for an error response. -/
  | dram (port tag : Nat) (value : Option Octets)
  /-- What a core's access to vport_bind gives (R391), by the core's mhartid (R385): the value read, or the cause of its exception: 22
  virtual-instruction, 2 illegal-instruction. -/
  | csr (hart : Nat) (value : Option Nat) (cause : Nat)
  /-- An access fault raised in a core (R410, R412 to R414), by its mhartid: the cause, 5 load or 7 store/AMO, none where the spec does
  not tell which access consumes the error; and the physical address. -/
  | accessFault (hart : Nat) (cause : Option Nat) (addr : Nat)
  /-- What a read of a pool port answers (R334): the owner of the port, the value. -/
  | poolPort (owner : Nat) (value : Nat)
  /-- A Tyist PDU sent on the field port, in a CAN XL or a CAN FD frame with this identifier, in CAN XL with this SDT, VCID and
  acceptance field (R74). -/
  | field (xl : Bool) (ident sdt vcid accept : Nat) (data : Octets)
  /-- What a read of an object answers (R53, R58, R392): the requester's number, the value, none for a refusal. -/
  | objRead (who : Nat) (value : Option Nat)
  /-- What a PCIe request to the function with this routing ID is answered with (R454): 1 UR. -/
  | cpl (id : Nat) (status : Nat)
  /-- Frames the generator of a port has sent (R599): how many since its start; Test.lean says their octets. -/
  | generated (p n : Nat)
  /-- What a scan of the TAP returns (R601): bits in a number, or the octets of an access. -/
  | tap (value : Nat)
  | tapBus (value : Option Octets)
  /-- The event of a source delivered to the Owl (R532), by its source number. -/
  | owlEvent (src : Nat)
  /-- A MAC Control frame sent on a port (R121). -/
  | control (p : Nat) (octets : Octets)
  deriving DecidableEq, Repr

/-- Everything of one side but its memories. -/
structure Core where
  id : SideId
  /-- Every object slot of the side that differs from its default, by key (Names.lean). -/
  regs : SMap Slot
  /-- Every table entry that differs from 0, by window and entry. -/
  tabs : SMap Nat
  /-- Entries with a bad copy: 1 removed or unusable, 2 bad descriptor (R170). -/
  marks : SMap Nat
  /-- The side has been released (R358, R574); before, no clock of it runs. -/
  released : Bool
  /-- Pipeline clocks (1/3 ns) since the side's release. -/
  now : Nat
  /-- How many free values the side has taken. -/
  free : Nat
  doms : SMap Domain
  /-- The PPS output and when it falls (R364); the last stamped edge of the PPS input (R365), and since when one
  is awaited (R366). -/
  ppsOut : Bool
  ppsEnd : Nat
  ppsPrev : Option Nat
  ppsBase : Option Nat
  faultQ : List FaultMsg
  rates : List FaultMsg
  out : List Output
  ports : SMap PortDyn
  rx : List RxFrame
  frameNo : Nat
  recirc : List Recirc
  rrPort : Nat
  rrVport : Nat
  vportWait : Nat
  /-- Vport work: transmit descriptors and deliveries in flight (R466, R401, R468). -/
  txJobs : List TxJob
  rxJobs : List RxJob
  /-- The vports' engines, and the side's PCIe functions: 0 the physical function, n virtual function n (R450). -/
  vps : SMap VportDyn
  fns : SMap FnDyn
  -- search
  badgerQ : List BadgerCmd
  badgerRun : Option BadgerRun
  probes : SMap Probe
  banksFenced : Nat
  -- station
  learnQ : List LearnReq
  sendQ : List SendRec
  lastMsg : Nat
  learnSeq : Nat
  rehashQ : List (Nat × Nat)
  /-- Learning records for the other side, each with its destination (R239). -/
  crossRecs : List Nat
  learnRx : List Nat
  -- epochs, FRER, policing
  flipTarget : Nat
  flipAt : Nat
  flipEff : Nat
  copyTo : SMap Nat
  frer : SMap FrerDyn
  gates : SMap GateDyn
  meters : SMap MeterState
  mgmtMeter : MeterState
  /-- The last sweep of every meter (R371). -/
  sweptAt : Nat
  shapers : SMap Shaper
  /-- The idle slopes of vport queues in effect since the vport's last selection (R350), by 8 vport + queue. -/
  vpSlopes : SMap Nat
  -- switch core
  copies : List Copy
  copyNo : Nat
  /-- Credits not at their group (R291): the keys 64 group + 8 middle + slice that are away. -/
  spent : SMap Nat
  /-- Cells in the middles, oldest first, and the last fabric slot in which the middles delivered. -/
  middles : List MidCell
  middleSlot : Nat
  /-- Credits on their way back, with the slot in which their cell left the middle. -/
  returning : List (Nat × Nat)
  /-- Cells a middle has delivered and the slice has not yet taken. -/
  arriving : List Cell
  streams : SMap Stream
  /-- The slot after the one in which each group last sent, and the slice it served last plus 1. -/
  groupSlot : SMap Nat
  sliceRr : SMap Nat
  /-- Frames linked to each queue of each target, head first. -/
  queues : SMap (List Nat)
  /-- XOFF conditions (R300): key 16 port + state, the time of the last XOFF sent plus 1. -/
  xoffs : SMap Nat
  /-- Device-originated frames that wait for reserve cells (R303): the port and the octets without FCS. -/
  mgmtWait : List (Nat × Octets)
  /-- Copies admitted to the crossing and not wholly sent, and cells that have come over it. -/
  crossOut : List Copy
  crossIn : List CrossCell
  crossRr : Nat
  /-- Copies being taken from the crossing: (sender's copy, own copy or none when refused). -/
  crossMap : SMap (Option Nat)
  /-- Frames with undecided cross-side copies: how many, and their epoch (R27, R275). -/
  crossHold : SMap (Nat × Nat)
  /-- Egress stamps on their way back to the other side (R362): its frame's number, and the stamp, or none where a port holds too many
  requests. -/
  stampsBack : List (Nat × Option Nat)
  /-- The cores: vport_bind (R391), pairs bound (R393), cores halted by divergence (R396) and fenced, the start
  address of each core's last start plus 1 (R389), and the pending identities of each IMSIC file by
  256 (9 core + file) + identity, file 0 the M-level, 1 the S-level, 2 to 8 the guest files (R397). -/
  vportBind : SMap Nat
  pairs : Nat
  /-- lockstep_pairs has been written since the side's reset (R10, R393). -/
  pairsWritten : Bool
  halted : Nat
  coresFenced : Nat
  coreStart : SMap Nat
  imsic : SMap Nat
  /-- The APLIC: its asserted sources, one bit each (R398), and its machine and supervisor domains (R397). -/
  aplicIn : Nat
  aplicM : AplicDom
  aplicS : AplicDom
  /-- The machine timer's compare values (R390). -/
  mtimecmp : SMap Nat
  /-- The scratchpad: the rotation pointer, requests that wait, banks busy merging, reservations by master (the
  word plus 1), words that read as uncorrectable (R408 to R413). -/
  spmPointer : Nat
  spmWait : List SpmReq
  spmMerging : Nat
  spmRes : SMap Nat
  spmBad : SMap Nat
  /-- The DRAM controller. -/
  dm : DramDyn
  /-- The pools' buffers by 2^21 pool + index (R328 to R330): those that are not free (1 allocated, 2 quarantined
  under R342), and the owner tags plus 1 (256 for an unreadable tag); the lane each pool served last plus 1; the
  owners in reclaimed state and the owner being scanned plus 1 (R336); each pool port's last_error (R334). -/
  poolUsed : SMap Nat
  poolTags : SMap Nat
  lastLane : SMap Nat
  reclaimed : List Nat
  reclaiming : Nat
  lastErrs : SMap Nat
  /-- Messages for the device collector (R509), handed on with the command that makes them, and wake sources
  seen while the side enters a low-power state (R549). -/
  toDev : List FaultMsg
  wakePend : Nat
  /-- The clock at which slot numbering last restarted (R290, R551). -/
  slotBase : Nat
  /-- PLLs under R541, one bit each: those whose second attempt runs, and those that have failed to lock; before the release bits 8 to 13 are those without a reference. -/
  pllTry : Nat
  pllBad : Nat
  /-- The Owl has failed: a wake starts no exit (R17). -/
  deaf : Bool
  /-- Where a change of power state stands (R546, R554): 1 draining, 2 drained, 3 the exit's reset, 4 from Den to Burrow; and when it began. -/
  entryStep : Nat
  entryAt : Nat
  /-- The side reset input is low or its pulse lasts (R628); the node that the wake detector answers to in Burrow (R553). -/
  inReset : Bool
  fieldWakeId : Nat
  /-- The collector (R509 to R533): units its reactions hold; fences by 65,536 kind + number, 1 until complete, then 2;
  state-kind messages whose state holds; messages lost since the queue last drained. -/
  holds : List Hold
  fences : SMap Nat
  stateLive : List LiveState
  qLost : Nat
  /-- The fault states of the error pair whose cause stands, bits 2 to 5 (R528). -/
  pairCauses : Nat
  /-- Conditions the sources E+465 to E+467 detect: [0] a PLL unlocked, [1] the reference clock out of range, [2] and [3] the
  junction temperature at the warning and the shutdown threshold, [4] and [5] the readback of P and of N. -/
  conds : Nat
  /-- The cores' performance counters (R496, R497) by 128 core + number: 0 cycle, 2 instret, 3 to 31; 32 + n
  mhpmevent n; 64 to 67 mcountinhibit, mcounteren, scounteren, hcounteren; 68 the pending overflow interrupt. -/
  hpm : SMap Nat
  /-- The samplers (R503, R504): when each core was sampled last plus 1, the MSIs that are not armed, samples lost
  since the last record. -/
  sampAt : SMap Nat
  sampSent : Nat
  sampLost : SMap Nat
  /-- The latched counters (R491) and those in the snapshot window, by key; key 0 is the crossing's. -/
  snapLatch : SMap Nat
  snapImage : SMap Nat
  /-- Lane and port tests (R593 to R600); forwarding stopped through the TAP (R602). -/
  test : SMap TestDyn
  tapStop : Bool
  /-- The side's lanes that are fused off (R4), one bit for each port. -/
  absentPorts : Nat
  /-- The field port is in bus-off (R73). -/
  busOff : Bool
  deriving DecidableEq, Repr

/-- One side: its core state and its two memories (R406, R418). -/
structure Side where
  r : Core
  spm : Memory
  dram : Memory
  deriving DecidableEq, Repr

/-- A write that a function or a core holds until its commit (R56, R63): the object's index and subindex; 1 in `aperture` and the
entry's number for one entry of a DOMAIN, else 0; and its halves written so far. -/
structure PendWrite where
  obj : Nat
  aperture : Nat
  entry : Nat
  halves : SMap Nat
  deriving DecidableEq, Repr

/-- A snapshot that a read took (R58, R63): of which object or entry, named as in a pending write, and its value, slot 0 least
significant. -/
structure SnapBuf where
  obj : Nat
  aperture : Nat
  entry : Nat
  value : Nat
  deriving DecidableEq, Repr

/-- Where a Tyist request came from and how its answer goes back (R74, R76): carrier 0 CAN XL, 1 CAN FD, 2 in-band with
the source address, the VLAN tag octets and the port. -/
structure Carrier where
  side : SideId
  kind : Nat
  mac : Nat
  vlan : Octets
  port : Nat
  deriving DecidableEq, Repr

/-- An open segmented transaction (R68): the object, the octets gathered or to be sent, the next segment, whether one has
gone, whether it has ended but for repeats of its last segment, and the always-on time of its last PDU. -/
structure Xfer where
  via : Carrier
  tag : Nat
  write : Bool
  index : Nat
  sub : Nat
  total : Nat
  data : Octets
  next : Nat
  began : Bool
  done : Bool
  at' : Nat
  /-- Why a read of a memory ends after the octets held (R446): ok when they are all. -/
  ends : Reason
  deriving DecidableEq, Repr

/-- The device-level part: the Owl, the device collector, the boot flash and fuses, the host link, the TAP (R15). -/
structure Dev where
  /-- The device-level objects that differ from their defaults, and the entries of the device collector's windows. -/
  regs : SMap Slot
  tabs : SMap Nat
  /-- PORST_N is low; TEST_MODE was sampled high (R619); the Owl has failed (R17). -/
  porst : Bool
  testMode : Bool
  /-- device_mode has been written since PORST_N (R10, R21). -/
  modeWritten : Bool
  owlDown : Bool
  /-- The always-on count of R509 in ns, in 40 ns steps, and the ns since its last step. -/
  aon : Nat
  aonSub : Nat
  free : Nat
  /-- The device collector's queue, what its messages hold, the rate rule's waiting messages. -/
  faultQ : List FaultMsg
  stateLive : List LiveState
  holds : List Hold
  rates : List FaultMsg
  logSeq : Nat
  /-- The fuse array (R584) and the boot flash (R565), whose erased bytes read 0xFF: the memory holds the complement. -/
  fuses : Nat
  flash : Memory
  /-- The boot (R571, R574, R580): the phase (0 ROM, 1 verified, 2 firmware runs, 3 released), slots that have failed, the
  slot in use (2 the staged image), its address, its manifest, whether the image is to be programmed, the length staged; the code
  that unreadable fuses fail every slot with (R585); a rail went out of range before the release (R622). -/
  bootPhase : Nat
  bootTried : Nat
  bootSource : Nat
  bootBase : Nat
  manifest : Octets
  programming : Bool
  stagedLen : Nat
  fuseFail : Nat
  bootDead : Bool
  /-- The active sequence log (R567). -/
  logActive : Nat
  /-- Accesses (R56, R58) by requester number, and the Tyist transactions (R71). -/
  pend : SMap PendWrite
  snaps : SMap SnapBuf
  xfers : List Xfer
  /-- The staged bundle (R81), when its owner wrote last, and who waits for the response of its application (R86). -/
  stage : Octets
  bundleAt : Nat
  bundleReply : Option (Carrier × Nat)
  bundleSender : Nat
  /-- Attestation (R588): when the owner wrote last, when the report was done, the report, and whether one is being signed. -/
  attestAt : Nat
  attestDone : Nat
  attestReport : Octets
  /-- Which 8-octet units of it its owner has read (R588). -/
  attestSeen : Nat
  attestFrom : Octets
  /-- The identity keys (R586, R587). -/
  pubkey : Octets
  cert : Octets
  /-- WAKE_IN levels (R550), PERST_N low, the PCIe link up. -/
  wakeLevel : Nat
  perst : Bool
  linkUp : Bool
  /-- Adaptive voltage (R552, R556): VDD_CORE_EN is low; the end of the raise before a PLL start and what the regulator has confirmed of it, since when every margin has been high, whether the
  core clock is lowered, the powered hours at the last reports of kinds 2 and 3 of source 14 plus 1. -/
  vddOff : Bool
  avsRaise : Nat
  avsGain : Nat
  avsHigh : Nat
  avsLowered : Bool
  lifeSaid2 : Nat
  lifeSaid3 : Nat
  /-- The TAP (R601): its instruction, boundary cells, whether forwarding has been stopped through it; MBIST (R605): the
  run in progress, and the results by macro. -/
  tapIr : Nat
  tapBsr : SMap Nat
  tapStopped : Bool
  mbistRun : Nat
  mbistRes : SMap Nat
  /-- The uncorrectable error status of the functions (AER, R450, R454), by routing ID. -/
  aer : SMap Nat
  deriving DecidableEq, Repr

/-- The whole device, and the commands that wait (R13, R15). -/
structure Plant where
  dev : Dev
  a : Side
  b : Side
  deriving DecidableEq, Repr

/-! ### After a reset (R15, R48, R627, R628) -/

/-- A side that nothing has written: every object at its default, nothing inside, not released. -/
def Core.blank (id : SideId) : Core :=
  { id := id, regs := [], tabs := [], marks := [], released := false, now := 0, free := 0, doms := [],
    ppsOut := false, ppsEnd := 0, ppsPrev := none, ppsBase := none, faultQ := [], rates := [], out := [],
    ports := [], rx := [], frameNo := 0, recirc := [], rrPort := 0, rrVport := 0, vportWait := 0,
    txJobs := [], rxJobs := [], vps := [], fns := [], badgerQ := [], badgerRun := none, probes := [],
    banksFenced := 0, learnQ := [], sendQ := [], lastMsg := 0, learnSeq := 0, rehashQ := [], crossRecs := [],
    learnRx := [], flipTarget := 0, flipAt := 0, flipEff := 0, copyTo := [], frer := [], gates := [],
    meters := [], mgmtMeter := MeterState.zero, sweptAt := 0, shapers := [], vpSlopes := [], copies := [], copyNo := 0,
    spent := [], middles := [], middleSlot := 0, returning := [], arriving := [], streams := [],
    groupSlot := [], sliceRr := [], queues := [], xoffs := [], mgmtWait := [], crossOut := [], crossIn := [],
    crossRr := 0, crossMap := [], crossHold := [], stampsBack := [], vportBind := [], pairs := 0, pairsWritten := false,
    halted := 0, coresFenced := 0, coreStart := [], imsic := [], aplicIn := 0, aplicM := AplicDom.zero, aplicS := AplicDom.zero, mtimecmp := [],
    spmPointer := 0, spmWait := [],
    spmMerging := 0, spmRes := [], spmBad := [], dm := DramDyn.zero, poolUsed := [], poolTags := [],
    lastLane := [], reclaimed := [], reclaiming := 0, lastErrs := [], toDev := [], wakePend := 0,
    slotBase := 0, pllTry := 0, pllBad := 0, deaf := false, entryStep := 0, entryAt := 0, inReset := false, fieldWakeId := 0,
    holds := [], fences := [], stateLive := [], qLost := 0, pairCauses := 0, conds := 0, hpm := [],
    sampAt := [], sampSent := 0, sampLost := [], snapLatch := [], snapImage := [], test := [],
    tapStop := false, absentPorts := 0, busOff := false }

/-- A side while PORST_N is low: power_state reads 7 (R560). -/
def Side.porst (id : SideId) : Side :=
  { r := { Core.blank id with regs := [(Reg.power_state, 7)] }, spm := [], dram := [] }

/-- The device-level part while PORST_N is low. The fuses and the flash are the parts' own contents, here a blank fuse array
and an erased flash; the rails and the always-on clocks are in range (DESIGN CHOICE, log entry 9). -/
def Dev.porst0 : Dev :=
  { regs := [(Reg.aon_status, 3), (Reg.rail_status, 255)], tabs := [], porst := true, testMode := false,
    modeWritten := false, owlDown := false, aon := 0, aonSub := 0, free := 0, faultQ := [], stateLive := [], holds := [],
    rates := [], logSeq := 0, fuses := 0, flash := [], bootPhase := 0, bootTried := 0, bootSource := 0,
    bootBase := 0, manifest := [], programming := false, stagedLen := 0, fuseFail := 0, bootDead := false, logActive := 0, pend := [],
    snaps := [], xfers := [], stage := [], bundleAt := 0, bundleReply := none, bundleSender := 0,
    attestAt := 0, attestDone := 0, attestReport := [], attestSeen := 0, attestFrom := [], pubkey := [],
    cert := [], wakeLevel := 0, perst := false, linkUp := false, vddOff := false, avsRaise := 0, avsGain := 0, avsHigh := 0,
    avsLowered := false, lifeSaid2 := 0, lifeSaid3 := 0, tapIr := 0, tapBsr := [], tapStopped := false,
    mbistRun := 0, mbistRes := [], aer := [] }

/-- The device with PORST_N low. -/
def Plant.reset : Plant := { dev := Dev.porst0, a := Side.porst .a, b := Side.porst .b }

/-! ### The machine -/

/-- Why a command could stop with a fault. The spec gives every command its effect, so no meaning answers with one. -/
inductive Fault where
  /-- Raised by no command (safe: it is never answered). -/
  | noCommand
  deriving DecidableEq, Repr

/-- Why a command could be refused by the model. -/
inductive Refusal where
  /-- A row without a meaning; raised by no command, since every row has one (safe: the machine would stop where the hardware goes
  on). -/
  | notModelled (mnemonic : String)
  deriving DecidableEq, Repr

/-- The block: the commands that wait, first in, first out, and the device. -/
structure State where
  pending : List Instr
  plant : Plant
  deriving DecidableEq, Repr

/-- The machine right after reset: PORST_N is low, and nothing waits. -/
def State.reset : State := { pending := [], plant := Plant.reset }

end Sys2Proof.Machine
end

