-- ==== Sys2Proof/Machine/Tables.lean ====
section
/-! DEFINITION. Tables.lean: the table windows (R60), their entries and the fields of their records. A
record is kept as the number its octets spell in the order of R653 (most significant byte first). -/

namespace Sys2Proof.Machine

/-- The key of an entry of a window: the window's offset from S and the entry number. Windows kept in
one bank per epoch give Jade's entries from 2^28 on. -/
def tabKey (w e : Nat) : Nat := w * 2 ^ 32 + e

/-- The entry number of an epoch's bank. -/
def bankEntry (epoch e : Nat) : Nat := epoch * 2 ^ 28 + e

/-- Names of the window offsets. -/
abbrev wShape : Nat := 0x1000
abbrev wSearch : Nat := 0x1100      -- by slot, all banks
abbrev wProfile : Nat := 0x1180
abbrev wStation : Nat := 0x1200
abbrev wVidMap : Nat := 0x1201
abbrev wAction : Nat := 0x1300
abbrev wRewrite : Nat := 0x1301
abbrev wRepl : Nat := 0x1302
abbrev wGroup : Nat := 0x1303
abbrev wFrer : Nat := 0x1304
abbrev wFrerCnt : Nat := 0x1305
abbrev wMirror : Nat := 0x1306
abbrev wGclAdmin : Nat := 0x1400
abbrev wGclOper : Nat := 0x1401
abbrev wFilter : Nat := 0x1402
abbrev wMeter : Nat := 0x1403
abbrev wMeterState : Nat := 0x1404
abbrev wFilterCnt : Nat := 0x1405
abbrev wSgate : Nat := 0x1406
abbrev wSgclAdmin : Nat := 0x1407
abbrev wSgclOper : Nat := 0x1408
abbrev wSpm : Nat := 0x1500
abbrev wDram : Nat := 0x1501
abbrev wTrain : Nat := 0x1502
abbrev wVport : Nat := 0x1600
abbrev wCounters : Nat := 0x1700
abbrev wFaultCfg : Nat := 0x1800
abbrev wFaultStat : Nat := 0x1801
abbrev wFaultLog : Nat := 0x1802

/-- Whether `k` lies in the list. -/
def inList (k : Nat) (l : List Nat) : Bool := l.any (fun x => decide (x = k))

/-- The default class of kind `k` of side source E + `e` (R513). -/
def sideKindClass (e k : Nat) : Nat :=
  if inList e [257, 263, 345, 349, 356, 392, 395, 436] || (decide (328 ≤ e) && decide (e < 344)) then
    (if k = 1 then 1 else if k = 2 then 2 else 0)
  else if e = 258 then (if k = 1 ∨ k = 4 then 1 else if k = 2 ∨ k = 3 then 2 else 0)
  else if e = 261 ∨ (320 ≤ e ∧ e < 328) ∨ (384 ≤ e ∧ e < 392) then
    (if k = 1 then 1 else if k = 2 ∨ k = 3 then 2 else 0)
  else if 416 ≤ e ∧ e < 420 then (if k = 1 ∨ k = 3 then 1 else if k = 2 ∨ k = 4 then 2 else 0)
  else if e = 264 ∨ (420 ≤ e ∧ e < 424) then (if k = 2 then 2 else 0)
  else if 424 ≤ e ∧ e < 428 then (if k = 3 then 2 else 0)
  else if e = 346 then (if 1 ≤ k ∧ k ≤ 5 then 2 else 0)
  else if e = 351 ∨ e = 467 then (if k = 1 then 2 else 0)
  else if e = 464 then (if k = 1 then 1 else if k = 2 then 3 else 0)
  else if e = 465 ∨ e = 471 then (if k = 1 ∨ k = 2 then 3 else 0)
  else if e = 466 then (if k = 1 then 2 else if k = 2 then 3 else 0)
  else 0

/-- The default class of kind `k` of a device source (R513). -/
def devKindClass (e k : Nat) : Nat :=
  if e ≤ 7 ∨ e = 9 then (if k = 1 then 3 else 0)
  else if e = 10 ∨ e = 24 then (if k = 1 then 1 else if k = 2 then 3 else 0)
  else if e = 15 then (if k = 2 then 3 else 0)
  else if e = 8 ∨ e = 13 then (if k = 1 then 2 else 0)
  else if e = 19 then (if k = 1 then 1 else if k = 2 then 2 else 0)
  else if e = 11 ∨ e = 12 ∨ e = 21 then (if k = 1 then 2 else 0)
  else 0

/-- The kind map of 64 two-bit fields that a class function gives. -/
def kindMap (f : Nat → Nat) : Nat := (List.range 64).foldl (fun acc k => acc + f k * 4 ^ k) 0

/-- The part of a fault_config entry below its kind map at reset (R522, R537): reactions, window value
1,000 in ms, host route with vector 4. -/
def faultCfgLow : Nat :=
  0x33 * 2 ^ 120 + 0x03 * 2 ^ 112 + 0x01 * 2 ^ 104 + 1000 * 2 ^ 72 + 2 ^ 71 + 2 ^ 68 + 4 * 2 ^ 62

/-- What an entry that nothing has written holds: the Reset columns of the layouts (R257, R268, R369,
R537); 0 everywhere else. -/
def tabDefault (k : Nat) : Nat :=
  let w := k / 2 ^ 32
  let e := k % 2 ^ 32
  if w = wRepl then 2 ^ 63 * 2 ^ 64
  else if w = wFrer then (2 * 2 ^ 118 + 1000 * 2 ^ 102) * 2 ^ 64
  else if w = wSgate then 1000000 * 2 ^ 160
  else if w = wFaultCfg then kindMap (sideKindClass e) * 2 ^ 128 + faultCfgLow
  else 0

/-- The record at a key. -/
def Core.tabAt (c : Core) (k : Nat) : Nat :=
  match SMap.find? c.tabs k with
  | some v => v
  | none => tabDefault k

/-- The record of an entry. -/
def Core.tab (c : Core) (w e : Nat) : Nat := c.tabAt (tabKey w e)

/-- A record written. -/
def Core.setTab (c : Core) (w e v : Nat) : Core :=
  { c with tabs := SMap.put c.tabs (tabKey w e) (tabDefault (tabKey w e)) v }

/-- The entries of a window from `lo` up to `hi` that differ from their default, in entry order. -/
def Core.tabRange (c : Core) (w lo hi : Nat) : List (Nat × Nat) :=
  (c.tabs.filter (fun x => decide (tabKey w lo ≤ x.1) && decide (x.1 < tabKey w hi))).map
    (fun x => (x.1 - tabKey w 0, x.2))

/-- The mark of an entry. -/
def Core.mark (c : Core) (w e : Nat) : Nat := SMap.getD c.marks (tabKey w e) 0

/-- An entry marked. -/
def Core.setMark (c : Core) (w e v : Nat) : Core :=
  { c with marks := SMap.put c.marks (tabKey w e) 0 v }

/-- A word of an `n`-word record counted up, saturating at all ones (R487). -/
def addWord (rec n k d : Nat) : Nat :=
  let hi := 64 * (n - k) - 1
  let lo := 64 * (n - 1 - k)
  putBits rec hi lo (min allOnes64 (bits rec hi lo + d))

end Sys2Proof.Machine
end

