-- ==== Sys2Proof/Machine/Ops.lean ====
section
/-! DEFINITION. Ops.lean: the operations every unit shares: object registers, counters, outputs, the
clocks, fault messages and the cell ledger. -/

namespace Sys2Proof.Machine

/-! ### Object registers -/

/-- The value an object slot of the side holds. -/
def Core.rd (c : Core) (k : Nat) : Nat :=
  match SMap.find? c.regs k with
  | some v => v.toNat
  | none => sideDefault k

/-- A value stored in an object slot; a slot is 64 bits wide (R53). -/
def Core.wr (c : Core) (k v : Nat) : Core :=
  { c with regs := SMap.put c.regs k (BitVec.ofNat 64 (sideDefault k)) (BitVec.ofNat 64 v) }

/-- A BOOL object. -/
def Core.flag (c : Core) (k : Nat) : Bool := decide (c.rd k ≠ 0)

/-- The value of an object of several slots, its lowest slot least significant. -/
def Core.rdWide (c : Core) (k : Nat) : Nat → Nat
  | 0 => 0
  | n + 1 => c.rd k + 2 ^ 64 * Core.rdWide c (k + 1) n

/-- The slots of a wide object written, lowest first. -/
def Core.wrWide (c : Core) (k : Nat) : Nat → Nat → Core
  | 0, _ => c
  | n + 1, v => Core.wrWide (c.wr k (v % 2 ^ 64)) (k + 1) n (v / 2 ^ 64)

/-- The octets of an OCTETS(n) object, octet j in slot j div 8 at bits [8(j mod 8) + 7 : 8(j mod 8)] (R45). -/
def Core.rdOctets (c : Core) (k n : Nat) : Octets := toLe n (c.rdWide k (ceilDiv n 8))

/-- The same, written. -/
def Core.wrOctets (c : Core) (k : Nat) (o : Octets) : Core := c.wrWide k (ceilDiv o.length 8) (leNat o)

/-! ### Ports, outputs, free values -/

/-- The dynamic state of port `p`. -/
def Core.port (c : Core) (p : Nat) : PortDyn := SMap.getD c.ports p PortDyn.zero

/-- The dynamic state of port `p`, changed. -/
def Core.modPort (c : Core) (p : Nat) (f : PortDyn → PortDyn) : Core :=
  { c with ports := SMap.put c.ports p PortDyn.zero (f (c.port p)) }

/-- Something put out. -/
def Core.emit (c : Core) (o : Output) : Core := { c with out := o :: c.out }

/-! ### Clocks (R358, R359) -/

/-- Units of a domain clock in 1 ns: 3 × 65,536 × 10^9. -/
def nsUnit : Nat := 196608000000000

/-- Units of a domain clock in one pipeline clock at the plain rate. -/
def tickUnit : Nat := 65536000000000

/-- The local clock in ns (R358): it starts at 0 at the side's release. -/
def Core.localNs (c : Core) : Nat := c.now / 3

/-- Domain clock `d`. -/
def Core.dom (c : Core) (d : Nat) : Domain := SMap.getD c.doms d ⟨0, 0⟩

/-- Domain clock `d` in ns. -/
def Core.domNs (c : Core) (d : Nat) : Nat := (c.dom d).value / nsUnit

/-- Side time in domain units (R359): the domain time_source names, or the local clock for 4. -/
def Core.sideUnits (c : Core) : Nat :=
  if c.rd Reg.time_source = 4 then c.now * tickUnit else (c.dom (c.rd Reg.time_source)).value

/-- Side time, TIME64 (R359). -/
def Core.sideTime (c : Core) : Nat := c.sideUnits / nsUnit

/-- The plain rate of domain `d`, in units for one pipeline clock: domain_rate is signed, in 2^-16 ppb. -/
def Core.domRate (c : Core) (d : Nat) : Nat :=
  ((tickUnit : Int) + signedOf 64 (c.rd (Reg.domain_rate d))).toNat

/-- The slew of one pipeline clock: slew_rate_ppm of the local rate (R360). -/
def Core.slewUnit (c : Core) : Nat := c.rd Reg.slew_rate_ppm * 65536000

/-- Domain `d` after `n` pipeline clocks (R360): while slewing it runs faster or slower by slew_rate_ppm
until nothing remains. -/
def Core.domAfter (c : Core) (d n : Nat) : Domain :=
  let x := c.dom d
  let most := (c.slewUnit * n : Nat)
  let s := clampInt x.slew (-(most : Int)) most
  ⟨((x.value : Int) + (c.domRate d * n : Nat) + s).toNat, x.slew - s⟩

/-- The side's clocks `n` pipeline clocks later; before the release no clock runs (R360). -/
def Core.advance (c : Core) (n : Nat) : Core :=
  if !c.released then c else
  { c with
    now := c.now + n
    doms := (List.range 4).foldl (fun m d => SMap.put m d ⟨0, 0⟩ (c.domAfter d n)) c.doms }

/-- The clocks run on to a time, if it has not passed. -/
def Core.advanceTo (c : Core) (t : Nat) : Core := c.advance (t - c.now)

/-- Pipeline clocks in a number of ns, µs, ms. -/
def nsTicks (n : Nat) : Nat := 3 * n
def usTicks (n : Nat) : Nat := 3000 * n
def msTicks (n : Nat) : Nat := 3000000 * n

/-- The pipeline clocks after which side time has reached a number of units, at the present rate; at
least 1 when it has not (gate boundaries, R352, R361). -/
def Core.ticksToUnits (c : Core) (u : Nat) : Nat :=
  if u ≤ c.sideUnits then 0
  else
    let d := c.rd Reg.time_source
    let rest := u - c.sideUnits
    if d = 4 then ceilDiv rest tickUnit
    else
      let x := c.dom d
      let plain := c.domRate d
      let fast := ((plain : Int) + (if 0 < x.slew then (c.slewUnit : Int) else if x.slew < 0 then -(c.slewUnit : Int) else 0)).toNat
      let slewTicks := if c.slewUnit = 0 then 0 else x.slew.natAbs / c.slewUnit
      if rest ≤ fast * slewTicks then ceilDiv rest (max 1 fast)
      else ceilDiv (((rest : Int) - x.slew).toNat) (max 1 plain)

/-- The fabric slot of the present clock, counted from the side's release or its exit from Den (R289, R290, R551): a slot is
8 ÷ 1.171875 GHz, which is 20.48 pipeline clocks, so 2,048 pipeline clocks hold 100 slots. -/
def Core.slot (c : Core) : Nat := (c.now - c.slotBase) * 100 / 2048

/-! ### Fault messages (R137, R509, R510) -/

/-- The first source number of a side: E (R90). -/
def Core.eBase (c : Core) : Nat := match c.id with
  | .a => 64
  | .b => 544

/-- The base class of a kind of side source E + `e` under its kind map (R514, R537). -/
def Core.baseClass (c : Core) (e kind : Nat) : Nat :=
  bits (c.tab wFaultCfg e) (129 + 2 * (kind % 64)) (128 + 2 * (kind % 64))

/-- The dictionary index of a key of a side's store. -/
def keyIndex (id : SideId) (k : Nat) : Nat :=
  let i := k / 256
  if i < 0x2000 then (match id with | .a => 0x2000 | .b => 0x4000) + i
  else if i < 0x2080 then (match id with | .a => 0x6000 | .b => 0x6040) + (i - 0x2000)
  else if i < 0x3000 then (match id with | .a => 0x6080 | .b => 0x60C0) + (i - 0x2080)
  else if i < 0x3580 then i - 0x2000 + id.num else i - 0x2000 + 64 * id.num

/-- A counter's own record in last_saturated (R488). -/
def Core.counterRec (c : Core) (k : Nat) : Nat := keyIndex c.id k * 2 ^ 16 + k % 256 * 2 ^ 8

/-- Whether a message of side source E + `e` finds a place in the collector's queue (R510): it has 1,024 places, 64 of them for base
classes Severe and Fatal. -/
def Core.msgRoom (c : Core) (e kind : Nat) : Bool := decide (c.faultQ.length < if 2 ≤ c.baseClass e kind then 1024 else 960)

/-- The clock at which source E + `e` can present a message: the present one, or the one after the last it has presented, for a unit
presents at most one for each source in a clock (R510). -/
def Core.presents (c : Core) (e : Nat) : Nat :=
  c.faultQ.foldl (fun a m => if m.src = c.eBase + e then max a (m.clock + 1) else a) c.now

/-- A message put into the collector's queue. -/
def Core.queueMsg (c : Core) (e kind addr : Nat) : Core :=
  { c with faultQ := c.faultQ ++ [⟨c.eBase + e, kind, addr % 2 ^ 48, c.sideTime, c.presents e⟩] }

/-- A message that finds no place (R510): it is discarded, but sets the sticky bit of its base class and the lost bit of its source. -/
def Core.dropMsg (c : Core) (e kind : Nat) : Core :=
  let s := c.tab wFaultStat e
  let c1 := c.setTab wFaultStat e (putBit (putBit s (252 + c.baseClass e kind) true) 260 true)
  { c1 with qLost := c1.qLost + 1 }

/-- A counter that has reached all ones is recorded and counted in saturated_count (R488), and so is the saturation of that counter. -/
def Core.recordSaturated (c : Core) (rec32 : Nat) : Core :=
  let n := c.rd Reg.saturated_count
  if n = 2 ^ 32 - 1 then c.wr Reg.last_saturated rec32
  else if n + 1 = 2 ^ 32 - 1 then
    (c.wr Reg.saturated_count (n + 1)).wr Reg.last_saturated (c.counterRec Reg.saturated_count)
  else (c.wr Reg.saturated_count (n + 1)).wr Reg.last_saturated rec32

/-- A message that finds no place, counted in collector_queue_overflow; when that counter reaches all ones, R488 acts on it. -/
def Core.loseMsg (c : Core) (e kind : Nat) : Core :=
  let c1 := c.dropMsg e kind
  let n := c1.rd Reg.collector_queue_overflow
  if n = allOnes64 then c1
  else
    let c2 := c1.wr Reg.collector_queue_overflow (n + 1)
    if n + 1 = allOnes64 then
      let rec32 := c2.counterRec Reg.collector_queue_overflow
      let c3 := c2.recordSaturated rec32
      if c3.msgRoom 396 3 then c3.queueMsg 396 3 rec32 else c3.dropMsg 396 3
    else c2

/-- A message of side source E + `e` sent for the event (R510). -/
def Core.report (c : Core) (e kind addr : Nat) : Core := if c.msgRoom e kind then c.queueMsg e kind addr else c.loseMsg e kind

/-- A message under the rate rule (R137): at most one for each kind in each 1 ms interval, sent at the
interval's end. -/
def Core.reportRate (c : Core) (e kind addr : Nat) : Core :=
  if c.rates.any (fun m => m.src == e && m.kind == kind) then c
  else { c with rates := c.rates ++ [⟨e, kind, addr % 2 ^ 48, 0, 0⟩] }

/-! ### Counters (R486 to R488) -/

/-- The all-ones value of a counter: 32 bits for a U32 object, else 64 (R487). -/
def counterMax (k : Nat) : Nat :=
  match findRow sideRows k with
  | some r => if r.ty = ObjType.u32 then 2 ^ 32 - 1 else allOnes64
  | none => allOnes64

/-- A saturation recorded and reported (R488), and that of saturated_count with it. -/
def Core.saySaturated (c : Core) (rec32 addr : Nat) : Core :=
  let c1 := (c.recordSaturated rec32).report 396 3 addr
  if c.rd Reg.saturated_count + 1 = 2 ^ 32 - 1 then c1.report 396 3 (c.counterRec Reg.saturated_count) else c1

/-- A counter that reaches all ones (R488); a device-level one is reported by device source 20. -/
def Core.saturated (c : Core) (k : Nat) : Core :=
  if 0x300000 ≤ k then { c with toDev := c.toDev ++ [⟨20, 3, c.counterRec k, 0, 0⟩] } else c.saySaturated (c.counterRec k) (c.counterRec k)

/-- A counter of a window's entry that reaches all ones (R488): the window's index and subindex 10, and the entry in the address. -/
def Core.saturatedEntry (c : Core) (w e : Nat) : Core :=
  let rec32 := keyIndex c.id (256 * w) * 2 ^ 16 + 0x10 * 2 ^ 8
  c.saySaturated rec32 (e * 2 ^ 32 + rec32)

/-- A window's counter taken from `old` to `new`, of all ones `m`. -/
def Core.sawCount (c : Core) (w e old new m : Nat) : Core := if old < m ∧ m ≤ new then c.saturatedEntry w e else c

/-- A word of a record of counters counted up. -/
def Core.countWord (c : Core) (w e n k d : Nat) : Core :=
  let old := bits (c.tab w e) (64 * (n - k) - 1) (64 * (n - 1 - k))
  (c.setTab w e (addWord (c.tab w e) n k d)).sawCount w e old (old + d) allOnes64

/-- A counter counted up by an amount; it stops at all ones, and the first time it gets there is
reported (R486 to R488). -/
def Core.add (c : Core) (k n : Nat) : Core :=
  let v := c.rd k
  let m := counterMax k
  if v + n < m then c.wr k (v + n)
  else if v = m then c
  else (c.wr k m).saturated k

/-- A counter counted up by 1. -/
def Core.inc (c : Core) (k : Nat) : Core := c.add k 1

/-! ### Epochs in use (R274) -/

/-- Whether an epoch (0 Amber, 1 Jade) is in use: live, the target of a scheduled flip, or the old epoch
of a flip that has not completed. Before the side's release no epoch is in use (R576). -/
def Core.epochInUse (c : Core) (e : Nat) : Bool :=
  c.released &&
  (decide (c.rd Reg.epoch_live = e) ||
  (decide (c.rd Reg.epoch_flip = 1) && decide (c.flipTarget = e)) ||
  (decide (2 ≤ c.rd Reg.epoch_flip) && decide (c.rd Reg.epoch_live ≠ e)))

/-- Whether an epoch_target (bit 0 Amber, bit 1 Jade) names an epoch in use. -/
def Core.targetInUse (c : Core) (t : Nat) : Bool :=
  (bitOf t 0 && c.epochInUse 0) || (bitOf t 1 && c.epochInUse 1)

/-- Whether epoch_sync runs (R280). -/
def Core.syncing (c : Core) : Bool := decide (c.rd Reg.epoch_sync = 1)

/-- The checks of R274 and R280 on a write to a slot with validity bits: `t` the epoch_target, `va`, `vj`
the stored bits, `clear` the clear bit written. -/
def Core.epochCheck (c : Core) (t : Nat) (va vj clear : Bool) : Reason :=
  if c.targetInUse t then .epochInUse
  else if !clear && ((va && c.epochInUse 0) || (vj && c.epochInUse 1)) then .epochInUse
  else if c.syncing && (decide (t % 4 ≠ 0) || (!clear && (va || vj))) then .busy
  else .ok

/-! ### The cell ledger (R316) -/

/-- The terms of the cell ledger. -/
inductive CellTerm where
  | free
  | inFabric
  | queued
  | held
  deriving DecidableEq, Repr

/-- The object that holds a term. -/
def CellTerm.key : CellTerm → Nat
  | .free => Reg.cells_free
  | .inFabric => Reg.cells_in_fabric
  | .queued => Reg.cells_queued
  | .held => Reg.cells_held

/-- `n` cells move from one term to another; both change in the same clock (R316, R318). A move never
takes more cells than its term holds. -/
def Core.moveCells (c : Core) (src dst : CellTerm) (n : Nat) : Core :=
  if src = dst then c else
    let m := min n (c.rd src.key)
    (c.wr src.key (c.rd src.key - m)).wr dst.key (c.rd dst.key + m)

end Sys2Proof.Machine
end

