-- ==== Sys2Proof/Machine/Rates.lean ====
section
/-! DEFINITION. Rates.lean: rates and states of ports, wire times, and the wake of a side (R92 to R96, R102, R105,
R115 to R120, R548, R549, R655). -/

namespace Sys2Proof.Machine

/-! ### States and rates -/

/-- Fused-off ports (R4). -/
def Core.absent (c : Core) (p : Nat) : Bool := bitOf c.absentPorts p

/-- A lane member of a 100 Gb/s group (R94). -/
def Core.member (c : Core) (p : Nat) : Bool := decide (p % 4 ≠ 0) && decide (c.rd (Reg.port_mode (p / 4 * 4)) = 7)

/-- A port its collector has fenced (R139, R309). -/
def Core.portFenced (c : Core) (p : Nat) : Bool :=
  bitOf (c.rd Reg.ports_fenced) p || bitOf (c.rd Reg.slices_fenced) (p / 8)

/-- The side's lanes run at the low rate: it is in Den, leaves it, or goes from it to Burrow (R544, R546, R551). -/
def Core.inDen (c : Core) : Bool :=
  decide (c.rd Reg.power_state = 2) || decide (c.rd Reg.power_state = 3) || (decide (c.rd Reg.power_state = 4) && decide (c.entryStep = 4))

/-- The receive MACs drop new frames at their start delimiter (R106, R546). -/
def Core.lowPower (c : Core) : Bool :=
  c.inDen || decide (c.rd Reg.power_state = 1) || decide (c.rd Reg.power_state = 4)

/-- The number of a side. -/
def Core.num (c : Core) : Nat := match c.id with
  | .a => 0
  | .b => 1

/-- A message of device source `d` (R509); the device collector stamps it. -/
def Core.deviceReport (c : Core) (d kind addr : Nat) : Core :=
  { c with toDev := c.toDev ++ [⟨d, kind, addr % 2 ^ 48, 0, 0⟩] }

/-- The power report of R563: the side in bit 0, power_state in [3:1]. -/
def Core.powerReport (c : Core) (kind : Nat) : Core := c.deviceReport 23 kind (c.num + 2 * c.rd Reg.power_state)

/-- A wake (R548, R549): source `b` sets its bit of wake_cause; in Den, sources 0 to 4 only report when
den_wake_exit is 0; otherwise the side starts its exit, after the entry when it is still entering. With a failed Owl it starts none
(R17). -/
def Core.wake (c : Core) (b : Nat) : Core :=
  let c1 := c.wr Reg.wake_cause (putBit (c.rd Reg.wake_cause) b true)
  match c.rd Reg.power_state with
  | 2 => if b < 5 ∧ c.flag Reg.den_wake_exit = false then c1.powerReport 3 else if c.deaf then c1 else c1.wr Reg.power_state 3
  | 5 => if c.deaf then c1 else c1.wr Reg.power_state 6
  | 1 => { c1 with wakePend := putBit c1.wakePend b true }
  | 4 => { c1 with wakePend := putBit c1.wakePend b true }
  | _ => c1

/-- The MAC rate of a port's mode in Mb/s, 0 when the mode gives none yet (R92, R98). -/
def Core.modeMbps (c : Core) (p : Nat) : Nat :=
  match c.rd (Reg.port_mode p) with
  | 1 => (match c.rd (Reg.sgmii_speed p) with
    | 1 => 10
    | 2 => 100
    | 3 => 1000
    | _ => if c.flag (Reg.an_enable p) then (c.port p).anSpeed else 1000)
  | 2 => 1000
  | 3 => 2500
  | 4 => 5000
  | 5 => 10000
  | 6 => 25000
  | 7 => 100000
  | _ => 0

/-- The MAC rate that bounds idle slopes (R354): 1 Gb/s for SGMII under auto-negotiation. -/
def Core.planMbps (c : Core) (p : Nat) : Nat :=
  if c.rd (Reg.port_mode p) = 1 ∧ c.rd (Reg.sgmii_speed p) = 0 then 1000 else c.modeMbps p

/-- Whether a port can be up at all; a Disabled one cannot (R92). -/
def Core.mayRun (c : Core) (p : Nat) : Bool :=
  decide (c.rd (Reg.port_mode p) ≠ 0) && !c.absent p && !c.member p && !c.portFenced p && c.flag (Reg.admin_up p) && decide (c.rd (Reg.port_test p) = 0) &&
  decide (c.rd Reg.side_state ≠ 2)

/-- link_state (R105, R655). -/
def Core.linkState (c : Core) (p : Nat) : Nat :=
  if c.absent p then 5
  else if c.member p then 4
  else if !c.mayRun p then 0
  else if c.inDen then (if c.flag (Reg.den_hold p) && (c.port p).up then 6 else 0)
  else if (c.port p).up then 1
  else (c.port p).shown

/-- The link is up for forwarding. -/
def Core.linkUp (c : Core) (p : Nat) : Bool := decide (c.linkState p = 1)

/-- The rate a port receives and sends at, in Mb/s (speed_mbps): 0 when it is not up. -/
def Core.mbps (c : Core) (p : Nat) : Nat :=
  if c.linkState p = 6 then 1000 else if c.linkUp p then c.modeMbps p else 0

/-- An octet's time in thirds of a ps: a pipeline clock is 1,000 of them. -/
def octetTime (mbps : Nat) : Nat := 24000000 / max 1 mbps

/-- start_alignment (R92); 2 in port_mode 0, where R92 has a dash (DESIGN CHOICE, log entry 67). -/
def Core.startAlign (c : Core) (p : Nat) : Nat :=
  let m := c.rd (Reg.port_mode p)
  if m = 7 then 8 else if 4 ≤ m then 4 else 2

/-- fec_allowance (R119). -/
def Core.fecAllowance (c : Core) (p : Nat) : Nat := if c.rd (Reg.fec_mode p) = 2 then 33 else 0

/-- Whether a port protects what it sends (R117). -/
def Core.protects (c : Core) (p : Nat) : Bool := c.flag (Reg.macsec_enable p) && c.flag (Reg.protect_frames p)

/-- macsec_expansion (R120). -/
def Core.expansion (c : Core) (p : Nat) : Nat :=
  if c.protects p then (if bitOf (c.rd (Reg.sc_flags p 0)) 0 then 32 else 24) else 0

/-- wire_octets (R118). -/
def wireOctets (len a fec : Nat) : Nat := ceilDiv (8 + len + 12) (max 1 a) * a + fec

/-- A quantum of 512 bit times in thirds of a ps. -/
def quantumTime (mbps : Nat) : Nat := 64 * octetTime mbps

end Sys2Proof.Machine
end

