-- ==== Sys2Proof/Machine/Pools.lean ====
section
/-! DEFINITION. Pools.lean: the buffer pool manager: granules, allocation, free, pool ports, reclaim and
quarantine (R324 to R344). Pool 0 is the output buffer, whose buffers the cell ledger counts (R325). -/

namespace Sys2Proof.Machine

/-! ### Pools (R324, R327, R339) -/

/-- The key of buffer `i` of pool `q`. -/
def bufKey (q i : Nat) : Nat := q * 2 ^ 21 + i

/-- The bytes of a buffer of pool `q`. -/
def Core.bufBytes (c : Core) (q : Nat) : Nat := 256 * 2 ^ c.rd (Reg.buffer_size q)

/-- usable capacity of the side's DRAM in bytes (R420, R423): 4 channels, the ranks, the density in bits. -/
def Core.dramUsable (c : Core) : Nat :=
  let raw := 4 * c.rd Reg.dram_ranks * (4 * 2 ^ 30 / 8 * 2 ^ c.rd Reg.dram_density)
  if c.flag Reg.dram_inline_ecc then raw / 8 * 7 else raw

/-- The granules held by any pool; pool 0 always holds granules 0 to 5 (R327). -/
def Core.granulesHeld (c : Core) : Nat := (List.range 8).foldl (fun a q => a ||| c.rd (Reg.pool_granules q)) 0x3F

/-- The bytes a pool occupies: location, first, past the last. -/
def Core.poolExtent (c : Core) (q : Nat) : Nat × Nat × Nat :=
  (c.rd (Reg.pool_location q), c.rd (Reg.pool_base q), c.rd (Reg.pool_base q) + c.rd (Reg.buffer_count q) * c.bufBytes q)

/-- The checks of R339 at the enable write. -/
def Core.poolPlaceOk (c : Core) (q : Nat) : Bool :=
  let e := c.poolExtent q
  let room := if e.1 = 1 then 2 ^ 24 else c.dramUsable
  decide (c.rd (Reg.buffer_count q) ≠ 0) && decide (e.2.1 % c.bufBytes q = 0) && decide (e.1 ≠ 0) && decide (e.2.2 ≤ room) &&
  (List.range 8).all (fun r =>
    let x := c.poolExtent r
    decide (r = q) || decide (r = 0) || !c.flag (Reg.pool_enable r) || decide (x.1 ≠ e.1) ||
    decide (x.2.2 ≤ e.2.1) || decide (e.2.2 ≤ x.2.1))

/-- POOL_ENABLE (R327, R339). -/
def Core.poolEnable (c : Core) (q : Nat) : Core × Reason :=
  let on (a : Core) : Core := { (a.wr (Reg.pool_enable q) 1) with lastLane := SMap.put a.lastLane q 0 0 }
  if q = 0 then (c, .noWrite)
  else if c.flag (Reg.pool_enable q) then (c, .ok)
  else if !c.poolPlaceOk q then (c, .badValue)
  else if c.rd (Reg.pool_allocated q) ≠ 0 then (on c, .ok)
  else
    let n := ceilDiv (c.rd (Reg.buffer_count q)) 32768
    let free := (List.range 64).filter (fun j => !bitOf c.granulesHeld j)
    if free.length < n then (c, .overCommitted)
    else
      (on ((c.wr (Reg.pool_granules q) ((free.take n).foldl (fun a j => a + 2 ^ j) 0)).wr (Reg.pool_free q)
        (c.rd (Reg.buffer_count q))), .ok)

/-- A disabled pool with nothing allocated gives its granules back (R327) and leaves the identity (R331). -/
def Core.poolRelease (c : Core) (q : Nat) : Core :=
  if !c.flag (Reg.pool_enable q) && decide (c.rd (Reg.pool_allocated q) = 0) then
    (c.wr (Reg.pool_granules q) 0).wr (Reg.pool_free q) 0
  else c

/-- POOL_DISABLE (R327). -/
def Core.poolDisable (c : Core) (q : Nat) : Core × Reason :=
  if q = 0 then (c, .noWrite) else ((c.wr (Reg.pool_enable q) 0).poolRelease q, .ok)

/-- The buffers of pool `q` that its identity counts (R331). -/
def Core.poolSize (c : Core) (q : Nat) : Nat :=
  if c.flag (Reg.pool_enable q) || decide (c.rd (Reg.pool_allocated q) ≠ 0) then c.rd (Reg.buffer_count q) else 0

/-! ### Allocation (R329) -/

/-- The lowest free buffer of pool `q` in lane `s`, granule by granule. -/
def Core.lowestFree (c : Core) (q s : Nat) : Option Nat :=
  let n := c.rd (Reg.buffer_count q)
  (List.range (ceilDiv n 32768)).findSome? (fun g =>
    (List.range 64).findSome? (fun k =>
      (((List.range 64).map (fun b => 32768 * g + 512 * k + 64 * s + b)).find? (fun i =>
        decide (i < n) && (SMap.find? c.poolUsed (bufKey q i)).isNone))))

/-- The lane and the buffer the next allocation from pool `q` takes. -/
def Core.nextBuffer (c : Core) (q : Nat) : Option (Nat × Nat) :=
  ((List.range 8).map (fun d => (SMap.getD c.lastLane q 0 + d) % 8)).findSome? (fun s => (c.lowestFree q s).map (fun i => (s, i)))

/-- The pool of the chain from `p` that serves an allocation (R326). -/
def Core.chainPool (c : Core) (q : Nat) : Nat → Option Nat
  | 0 => none
  | n + 1 =>
    if c.flag (Reg.pool_enable q) && decide (0 < c.rd (Reg.pool_free q)) then some q
    else if c.rd (Reg.successor q) = 0 then none
    else c.chainPool (c.rd (Reg.successor q)) n

/-- The handle of R333. -/
def Core.handle (c : Core) (q i : Nat) : Nat := q * 2 ^ 60 + c.rd (Reg.pool_base q) + i * c.bufBytes q

/-- A handle that names no buffer. -/
def noHandle (p fail : Nat) : Nat := 2 ^ 63 + p * 2 ^ 60 + fail * 2 ^ 56

/-- pool_free: pool 0's follows the cell ledger, less what is quarantined (R325, R342). -/
def Core.poolFreeNow (c : Core) (q : Nat) : Nat :=
  if q = 0 then c.rd Reg.cells_free + c.rd Reg.cells_in_fabric - c.rd (Reg.pool_quarantined 0) else c.rd (Reg.pool_free q)

/-- pool_allocated, quarantined buffers included (R325, R342). -/
def Core.poolAllocatedNow (c : Core) (q : Nat) : Nat :=
  if q = 0 then c.rd Reg.cells_queued + c.rd Reg.cells_held + c.rd (Reg.pool_quarantined 0) else c.rd (Reg.pool_allocated q)

/-- The low watermark of pool `q`, whose pool_free has just fallen by `n` (R339). -/
def Core.watermark (c : Core) (q n : Nat) : Core :=
  let w := c.rd (Reg.low_watermark q)
  if w ≠ 0 ∧ c.poolFreeNow q ≤ w ∧ w < c.poolFreeNow q + n then c.reportRate 348 3 q else c

/-- alloc of R329 for an owner: the handle. An owner in reclaimed state is refused (R335, R336). -/
def Core.poolAlloc (c : Core) (p owner : Nat) : Core × Nat :=
  if p = 0 then (c, noHandle 0 3)
  else if c.reclaimed.any (fun x => decide (x = owner)) then (c, noHandle p 4)
  else match (c.chainPool p 8).bind (fun q => (c.nextBuffer q).map (fun x => (q, x))) with
  | none => ((c.inc (Reg.pool_alloc_fail p)).reportRate 348 2 p, noHandle p 1)
  | some (q, s, i) =>
    let c1 : Core := { c with
      lastLane := SMap.put c.lastLane q 0 ((s + 1) % 8)
      poolUsed := SMap.insert c.poolUsed (bufKey q i) 1
      poolTags := SMap.insert c.poolTags (bufKey q i) (owner + 1) }
    let c2 := ((c1.wr (Reg.pool_free q) (c1.rd (Reg.pool_free q) - 1)).wr (Reg.pool_allocated q)
      (c1.rd (Reg.pool_allocated q) + 1)).inc (Reg.pool_allocs q)
    let c3 := (c2.wr (Reg.held_buffers owner) (c2.rd (Reg.held_buffers owner) + 1)).watermark q 1
    (if q = p then c3 else (c3.inc (Reg.pool_fallback_out p)).reportRate 348 1 p, c3.handle q i)

/-! ### Free (R330, R333, R337) -/

/-- decode of R333. -/
def Core.decodeHandle (c : Core) (h : Nat) : Option (Nat × Nat) :=
  let q := bits h 62 60
  let off := h % 2 ^ 40
  let base := c.rd (Reg.pool_base q)
  if bitOf h 63 || decide (q = 0) || decide (off < base) || decide ((off - base) % c.bufBytes q ≠ 0) then none
  else
    let i := (off - base) / c.bufBytes q
    if i < c.rd (Reg.buffer_count q) then some (q, i) else none

/-- A buffer returned to its pool. -/
def Core.giveBack (c : Core) (q i : Nat) : Core :=
  let tag := SMap.getD c.poolTags (bufKey q i) 0
  let c1 : Core := { c with poolUsed := SMap.erase c.poolUsed (bufKey q i) }
  let c2 := ((c1.wr (Reg.pool_free q) (c1.rd (Reg.pool_free q) + 1)).wr (Reg.pool_allocated q)
    (c1.rd (Reg.pool_allocated q) - 1)).inc (Reg.pool_frees q)
  let c3 := if tag = 0 ∨ 73 < tag then c2
    else c2.wr (Reg.held_buffers (tag - 1)) (c2.rd (Reg.held_buffers (tag - 1)) - 1)
  c3.poolRelease q

/-- release of R330 by requester number `req`: the code of R334's last_error, 0 for a free that took place. A
quarantined buffer is never freed. -/
def Core.poolFree (c : Core) (h req owner : Nat) (privileged : Bool) : Core × Nat :=
  match c.decodeHandle h with
  | none => ((c.inc Reg.bad_handle).reportRate 347 2 (h % 2 ^ 40), 2)
  | some (q, i) =>
    let addr := q * 2 ^ 21 + i + req * 2 ^ 24
    let tag := SMap.getD c.poolTags (bufKey q i) 0
    match SMap.find? c.poolUsed (bufKey q i) with
    | none =>
      if tag ≠ 0 ∧ c.reclaimed.any (fun o => decide (o + 1 = tag)) = true then (c.inc Reg.free_after_reclaim, 4)
      else ((c.inc (Reg.pool_double_free q)).report 347 1 addr, 1)
    | some u =>
      if u = 2 ∨ (privileged = false ∧ tag ≠ owner + 1) then ((c.inc Reg.wrong_owner).reportRate 347 3 addr, 3)
      else (c.giveBack q i, 0)

/-! ### Pool ports (R334, R335) -/

/-- Whether core `k` is the checker of a bound pair (R394). -/
def Core.checker (c : Core) (k : Nat) : Bool := decide (k % 2 = 1) && bitOf c.pairs (k / 2)

/-- Whether owner `o`'s pool port is in use: not that of a fenced core, nor of a checker (R394). -/
def Core.portOpen (c : Core) (o : Nat) : Bool :=
  !(decide (64 ≤ o) && decide (o < 72) && (bitOf c.coresFenced (o - 64) || c.checker (o - 64)))

/-- The requester number of an owner's pool port, and whether its frees are privileged (R332). -/
def portRequester (o : Nat) : Nat × Bool := if o < 64 then (11 + o, false) else if o < 72 then (75 + (o - 64), true) else (83, true)

/-- POOL_PORT_ALLOC: a read of alloc_p at owner `o`'s pool port, and the handle. -/
def Core.poolPortAlloc (c : Core) (o p : Nat) : Core × Nat :=
  if !c.portOpen o then (c, noHandle p 2)
  else if p = 0 then (c, noHandle 0 3)
  else if !bitOf (c.rd (Reg.pool_allow o)) p then (c, noHandle p 2)
  else c.poolAlloc p o

/-- POOL_PORT_FREE: a write of `free` at owner `o`'s pool port. -/
def Core.poolPortFree (c : Core) (o h : Nat) : Core :=
  let q := portRequester o
  if !c.portOpen o then c else
  let r := c.poolFree h q.1 o q.2
  if r.2 = 0 then r.1
  else { r.1 with lastErrs := SMap.insert r.1.lastErrs o (r.2 * 2 ^ 56 + bits h 62 60 * 2 ^ 52 + h % 2 ^ 40) }

/-- LAST_ERROR_READ: the read clears it. -/
def Core.lastErrorRead (c : Core) (o : Nat) : Core × Nat := ({ c with lastErrs := SMap.erase c.lastErrs o }, SMap.getD c.lastErrs o 0)

/-- A pool port's answer to its owner. -/
def portAnswer (o : Nat) (r : Core × Nat) : Core := r.1.emit (.poolPort o r.2)

/-- A read of a pool port (R334): other sizes and offsets read as all ones. -/
def Core.poolPortRead (c : Core) (o off n : Nat) : Core × Nat :=
  if n ≠ 8 then (c, 2 ^ (8 * n) - 1)
  else if off < 64 ∧ off % 8 = 0 then c.poolPortAlloc o (off / 8)
  else if off = 0x108 then c.lastErrorRead o
  else if off = 0x110 then (c, c.rd (Reg.pool_allow o))
  else (c, 2 ^ 64 - 1)

/-- A write of `n` bytes to a pool port: other sizes and offsets are discarded. -/
def Core.poolPortWrite (c : Core) (o off n v : Nat) : Core := if n = 8 ∧ off = 0x100 then c.poolPortFree o v else c

/-! ### Reclaim (R336) -/

/-- A write to reclaim: 1 scans for reclaim_owner, 0 leaves reclaimed state. -/
def Core.reclaimWrite (c : Core) (v : Nat) : Core × Reason :=
  let o := c.rd Reg.reclaim_owner
  if 1 < v then (c, .badValue)
  else if v = 0 then ({ (c.wr Reg.reclaim 0) with reclaimed := c.reclaimed.filter (fun x => decide (x ≠ o)), reclaiming := 0 }, .ok)
  else if c.reclaiming ≠ 0 then (c, .busy)
  else ({ (c.wr Reg.reclaim 1) with reclaimed := c.reclaimed.filter (fun x => decide (x ≠ o)) ++ [o], reclaiming := o + 1 }, .ok)

/-- Every allocated buffer of an owner freed, in ascending order of pool and index. -/
def Core.scanOwner (c : Core) (o : Nat) : Core :=
  (c.poolUsed.filter (fun x => decide (x.2 = 1) && decide (SMap.getD c.poolTags x.1 0 = o + 1))).foldl
    (fun (a : Core) x => a.giveBack (x.1 / 2 ^ 21) (x.1 % 2 ^ 21)) c

/-- RECLAIM_DONE: the scan ends, and held for the owner reads 0. -/
def Core.reclaimDone (c : Core) : Core :=
  if c.reclaiming = 0 then c
  else
    let o := c.reclaiming - 1
    (((({ (c.scanOwner o) with reclaiming := 0 } : Core).wr (Reg.held_buffers o) 0).wr Reg.reclaim 2).report 350 1 o)

/-! ### Integrity (R342) -/

/-- An error an access to the manager's stores meets: `sub` 0 a leaf word, 1 an owner tag, 2 a mid or top word. The bits of a pool that
holds no granules are no buffers, and none of them is counted (R331). -/
def Core.poolEcc (c : Core) (d : Defect) : Core :=
  let q := d.entry / 2 ^ 21 % 8
  let i := d.entry % 2 ^ 21
  if !d.unc then (c.inc Reg.pool_ecc_corrected).reportRate 349 1 0
  else if d.sub = 2 then c
  else if d.sub = 1 then
    ({ c with poolTags := SMap.insert c.poolTags (bufKey q i) 256 } : Core).report 349 2 (q * 2 ^ 21 + i)
  else
    let first := i / 64 * 64
    let lost := ((List.range 64).map (first + ·)).filter (fun k =>
      decide (k < c.poolSize q) && (SMap.find? c.poolUsed (bufKey q k)).isNone)
    let c1 : Core := { c with poolUsed := lost.foldl (fun m k => SMap.insert m (bufKey q k) 2) c.poolUsed }
    let c2 := if q = 0 then c1 else (c1.wr (Reg.pool_free q) (c1.rd (Reg.pool_free q) - lost.length)).wr (Reg.pool_allocated q)
      (c1.rd (Reg.pool_allocated q) + lost.length)
    ((c2.wr (Reg.pool_quarantined q) (c2.rd (Reg.pool_quarantined q) + lost.length)).watermark q lost.length).report 349 2 (q * 2 ^ 21 + first)

/-- The errors of an access, in order. -/
def Core.poolDefects (c : Core) (ds : List Defect) : Core :=
  (ds.filter (fun d => decide (d.site = .poolStore))).foldl (fun (a : Core) d => a.poolEcc d) c

/-- BUFFER_ALLOC (R329, R332): requester 9 or 10 allocates from a pool for a vport. -/
def Core.bufferAlloc (c : Core) (p v : Nat) (ds : List Defect) : Core :=
  let r := (c.poolDefects ds).poolAlloc p v
  r.1.emit (.poolPort v r.2)

/-- BUFFER_FREE (R330, R332): requester 9, local delivery, or 10, a vport DMA engine, frees a handle for a vport; requester 10 is
privileged for buffers of its vport, which any owner is for its own. -/
def Core.bufferFree (c : Core) (dma : Bool) (h v : Nat) (ds : List Defect) : Core :=
  ((c.poolDefects ds).poolFree h (if dma then 10 else 9) v false).1

end Sys2Proof.Machine
end

