-- ==== Sys2Proof/Machine/Compute.lean ====
section
/-! DEFINITION. Compute.lean: the cores as the network part sees them, their interrupts, and the scratchpad
(R385 to R400, R406 to R417). -/

namespace Sys2Proof.Machine

/-! ### Cores (R385, R389, R393 to R396) -/

/-- Whether core `k` is absent (R3, R4). -/
def Core.coreAbsent (c : Core) (k : Nat) : Bool := decide (4 ≤ k) && decide (c.absentPorts ≠ 0)

/-- mhartid of core `k` (R385): 0 to 7 on side A, 8 to 15 on side B. -/
def Core.mhartid (c : Core) (k : Nat) : Nat := 8 * c.num + k

/-- core_status (R414). -/
def Core.coreStatus (c : Core) (k : Nat) : Nat :=
  if c.coreAbsent k then 4
  else if c.checker k then 5
  else if bitOf c.coresFenced k then 3
  else if bitOf c.halted k then 2
  else if bitOf (c.rd Reg.core_run) k then 1 else 0

/-- Whether requests leave core `k`: it runs. None leaves one that a divergence has halted, a fenced one or a checker (R389, R394,
R395). -/
def Core.coreIssues (c : Core) (k : Nat) : Bool := decide (c.coreStatus k = 1)

/-- core_run with a checker's bit equal to its pair's (R394). -/
def Core.runBits (c : Core) (v : Nat) : Nat :=
  (List.range 8).foldl (fun a k => a + b2n (bitOf v (if c.checker k then k - 1 else k)) * 2 ^ k) 0

/-- CORE_RUN_WRITE (R389): a bit that becomes 1 starts its core at core_reset_vector, one that becomes 0 resets it. -/
def Core.coreRun (c : Core) (v : Nat) : Core × Reason :=
  if 255 < v then (c, .badValue)
  else if (List.range 8).any (fun k => bitOf v k && c.coreAbsent k) then (c, .absentUnit)
  else
    let w := c.runBits v
    let old := c.rd Reg.core_run
    ((List.range 8).foldl (fun (a : Core) k =>
      if bitOf w k && !bitOf old k then
        { a with coreStart := SMap.insert a.coreStart k (a.rd Reg.core_reset_vector + 1) }
      else if bitOf old k && !bitOf w k then
        { a with
          halted := putBit a.halted k false
          vportBind := SMap.erase a.vportBind k
          spmRes := SMap.erase a.spmRes k }
      else a) (c.wr Reg.core_run w), .ok)

/-- LOCKSTEP_DIVERGENCE (R396) of pair `k` at a PC. -/
def Core.divergence (c : Core) (k pc : Nat) : Core :=
  if bitOf c.pairs k && decide (c.coreStatus (2 * k) = 1) then
    let c1 : Core := { c with halted := putBit (putBit c.halted (2 * k) true) (2 * k + 1) true }
    ((c1.wr (Reg.divergence_pc (2 * k)) (pc % 2 ^ 48)).inc (Reg.divergences (2 * k))).report (384 + 2 * k) 3 pc
  else c

/-- VPORT_BIND_ACCESS (R391) by core `k` in a mode: 0 M, 1 HS, 2 VS, 3 U, 4 VU; a write of `some v`, or a read. -/
def Core.bindAccess (c : Core) (k mode : Nat) (v : Option Nat) : Core :=
  if c.coreStatus k ≠ 1 then c
  else if 2 < mode then c.emit (.csr (c.mhartid k) none 2)
  else if mode = 2 then c.emit (.csr (c.mhartid k) none 22)
  else match v with
    | some x => { c with vportBind := SMap.put c.vportBind k 0 (b2n (bitOf x 63) * 2 ^ 63 + x % 64) }
    | none => c.emit (.csr (c.mhartid k) (some (SMap.getD c.vportBind k 0)) 0)

/-- An error in a cache counted and reported (R414, R417): unit 0 to 7 is a core's caches, 8 the L3. -/
def Core.cacheCount (c : Core) (u addr : Nat) (unc : Bool) : Core :=
  if u < 8 then
    if unc then (c.inc (Reg.cache_uncorrectable u)).report (384 + u) 2 addr
    else (c.inc (Reg.cache_corrected u)).reportRate (384 + u) 1 addr
  else if unc then (c.inc Reg.l3_uncorrectable).report 392 2 addr
  else (c.inc Reg.l3_corrected).reportRate 392 1 addr

/-- CACHE_ECC_ERROR (R387, R414). A corrected error changes no data. An uncorrectable one invalidates the line, and its dirty data is
lost: memory then holds what it held before the write that the cache had kept, which the model, whose writes go to memory at once, no
longer knows. Whether the line was dirty and what it reads then are free values (log entry 39). The instruction that consumes the line
raises an access fault; of the L3 the command does not name whose, so none is put out. -/
def Side.cacheEcc (d : Side) (u addr : Nat) (unc : Bool) : Side :=
  let c := d.r
  let line := addr / 64 * 64
  let x := line - 0x800000000
  if u < 8 ∧ c.coreAbsent u = true then d
  else if !unc then { d with r := c.cacheCount u addr unc }
  else
    let c1 := c.cacheCount u addr unc
    let c2 := if u < 8 then c1.emit (.accessFault (c.mhartid u) none addr) else c1
    if 0x800000000 ≤ line ∧ x + 64 ≤ c.dramUsable then
      let stale := (List.range 64).map (fun i => Config.staleByte c.num c.free i)
      { d with
        r := { c2 with free := c.free + 1 }
        dram := if Config.lineDirty c.num c.free then d.dram.writeBytes x stale else d.dram }
    else { d with r := c2 }

/-! ### Interrupts (R397, R399) -/

/-- An MSI to identity `id` of file `file` of core `k`, file 0 the M-level, 1 the S-level, then the guest files; `f` is the file as
a report names it (R399). No interrupt has identity 0 (AIA). -/
def Core.msiTo (c : Core) (k file f id : Nat) : Core :=
  if 8 ≤ k ∨ c.coreAbsent (k % 8) = true ∨ c.checker (k % 8) = true ∨ bitOf c.coresFenced (k % 8) = true ∨ 8 < file ∨ 255 < id then
    (c.inc Reg.msi_discarded).reportRate 394 1 (k % 16 + f % 8 * 16 + id % 256 * 256)
  else if id = 0 then c
  else { c with imsic := SMap.put c.imsic (256 * (9 * k + file) + id) 0 1 }

/-- An MSI to the S-level file (`f` 0) or a guest file. -/
def Core.msi (c : Core) (k f id : Nat) : Core := c.msiTo k (f + 1) f id

/-- An MSI to the M-level file. -/
def Core.msiM (c : Core) (k id : Nat) : Core := c.msiTo k 0 0 id

/-! ### The scratchpad (R406 to R413) -/

/-- Banks an access of `n` bytes at `a` touches, one bit each (R406). -/
def spmBanks (a n : Nat) : Nat :=
  (List.range (ceilDiv (a % 8 + n) 8)).foldl (fun m i => m ||| 2 ^ ((a / 8 + i) % 64)) 0

/-- The bytes an operation covers. -/
def SpmOp.len : SpmOp → Nat
  | .read n => n
  | .write d => d.length
  | .lr n => n
  | .sc d => d.length
  | .amo _ d => d.length
  | .cas _ d => d.length

/-- Whether an operation writes. -/
def SpmOp.writes : SpmOp → Bool
  | .read _ => false
  | .lr _ => false
  | _ => true

/-- AMOs, LR and SC. -/
def SpmOp.atomic : SpmOp → Bool
  | .read _ => false
  | .write _ => false
  | _ => true

/-- A well-formed request (R408): inside the scratchpad; a single access of 1 to 8 bytes, or a burst of whole words
within 64 aligned bytes. -/
def SpmReq.ok (q : SpmReq) : Bool :=
  let n := q.op.len
  decide (0 < n) && decide (q.addr + n ≤ 2 ^ 24) &&
  (decide (n ≤ 8) || (!q.op.atomic && decide (q.addr % 8 = 0) && decide (n % 8 = 0) && decide (q.addr % 64 + n ≤ 64)))

/-- Whether an atomic is aligned and of 4 or 8 bytes (R410). -/
def SpmReq.aligned (q : SpmReq) : Bool :=
  (decide (q.op.len = 4) || decide (q.op.len = 8)) && decide (q.addr % q.op.len = 0)

/-- A request as the banks see it: an access across a word boundary becomes two (R409). -/
def SpmReq.split (q : SpmReq) : List SpmReq :=
  let n := q.op.len
  let h := 8 - q.addr % 8
  if 8 < n ∨ n ≤ h then [q]
  else match q.op with
    | .read _ => [{ q with op := .read h }, { q with addr := q.addr + h, op := .read (n - h) }]
    | .write d => [{ q with op := .write (d.take h) }, { q with addr := q.addr + h, op := .write (d.drop h) }]
    | _ => [q]

/-- The result of an AMO on `n` bytes (R410): 0 swap, 1 add, 2 and, 3 or, 4 xor, 5 min, 6 max, 7 minu, 8 maxu. -/
def amoResult (kind n old x : Nat) : Nat :=
  let w := 8 * n
  match kind with
  | 0 => x
  | 1 => (old + x) % 2 ^ w
  | 2 => old &&& x
  | 3 => old ||| x
  | 4 => old ^^^ x
  | 5 => if signedOf w old ≤ signedOf w x then old else x
  | 6 => if signedOf w old ≤ signedOf w x then x else old
  | 7 => min old x
  | _ => max old x

/-- The words an access touches, by word number. -/
def wordsOf (a n : Nat) : List Nat := (List.range (ceilDiv (a % 8 + n) 8)).map (fun i => a / 8 + i)

/-- Whether every bank an access touches answers (R413). -/
def Core.spmFenced (c : Core) (a n : Nat) : Bool := decide (spmBanks a n &&& c.rd Reg.spm_banks_fenced ≠ 0)

/-- An uncorrectable word counted and reported (R412). -/
def Core.spmUnc (c : Core) (w : Nat) : Core := (c.inc Reg.spm_uncorrectable).report 395 2 (8 * w)

/-- A corrected word (R412). -/
def Core.spmCorrected (c : Core) (w : Nat) : Core := (c.inc Reg.spm_corrected).reportRate 395 1 (8 * w)

/-- Bytes written, their words' reservations cleared, whole words good again. -/
def Side.spmStore (d : Side) (a : Nat) (o : Octets) : Side :=
  let ws := wordsOf a o.length
  let whole := ws.filter (fun w => decide (a ≤ 8 * w) && decide (8 * w + 8 ≤ a + o.length))
  { d with
    spm := d.spm.writeBytes a o
    r := { d.r with
      spmRes := d.r.spmRes.filter (fun x => !inList (x.2 - 1) ws)
      spmBad := whole.foldl (fun m w => SMap.erase m w) d.r.spmBad } }

/-- The words that a request writes in part, which the banks read, merge and write in two clocks (R409). -/
def SpmReq.merged (q : SpmReq) : List Nat :=
  let n := q.op.len
  if q.op.writes then (wordsOf q.addr n).filter (fun w => !(decide (q.addr ≤ 8 * w) && decide (8 * w + 8 ≤ q.addr + n))) else []

/-- A request performed at its banks: the side, and what it answers. `ecc` is what its first read meets: 1 corrected,
2 uncorrectable. A word written in part is read first. -/
def Side.spmPerform (d : Side) (q : SpmReq) (ecc : Nat) : Side × Option Octets :=
  let n := q.op.len
  let ws := wordsOf q.addr n
  if d.r.spmFenced q.addr n then ({ d with r := d.r.inc Reg.spm_fenced_accesses }, none)
  else
    let reads := if !q.op.writes || q.op.atomic then ws else q.merged
    let d0 : Side := if ecc = 2 then { d with r := { d.r with spmBad := (reads.take 1).foldl (fun m w => SMap.insert m w 1) d.r.spmBad } } else d
    let bad := reads.filter (fun w => (SMap.find? d0.r.spmBad w).isSome)
    if !bad.isEmpty then ({ d0 with r := bad.foldl (fun a w => a.spmUnc w) d0.r }, none)
    else
      let d1 : Side := if ecc = 1 then { d0 with r := (reads.take 1).foldl (fun (a : Core) w => a.spmCorrected w) d0.r } else d0
      let old := d1.spm.readBytes q.addr n
      match q.op with
      | .read _ => (d1, some old)
      | .write o => (d1.spmStore q.addr o, some [])
      | .lr _ => ({ d1 with r := { d1.r with spmRes := SMap.insert d1.r.spmRes q.master (q.addr / 8 + 1) } }, some old)
      | .sc o =>
        let hit := decide (SMap.getD d1.r.spmRes q.master 0 = q.addr / 8 + 1)
        let d2 : Side := { d1 with r := { d1.r with spmRes := SMap.erase d1.r.spmRes q.master } }
        if hit then (d2.spmStore q.addr o, some [0]) else (d2, some [1])
      | .amo k o => (d1.spmStore q.addr (toLe n (amoResult k n (leNat old) (leNat o))), some old)
      | .cas e o => (if old = e then d1.spmStore q.addr o else d1, some old)

/-- One scratchpad clock's grants (R408): masters in rotation, each with its oldest request; and the masters that wait. -/
def spmGrants (pointer busy : Nat) (wait : List SpmReq) : List SpmReq × List Nat :=
  ((List.range 14).map (fun i => (pointer + i) % 14)).foldl (fun (acc : Nat × List SpmReq × List Nat) m =>
    match wait.find? (fun q => decide (q.master = m)) with
    | none => acc
    | some q =>
      let b := spmBanks q.addr q.op.len
      if acc.1 &&& b = 0 then (acc.1 ||| b, acc.2.1 ++ [q], acc.2.2) else (acc.1, acc.2.1, acc.2.2 ++ [m]))
    (busy, [], []) |>.2

/-- An answer to a request. A core's error is an access fault (R410, R412, R413): a load access fault of a load or an LR that reads, a
store/AMO access fault of a store, an atomic or a misaligned LR. -/
def Core.spmAnswer (c : Core) (q : SpmReq) (r : Option Octets) : Core :=
  let c1 := c.emit (.spm q.master r)
  if r = none ∧ q.master < 8 then
    let load := match q.op with | .read _ => true | .lr _ => q.aligned | _ => false
    c1.emit (.accessFault (c.mhartid q.master) (some (if load then 5 else 7)) (0x10000000 + q.addr))
  else c1

/-- A scratchpad clock's grants carried out, in rotation. An engine's own request, `mine`, answers its engine. -/
def Side.spmServe (d : Side) (mine : Option SpmReq) (ecc : Nat) (l : List SpmReq) : Side × Option (Option Octets) :=
  l.foldl (fun (s : Side × Option (Option Octets)) q =>
    let x := s.1.spmPerform q ecc
    let c1 := x.1.r.inc (Reg.spm_accesses q.master)
    if mine.any (fun m => decide (m.master = q.master)) then ({ x.1 with r := c1 }, some x.2)
    else ({ x.1 with r := c1.spmAnswer q x.2 }, s.2)) (d, none)

/-- One scratchpad clock of the arbiter (R408, R409) over the requests that wait, `mine` the oldest of its master: the masters not granted
count a conflict, and a bank that merges refuses every request in the next clock. -/
def Side.spmTurn (d : Side) (mine : Option SpmReq) (wait : List SpmReq) (ecc : Nat) : Side × Option (Option Octets) :=
  let g := spmGrants d.r.spmPointer d.r.spmMerging (mine.toList ++ wait)
  let others := g.1.filter (fun q => !mine.any (fun m => decide (m.master = q.master)))
  let r1 : Core := { d.r with
    spmPointer := (d.r.spmPointer + 1) % 14
    spmWait := others.foldl (fun l q => l.erase q) wait
    spmMerging := ((g.1.map SpmReq.merged).flatten).foldl (fun m w => m ||| 2 ^ (w % 64)) 0 }
  ({ d with r := g.2.foldl (fun (a : Core) m => a.inc (Reg.spm_conflicts m)) r1 } : Side).spmServe mine ecc g.1

/-- SCRATCHPAD_REQUEST (R408 to R410): the requests that arrive in one scratchpad clock, which the arbiter grants or
makes wait beside those that wait already. A malformed request and a misaligned atomic are answered as errors. No request comes from a
core that does not run (R395). -/
def Side.spmClock (d : Side) (arrive : List SpmReq) (ecc : Nat) : Side :=
  let come := arrive.filter (fun q => decide (8 ≤ q.master) || d.r.coreIssues q.master)
  let good := come.filter (fun q => q.ok && (!q.op.atomic || q.aligned))
  let wrong := come.filter (fun q => !(q.ok && (!q.op.atomic || q.aligned)))
  let r0 := wrong.foldl (fun (a : Core) q => a.spmAnswer q none) (d.r.advance 2)
  (({ d with r := r0 } : Side).spmTurn none (r0.spmWait ++ (good.map SpmReq.split).flatten) ecc).1

/-- An engine's request through the arbiter, clock by clock until it is granted; it waits at most 13 clocks beyond those in which a bank
merges. The clocks of an engine's accesses are not counted beside its command's own (log entry 39). -/
def Side.spmAccess (d : Side) (q : SpmReq) : Nat → Side × Option Octets
  | 0 => (d, none)
  | n + 1 =>
    let x := d.spmTurn (some q) d.r.spmWait 0
    match x.2 with
    | some r => (x.1, r)
    | none => x.1.spmAccess q n

/-- The requests of `n` bytes at `a`, each within one aligned 64 bytes: their addresses and lengths. -/
def spmRuns (a n : Nat) : List (Nat × Nat) :=
  if n = 0 then []
  else (List.range ((a + n - 1) / 64 - a / 64 + 1)).map (fun i =>
    let lo := if i = 0 then a else (a / 64 + i) * 64
    (lo, min (a + n) ((a / 64 + i + 1) * 64) - lo))

/-- An engine's write of bytes in bursts of one aligned 64 bytes (R405): the side, and whether every burst was taken. A burst that
touches a fenced bank is discarded (R413). -/
def Side.spmBurst (d : Side) (m a : Nat) (o : Octets) : Side × Bool :=
  if 2 ^ 24 < a + o.length then (d, false)
  else (spmRuns a o.length).foldl (fun (x : Side × Bool) q =>
    let r := x.1.spmAccess ⟨m, q.1, .write (slice o (q.1 - a) q.2)⟩ 64
    (r.1, x.2 && r.2.isSome)) (d, true)

/-- An engine's read of bytes: none when a word is uncorrectable or a bank fenced. -/
def Side.spmFetch (d : Side) (m a n : Nat) : Side × Option Octets :=
  if 2 ^ 24 < a + n then (d, none)
  else (spmRuns a n).foldl (fun (x : Side × Option Octets) q =>
    let r := x.1.spmAccess ⟨m, q.1, .read q.2⟩ 64
    (r.1, match x.2, r.2 with | some l, some o => some (l ++ o) | _, _ => none)) (d, some [])

/-- SPM_SCRUB (R412): the scrubber reads word `w`; 1 corrected, 2 uncorrectable. -/
def Core.spmScrub (c : Core) (w ecc : Nat) : Core :=
  if c.spmFenced (8 * w) 8 then c
  else if ecc = 2 ∨ (SMap.find? c.spmBad w).isSome = true then
    ({ c with spmBad := SMap.insert c.spmBad w 1 } : Core).spmUnc w
  else if ecc = 1 then c.spmCorrected w
  else c

/-- A bank fenced by its collector (R413). -/
def Core.fenceBank (c : Core) (b : Nat) : Core :=
  c.wr Reg.spm_banks_fenced (putBit (c.rd Reg.spm_banks_fenced) b true)

end Sys2Proof.Machine
end

