-- ==== Sys2Proof/Machine/Aplic.lean ====
section
/-! DEFINITION. Aplic.lean: the side's APLIC: the levels of its wired sources (R398, R532) and the registers of its two domains, as AIA
1.0 gives them for delivery by MSI alone (R9, R390, R397; log entry 65). -/

namespace Sys2Proof.Machine

/-- The sources of a side's APLIC (R398). -/
def aplicSources : Nat := 544

/-- What a source mode makes of a wire's level: edge1 and level1 keep it, edge0 and level0 invert it. -/
def rectified (mode : Nat) (level : Bool) : Bool :=
  match mode % 8 with
  | 4 => level
  | 6 => level
  | 5 => !level
  | 7 => !level
  | _ => false

/-- A domain: 0 the machine domain, 1 the supervisor domain. -/
def Core.aplic (c : Core) (s : Bool) : AplicDom := if s then c.aplicS else c.aplicM

/-- The same, set. -/
def Core.setAplic (c : Core) (s : Bool) (d : AplicDom) : Core := if s then { c with aplicS := d } else { c with aplicM := d }

/-- A source's mode in a domain, 0 where it is inactive there; a source that the machine domain delegates holds 0x400 there. -/
def AplicDom.mode (d : AplicDom) (i : Nat) : Nat := SMap.getD d.cfg i 0 % 8

/-- A source's wire changes: a level-sensitive source is pending from a rise of its rectified level until that falls, an
edge-sensitive one from its edge. -/
def AplicDom.sense (d : AplicDom) (i : Nat) (old new : Bool) : AplicDom :=
  let m := d.mode i
  if 6 ≤ m ∧ rectified m new = false then { d with ip := putBit d.ip i false }
  else if rectified m new && !rectified m old then { d with ip := putBit d.ip i true }
  else d

/-- A source inactive in a domain: nothing of it is left there. -/
def AplicDom.drop (d : AplicDom) (i : Nat) : AplicDom :=
  { d with ip := putBit d.ip i false, en := putBit d.en i false, cfg := SMap.erase d.cfg i, target := SMap.erase d.target i }

/-- An MSI of a domain to an interrupt file: the machine domain's to M-level files. -/
def Core.fileMsi (c : Core) (s : Bool) (hart guest id : Nat) : Core := if s then c.msi hart guest id else c.msiM hart id

/-- Pending and enabled sources of a domain that delivers go out as MSIs, lowest first, and are pending no longer. -/
def Core.aplicForward (c : Core) (s : Bool) : Core :=
  if !(c.aplic s).ie then c
  else
    ((List.range (aplicSources + 1)).filter (fun i => bitOf (c.aplic s).ip i && bitOf (c.aplic s).en i)).foldl (fun (a : Core) i =>
      let d := a.aplic s
      let t := SMap.getD d.target i 0
      (a.setAplic s { d with ip := putBit d.ip i false }).fileMsi s (t / 2 ^ 18) (bits t 17 12) (t % 2 ^ 11)) c

/-- Source `i` is asserted or no longer (R398). -/
def Core.aplicInput (c : Core) (i : Nat) (level : Bool) : Core :=
  let old := bitOf c.aplicIn i
  if old = level then c
  else
    (({ c with
        aplicIn := putBit c.aplicIn i level
        aplicM := c.aplicM.sense i old level
        aplicS := c.aplicS.sense i old level } : Core).aplicForward false).aplicForward true

/-- A write that asks for a pending bit: an active source takes it, a level-sensitive one only while its rectified level is high. -/
def Core.aplicPend (c : Core) (s : Bool) (i : Nat) : Core :=
  let d := c.aplic s
  let m := d.mode i
  if m = 0 ∨ (6 ≤ m ∧ rectified m (bitOf c.aplicIn i) = false) then c else c.setAplic s { d with ip := putBit d.ip i true }

/-- A source's pending bit cleared, its enable set or cleared. -/
def Core.aplicUnpend (c : Core) (s : Bool) (i : Nat) : Core :=
  let d := c.aplic s
  c.setAplic s { d with ip := putBit d.ip i false }
def Core.aplicEnable (c : Core) (s : Bool) (v : Bool) (i : Nat) : Core :=
  let d := c.aplic s
  c.setAplic s { d with en := putBit d.en i (v && decide (d.mode i ≠ 0)) }

/-- A write to sourcecfg: delegation from the machine domain, or a mode; reserved modes make the source inactive. -/
def Core.aplicSource (c : Core) (s : Bool) (i v : Nat) : Core :=
  let d := c.aplic s
  let m := if v % 8 = 2 ∨ v % 8 = 3 then 0 else v % 8
  if s = true ∧ SMap.getD c.aplicM.cfg i 0 ≠ 0x400 then c
  else
    let c1 : Core := if s then c else { c with aplicS := c.aplicS.drop i }
    if s = false ∧ bitOf v 10 = true then c1.setAplic s { d.drop i with cfg := SMap.insert d.cfg i 0x400 }
    else if m = 0 then c1.setAplic s (d.drop i)
    else
      let now := bitOf c.aplicIn i
      let ip := if rectified m now && !rectified (d.mode i) now then putBit d.ip i true else d.ip
      c1.setAplic s { d with cfg := SMap.insert d.cfg i m, ip := ip }

/-- The sources that the bits of word `k` of an array register name. -/
def aplicNamed (k v : Nat) : List Nat :=
  ((List.range 32).filter (fun j => bitOf v j)).map (32 * k + ·) |>.filter (fun i => decide (0 < i) && decide (i ≤ aplicSources))

/-- A source number written. -/
def aplicOne (v : Nat) : List Nat := if 0 < v ∧ v ≤ aplicSources then [v] else []

/-- A 4-byte read at an offset of a domain. The MSI addresses are fixed and locked. -/
def Core.aplicRead (c : Core) (s : Bool) (off : Nat) : Nat :=
  let d := c.aplic s
  let k := off % 128 / 4
  if off = 0 then 0x80000004 + b2n d.ie * 256
  else if off < 0x1000 then SMap.getD d.cfg (off / 4) 0
  else if off = 0x1BC4 ∧ s = false then 0x80000000
  else if 0x1C00 ≤ off ∧ off < 0x1C80 then d.ip / 2 ^ (32 * k) % 2 ^ 32
  else if 0x1D00 ≤ off ∧ off < 0x1D80 then
    (List.range 32).foldl (fun a j => a + b2n (rectified (d.mode (32 * k + j)) (bitOf c.aplicIn (32 * k + j))) * 2 ^ j) 0
  else if 0x1E00 ≤ off ∧ off < 0x1E80 then d.en / 2 ^ (32 * k) % 2 ^ 32
  else if 0x3004 ≤ off ∧ off < 0x4000 then SMap.getD d.target ((off - 0x3000) / 4) 0
  else 0

/-- A 4-byte write at an offset of a domain. -/
def Core.aplicWrite (c : Core) (s : Bool) (off v : Nat) : Core :=
  let d := c.aplic s
  let k := off % 128 / 4
  let each (l : List Nat) (f : Core → Nat → Core) : Core := l.foldl f c
  let c1 : Core :=
    if off = 0 then c.setAplic s { d with ie := bitOf v 8 }
    else if off < 0x1000 then (if off / 4 ≤ aplicSources then c.aplicSource s (off / 4) v else c)
    else if 0x1C00 ≤ off ∧ off < 0x1C80 then each (aplicNamed k v) (fun a i => a.aplicPend s i)
    else if off = 0x1CDC ∨ off = 0x2000 then each (aplicOne v) (fun a i => a.aplicPend s i)
    else if off = 0x2004 then each (aplicOne (beNat (toLe 4 v))) (fun a i => a.aplicPend s i)
    else if 0x1D00 ≤ off ∧ off < 0x1D80 then each (aplicNamed k v) (fun a i => a.aplicUnpend s i)
    else if off = 0x1DDC then each (aplicOne v) (fun a i => a.aplicUnpend s i)
    else if 0x1E00 ≤ off ∧ off < 0x1E80 then each (aplicNamed k v) (fun a i => a.aplicEnable s true i)
    else if off = 0x1EDC then each (aplicOne v) (fun a i => a.aplicEnable s true i)
    else if 0x1F00 ≤ off ∧ off < 0x1F80 then each (aplicNamed k v) (fun a i => a.aplicEnable s false i)
    else if off = 0x1FDC then each (aplicOne v) (fun a i => a.aplicEnable s false i)
    else if off = 0x3000 then c.fileMsi s (v / 2 ^ 18) 0 (v % 2 ^ 11)
    else if 0x3004 ≤ off ∧ off < 0x4000 then
      (let i := (off - 0x3000) / 4
       let t := v / 2 ^ 18 * 2 ^ 18 + (if s then bits v 17 12 * 2 ^ 12 else 0) + v % 2 ^ 11
       if i ≤ aplicSources ∧ d.mode i ≠ 0 then c.setAplic s { d with target := SMap.insert d.target i t } else c)
    else c
  c1.aplicForward s

end Sys2Proof.Machine
end

