-- ==== Sys2Proof/Machine/Dram.lean ====
section
/-! DEFINITION. Dram.lean: the DRAM controller: queues, order, regulators, refresh, training, set points, errors and
fences (R418 to R449). -/

namespace Sys2Proof.Machine

/-! ### Addresses (R420 to R422, R439) -/

/-- The device address of a usable offset. -/
def Core.dramDevice (c : Core) (x : Nat) : Nat := if c.flag Reg.dram_inline_ecc then x / 448 * 512 + x % 448 else x

/-- The channel of a usable offset. -/
def Core.dramChannel (c : Core) (x : Nat) : Nat := c.dramDevice x / 512 % 4

/-- The address within the channel. -/
def Core.dramZ (c : Core) (x : Nat) : Nat := let y := c.dramDevice x; y / 2048 * 512 + y % 512

/-- log2 of a channel-rank's bytes. -/
def Core.rankBits (c : Core) : Nat := 29 + c.rd Reg.dram_density

/-- The rank of a usable offset, with its channel: key 2c + r. -/
def Core.dramRank (c : Core) (x : Nat) : Nat :=
  2 * c.dramChannel x + (if c.rd Reg.dram_ranks = 2 then c.dramZ x >>> c.rankBits % 2 else 0)

/-- The bank and the row. -/
def Core.dramBank (c : Core) (x : Nat) : Nat := let z := c.dramZ x; bits z 14 11 ^^^ bits z 18 15
def Core.dramRow (c : Core) (x : Nat) : Nat := bits (c.dramZ x) (c.rankBits - 1) 15

/-- The ranks fitted, by key. -/
def Core.ranks (c : Core) : List Nat :=
  (List.range 8).filter (fun k => decide (k % 2 < c.rd Reg.dram_ranks))

/-- The controller's state, changed. -/
def Core.modDram (c : Core) (f : DramDyn → DramDyn) : Core := { c with dm := f c.dm }

/-- Whether a line's row is open. -/
def Core.rowHit (c : Core) (x : Nat) : Bool :=
  decide (SMap.getD c.dm.openRow (16 * c.dramRank x + c.dramBank x) 0 = c.dramRow x + 1)

/-- A line's row opened: an activate, unless it is open (R437). -/
def Core.openRow (c : Core) (x : Nat) : Core :=
  let k := 16 * c.dramRank x + c.dramBank x
  if c.rowHit x then c
  else c.modDram (fun d => { d with
    openRow := SMap.insert d.openRow k (c.dramRow x + 1)
    activates := SMap.put d.activates k 0 (SMap.getD d.activates k 0 + 1) })

/-! ### Errors (R440 to R442) -/

/-- The tag of an engine's own request: beside those that requestors carry. -/
def engineTag : Nat := 65536

/-- Errors that arise now in the devices and on the wire of channel `ch`; only words that a check protects bear a mark. -/
def Core.dramErrors (c : Core) (ch : Nat) (es : List (Nat × DramErr)) : Core :=
  es.foldl (fun (a : Core) e =>
    if c.dramChannel (8 * e.1) ≠ ch ∨ c.dramUsable < 8 * e.1 + 8 then a
    else match e.2 with
      | .soft => if c.flag Reg.dram_inline_ecc then a.modDram (fun d => { d with bad := SMap.insert d.bad e.1 (max 2 (SMap.getD d.bad e.1 0)) }) else a
      | .hard => if c.flag Reg.dram_inline_ecc then a.modDram (fun d => { d with bad := SMap.insert d.bad e.1 1 }) else a
      | .wireSoft => if c.flag Reg.dram_link_ecc then a.modDram (fun d => { d with wire := SMap.insert d.wire e.1 2 }) else a
      | .wireHard => if c.flag Reg.dram_link_ecc then a.modDram (fun d => { d with wire := SMap.insert d.wire e.1 1 }) else a) c

/-- The word `w` read from the devices (R441, R442): the side, and whether its data is good. A link error is met once; a word that inline
ECC corrects is rewritten; an uncorrectable one stays. -/
def Core.readWord (c : Core) (w : Nat) : Core × Bool :=
  let src := 416 + c.dramChannel (8 * w)
  let c1 := c.modDram (fun d => { d with wire := SMap.erase d.wire w })
  let l : Core × Bool := match SMap.getD c.dm.wire w 0 with
    | 0 => (c, true)
    | 1 => (((c1.inc Reg.dram_link_uncorrectable).inc Reg.dram_ecc_uncorrectable).reportRate src 4 (8 * w), false)
    | _ => ((c1.inc Reg.dram_link_corrected).reportRate src 3 (8 * w), true)
  match SMap.getD c.dm.bad w 0 with
  | 0 => l
  | 1 => ((l.1.inc Reg.dram_ecc_uncorrectable).report src 2 (8 * w), false)
  | _ => (((l.1.modDram (fun d => { d with bad := SMap.erase d.bad w })).inc Reg.dram_ecc_corrected).reportRate src 1 (8 * w), l.2)

/-- The words of `n` bytes at `x` read from the devices. -/
def Core.readWords (c : Core) (x n : Nat) : Core × Bool :=
  (wordsOf x n).foldl (fun (a : Core × Bool) w => let r := a.1.readWord w; (r.1, a.2 && r.2)) (c, true)

/-- The word `w` sent to the devices: a link error of the transfer that is corrected is counted (R442). -/
def Core.sendWord (c : Core) (w : Nat) : Core :=
  if SMap.getD c.dm.wire w 0 = 2 then
    ((c.modDram (fun d => { d with wire := SMap.erase d.wire w })).inc Reg.dram_link_corrected).reportRate (416 + c.dramChannel (8 * w)) 3
      (8 * w)
  else c

/-- The answer to a request (R428, R441): none for an error response, which on a core is an access fault. An engine takes its answer within
its step. -/
def Core.dramAnswer (c : Core) (q : DramReq) (o : Option Octets) : Core :=
  if q.tag = engineTag then c.modDram (fun d => { d with answer := some o })
  else
    let c1 := c.emit (.dram q.port q.tag o)
    match q.core, o with
    | some k, none => c1.emit (.accessFault (c.mhartid k) (some (if q.data.isSome then 7 else 5)) (0x800000000 + q.addr))
    | _, _ => c1

/-- The request a queued read came from. -/
def DramRead.req (q : DramRead) : DramReq := ⟨q.port, q.prio, q.addr, q.len, q.tag, none, q.core⟩

/-! ### The array and the write queue (R428, R432, R440) -/

/-- The bytes of a line with a queued entry's bytes over them. -/
def overlay (mask : Nat) (data old : Octets) : Octets :=
  (List.range 64).map (fun i => if bitOf mask i then data.getD i 0 else old.getD i 0)

/-- One word of a write entry issued (R440, R442): a whole word becomes good; a part word is read first, and one that cannot be corrected
is written poisoned. -/
def Core.writeWord (c : Core) (e : DramWrite) (k : Nat) : Core :=
  let w := 8 * e.line + k
  let m := bits e.mask (8 * k + 7) (8 * k)
  if m = 0 then c
  else if m = 255 then (c.sendWord w).modDram (fun y => { y with bad := SMap.erase y.bad w })
  else
    let r := c.readWord w
    if r.2 ∨ c.flag Reg.dram_inline_ecc = false then r.1
    else (r.1.modDram (fun y => { y with bad := SMap.insert y.bad w 1 })).inc Reg.dram_poisoned_writes

/-- A write entry issued to the devices. -/
def Side.issueWrite (d : Side) (e : DramWrite) : Side :=
  let x := 64 * e.line
  let r0 := (d.r.openRow x).modDram (fun y => { y with wq := y.wq.filter (fun z => decide (z.no ≠ e.no)) })
  { d with
    dram := d.dram.writeBytes x (overlay e.mask e.data (d.dram.readBytes x 64))
    r := (List.range 8).foldl (fun (a : Core) k => a.writeWord e k) r0 }

/-- The write entries of a line. -/
def Core.lineWrites (c : Core) (line : Nat) : List DramWrite := c.dm.wq.filter (fun e => decide (e.line = line))

/-- The mask of `n` bytes at offset `o` of a line. -/
def maskOf (o n : Nat) : Nat := (2 ^ n - 1) * 2 ^ o

/-- A write of bytes within one line accepted by its channel's queue (R428), merged where an entry stands. -/
def Core.acceptWrite (c : Core) (x : Nat) (o : Octets) : Core :=
  let line := x / 64
  let off := x % 64
  let put (old : Octets) : Octets := overlay (maskOf off o.length) (List.replicate off 0 ++ o) old
  let c1 := c.inc Reg.dram_writes
  match (c.lineWrites line).getLast? with
  | some e =>
    (c1.inc Reg.dram_write_merges).modDram (fun d => { d with wq := d.wq.map (fun z =>
      if z.no = e.no then { z with mask := z.mask ||| maskOf off o.length, data := put z.data } else z) })
  | none =>
    c1.modDram (fun d => { d with
      wq := d.wq ++ [{ line := line, mask := maskOf off o.length, data := put (List.replicate 64 0), hazard := false, no := d.no }]
      no := d.no + 1 })

/-- A line as the write queue and the devices give it: the youngest byte wins. -/
def Side.lineView (d : Side) (line : Nat) : Octets :=
  (d.r.lineWrites line).foldl (fun o e => overlay e.mask e.data o) (d.dram.readBytes (64 * line) 64)

/-! ### Requests (R422, R428 to R433, R443) -/

/-- The controller serves accesses: running, or in self-refresh from which the request takes it out (R438, R547). -/
def Core.dramServes (c : Core) : Bool := decide (c.rd Reg.dram_state = 2) || decide (c.rd Reg.dram_state = 3)

/-- A rank's refresh interval (R434) from now. -/
def Core.startInterval (c : Core) (k : Nat) : Core :=
  c.modDram (fun d => { d with due := SMap.insert d.due k (c.now + nsTicks 3906 / 2 ^ SMap.getD d.mult k 0) })

/-- Self-refresh left: owed is 0, so no rank repays, and the interval timers restart (R438). -/
def Core.leaveSelfRefresh (c : Core) : Core :=
  if c.rd Reg.dram_state = 3 then
    c.ranks.foldl (fun (a : Core) k => (a.modDram (fun d => { d with owed := SMap.erase d.owed k })).startInterval k)
      ((c.wr Reg.dram_state 2).modDram (fun d => { d with repaying := 0 }))
  else c

/-- The regulator of ports 0 and 1 (R430): the request's effective priority. -/
def Core.regulate (c : Core) (port n : Nat) : Core × Nat :=
  if 1 < port then (c, port)
  else
    let used := SMap.getD c.dm.spent port 0
    if used + n ≤ c.rd (Reg.reg_bytes_per_us port) then (c.modDram (fun d => { d with spent := SMap.put d.spent port 0 (used + n) }), port)
    else if bitOf c.dm.demoted port then (c, 8)
    else (((c.modDram (fun d => { d with demoted := putBit d.demoted port true })).inc (Reg.reg_demotions port)).reportRate 430 1 port, 8)

/-- REG_WINDOW (R430): the 1 µs window of the local clock ends, and with it every demotion. -/
def Core.regWindow (c : Core) : Core :=
  let next := (c.dm.windowAt / usTicks 1 + 1) * usTicks 1
  let c1 := c.advanceTo next
  c1.modDram (fun d => { d with
    spent := []
    demoted := 0
    windowAt := max next c1.now
    rq := d.rq.map (fun q => { q with prio := q.port })
    wait := d.wait.map (fun q => { q with prio := q.port }) })

/-- Entries of a channel's queue. -/
def Core.wqCount (c : Core) (ch : Nat) : Nat := (c.dm.wq.filter (fun e => decide (c.dramChannel (64 * e.line) = ch))).length
def Core.rqCount (c : Core) (ch : Nat) : Nat := (c.dm.rq.filter (fun e => decide (c.dramChannel e.addr = ch))).length

/-- Whether a request finds room in its queue: a write that merges needs none. -/
def Core.dramRoom (c : Core) (q : DramReq) : Bool :=
  match q.data with
  | none => decide (c.rqCount (c.dramChannel q.addr) < 64)
  | some _ => !(c.lineWrites (q.addr / 64)).isEmpty || decide (c.wqCount (c.dramChannel q.addr) < 64)

/-- Whether a request must wait behind those held back before it (R428, R433): one of its queue, or one of its port and line; and a write
behind a queued read of its port and line. -/
def Core.dramBehind (c : Core) (held : List DramReq) (q : DramReq) : Bool :=
  held.any (fun h =>
    (decide (c.dramChannel h.addr = c.dramChannel q.addr) && decide (h.data.isSome = q.data.isSome)) ||
    (decide (h.port = q.port) && decide (h.addr / 64 = q.addr / 64))) ||
  (q.data.isSome && c.dm.rq.any (fun r => decide (r.port = q.port) && decide (r.addr / 64 = q.addr / 64)))

/-- A read taken by its channel (R432). One that the write queue covers is answered from it, after the older reads of its port and line
(R433). -/
def Side.takeRead (d : Side) (q : DramReq) : Side :=
  let line := q.addr / 64
  let es := d.r.lineWrites line
  let need := maskOf (q.addr % 64) q.len
  let all := es.foldl (fun m e => m ||| e.mask) 0
  let queue (a : Core) (waits : Bool) (fwd : Option Octets) : Core := a.modDram (fun y => { y with
    rq := y.rq ++ [⟨q.addr, q.len, q.port, q.tag, q.prio, a.now, waits, y.no, q.core, fwd⟩]
    no := y.no + 1 })
  if all &&& need = need then
    let ans := slice (d.lineView line) (q.addr % 64) q.len
    let c := d.r.inc Reg.dram_forwarded
    if c.dm.rq.any (fun r => decide (r.port = q.port) && decide (r.addr / 64 = line)) then { d with r := queue c false (some ans) }
    else { d with r := (c.inc Reg.dram_reads).dramAnswer q (some ans) }
  else
    let r0 := if es.isEmpty then d.r else (d.r.inc Reg.dram_hazard_drains).modDram (fun y => { y with
      wq := y.wq.map (fun z => if z.line = line then { z with hazard := true } else z) })
    { d with r := queue r0 (!es.isEmpty) none }

/-- A request its queue has room for. -/
def Side.takeReq (d : Side) (q : DramReq) : Side :=
  match q.data with
  | none => d.takeRead q
  | some o => { d with r := (d.r.acceptWrite q.addr o).dramAnswer q (some []) }

/-- The port of a requestor (R429). -/
def Core.dramPort (c : Core) : DramUser → Nat
  | .core k => if bitOf (c.rd Reg.dram_critical_cores) k.val then 0 else 2
  | .delivery v => if bitOf (c.rd Reg.dram_critical_vports) v.val then 1 else 3
  | .dma v => if bitOf (c.rd Reg.dram_critical_vports) v.val then 1 else 4
  | .image => 5
  | .owl => 6
  | .patrol => 7

/-- Whether requests come from a requestor: from a core only while it runs (R394, R395). -/
def Core.userIssues (c : Core) : DramUser → Bool
  | .core k => c.coreIssues k.val
  | _ => true

/-- A request at the controller (R422, R428, R443): answered as an error, taken, or held back. -/
def Side.dramRequest (d : Side) (q : DramReq) : Side :=
  let c := d.r
  let err (a : Core) : Side := { d with r := a.dramAnswer q none }
  if q.len = 0 ∨ 64 < q.addr % 64 + q.len then err c
  else if c.dramUsable < q.addr + q.len then err ((c.inc Reg.dram_beyond_capacity).reportRate 431 1 q.port)
  else if !c.dramServes then err c
  else
    let c0 := ((c.leaveSelfRefresh.inc (Reg.port_requests q.port)).add (Reg.port_bytes q.port) q.len).modDram
      (fun y => { y with lastRequest := c.now })
    if bitOf (c0.rd Reg.dram_ranks_fenced) (c0.dramRank q.addr) then err (c0.inc Reg.dram_fenced_accesses)
    else
      let g := c0.regulate q.port q.len
      let q1 := { q with prio := g.2 }
      if g.1.dramRoom q1 && !g.1.dramBehind g.1.dm.wait q1 then ({ d with r := g.1 } : Side).takeReq q1
      else { d with r := g.1.modDram (fun y => { y with wait := y.wait ++ [q1] }) }

/-- DRAM_READ and DRAM_WRITE: a requestor's request. None comes from a core that does not run (R395). -/
def Side.dramFrom (d : Side) (u : DramUser) (addr len tag : Nat) (data : Option Octets) : Side :=
  if d.r.userIssues u then
    d.dramRequest ⟨d.r.dramPort u, 0, addr, len, tag, data, match u with | .core k => some k.val | _ => none⟩
  else d

/-- The requests `l`, held back until now, entered in order as their queues have room; `held` are those before them that still wait. -/
def Side.admitFrom (d : Side) (held : List DramReq) : List DramReq → Side
  | [] => { d with r := d.r.modDram (fun y => { y with wait := held }) }
  | q :: l =>
    if d.r.dramRoom q && !d.r.dramBehind held q then (d.takeReq q).admitFrom held l else d.admitFrom (held ++ [q]) l

/-- Requests held back enter as their queues have room (R428). -/
def Side.admitWaiting (d : Side) : Side := d.admitFrom [] d.r.dm.wait

/-- Covered reads whose older reads of their port and line are answered get their bytes (R433), oldest first. -/
def Core.forwardReady (c : Core) : Core :=
  c.dm.rq.foldl (fun (a : Core) q => match q.fwd with
    | some o =>
      if a.dm.rq.any (fun r => decide (r.port = q.port) && decide (r.addr / 64 = q.addr / 64) && decide (r.no < q.no)) then a
      else ((a.modDram (fun y => { y with rq := y.rq.filter (fun z => decide (z.no ≠ q.no)) })).inc Reg.dram_reads).dramAnswer q.req (some o)
    | none => a) c

/-! ### Refresh (R434 to R438) -/

/-- The limit of a rank in sixteenths. -/
def Core.refreshLimit (c : Core) (k : Nat) : Int := (128 / 2 ^ SMap.getD c.dm.mult k 0 : Nat)

/-- owed of a rank in sixteenths. -/
def Core.owed (c : Core) (k : Nat) : Int := SMap.getD c.dm.owed k 0

/-- Whether a rank's refresh work is per bank: the mode is, and the rank does not repay (R434, R436). -/
def Core.byBank (c : Core) (k : Nat) : Bool := c.dm.perBank && !bitOf c.dm.repaying k

/-- Refresh work of a rank: one all-bank refresh, or one refresh of the bank whose turn it is, a sixteenth. What it refreshes is
precharged. -/
def Core.refreshRank (c : Core) (k : Nat) : Core :=
  let one := c.byBank k
  let n : Nat := if one then 1 else 16
  let left := c.owed k - n
  let six := c.dm.sixteenths + n
  let bank := SMap.getD c.dm.turn k 0
  (c.modDram (fun d => { d with
    owed := SMap.put d.owed k 0 left
    repaying := if left ≤ 0 then putBit d.repaying k false else d.repaying
    sixteenths := six % 16
    turn := if one then SMap.put d.turn k 0 ((bank + 1) % 16) else d.turn
    openRow := if one then SMap.erase d.openRow (16 * k + bank) else d.openRow.filter (fun x => decide (x.1 / 16 ≠ k)) })).add
    Reg.dram_refreshes (six / 16)

/-- A rank refreshed until it owes nothing (R426 step 1). -/
def Core.refreshAll (c : Core) (k : Nat) : Core :=
  (List.range (if c.byBank k then (c.owed k).toNat else ((c.owed k + 15) / 16).toNat)).foldl (fun (a : Core) _ => a.refreshRank k) c

/-- on_multiplier (R436) for rank `k` to code `m2`. In self-refresh owed is held (R438). -/
def Core.onMultiplier (c : Core) (k m2 : Nat) : Core :=
  let m1 := SMap.getD c.dm.mult k 0
  if m1 = m2 then c
  else if c.rd Reg.dram_state = 3 then
    (c.modDram (fun d => { d with mult := SMap.put d.mult k 0 m2 })).report (424 + k / 2) (if m1 < m2 then 1 else 2) (k % 2 + 4 * m2)
  else
    let up := decide (m1 < m2)
    let o := c.owed k
    let o2 : Int := if up then max (o * (2 ^ (m2 - m1) : Nat) + 16) (-(128 / 2 ^ m2 : Nat))
      else -((-o) / (16 * 2 ^ (m1 - m2) : Nat)) * 16
    let rep := up && decide (0 < o2)
    let c1 := (c.modDram (fun d => { d with
      mult := SMap.put d.mult k 0 m2
      owed := SMap.put d.owed k 0 o2
      repaying := if rep then putBit d.repaying k true else d.repaying })).startInterval k
    let c2 := if rep then c1.inc Reg.dram_repay_batches else c1
    c2.report (424 + k / 2) (if up then 1 else 2) (k % 2 + 4 * m2)

/-- The multiplier code R435 chooses for a rank; it stays that of R444 while MR4 reports a device above its operating
limit. -/
def Core.chooseMult (c : Core) (k : Nat) : Nat :=
  let mr := SMap.getD c.dm.mr4 k 0
  let est := SMap.getD c.dm.est (k / 2) 0
  let th := (c.rd Reg.dram_temp_threshold_c : Int)
  if mr = 2 ∨ bitOf c.dm.hot k = true then 2
  else if th ≤ est ∨ mr = 1 then 1
  else if SMap.getD c.dm.mult k 0 ≠ 0 ∧ th - (c.rd Reg.dram_temp_hysteresis_c : Int) < est then 1
  else 0

/-- The multiplier of a rank brought to what R435 chooses; during a set-point change it waits (R427). -/
def Core.updateMult (c : Core) (k m : Nat) : Core :=
  if c.rd Reg.fsp_request = 2 then c.modDram (fun d => { d with multPend := SMap.put d.multPend k 0 (m + 1) })
  else c.onMultiplier k m

/-- DRAM_TEMP_ESTIMATE (R435): the sensor beside channel `ch` reads `t` °C. -/
def Core.tempEstimate (c : Core) (ch : Nat) (t : Int) : Core :=
  let e := t + signedOf 32 (c.rd Reg.dram_temp_offset_c)
  let c1 := c.modDram (fun d => { d with est := SMap.insert d.est ch e })
  (c1.ranks.filter (fun k => decide (k / 2 = ch))).foldl (fun (a : Core) k => a.updateMult k (a.chooseMult k)) c1

/-- MR4_POLL (R435, R444): a rank's MR4: 0 nominal, 1 half, 2 quarter, 3 invalid, 4 above the operating limit. -/
def Core.mr4Poll (c : Core) (k code : Nat) : Core :=
  if !(c.ranks.any (fun x => decide (x = k))) || !c.dramServes then c
  else if code = 3 then c.reportRate (420 + k / 2) 3 (k % 2 + 4 * 256)
  else if code = 4 then ((c.modDram (fun d => { d with hot := putBit d.hot k true })).updateMult k 2).report (424 + k / 2) 3 (k % 2)
  else
    let c1 := c.modDram (fun d => { d with mr4 := SMap.put d.mr4 k 0 code, hot := putBit d.hot k false })
    c1.updateMult k (c1.chooseMult k)

/-- REFRESH_INTERVAL (R434): a rank's tREFI passes. -/
def Core.refreshInterval (c : Core) (k : Nat) : Core :=
  if c.rd Reg.dram_state ≠ 2 ∨ (c.ranks.any (fun x => decide (x = k))) = false then c
  else
    let c1 := c.advanceTo (SMap.getD c.dm.due k 0)
    (c1.modDram (fun d => { d with
      owed := SMap.put d.owed k 0 (SMap.getD d.owed k 0 + 16)
      perBank := decide (c1.rd Reg.dram_refresh_mode = 1) })).startInterval k

/-! ### Commands (R431 to R433) -/

/-- Ranks of a channel that must refresh first: repaying, or at their limit. -/
def Core.mustRefresh (c : Core) (ch : Nat) : List Nat :=
  c.ranks.filter (fun k => decide (k / 2 = ch) && (bitOf c.dm.repaying k || decide (c.refreshLimit k ≤ c.owed k)))

/-- A write is ready: its rank is free, and no older read of its line is queued (R433). -/
def Core.writeReady (c : Core) (busy : List Nat) (e : DramWrite) : Bool :=
  !inList (c.dramRank (64 * e.line)) busy && !c.dm.rq.any (fun q => decide (q.addr / 64 = e.line) && decide (q.no < e.no))

/-- A read is ready: it waits for the devices and not for an older read of its port and line, its rank is free, and of the hazard writes it
waits for none is left; writes accepted after it are none of those (R432, R433). -/
def Core.readReady (c : Core) (busy : List Nat) (q : DramRead) : Bool :=
  q.fwd.isNone && !inList (c.dramRank q.addr) busy &&
  !(q.waits && c.dm.wq.any (fun e => e.hazard && decide (e.line = q.addr / 64) && decide (e.no < q.no))) &&
  !c.dm.rq.any (fun r => decide (r.port = q.port) && decide (r.addr / 64 = q.addr / 64) && decide (r.no < q.no))

/-- choose_read (R431): the read, and whether its age promoted it. -/
def Core.chooseRead (c : Core) (cand : List DramRead) : Option (DramRead × Bool) :=
  match cand.find? (fun q => decide (q.since + nsTicks (c.rd Reg.dram_age_limit_ns) < c.now)) with
  | some q => some (q, true)
  | none =>
    let p := cand.foldl (fun a q => min a q.prio) 9
    let best := cand.filter (fun q => decide (q.prio = p))
    match best.find? (fun q => c.rowHit q.addr) with
    | some q => some (q, false)
    | none => best.head?.map (fun q => (q, false))

/-- A read issued to the devices and answered. -/
def Side.issueRead (d : Side) (q : DramRead) (old : Bool) : Side :=
  let r0 := (d.r.openRow q.addr).modDram (fun y => { y with rq := y.rq.filter (fun z => decide (z.no ≠ q.no)) })
  let r1 := (if old then r0.inc (Reg.age_promotions q.port) else r0).inc Reg.dram_reads
  let e := r1.readWords q.addr q.len
  { d with r := (e.1.dramAnswer q.req (if e.2 then some (d.dram.readBytes q.addr q.len) else none)).forwardReady }

/-- The mode of a channel after the marks of 48 and 16 (R431). -/
def Core.switchMode (c : Core) (ch : Nat) : Core :=
  let n := c.wqCount ch
  if 48 ≤ n ∧ bitOf c.dm.writeMode ch = false then
    (c.modDram (fun d => { d with writeMode := putBit d.writeMode ch true })).inc Reg.dram_drain_batches
  else if n ≤ 16 then c.modDram (fun d => { d with writeMode := putBit d.writeMode ch false })
  else c

/-- A bank of channel `ch` whose activates have reached the threshold that MR27 of its rank gives (R437). -/
def Core.rfmBank (c : Core) (ch : Nat) : Option Nat :=
  (List.find? (fun (x : Nat × Nat) =>
    let n := SMap.getD c.dm.rfmAt (x.1 / 16) 0
    decide (x.1 / 32 = ch) && decide (0 < n) && decide (n ≤ x.2)) c.dm.activates).map (·.1)

/-- An RFM command to bank `k`: it manages as many activates as the threshold, and owed stays (R437). -/
def Core.rfmIssue (c : Core) (k : Nat) : Core :=
  (c.modDram (fun d => { d with
    activates := SMap.put d.activates k 0 (SMap.getD d.activates k 0 - SMap.getD d.rfmAt (k / 16) 0) })).inc Reg.dram_rfm_issued

/-- next_command (R431): the ranks that must refresh do so, and one command issues on channel `ch`. -/
def Side.nextCommand (d : Side) (ch : Nat) : Side :=
  let must := d.r.mustRefresh ch
  let r0 := must.foldl (fun (a : Core) k =>
    let b := if decide (a.refreshLimit k ≤ a.owed k) then a.inc Reg.dram_refresh_forced else a
    b.refreshRank k) d.r
  match r0.rfmBank ch with
  | some k => { d with r := r0.rfmIssue k }
  | none =>
    let ws := (r0.dm.wq.filter (fun e => decide (r0.dramChannel (64 * e.line) = ch)))
    match ws.find? (fun e => e.hazard && r0.writeReady must e) with
    | some e => ({ d with r := r0 } : Side).issueWrite e
    | none =>
      let r1 := r0.switchMode ch
      let cand := r1.dm.rq.filter (fun q => decide (r1.dramChannel q.addr = ch) && r1.readReady must q)
      let ready := ws.filter (fun e => r1.writeReady must e)
      let w := match ready.find? (fun e => r1.rowHit (64 * e.line)) with
        | some e => some e
        | none => ready.head?
      match (if bitOf r1.dm.writeMode ch || cand.isEmpty then w else none) with
      | some e => ({ d with r := r1 } : Side).issueWrite e
      | none =>
        match r1.chooseRead cand with
        | some (q, old) => ({ d with r := r1 } : Side).issueRead q old
        | none =>
          match r1.ranks.find? (fun k => decide (k / 2 = ch) && !inList k must && decide (-(r1.refreshLimit k) < r1.owed k)) with
          | some k => { d with r := r1.refreshRank k }
          | none => { d with r := r1 }

/-- One command slot of channel `ch`: none issues while the controller does not run or a set-point change stops it (R426). -/
def Side.dramSlot (d : Side) (ch : Nat) : Side :=
  if d.r.rd Reg.dram_state ≠ 2 ∨ d.r.rd Reg.fsp_request = 2 then d
  else (d.admitWaiting.nextCommand ch).admitWaiting

/-- DRAM_COMMAND_ISSUE (R431): one command slot of channel `ch`. `es` are the errors that have arisen in the channel's words by then, and
`mr27` the thresholds that MR27 of its ranks gives, 0 for a rank that asks for no refresh management (R437). -/
def Side.dramIssue (d : Side) (ch : Nat) (es : List (Nat × DramErr)) (mr27 : List (Nat × Nat)) : Side :=
  let r0 := mr27.foldl (fun (a : Core) x => a.modDram (fun y => { y with rfmAt := SMap.put y.rfmAt (2 * ch + x.1) 0 x.2 }))
    (d.r.dramErrors ch es)
  ({ d with r := r0 } : Side).dramSlot ch

/-! ### Training and set points (R423 to R427) -/

/-- A write to dram_train: 1 full, 2 restore. -/
def Core.dramTrain (c : Core) (v : Nat) : Core × Reason :=
  if v = 0 ∨ 2 < v then (c, .badValue)
  else if c.rd Reg.dram_train = 1 then (c, .busy)
  else (((c.wr Reg.dram_train 1).wr Reg.dram_state 1).modDram (fun d => { d with trainKind := v }), .ok)

/-- DRAM_TRAIN_DONE (R423): the set points that failed full training, each with its channel and rank. -/
def Core.trainDone (c : Core) (fails : List (Nat × Nat × Nat)) : Core :=
  if c.rd Reg.dram_train ≠ 1 then c
  else
    let ok := fails.foldl (fun m f => putBit m f.1 false) 7
    let c1 := fails.foldl (fun (a : Core) f => a.report (420 + f.2.1) 2 (f.1 + 4 * f.2.2)) (c.wr Reg.fsp_trained ok)
    let boot := c.rd Reg.fsp_boot
    let good := bitOf ok boot
    -- a full training leaves its results in dram_train_image, in place of what it held
    let full := decide (c.dm.trainKind = 1)
    let c1b : Core := if full then { c1 with tabs := c1.tabs.filter (fun x => decide (x.1 / 2 ^ 32 ≠ wTrain)) } else c1
    let c1c : Core := if full then { c1b with free := c1b.free + 1, dm := { c1b.dm with trainings := c1b.free + 1 } } else c1b
    let c2 := ((c1c.wr Reg.dram_train (if good then 2 else 3)).wr Reg.dram_state (if good then 2 else 4)).modDram
      (fun d => { d with owed := [], repaying := 0, openRow := [], stepAt := c.now })
    let c3 := if good then c2.wr Reg.fsp_active boot else c2
    c3.ranks.foldl (fun (a : Core) k => a.startInterval k) c3

/-- Whether a rank is in a phase of a training step (R425). -/
def Core.stepRuns (c : Core) : Bool := c.dm.gathering || decide (c.dm.unfencing ≠ 0)

/-- The training steps of unfenced ranks that waited for a set-point change start (R425, R524). -/
def Core.startUnfences (c : Core) : Core :=
  if c.dm.unfenceWait = 0 then c
  else (c.modDram (fun d => { d with unfencing := d.unfencing ||| d.unfenceWait, unfenceWait := 0 })).add Reg.dram_retrain_steps
    (popCount 8 c.dm.unfenceWait)

/-- Rank `k` is unfenced (R524): it runs one training step and then serves. Without a running controller there is no step to run. -/
def Core.unfenceRank (c : Core) (k : Nat) : Core :=
  if c.rd Reg.dram_state ≠ 2 then c.wr Reg.dram_ranks_fenced (putBit (c.rd Reg.dram_ranks_fenced) k false)
  else
    let c1 := c.modDram (fun d => { d with unfenceWait := putBit d.unfenceWait k true })
    if c.rd Reg.fsp_request = 1 ∨ c.rd Reg.fsp_request = 2 then c1 else c1.startUnfences

/-- A set-point change begins (R426): every rank is refreshed until it owes nothing, and every bank is precharged. -/
def Core.fspBegin (c : Core) : Core :=
  (c.ranks.foldl (fun (a : Core) k => a.refreshAll k) (c.wr Reg.fsp_request 2)).modDram (fun d => { d with openRow := [] })

/-- FSP_REQUEST and FSP_CANCEL (R425). A refused request reads 4. -/
def Core.fspRequest (c : Core) (v : Nat) : Core × Reason :=
  if v = 7 then (if c.rd Reg.fsp_request = 1 then (c.wr Reg.fsp_request 0).startUnfences else c, .ok)
  else if 2 < v then (c, .badValue)
  else if c.rd Reg.fsp_request = 1 ∨ c.rd Reg.fsp_request = 2 then (c, .busy)
  else if c.rd Reg.dram_state ≠ 2 ∨ bitOf (c.rd Reg.fsp_trained) v = false ∨ c.rd Reg.fsp_active = v then
    (c.wr Reg.fsp_request 4, .wrongState)
  else
    let c1 := c.modDram (fun d => { d with fspTarget := v })
    if c.stepRuns then (((c1.wr Reg.fsp_request 1).inc Reg.fsp_deferrals).report 428 2 v, .ok)
    else (c1.fspBegin, .ok)

/-- FSP_CHANGE_DONE (R426 step 5, R427). -/
def Core.fspDone (c : Core) : Core :=
  if c.rd Reg.fsp_request ≠ 2 then c
  else
    let c1 := (((c.wr Reg.fsp_active c.dm.fspTarget).wr Reg.fsp_request 3).inc Reg.fsp_changes).report 428 1 c.dm.fspTarget
    (c1.dm.multPend.foldl (fun (a : Core) x => a.onMultiplier x.1 (x.2 - 1)) (c1.modDram (fun d => { d with multPend := [] }))).startUnfences

/-- RETRAIN_STEP (R424): a rank of every channel starts gathering: rank 0 when the interval has passed, rank 1 in turn
after it. No step starts while a change is pending or runs. -/
def Core.retrainStep (c : Core) : Core :=
  let f := c.rd Reg.fsp_request
  let i := c.rd Reg.dram_retrain_interval_ms
  if c.rd Reg.dram_state ≠ 2 ∨ i = 0 ∨ c.dm.gathering = true ∨ f = 1 ∨ f = 2 then c
  else
    let c1 := if c.dm.stepRank = 0 then c.advanceTo (c.dm.stepAt + msTicks i) else c
    (c1.modDram (fun d => { d with gathering := true, stepAt := if d.stepRank = 0 then c1.now else d.stepAt })).inc Reg.dram_retrain_steps

/-- RETRAIN_UPDATE (R424, R444): the step ends; per channel 0 a small correction, 1 one over 1/8 UI, 2 a count out of
range, 3 an invalid MRR (PRESUMED: of MR35, which JESD209-5 gives the count, log entry 41). The steps are the periodic one and those of unfenced ranks,
which serve from then on (R524). A pending change begins. -/
def Core.retrainUpdate (c : Core) (res : List Nat) : Core :=
  if !c.stepRuns then c
  else
    let steps := (List.range 8).filter (fun k => (c.dm.gathering && decide (k % 2 = c.dm.stepRank)) || bitOf c.dm.unfencing k)
    let c1 := steps.foldl (fun (a : Core) k =>
      match res.getD (k / 2) 0 with
      | 0 => a
      | 3 => a.reportRate (420 + k / 2) 3 (k % 2 + 256 * 35)
      | _ => a.reportRate (420 + k / 2) 1 (k % 2)) c
    let c2 := (c1.wr Reg.dram_ranks_fenced (c1.rd Reg.dram_ranks_fenced - (c1.rd Reg.dram_ranks_fenced &&& c.dm.unfencing))).modDram
      (fun d => { d with
        gathering := false
        stepRank := if d.gathering then (d.stepRank + 1) % max 1 (c.rd Reg.dram_ranks) else d.stepRank
        unfencing := 0 })
    if c2.rd Reg.fsp_request = 1 then c2.fspBegin else c2

/-- DRAM_SR_IDLE (R547): in Den with den_dram_sr, 10 µs without a request. -/
def Core.dramSrIdle (c : Core) : Core :=
  if c.rd Reg.power_state = 2 ∧ c.flag Reg.den_dram_sr = true ∧ c.rd Reg.dram_state = 2 ∧ c.dm.rq.isEmpty = true ∧
      c.dm.wq.isEmpty = true ∧ c.dm.wait.isEmpty = true then
    (c.advanceTo (c.dm.lastRequest + usTicks 10)).wr Reg.dram_state 3
  else c

/-! ### Engine accesses (R405, R429, R471) -/

/-- The port of local delivery (`dma` false) or of a DMA engine for a vport (R429, R471). -/
def Core.enginePort (c : Core) (v : Nat) (dma : Bool) : Nat :=
  if bitOf (c.rd Reg.dram_critical_vports) v then 1 else if dma then 4 else 3

/-- The lines a run of bytes falls into: (offset, length). -/
def dramPieces (a n : Nat) : List (Nat × Nat) :=
  (List.range (if n = 0 then 0 else (a + n - 1) / 64 - a / 64 + 1)).map (fun i =>
    let lo := max a ((a / 64 + i) * 64)
    (lo, min (a + n) ((a / 64 + i + 1) * 64) - lo))

/-- An engine waits for the answer to its request while the channel's slots pass; a set-point change that holds the queues ends first
(R426). The fuel bounds the slots. -/
def Side.engineWait (d : Side) (ch : Nat) : Nat → Side
  | 0 => d
  | n + 1 =>
    if d.r.dm.answer.isSome then d
    else
      let d1 : Side := { d with r := d.r.fspDone }
      (d1.dramSlot ch).engineWait ch n

/-- As many slots as a channel can need before it has served everything that waits. -/
def Core.slotsAhead (c : Core) : Nat :=
  2 * (c.dm.rq.length + c.dm.wq.length + c.dm.wait.length) + c.dm.activates.foldl (fun a x => a + x.2) 0 +
  c.dm.owed.foldl (fun a x => a + x.2.toNat) 0 + 8

/-- A request of an engine for bytes within one line, and its answer. -/
def Side.engineAccess (d : Side) (port x n : Nat) (data : Option Octets) : Side × Option Octets :=
  let d1 := ({ d with r := d.r.modDram (fun y => { y with answer := none }) } : Side).dramRequest ⟨port, port, x, n, engineTag, data, none⟩
  let d2 := d1.engineWait (d1.r.dramChannel x) d1.r.slotsAhead
  ({ d2 with r := d2.r.modDram (fun y => { y with answer := none }) }, d2.r.dm.answer.getD none)

/-- Bytes written by an engine: the side, and whether every write was taken. -/
def Side.dramPut (d : Side) (port a : Nat) (o : Octets) : Side × Bool :=
  (dramPieces a o.length).foldl (fun acc x =>
    let r := acc.1.engineAccess port x.1 x.2 (some (slice o (x.1 - a) x.2))
    (r.1, acc.2 && r.2.isSome)) (d, true)

/-- Bytes read by an engine: none for an error response. -/
def Side.dramGet (d : Side) (port a n : Nat) : Side × Option Octets :=
  (dramPieces a n).foldl (fun acc x =>
    let r := acc.1.engineAccess port x.1 x.2 none
    (r.1, match acc.2, r.2 with | some l, some o => some (l ++ o) | _, _ => none)) (d, some [])

/-! ### Fencing a rank (R443) -/

/-- Rank `k` fenced by its collector: queued reads answered as uncorrectable, queued writes discarded. -/
def Core.fenceRank (c : Core) (k : Nat) : Core :=
  let c1 := c.wr Reg.dram_ranks_fenced (putBit (c.rd Reg.dram_ranks_fenced) k true)
  let rs := c1.dm.rq.filter (fun q => decide (c1.dramRank q.addr = k))
  let ws := c1.dm.wq.filter (fun e => decide (c1.dramRank (64 * e.line) = k))
  let qs := c1.dm.wait.filter (fun q => decide (c1.dramRank q.addr = k))
  let c2 := (c1.add Reg.dram_fenced_accesses (rs.length + ws.length + qs.length)).modDram (fun d => { d with
    rq := d.rq.filter (fun q => decide (c1.dramRank q.addr ≠ k))
    wq := d.wq.filter (fun e => decide (c1.dramRank (64 * e.line) ≠ k))
    wait := d.wait.filter (fun q => decide (c1.dramRank q.addr ≠ k))
    unfencing := putBit d.unfencing k false
    unfenceWait := putBit d.unfenceWait k false })
  let c3 := rs.foldl (fun (a : Core) q => a.dramAnswer q.req none) c2
  qs.foldl (fun (a : Core) q => a.dramAnswer q none) c3

end Sys2Proof.Machine
end

