-- ==== Sys2Proof/Machine/Aes.lean ====
section
/-! DEFINITION. Aes.lean: AES (FIPS 197) and GCM (NIST SP 800-38D), the cipher suites of MACsec that R126
names. PRESUMED: the standards' functions are taken from outside the spec, log entry 3. -/

namespace Sys2Proof.Machine

/-- Multiplication by x in GF(2^8) with the AES polynomial. -/
def xtime (a : Nat) : Nat := if a < 128 then 2 * a else (2 * a) % 256 ^^^ 0x1B

/-- The AES S-box, rows of 16. -/
def sboxRows : List (List Nat) := [
  [0x63,0x7c,0x77,0x7b,0xf2,0x6b,0x6f,0xc5,0x30,0x01,0x67,0x2b,0xfe,0xd7,0xab,0x76],
  [0xca,0x82,0xc9,0x7d,0xfa,0x59,0x47,0xf0,0xad,0xd4,0xa2,0xaf,0x9c,0xa4,0x72,0xc0],
  [0xb7,0xfd,0x93,0x26,0x36,0x3f,0xf7,0xcc,0x34,0xa5,0xe5,0xf1,0x71,0xd8,0x31,0x15],
  [0x04,0xc7,0x23,0xc3,0x18,0x96,0x05,0x9a,0x07,0x12,0x80,0xe2,0xeb,0x27,0xb2,0x75],
  [0x09,0x83,0x2c,0x1a,0x1b,0x6e,0x5a,0xa0,0x52,0x3b,0xd6,0xb3,0x29,0xe3,0x2f,0x84],
  [0x53,0xd1,0x00,0xed,0x20,0xfc,0xb1,0x5b,0x6a,0xcb,0xbe,0x39,0x4a,0x4c,0x58,0xcf],
  [0xd0,0xef,0xaa,0xfb,0x43,0x4d,0x33,0x85,0x45,0xf9,0x02,0x7f,0x50,0x3c,0x9f,0xa8],
  [0x51,0xa3,0x40,0x8f,0x92,0x9d,0x38,0xf5,0xbc,0xb6,0xda,0x21,0x10,0xff,0xf3,0xd2],
  [0xcd,0x0c,0x13,0xec,0x5f,0x97,0x44,0x17,0xc4,0xa7,0x7e,0x3d,0x64,0x5d,0x19,0x73],
  [0x60,0x81,0x4f,0xdc,0x22,0x2a,0x90,0x88,0x46,0xee,0xb8,0x14,0xde,0x5e,0x0b,0xdb],
  [0xe0,0x32,0x3a,0x0a,0x49,0x06,0x24,0x5c,0xc2,0xd3,0xac,0x62,0x91,0x95,0xe4,0x79],
  [0xe7,0xc8,0x37,0x6d,0x8d,0xd5,0x4e,0xa9,0x6c,0x56,0xf4,0xea,0x65,0x7a,0xae,0x08],
  [0xba,0x78,0x25,0x2e,0x1c,0xa6,0xb4,0xc6,0xe8,0xdd,0x74,0x1f,0x4b,0xbd,0x8b,0x8a],
  [0x70,0x3e,0xb5,0x66,0x48,0x03,0xf6,0x0e,0x61,0x35,0x57,0xb9,0x86,0xc1,0x1d,0x9e],
  [0xe1,0xf8,0x98,0x11,0x69,0xd9,0x8e,0x94,0x9b,0x1e,0x87,0xe9,0xce,0x55,0x28,0xdf],
  [0x8c,0xa1,0x89,0x0d,0xbf,0xe6,0x42,0x68,0x41,0x99,0x2d,0x0f,0xb0,0x54,0xbb,0x16]]

/-- The S-box on one byte. -/
def sbox (b : Nat) : Nat := ((sboxRows.getD (b / 16) []).getD (b % 16) 0)

/-- One word of the key schedule from the word before and the one `nk` before it. -/
def keyWord (nk i rcon : Nat) (prev back : List Nat) : List Nat :=
  let t := if i % nk = 0 then
      ((prev.drop 1 ++ prev.take 1).map sbox).zipWith (· ^^^ ·) [rcon, 0, 0, 0]
    else if 6 < nk ∧ i % nk = 4 then prev.map sbox else prev
  back.zipWith (· ^^^ ·) t

/-- The key schedule: `n` more words from word `i`, newest first in `acc`. -/
def keyExpand (nk : Nat) : Nat → Nat → Nat → List (List Nat) → List (List Nat)
  | 0, _, _, acc => acc
  | n + 1, i, rcon, acc =>
    let w := keyWord nk i rcon (acc.getD 0 []) (acc.getD (nk - 1) [])
    keyExpand nk n (i + 1) (if i % nk = 0 then xtime rcon else rcon) (w :: acc)

/-- The words of a key, first word last. -/
def keyWords : Nat → List Nat → List (List Nat) → List (List Nat)
  | 0, _, acc => acc
  | n + 1, k, acc => keyWords n (k.drop 4) (k.take 4 :: acc)

/-- Round keys of 16 bytes, first round first. -/
def roundKeys (key : List Nat) : List (List Nat) :=
  let nk := key.length / 4
  let ws := (keyExpand nk (4 * (nk + 7) - nk) nk 1 (keyWords nk key [])).reverse
  (List.range (nk + 7)).map (fun r => (slice4 ws (4 * r)).flatten)
where
  /-- Four words from an index. -/
  slice4 (ws : List (List Nat)) (i : Nat) : List (List Nat) := (ws.drop i).take 4

/-- SubBytes and ShiftRows. -/
def subShift (s : List Nat) : List Nat := (List.range 16).map (fun i => sbox (s.getD ((i + 4 * (i % 4)) % 16) 0))

/-- MixColumns. -/
def mixColumns (s : List Nat) : List Nat :=
  (List.range 16).map (fun i =>
    let b (j : Nat) : Nat := s.getD (i / 4 * 4 + (i + j) % 4) 0
    xtime (b 0) ^^^ xtime (b 1) ^^^ b 1 ^^^ b 2 ^^^ b 3)

/-- The rounds after the first key addition. -/
def aesRounds : List (List Nat) → List Nat → List Nat
  | [], s => s
  | [k], s => (subShift s).zipWith (· ^^^ ·) k
  | k :: r, s => aesRounds r ((mixColumns (subShift s)).zipWith (· ^^^ ·) k)

/-- AES of one block under its round keys. -/
def aesBlock (rks : List (List Nat)) (blk : List Nat) : List Nat :=
  match rks with
  | [] => blk
  | k :: r => aesRounds r (blk.zipWith (· ^^^ ·) k)

/-- A block as the number its octets spell, most significant first. -/
def blockNat (b : List Nat) : Nat := b.foldl (fun a x => a * 256 + x) 0

/-- 16 octets of a number. -/
def natBlock (v : Nat) : List Nat := (List.range 16).map (fun i => v / 256 ^ (15 - i) % 256)

/-- Multiplication in GCM's GF(2^128), bit 127 of the number being the coefficient of x^0: over the bits of `x`
from the highest, `z` the sum so far and `v` the shifted factor. -/
def ghashMul : Nat → Nat → Nat → Nat → Nat
  | 0, _, _, z => z
  | n + 1, x, v, z =>
    ghashMul n x (if v % 2 = 1 then (v / 2) ^^^ (0xE1 * 2 ^ 120) else v / 2) (if x.testBit n then z ^^^ v else z)

/-- GHASH over a string padded to blocks. -/
def ghashBlocks (h : Nat) : Nat → List Nat → Nat → Nat
  | 0, _, y => y
  | n + 1, o, y => ghashBlocks h n (o.drop 16)
      (ghashMul 128 (y ^^^ blockNat ((o.take 16) ++ List.replicate (16 - o.length) 0)) h 0)

/-- The CTR keystream applied to a string from a counter block on. -/
def gcmCtr (rks : List (List Nat)) (iv : Nat) : Nat → Nat → List Nat → List Nat
  | 0, _, _ => []
  | n + 1, ctr, o =>
    (o.take 16).zipWith (· ^^^ ·) (aesBlock rks (natBlock (iv * 2 ^ 32 + ctr % 2 ^ 32))) ++ gcmCtr rks iv n (ctr + 1) (o.drop 16)

/-- The tag of GCM. -/
def gcmTag (rks : List (List Nat)) (iv : Nat) (aad ct : List Nat) : List Nat :=
  let h := blockNat (aesBlock rks (natBlock 0))
  let y := ghashBlocks h (ceilDiv ct.length 16) ct (ghashBlocks h (ceilDiv aad.length 16) aad 0)
  let s := ghashMul 128 (y ^^^ (8 * aad.length * 2 ^ 64 + 8 * ct.length)) h 0
  natBlock (s ^^^ blockNat (aesBlock rks (natBlock (iv * 2 ^ 32 + 1))))

/-- Octets as numbers. -/
def octetNats (o : Octets) : List Nat := o.map BitVec.toNat

/-- Numbers as octets. -/
def natOctets (l : List Nat) : Octets := l.map (BitVec.ofNat 8)

/-- GCM encryption under a 96-bit IV: the ciphertext and the 16-octet tag. -/
def gcmSeal (key : Octets) (iv : Nat) (aad pt : Octets) : Octets × Octets :=
  let rks := roundKeys (octetNats key)
  let ct := gcmCtr rks iv (ceilDiv pt.length 16) 2 (octetNats pt)
  (natOctets ct, natOctets (gcmTag rks iv (octetNats aad) ct))

/-- GCM decryption: the plaintext, and whether the tag is right. -/
def gcmOpen (key : Octets) (iv : Nat) (aad ct tag : Octets) : Octets × Bool :=
  let rks := roundKeys (octetNats key)
  (natOctets (gcmCtr rks iv (ceilDiv ct.length 16) 2 (octetNats ct)),
   decide (natOctets (gcmTag rks iv (octetNats aad) (octetNats ct)) = tag))

end Sys2Proof.Machine
end

