-- ==== Sys2Proof/Machine/Gates.lean ====
section
/-! DEFINITION. Gates.lean: gate control lists of ports and stream gates: the entry in effect, closing
times, list changes and longest_open (R351 to R357, R361, R369). -/

namespace Sys2Proof.Machine

/-! ### Lists -/

/-- A gate list as it runs: entries are (value, interval in ns); the value is gate_states for a port and
bits [40:32] of the entry for a stream gate. -/
structure GateList where
  enable : Bool
  base : Nat
  cycle : Nat
  entries : List (Nat × Nat)

/-- A span of a cycle in ns, half-open, with its entry (R352). -/
structure Span where
  first : Nat
  last : Nat
  entry : Nat
  value : Nat

/-- The spans of a cycle from `at`: the last entry stays to the cycle's end, the list past it is cut. -/
def spansFrom (cycle : Nat) : Nat → Nat → List (Nat × Nat) → List Span
  | _, _, [] => []
  | t, k, [(v, _)] => if t < cycle then [⟨t, cycle, k, v⟩] else []
  | t, k, (v, i) :: r =>
    if t < cycle then ⟨t, min cycle (t + i), k, v⟩ :: spansFrom cycle (t + i) (k + 1) r else []

/-- The spans of a list's cycle. -/
def GateList.spans (l : GateList) : List Span := spansFrom l.cycle 0 0 l.entries

/-- The position of a time, in domain units, in its cycle, in units (cycles start at base + n × cycle for
every integer n). -/
def GateList.pos (l : GateList) (u : Nat) : Nat :=
  (((u : Int) - (l.base * nsUnit : Nat)) % ((l.cycle * nsUnit : Nat) : Int)).toNat

/-- The span in effect at a time. -/
def GateList.at (l : GateList) (u : Nat) : Option Span :=
  let p := l.pos u
  l.spans.find? (fun s => decide (s.first * nsUnit ≤ p) && decide (p < s.last * nsUnit))

/-- The value in effect: all ones with gates disabled (every gate is open). -/
def GateList.value (l : GateList) (u : Nat) : Nat :=
  if l.enable then (match l.at u with | some s => s.value | none => 0) else 0x1FF

/-- How many units from a position the gate `open?` stays open, following the spans from the one that
holds the position through a whole further cycle; none: it stays open. -/
def openRun (isOpen : Nat → Bool) (cycle p : Nat) : List Span → Option Nat
  | [] => none
  | s :: r =>
    if s.last * nsUnit ≤ p then openRun isOpen cycle p r
    else if isOpen s.value then openRun isOpen cycle p r
    else some (s.first * nsUnit - p)

/-- A list's spans over this cycle and the next. -/
def GateList.twoCycles (l : GateList) : List Span :=
  l.spans ++ l.spans.map (fun s => { s with first := s.first + l.cycle, last := s.last + l.cycle })

/-- close(q, u) on one list (R355): the time at which the open span that holds `u` ends, none when
unbounded; `u` itself when the gate is closed. -/
def GateList.close (l : GateList) (isOpen : Nat → Bool) (u : Nat) : Option Nat :=
  if !l.enable then none
  else match openRun isOpen l.cycle (l.pos u) l.twoCycles with
    | some d => some (u + d)
    | none => none

/-- longest_open (R356): the longest open run over two cycles in ns, none when the gate is open for a
whole cycle or gates are disabled. -/
def GateList.longest (l : GateList) (isOpen : Nat → Bool) : Option Nat :=
  if !l.enable || l.spans.all (fun s => isOpen s.value) then none
  else some ((l.twoCycles.foldl (fun (acc : Nat × Nat) s =>
    let run := if isOpen s.value then acc.2 + (s.last - s.first) else 0
    (max acc.1 run, run)) (0, 0)).1)

/-- The next boundary after a time: the end of the span in effect. -/
def GateList.boundary (l : GateList) (u : Nat) : Option Nat :=
  if !l.enable then none
  else (l.at u).map (fun s => u + (s.last * nsUnit - l.pos u))

/-- Entries `n` of a window from an entry, as (value, interval). -/
def Core.gateEntries (c : Core) (w first n : Nat) : List (Nat × Nat) :=
  (List.range n).map (fun k =>
    let x := c.tab w (first + k)
    (bits x 40 32, bits x 31 0))

/-- Whether a list's entries in use are admissible (R354): intervals of 32 ns to 10^9 ns, reserved bits 0,
at least one entry. -/
def Core.gateEntriesOk (c : Core) (w first n : Nat) (sgate : Bool) : Bool :=
  decide (0 < n) && (List.range n).all (fun k =>
    let x := c.tab w (first + k)
    decide (32 ≤ bits x 31 0) && decide (bits x 31 0 ≤ 1000000000) &&
    (if sgate then decide (bits x 63 41 = 0) && decide (bits x 35 32 = 0) else decide (bits x 63 40 = 0)))

/-- The smallest base + n × cycle, n ≥ 0, at least 2 µs after now in side time (R353). -/
def Core.changeTime (c : Core) (base cycle : Nat) : Nat :=
  let lo := ceilDiv c.sideUnits nsUnit + 2000
  if lo ≤ base then base else base + ceilDiv (lo - base) (max 1 cycle) * cycle

/-! ### Ports (R351 to R357) -/

/-- Gate `q` of a port in a list value. -/
def portGate (q : Nat) (v : Nat) : Bool := bitOf v q

/-- The operational list of port `p`. -/
def Core.portOper (c : Core) (p : Nat) : GateList :=
  ⟨c.flag (Reg.oper_gate_enable p), c.rd (Reg.oper_base_time p), c.rd (Reg.oper_cycle_time p),
   c.gateEntries wGclOper (256 * p) (c.rd (Reg.oper_list_length p))⟩

/-- The administrative list of port `p`. -/
def Core.portAdmin (c : Core) (p : Nat) : GateList :=
  ⟨c.flag (Reg.admin_gate_enable p), c.rd (Reg.admin_base_time p), c.rd (Reg.admin_cycle_time p),
   c.gateEntries wGclAdmin (256 * p) (c.rd (Reg.admin_list_length p))⟩

/-- The gates of port `p` now (gate_states): one bit for each queue. -/
def Core.portGates (c : Core) (p : Nat) : Nat := (c.portOper p).value c.sideUnits % 256

/-- The entry in effect (oper_entry). -/
def Core.portEntry (c : Core) (p : Nat) : Nat :=
  match (c.portOper p).at c.sideUnits with
  | some s => if (c.portOper p).enable then s.entry else 0
  | none => 0

/-- close(q, u) of R355: the operational list up to a pending change's time, the administrative list from
there. -/
def Core.portClose (c : Core) (p q u : Nat) : Option Nat :=
  let r := (c.portOper p).close (portGate q) u
  if (c.port p).gclPending && !(c.port p).gclNext then
    let t := c.rd (Reg.config_change_time p) * nsUnit
    if u < t then
      match r with
      | some x => if x < t then some x else (c.portAdmin p).close (portGate q) t
      | none => (c.portAdmin p).close (portGate q) t
    else (c.portAdmin p).close (portGate q) u
  else r

/-- longest_open of queue `q`, in ns, as it was computed when the list became operational (R356). -/
def Core.portLongest (c : Core) (p q : Nat) : Option Nat := SMap.find? (c.port p).longest q

/-- longest_open of every queue computed from the operational list. -/
def Core.keepLongest (c : Core) (p : Nat) : Core :=
  let l := c.portOper p
  c.modPort p (fun x => { x with longest := (List.range 8).foldl (fun m q =>
    match l.longest (portGate q) with | some n => SMap.insert m q n | none => m) [] })

/-! ### Credit-based shapers (R349) -/

/-- Units of side time in one pipeline clock now, slew included (side_rate of R355). -/
def Core.sideRate (c : Core) : Nat :=
  let d := c.rd Reg.time_source
  if d = 4 then tickUnit
  else
    let x := (c.dom d).slew
    ((c.domRate d : Int) + (if 0 < x then (c.slewUnit : Int) else if x < 0 then -(c.slewUnit : Int) else 0)).toNat

/-- A ns in thousandths of a unit of side time, in which shapers reckon. -/
def nsMilli : Nat := 1000 * nsUnit

/-- The position of a time in its cycle, in thousandths of a unit. -/
def GateList.posMilli (l : GateList) (u : Nat) : Nat :=
  (((u : Int) - (l.base * nsMilli : Nat)) % ((l.cycle * nsMilli : Nat) : Int)).toNat

/-- The part of a cycle up to position `p` in which a list's gate is open. -/
def GateList.openBefore (l : GateList) (isOpen : Nat → Bool) (p : Nat) : Nat :=
  l.spans.foldl (fun a s => if isOpen s.value then a + (min p (s.last * nsMilli) - min p (s.first * nsMilli)) else a) 0

/-- The side time between two times in which a list's gate is open, in thousandths of a unit. -/
def GateList.openMilli (l : GateList) (isOpen : Nat → Bool) (u1 u2 : Nat) : Nat :=
  if !l.enable then u2 - u1
  else
    let cyc := l.cycle * nsMilli
    let n := (((u2 : Int) - l.posMilli u2 - ((u1 : Int) - l.posMilli u1)) / (max 1 cyc : Nat)).toNat
    n * l.openBefore isOpen cyc + l.openBefore isOpen (l.posMilli u2) - l.openBefore isOpen (l.posMilli u1)

/-- The key of a shaper: queue `q` of port `n`, or of vport `n`. -/
def shaperKey (vport : Bool) (n q : Nat) : Nat := (if vport then 512 else 0) + 8 * n + q

/-- The idle slope in effect, in b/s. -/
def Core.idleSlope (c : Core) (vport : Bool) (n q : Nat) : Nat :=
  if vport then SMap.getD c.vpSlopes (8 * n + q) 0 else c.rd (Reg.oper_idle_slope n q)

/-- The rate a shaper's transmissions fall at, in b/s: that of the frame in transmission, whatever has become of its link since. -/
def Core.shaperRate (c : Core) (vport : Bool) (n : Nat) : Nat := (c.port (if vport then 64 + n else n)).txRate

/-- Side time at a time in thirds of a ps, in thousandths of a unit, at the present rate. -/
def Core.sideAt (c : Core) (t : Nat) : Nat :=
  ((c.sideUnits * 1000 : Nat) + ((t : Int) - (c.now * 1000 : Nat)) * c.sideRate).toNat

/-- The rate of side time without its slew, in units for one pipeline clock. -/
def Core.plainRate (c : Core) : Nat := if c.rd Reg.time_source = 4 then tickUnit else c.domRate (c.rd Reg.time_source)

/-- How long, from `since` on, a port's queue was neither paused nor closed between `t1` and `t2`, in thirds of a ps, when side time was
`s1` at the first of them: numerators and denominators, for the time under a slew and for the rest of it. Side time has kept one rate in
each, as every change of it brings the shapers up to date first (R359 to R361). -/
def Core.openTime (c : Core) (p q t1 s1 since t2 : Nat) : List (Nat × Nat) :=
  let x := c.port p
  let l := c.portOper p
  let plain := c.plainRate
  let e : Int := (c.sideAt t2 : Int) - s1 - (plain * (t2 - t1) : Nat)
  let slewed := min (t2 - t1) (e.natAbs / max 1 c.slewUnit)
  let fast := ((plain : Int) + (if 0 < e then (c.slewUnit : Int) else if e < 0 then -(c.slewUnit : Int) else 0)).toNat
  let paused := max since (max (SMap.getD x.pauseEnd 8 0) (SMap.getD x.pauseEnd q 0) * 1000)
  let part (ta sa tb rate : Nat) : Nat × Nat :=
    let r := max ta (min tb paused)
    if !l.enable then (tb - r, 1) else (l.openMilli (portGate q) (sa + (r - ta) * rate) (sa + (tb - ta) * rate), max 1 rate)
  [part t1 s1 (t1 + slewed) fast, part (t1 + slewed) (s1 + slewed * fast) t2 plain]

/-- A shaper's credit with a rise of `slope` for a time, exact: the remainder is carried. -/
def Shaper.rise (s : Shaper) (slope : Nat) (x : Nat × Nat) : Shaper :=
  let m := s.num * x.2 + slope * x.1 * s.den
  let d := s.den * x.2
  let g := Nat.gcd (m % d) d
  { s with credit := s.credit + (m / d : Nat), num := m % d / g, den := d / g }

/-- A shaper's credit brought up to `till`, in thirds of a ps (R349): the fall of a frame in transmission, then the rise or
the reset of the rest. -/
def Core.touchShaperTo (c : Core) (vport : Bool) (n till q : Nat) : Core :=
  let slope := c.idleSlope vport n q
  let k := shaperKey vport n q
  if slope = 0 then { c with shapers := SMap.erase c.shapers k }
  else match SMap.find? c.shapers k with
  | none => { c with shapers := SMap.insert c.shapers k { Shaper.zero with last := till, side := c.sideAt till } }
  | some s =>
    let x := c.port (if vport then 64 + n else n)
    let t2 := max till s.last
    let mine := decide (x.txQueue = q)
    let sent := if mine then min t2 x.txWire - max s.last x.txStart else 0
    let rest := (t2 - s.last) - sent
    let s1 : Shaper := { s with credit := s.credit - ((c.shaperRate vport n : Int) - slope) * sent, last := t2, side := c.sideAt t2 }
    let holds := !(SMap.getD c.queues (((if vport then 64 else 0) + n) * 8 + q) []).isEmpty
    let times : List (Nat × Nat) := if vport then [(rest, 1)] else c.openTime n q s.last s.side (t2 - rest) t2
    let s2 :=
      if holds then times.foldl (fun a y => a.rise slope y) s1
      else if mine && decide (t2 < x.txWire) then s1
      else if s1.credit < 0 then (let r := s1.rise slope (rest, 1); if 0 ≤ r.credit then { r with credit := 0, num := 0, den := 1 } else r)
      else { s1 with credit := 0, num := 0, den := 1 }
    { c with shapers := SMap.insert c.shapers k s2 }

/-- A shaper's credit brought up to now. -/
def Core.touchShaper (c : Core) (vport : Bool) (n q : Nat) : Core := c.touchShaperTo vport n (c.now * 1000) q

/-- Every shaper of a port or a vport brought up to a time in thirds of a ps. -/
def Core.touchShapersTo (c : Core) (vport : Bool) (n till : Nat) : Core :=
  (List.range 8).foldl (fun a q => a.touchShaperTo vport n till q) c

/-- Every shaper of a port or a vport brought up to now. -/
def Core.touchShapers (c : Core) (vport : Bool) (n : Nat) : Core := c.touchShapersTo vport n (c.now * 1000)

/-- Every shaper that runs brought up to now, before side time steps. -/
def Core.touchAllShapers (c : Core) : Core :=
  c.shapers.foldl (fun a x => a.touchShaper (decide (512 ≤ x.1)) (x.1 / 8 % 64) (x.1 % 8)) c

/-- Side time has stepped, or another clock has become side time: what the shapers hold of it follows (R361). -/
def Core.resyncShapers (c : Core) : Core := { c with shapers := c.shapers.map (fun x => (x.1, { x.2 with side := c.sideAt x.2.last })) }

/-- A vport's next selection: the idle slopes written since the last one take effect (R350). -/
def Core.adoptSlopes (c : Core) (v : Nat) : Core :=
  (List.range 8).foldl (fun (a : Core) q =>
    ({ a with vpSlopes := SMap.put a.vpSlopes (8 * v + q) 0 (a.rd (Reg.idle_slope v q)) } : Core).touchShaper true v q) c

/-- cbs_credit: 2^-16 bit. -/
def Core.shownCredit (c : Core) (vport : Bool) (n q : Nat) : Int :=
  match SMap.find? (c.touchShaper vport n q).shapers (shaperKey vport n q) with
  | some s => s.credit * 65536 / 3000000000000
  | none => 0

/-- Whether a queue's shaper lets it send. -/
def Core.shaperOk (c : Core) (vport : Bool) (n q : Nat) : Bool :=
  match SMap.find? c.shapers (shaperKey vport n q) with
  | some s => decide (0 ≤ s.credit)
  | none => true

/-! ### Overruns (R357) -/

/-- R357: the frame in transmission on a port whose gate is no longer open counts once as an overrun; `q`
is its queue. -/
def Core.gateOverrun (c : Core) (p q : Nat) : Core :=
  if bitOf (c.portGates p) q || (c.port p).overrun then c
  else ((c.modPort p (fun x => { x with overrun := true })).inc (Reg.sched_gate_overruns p)).reportRate 352 4 p

/-- The queue of the frame a port's MAC is sending now. -/
def Core.sending (c : Core) (p : Nat) : Option Nat :=
  match (c.port p).tx with
  | none => none
  | some id =>
    if c.now * 1000 < (c.port p).txEnd then (c.copies.find? (fun x => decide (x.id = id))).map (·.queue) else none

/-- The overrun check of every port, after side time moved (R357, R361). -/
def Core.gateOverruns (c : Core) (ps : List Nat) : Core :=
  ps.foldl (fun a p => match a.sending p with
    | some q => a.gateOverrun p q
    | none => a) c

/-! ### Changes of a port's list (R353, R354) -/

/-- The administrative set becomes operational (R353); a frame in transmission whose gate it closes counts as an overrun (R357). -/
def Core.portChangeMade (c0 : Core) (p : Nat) : Core :=
  let c := c0.touchShapers false p
  let c1 := (((((c.wr (Reg.oper_strict_count p) (c.rd (Reg.admin_strict_count p))).wr
    (Reg.oper_gate_enable p) (c.rd (Reg.admin_gate_enable p))).wr
    (Reg.oper_base_time p) (c.rd (Reg.admin_base_time p))).wr
    (Reg.oper_cycle_time p) (c.rd (Reg.admin_cycle_time p))).wr
    (Reg.oper_list_length p) (c.rd (Reg.admin_list_length p))).wr (Reg.config_change p) 2
  let c2 := (List.range 8).foldl (fun a q =>
    (a.wr (Reg.oper_quantum p q) (a.rd (Reg.admin_quantum p q))).wr
      (Reg.oper_idle_slope p q) (a.rd (Reg.admin_idle_slope p q))) c1
  let c3 := (List.range 256).foldl (fun a k =>
    a.setTab wGclOper (256 * p + k) (a.tab wGclAdmin (256 * p + k))) c2
  ((((((c3.modPort p (fun x => { x with gclPending := false, gclNext := false })).keepLongest p).touchShapers false p).inc
    (Reg.config_changes p)).report 352 1 p).gateOverruns [p])

/-- A write to config_change (R353, R354); `mbps` is the port's MAC rate. -/
def Core.configChange (c : Core) (p mbps v : Nat) : Core × Reason :=
  if v = 2 then
    ((c.modPort p (fun x => { x with gclPending := false, gclNext := false })).wr (Reg.config_change p) 0, .ok)
  else if v ≠ 1 then (c, .badValue)
  else if (c.port p).gclPending then (c, .busy)
  else
    let slopes := ((List.range 8).map (fun q => c.rd (Reg.admin_idle_slope p q))).foldl (· + ·) 0
    let on := c.flag (Reg.admin_gate_enable p)
    let ok := (!on || c.gateEntriesOk wGclAdmin (256 * p) (c.rd (Reg.admin_list_length p)) false) &&
      decide (slopes ≤ mbps * 1000000)
    if !ok then (c.wr (Reg.config_change p) 3, .badValue)
    else if on then
      (((c.modPort p (fun x => { x with gclPending := true })).wr (Reg.config_change p) 1).wr
        (Reg.config_change_time p) (c.changeTime (c.rd (Reg.admin_base_time p)) (c.rd (Reg.admin_cycle_time p))), .ok)
    else ((c.modPort p (fun x => { x with gclPending := true, gclNext := true })).wr (Reg.config_change p) 1, .ok)

/-- A pending change whose time side time has reached takes place. -/
def Core.portChangeDue (c : Core) (p : Nat) : Core :=
  if (c.port p).gclPending && !(c.port p).gclNext &&
      decide (c.rd (Reg.config_change_time p) * nsUnit ≤ c.sideUnits) then c.portChangeMade p
  else c

/-- CONFIG_CHANGE_TIME (R353): side time runs to a pending change's time, and the change is made. -/
def Core.configChangeTime (c : Core) (p : Nat) : Core :=
  if (c.port p).gclPending && !(c.port p).gclNext then
    (c.advance (c.ticksToUnits (c.rd (Reg.config_change_time p) * nsUnit))).portChangeDue p
  else c

/-- GATE_CHANGE (R352): the clocks run to the port's next boundary and the entry due there takes effect. -/
def Core.gateChange (c : Core) (p : Nat) : Core :=
  match (c.portOper p).boundary c.sideUnits with
  | none => c
  | some u => (c.advance (c.ticksToUnits u)).gateOverruns [p]

/-! ### Stream gates (R369) -/

/-- The dynamic state of stream gate `g`. -/
def Core.sgate (c : Core) (g : Nat) : GateDyn := SMap.getD c.gates g GateDyn.zero

/-- The dynamic state of stream gate `g`, set. -/
def Core.setSgate (c : Core) (g : Nat) (x : GateDyn) : Core := { c with gates := SMap.put c.gates g GateDyn.zero x }

/-- Fields of a stream gate record. -/
def sgBase (r : Nat) : Nat := bits r 255 192
def sgCycle (r : Nat) : Nat := bits r 191 160
def sgLen (r : Nat) : Nat := bits r 159 154
def sgEnable (r : Nat) : Bool := bitOf r 153
def sgLatchRx (r : Nat) : Bool := bitOf r 152

/-- The operational list of stream gate `g`. -/
def Core.sgateOper (c : Core) (g : Nat) : GateList :=
  let x := c.sgate g
  ⟨x.enable, x.base, x.cycle, c.gateEntries wSgclOper (32 * g) x.len⟩

/-- The gate now: open, ipv_valid and ipv; a disabled gate is open with no IPV. -/
def Core.sgateNow (c : Core) (g : Nat) : Bool × Bool × Nat :=
  let l := c.sgateOper g
  if !l.enable then (true, false, 0)
  else
    let v := l.value c.sideUnits
    (bitOf v 8, bitOf v 7, bits v 6 4)

/-- The record of stream gate `g` as a read gives it. -/
def Core.sgateRecord (c : Core) (g : Nat) : Nat :=
  let x := c.sgate g
  let n := c.sgateNow g
  putBits (c.tab wSgate g) 127 0 (x.changeTime * 2 ^ 64 + b2n n.1 * 2 ^ 63 + b2n x.latched * 2 ^ 62 +
    b2n x.pending * 2 ^ 61 + b2n n.2.1 * 2 ^ 60 + n.2.2 * 2 ^ 57 + x.len)

/-- The administrative list of gate `g` becomes operational. -/
def Core.sgateMade (c : Core) (g : Nat) : Core :=
  let r := c.tab wSgate g
  let c1 := c.setSgate g { c.sgate g with
    pending := false, enable := sgEnable r, base := sgBase r, cycle := sgCycle r, len := sgLen r }
  let c2 := (List.range 32).foldl (fun a k => a.setTab wSgclOper (32 * g + k) (a.tab wSgclAdmin (32 * g + k))) c1
  c2.report 353 1 g

/-- pol_cmd 4 (R369, R353): a list change of gate `g`. -/
def Core.sgateRequest (c : Core) (g : Nat) : Core × Reason :=
  let r := c.tab wSgate g
  if (c.sgate g).pending then (c, .busy)
  else if sgEnable r && !c.gateEntriesOk wSgclAdmin (32 * g) (sgLen r) true then (c, .badValue)
  else if sgEnable r then
    (c.setSgate g { c.sgate g with pending := true, changeTime := c.changeTime (sgBase r) (sgCycle r) }, .ok)
  else (c.sgateMade g, .ok)

/-- pol_cmd 5: the pending change cancelled. -/
def Core.sgateCancel (c : Core) (g : Nat) : Core := c.setSgate g { c.sgate g with pending := false }

/-- A pending change of a stream gate whose time side time has reached takes place. -/
def Core.sgateChangeDue (c : Core) (g : Nat) : Core :=
  if (c.sgate g).pending && decide ((c.sgate g).changeTime * nsUnit ≤ c.sideUnits) then c.sgateMade g else c

/-- STREAM_GATE_CHANGE_TIME (R369): side time runs to a pending change's time, and the change is made. -/
def Core.sgateChangeTime (c : Core) (g : Nat) : Core :=
  if (c.sgate g).pending then (c.advance (c.ticksToUnits ((c.sgate g).changeTime * nsUnit))).sgateChangeDue g else c

/-- STREAM_GATE_CHANGE (R369, R352): the clocks run to the gate's next boundary. -/
def Core.sgateChange (c : Core) (g : Nat) : Core :=
  match (c.sgateOper g).boundary c.sideUnits with
  | none => c
  | some u => c.advance (c.ticksToUnits u)

/-- A stream gate record written: read-only fields and reserved bits are ignored; a pending
change refuses it (R353). -/
def Core.writeSgate (c : Core) (g rec : Nat) : Core × Reason :=
  let r := putBits (putBits rec 127 0 0) 151 128 0
  if (c.sgate g).pending then (c, .busy)
  else if sgCycle r < 64 ∨ 1000000000 < sgCycle r ∨ 32 < sgLen r then (c, .badValue)
  else (c.setTab wSgate g r, .ok)

/-- A gate list entry as it reads, its reserved bits 0 (R12, R351, R369): `s` for a stream gate's list. -/
def gateEntry (s : Bool) (rec : Nat) : Nat := if s then putBits (rec % 2 ^ 41) 35 32 0 else rec % 2 ^ 40

/-- A list entry written, of a port (`w` = wGclAdmin) or a stream gate: a pending change refuses it. An
entry's fields are checked by the change, which refuses a reserved bit set (R12, R354): the bits are kept for it and read as 0. -/
def Core.writeGcl (c : Core) (w e rec : Nat) : Core × Reason :=
  if (if w = wGclAdmin then (c.port (e / 256)).gclPending else (c.sgate (e / 32)).pending) then (c, .busy)
  else (c.setTab w e rec, .ok)

end Sys2Proof.Machine
end

