-- ==== Sys2Proof/Machine/Policing.lean ====
section
/-! DEFINITION. Policing.lean: stream filters, stream gates as frames meet them, meters and their token
ledger, pol_cmd, and the integrity of the policing windows (R367 to R377). -/

namespace Sys2Proof.Machine

/-! ### Records with a control word (R254) -/

/-- The entry above its control word. -/
def recEntry (r : Nat) : Nat := r / 2 ^ 64

/-- The validity bit of an epoch. -/
def recValid (r e : Nat) : Bool := if e = 0 then bitOf r 61 else bitOf r 62

/-- The entry cannot be used (R284, R377). -/
def recUnusable (r : Nat) : Bool := bitOf r 60

/-- Either validity bit. -/
def recAny (r : Nat) : Bool := bitOf r 61 || bitOf r 62

/-- A record written (R254, R274) to a window with epoch bits: `ok` says that the entry's fields pass the
window's own check; `keep` masks the fields a write ignores to 0. -/
def Core.writeRec (c : Core) (w e rec : Nat) (ok : Bool) (keep : Nat → Nat) : Core × Reason :=
  let old := c.tab w e
  let target := c.rd (w * 256 + 3)
  let clear := bitOf rec 63
  let ep := c.epochCheck target (bitOf old 61) (bitOf old 62) clear
  if ep ≠ .ok then (c, ep)
  else if clear then
    (c.setTab w e (putBits old 62 61 (bits old 62 61 &&& (3 - target % 4))), .ok)
  else if !ok then (c, .badValue)
  else (c.setTab w e (keep (recEntry rec) * 2 ^ 64 + (bits old 62 61 ||| target % 4) * 2 ^ 61), .ok)

/-! ### Meters (R370 to R373) -/

def mCir (x : Nat) : Nat := bits x 127 91
def mEir (x : Nat) : Nat := bits x 90 54
def mCbs (x : Nat) : Nat := bits x 53 30
def mEbs (x : Nat) : Nat := bits x 29 6
def mCoupling (x : Nat) : Bool := bitOf x 5
def mDropYellow (x : Nat) : Bool := bitOf x 4
def mMarkAllRed (x : Nat) : Bool := bitOf x 3

/-- Terms of the ledger are 64-bit (R373). -/
def wrap64 (n : Nat) : Nat := n % 2 ^ 64

/-- Tokens credited to a bucket with a cap; answers the overflow too. -/
def Bucket.credit (b : Bucket) (cap add : Nat) : Bucket × Nat :=
  let t := b.tokens + add
  ({ b with credited := wrap64 (b.credited + add), tokens := min t cap, discarded := wrap64 (b.discarded + (t - cap)) },
   t - cap)

/-- The tokens that a rate gives in `e` pipeline clocks with the carried remainder (R371): the whole
tokens and the new remainder. -/
def tokenRate (rate e rem : Nat) : Nat × Nat :=
  let num := rate * e * 128 + rem
  (num / 3000000000, num % 3000000000)

/-- refill (R371) of a meter with parameters `x` at time `now`. -/
def MeterState.refill (m : MeterState) (x now : Nat) : MeterState :=
  let e := now - m.last
  let a := tokenRate (mCir x) e m.c.rem
  let c1 := m.c.credit (1024 * mCbs x) a.1
  let e0 := if mCoupling x then (m.e.credit (1024 * mEbs x) c1.2).1 else m.e
  let b := tokenRate (mEir x) e m.e.rem
  let e1 := (e0.credit (1024 * mEbs x) b.1).1
  { m with c := { c1.1 with rem := a.2 }, e := { e1 with rem := b.2 }, last := now }

/-- Tokens taken from a bucket, when it has them. -/
def Bucket.take (b : Bucket) (n : Nat) : Bucket := { b with tokens := b.tokens - n, spent := wrap64 (b.spent + n) }

/-- A bucket set full; the tokens added count as credited (R371). -/
def Bucket.fill (b : Bucket) (cap : Nat) : Bucket :=
  { b with tokens := max cap b.tokens, credited := wrap64 (b.credited + (cap - b.tokens)) }

/-- The colours of R372. -/
inductive Colour where
  | green
  | yellow
  | red
  deriving DecidableEq, Repr

/-- meter (R372) on a refilled meter. -/
def MeterState.colour (m : MeterState) (x len : Nat) : MeterState × Colour :=
  let n := 1024 * len
  if m.allRed then ({ m with red := min allOnes64 (m.red + 1) }, .red)
  else if n ≤ m.c.tokens then ({ m with c := m.c.take n, green := min allOnes64 (m.green + 1) }, .green)
  else if n ≤ m.e.tokens then ({ m with e := m.e.take n, yellow := min allOnes64 (m.yellow + 1) }, .yellow)
  else ({ m with red := min allOnes64 (m.red + 1), allRed := mMarkAllRed x }, .red)

/-- The state of meter `m`; a meter that nothing has used was last refilled by the last sweep. -/
def Core.meter (c : Core) (m : Nat) : MeterState :=
  let x := SMap.getD c.meters m MeterState.zero
  { x with last := max x.last c.sweptAt }

/-- The state of meter `m`, set. -/
def Core.setMeter (c : Core) (m : Nat) (x : MeterState) : Core :=
  { c with meters := SMap.put c.meters m MeterState.zero x }

/-- The parameters of meter `m` on an epoch: 0 where its entry is not valid on it. -/
def Core.meterParams (c : Core) (m e : Nat) : Nat :=
  let r := c.tab wMeter m
  if recValid r e && !recUnusable r then recEntry r else 0

/-- METER_SWEEP (R371): every meter refilled, with the live epoch's parameters, or the other epoch's where
the entry is not valid on the live one. -/
def Core.meterSweep (c : Core) : Core :=
  let ms := c.meters.map (·.1) ++ ((c.tabRange wMeter 0 2048).map (·.1)).filter
    (fun m => !c.meters.any (fun x => decide (x.1 = m)))
  let c1 := ms.foldl (fun a m =>
    let r := a.tab wMeter m
    a.setMeter m ((a.meter m).refill (if recAny r && !recUnusable r then recEntry r else 0) a.now)) c
  { c1 with sweptAt := c.now }

/-- Both buckets of a meter set full for the live epoch (R371, pol_cmd 6). -/
def Core.fillMeter (c : Core) (m : Nat) : Core :=
  let x := c.meterParams m (c.rd Reg.epoch_live)
  let s := (c.meter m).refill x c.now
  c.setMeter m { s with c := s.c.fill (1024 * mCbs x), e := s.e.fill (1024 * mEbs x) }

/-- Every bucket set full at the side's release, the management policer's with them (R371, R373). -/
def Core.fillBuckets (c : Core) : Core :=
  let c1 := ((c.tabRange wMeter 0 2048).map (·.1)).foldl (fun (a : Core) m => a.fillMeter m) c
  { c1 with mgmtMeter := { c1.mgmtMeter with c := c1.mgmtMeter.c.fill (1024 * 16384) } }

/-- The parameters of the management policer (R303): 10 Mb/s and 16,384 bytes. -/
def mgmtMeterParams : Nat := 10000000 * 2 ^ 91 + 16384 * 2 ^ 30

/-- The management policer on a frame of `len` bytes: the side, and whether it had the tokens (R303). -/
def Core.policeMgmt (c : Core) (len : Nat) : Core × Bool :=
  let m := c.mgmtMeter.refill mgmtMeterParams c.now
  if 1024 * len ≤ m.c.tokens then ({ c with mgmtMeter := { m with c := m.c.take (1024 * len) } }, true)
  else ({ c with mgmtMeter := m }, false)

/-- The meter of a vport's transmissions (R466): the committed bucket alone, with the live epoch's
parameters. -/
def Core.txMeter (c : Core) (m len : Nat) : Core × Bool :=
  let s := (c.meter m).refill (c.meterParams m (c.rd Reg.epoch_live)) c.now
  if 1024 * len ≤ s.c.tokens then (c.setMeter m { s with c := s.c.take (1024 * len) }, true)
  else (c.setMeter m s, false)

/-- The meter_state record (R375). -/
def Core.meterRecord (c : Core) (m : Nat) : Nat :=
  let s := SMap.getD c.meters m MeterState.zero
  ((((s.c.tokens * 2 ^ 64 + s.e.tokens) * 2 ^ 64 + s.green) * 2 ^ 64 + s.yellow) * 2 ^ 64 + s.red) * 2 ^ 64 + b2n s.allRed

/-! ### Stream filters (R367, R368) -/

def fMaxSdu (x : Nat) : Nat := bits x 63 50
def fGateValid (x : Nat) : Bool := bitOf x 49
def fGate (x : Nat) : Nat := bits x 48 41
def fMeterValid (x : Nat) : Bool := bitOf x 40
def fMeter (x : Nat) : Nat := bits x 39 29
def fBlockOversize (x : Nat) : Bool := bitOf x 28

/-- The bit of a filter's counter record that blocks it (R375): [63] of its first word. -/
def Core.filterBlocked (c : Core) (f : Nat) : Bool := bitOf (c.tab wFilterCnt f) 319

/-- The same, set. -/
def Core.setBlocked (c : Core) (f : Nat) (b : Bool) : Core :=
  c.setTab wFilterCnt f (putBit (c.tab wFilterCnt f) 319 b)

/-- A filter's counter counted up: 0 matched, 1 passed, 2 sdu_fail, 3 gate_fail, 4 red; matched has 63
bits beside blocked. -/
def Core.countFilter (c : Core) (f k : Nat) : Core :=
  if k = 0 then
    let r := c.tab wFilterCnt f
    let n := bits r 318 256
    (c.setTab wFilterCnt f (putBits r 318 256 (min (2 ^ 63 - 1) (n + 1)))).sawCount wFilterCnt f n (n + 1) (2 ^ 63 - 1)
  else c.countWord wFilterCnt f 5 k 1

/-- An uncorrectable error found in an entry of a policing window (R377). -/
def Core.policeEcc (c : Core) (w e : Nat) (unc : Bool) : Core :=
  let addr := keyIndex c.id (w * 256) * 2 ^ 32 + e
  if !unc then c.reportRate 356 1 addr
  else
    let c1 := if w = wFilter ∨ w = wMeter then c.setTab w e (putBit (c.tab w e) 60 true)
      else if w = wMeterState then c.fillMeter e
      else if w = wGclOper then c.setTab w e (putBits (c.tab w e) 39 32 0)
      else if w = wSgclOper then c.setTab w e (putBit (c.tab w e) 40 false)
      else c
    c1.report 356 2 addr

/-- A policing entry read on a stamp: the side, the entry, or the reason it cannot be used, as the counter
that takes the frame. A filter that was unusable before the frame counts as invalid, as the code of R367
says; the frame that meets the error, and a meter, count under R377. -/
def Core.readPolicing (c : Core) (w e epoch : Nat) (ds : List Defect) : Core × Except Nat Nat :=
  let hits := ds.filter (fun d => decide (d.site = .policing) && decide (d.sub = w) && decide (d.entry = e))
  let c1 := hits.foldl (fun a d => a.policeEcc w e d.unc) c
  let r := c1.tab w e
  if !recValid r epoch then (c1, .error Reg.pol_drop_invalid)
  else if recUnusable r then
    (c1, .error (if w = wFilter ∧ hits.all (fun d => !d.unc) = true then Reg.pol_drop_invalid else Reg.pol_drop_ecc))
  else (c1, .ok (recEntry r))

/-- The outcome of policing: the drop's counter, or the queue the stream gate gives. -/
abbrev PoliceOut := Except Nat (Option Nat)

/-- The stream gate step of R367. -/
def Core.policeGate (c : Core) (f x : Nat) : Core × PoliceOut :=
  if !fGateValid x then (c, .ok none)
  else
    let g := fGate x
    let s := c.sgateNow g
    if (c.sgate g).latched || !s.1 then
      let c1 := if !s.1 && sgLatchRx (c.tab wSgate g) && !(c.sgate g).latched then
          (c.setSgate g { c.sgate g with latched := true }).reportRate 353 2 g
        else c
      (c1.countFilter f 3, .error Reg.pol_drop_gate)
    else (c, .ok (if s.2.1 then some s.2.2 else none))

/-- The meter step of R367: `ipv` is what the gate gave. -/
def Core.policeMeter (c : Core) (f x len epoch : Nat) (ds : List Defect) (ipv : Option Nat) : Core × PoliceOut :=
  if !fMeterValid x then (c.countFilter f 1, .ok ipv)
  else
    match c.readPolicing wMeter (fMeter x) epoch ds with
    | (c1, .error k) => (c1, .error k)
    | (c1, .ok p) =>
      let m0 := c1.meter (fMeter x)
      let r := (m0.refill p c1.now).colour p len
      let m := fMeter x
      let c2 := (((c1.setMeter m r.1).sawCount wMeterState m m0.green r.1.green allOnes64).sawCount wMeterState m m0.yellow r.1.yellow
        allOnes64).sawCount wMeterState m m0.red r.1.red allOnes64
      let c3 := if r.1.allRed && !m0.allRed then c2.report 355 1 (fMeter x) else c2
      if r.2 = .red then (c3.countFilter f 4, .error Reg.pol_drop_red)
      else if r.2 = .yellow ∧ mDropYellow p = true then (c3, .error Reg.pol_drop_yellow)
      else ((c3.inc (if r.2 = .green then Reg.pol_green else Reg.pol_yellow)).countFilter f 1, .ok ipv)

/-- police (R367) of a frame of `len` bytes by filter `f` on a stamp. Every frame that names the filter counts as matched, so that a
drop no other of its counters takes counts in one of them. A drop is reported under the rate rule. -/
def Core.police (c : Core) (f len epoch : Nat) (ds : List Defect) : Core × PoliceOut :=
  let body : Core × PoliceOut :=
    match ((c.inc Reg.pol_frames).countFilter f 0).readPolicing wFilter f epoch ds with
    | (c1, .error k) => (c1, .error k)
    | (c2, .ok x) =>
      if c2.filterBlocked f then (c2, .error Reg.pol_drop_blocked)
      else if fMaxSdu x ≠ 0 ∧ fMaxSdu x < len then
        let c3 := if fBlockOversize x then (c2.setBlocked f true).reportRate 354 1 f else c2
        (c3.countFilter f 2, .error Reg.pol_drop_sdu)
      else
        match c2.policeGate f x with
        | (c3, .error k) => (c3, .error k)
        | (c3, .ok ipv) => c3.policeMeter f x len epoch ds ipv
  match body with
  | (c1, .error k) => (c1.reportRate 354 2 0, .error k)
  | r => r

/-! ### Commands (R376) and writes (R375) -/

/-- The end of a pol_cmd. -/
def Core.polDone (c : Core) (r : Reason) : Core × Reason := (c.wr Reg.pol_cmd (if r = .ok then 2 else 3), r)

/-- A write to pol_cmd (R376). -/
def Core.polCmd (c : Core) (v : Nat) : Core × Reason :=
  let n := c.rd Reg.pol_select
  let lim := if v = 1 then 4096 else if v = 3 ∨ v = 6 then 2048 else 256
  if v = 0 ∨ 6 < v ∨ lim ≤ n then c.polDone .badValue
  else if v = 1 then (c.setBlocked n false).polDone .ok
  else if v = 2 then (c.setSgate n { c.sgate n with latched := false }).polDone .ok
  else if v = 3 then (c.setMeter n { c.meter n with allRed := false }).polDone .ok
  else if v = 4 then
    let r := c.sgateRequest n
    r.1.polDone r.2
  else if v = 5 then (c.sgateCancel n).polDone .ok
  else (c.fillMeter n).polDone .ok

/-- A stream filter entry written (R368); reserved bits are ignored (R12). -/
def Core.writeFilter (c : Core) (e rec : Nat) : Core × Reason :=
  let x := recEntry rec
  c.writeRec wFilter e rec
    (decide (fMaxSdu x = 0) || (decide (64 ≤ fMaxSdu x) && decide (fMaxSdu x ≤ 9216))) (fun v => putBits v 27 0 0)

/-- A meter entry written (R370); reserved bits are ignored (R12). -/
def Core.writeMeter (c : Core) (e rec : Nat) : Core × Reason :=
  let x := recEntry rec
  c.writeRec wMeter e rec
    (decide (mCir x ≤ 100000000000) && decide (mEir x ≤ 100000000000)) (fun v => putBits v 2 0 0)

end Sys2Proof.Machine
end

