-- ==== Sys2Proof/Machine/Search.lean ====
section
/-! DEFINITION. Search.lean: the associative search banks: their entries and runs, the searches of a
profile, longest-prefix search, window writes and the Badger's and probes' machinery (R171 to R210). -/

namespace Sys2Proof.Machine

/-- The width in units of a bank's entries (R172, R174). -/
def Core.bankWidth (c : Core) (b : Nat) : Nat := 2 ^ c.rd (Reg.bank_width b)

/-- Bytes of an entry record of width `w` (R176). -/
def searchEntryBytes (w : Nat) : Nat := 16 + 40 * w

/-- The 128-bit descriptor of an entry record of width `w`. -/
def descOf (w rec : Nat) : Nat := rec >>> (320 * w)

/-- The key value of a record of width `w`. -/
def keyValOf (w rec : Nat) : Nat := bits rec (320 * w - 1) (160 * w)

/-- The key mask of a record of width `w`. -/
def keyMaskOf (w rec : Nat) : Nat := bits rec (160 * w - 1) 0

/-- A record from its parts. -/
def mkEntry (w desc val mask : Nat) : Nat := desc * 2 ^ (320 * w) + val * 2 ^ (160 * w) + mask

/-- Fields of the descriptor (R177). -/
def dPriority (d : Nat) : Nat := bits d 127 112
def dId (d : Nat) : Nat := bits d 111 92
def dAction (d : Nat) : Nat := bits d 91 75
def dChain (d : Nat) : Nat := bits d 74 59
def dClear (d : Nat) : Bool := bitOf d 58
def dJade (d : Nat) : Bool := bitOf d 57
def dAmber (d : Nat) : Bool := bitOf d 56
def dUnusable (d : Nat) : Bool := bitOf d 55

/-- The validity bit of an epoch. -/
def dValid (d e : Nat) : Bool := if e = 0 then dAmber d else dJade d

/-- Either validity bit set: the slot is not free (R178). -/
def dAny (d : Nat) : Bool := dAmber d || dJade d

/-- The bank of a slot. -/
def slotBank (s : Nat) : Nat := s / 2048

/-- The descriptor of the entry at a slot, 0 where none is stored. -/
def Core.descAt (c : Core) (s : Nat) : Nat := descOf (c.bankWidth (slotBank s)) (c.tab wSearch s)

/-- The entries of bank `b` that hold anything, by slot, with their descriptors and records. -/
def Core.bankEntries (c : Core) (b : Nat) : List (Nat × Nat) := c.tabRange wSearch (2048 * b) (2048 * (b + 1))

/-- Entries of bank `b` with a validity bit of an epoch set. -/
def Core.bankValid (c : Core) (b e : Nat) : Nat :=
  ((c.bankEntries b).filter (fun x => dValid (descOf (c.bankWidth b) x.2) e)).length

/-- Whether bank `b` is ordered or longest prefix, and so belongs to a run (R173). -/
def Core.inRun (c : Core) (b : Nat) : Bool := decide (2 ≤ c.rd (Reg.bank_mode b))

/-- The first bank of the run of bank `b` (R173). -/
def Core.runFirst (c : Core) : Nat → Nat
  | 0 => 0
  | b + 1 => if c.inRun (b + 1) && !c.flag (Reg.run_start (b + 1)) then Core.runFirst c b else b + 1

/-- The last bank of the run of bank `b`, looking at `n` further banks. -/
def Core.runLast (c : Core) : Nat → Nat → Nat
  | 0, b => b
  | n + 1, b =>
    if decide (b + 1 < 32) && c.inRun (b + 1) && !c.flag (Reg.run_start (b + 1)) then Core.runLast c n (b + 1) else b

/-- The slots of the run of bank `b`, or of the bank alone when it is in no run, from the first to one
past the last. -/
def Core.runSlots (c : Core) (b : Nat) : Nat × Nat :=
  if c.inRun b then (2048 * c.runFirst b, 2048 * (c.runLast 31 (c.runFirst b) + 1))
  else (2048 * b, 2048 * (b + 1))

/-- R179 for an entry of priority `p` at slot `s`: the nearest entries before and after it within the run
whose validity bits are not both 0. `skip` names a slot left out of the comparison. -/
def Core.orderOk (c : Core) (s p : Nat) : Bool :=
  let b := slotBank s
  if c.inRun b then
    let r := c.runSlots b
    let w := c.bankWidth b
    let es := ((c.tabRange wSearch r.1 r.2).filter (fun x => dAny (descOf w x.2) && decide (x.1 ≠ s))).map
      (fun x => (x.1, dPriority (descOf w x.2)))
    let before := (es.filter (fun x => decide (x.1 < s))).getLast?
    let after := (es.filter (fun x => decide (s < x.1))).head?
    (match before with | some x => decide (p ≤ x.2) | none => true) &&
    (match after with | some x => decide (x.2 ≤ p) | none => true)
  else true

/-- The mask of a longest-prefix entry (R191): vrf, family and the address bits of the prefix. -/
def lpmMask (prio : Nat) : Nat :=
  (2 ^ 12 - 1) * 2 ^ 148 + 2 ^ 143 + (2 ^ prio - 1) * 2 ^ (128 - prio)

/-- The checks of R191 on a longest-prefix entry. -/
def lpmOk (desc val : Nat) : Bool :=
  let p := dPriority desc
  let v6 := bitOf val 143
  decide (p ≤ if v6 then 128 else 32) && decide (bits val 127 0 % 2 ^ (128 - p) = 0) &&
  decide (bits val 147 144 = 0) && decide (bits val 142 128 = 0) && decide (bits desc 54 0 = 0)

/-- A descriptor as stored: clear, the read-only bits and the reserved bits take their own values. -/
def storedDesc (desc : Nat) (va vj : Bool) : Nat :=
  putBits (putBits desc 54 0 0) 58 55 (b2n vj * 4 + b2n va * 2)

/-- Whether a slot belongs to the block or is the target of the running Badger command (R198). -/
def Core.badgerHolds (c : Core) (s : Nat) : Bool :=
  match c.badgerRun with
  | none => false
  | some r =>
    let w := c.bankWidth (slotBank r.cmd.first)
    if r.cmd.dir = 0 then decide (r.cmd.first ≤ s) && decide (s < r.cmd.last + 2 * w)
    else decide (r.cmd.first - w ≤ s) && decide (s < r.cmd.last + w)

/-- SEARCH_ENTRY_WRITE (R178, R179, R191, R198, R274): record `rec` written to the entry at a slot under
an epoch_target. -/
def Core.writeSearchEntry (c : Core) (s rec target : Nat) : Core × Reason :=
  let b := slotBank s
  let w := c.bankWidth b
  let new := descOf w rec
  let old := c.descAt s
  let clear := dClear new
  let chk := c.epochCheck target (dAmber old) (dJade old) clear
  if c.badgerHolds s then (c, .busy)
  else if chk ≠ .ok then (c, chk)
  else if clear then
    -- clears the bits epoch_target names and leaves the rest stored
    let d := putBits old 57 56
      (b2n (dJade old && !bitOf target 1) * 2 + b2n (dAmber old && !bitOf target 0))
    let r := c.tab wSearch s
    (c.setTab wSearch s (mkEntry w d (keyValOf w r) (keyMaskOf w r)), .ok)
  else if decide (c.rd (Reg.bank_mode b) = 3) && !lpmOk new (keyValOf w rec) then (c, .badValue)
  else if !c.orderOk s (dPriority new) then (c, .orderViolation)
  else
    let d := storedDesc new (dAmber old || bitOf target 0) (dJade old || bitOf target 1)
    let mask := if c.rd (Reg.bank_mode b) = 3 then lpmMask (dPriority new) else keyMaskOf w rec
    (c.setTab wSearch s (mkEntry w d (keyValOf w rec) mask), .ok)

/-! ### Profiles (R181 to R184) -/

/-- Slot `k` of search `n` of a profile record. -/
def profSlot (prof n k : Nat) : Nat := recSlot prof 64 (16 * n + k)

/-- The control word of search `n` (R183). -/
def sCtl (prof n : Nat) : Nat := profSlot prof n 0
def sEnable (prof n : Nat) : Bool := bitOf (sCtl prof n) 63
def sWidthCode (prof n : Nat) : Nat := bits (sCtl prof n) 62 61
def sWidth (prof n : Nat) : Nat := 2 ^ sWidthCode prof n
def sFenceSkip (prof n : Nat) : Bool := bitOf (sCtl prof n) 60
def sChain (prof n : Nat) : Bool := bitOf (sCtl prof n) 56
def sChainFrom (prof n : Nat) : Nat := bits (sCtl prof n) 55 54
def sChainDest (prof n : Nat) : Nat := bits (sCtl prof n) 53 44
def sKeyBase (prof n : Nat) : Nat := bits (sCtl prof n) 43 34
def sMissAction (prof n : Nat) : Nat := bits (sCtl prof n) 33 17
def sMissValid (prof n : Nat) : Bool := bitOf (sCtl prof n) 16

/-- The banks of search `n`, ascending. -/
def sBanks (prof n : Nat) : List Nat := setBits 32 (bits (profSlot prof n 1) 31 0)

/-- The global mask of search `n`: slots 2 to 11, bits [64k + 63 : 64k] in slot 2 + k (R182). -/
def sGmask (prof n : Nat) : Nat :=
  (List.range 10).foldl (fun acc k => acc + profSlot prof n (2 + k) * 2 ^ (64 * k)) 0

/-- The profile an epoch holds. -/
def Core.profile (c : Core) (e p : Nat) : Nat := c.tab wProfile (bankEntry e p)

/-- The banks that enabled searches of a profile record name (R175). -/
def profileBanks (prof : Nat) : List Nat :=
  ((List.range 4).map (fun n => if sEnable prof n then sBanks prof n else [])).flatten

/-- Whether an enabled search of any profile, in either epoch, names bank `b` (R175). -/
def Core.bankNamed (c : Core) (b : Nat) : Bool :=
  (c.tabRange wProfile 0 (2 ^ 29)).any (fun x => inList b (profileBanks x.2))

/-- The conditions of R184 on one enabled search of a profile. -/
def Core.searchOk (c : Core) (prof n : Nat) : Bool :=
  let w := sWidth prof n
  let bs := sBanks prof n
  let ctl := sCtl prof n
  let modes := bs.map (fun b => c.rd (Reg.bank_mode b))
  decide (sWidthCode prof n ≠ 3) && decide (bits ctl 59 57 = 0) && decide (bits ctl 15 0 = 0) &&
  decide (bits (profSlot prof n 1) 63 32 = 0) &&
  (List.range 4).all (fun k => decide (profSlot prof n (12 + k) = 0)) &&
  decide (sGmask prof n < 2 ^ (160 * w)) &&
  bs.all (fun b => decide (c.rd (Reg.bank_mode b) ≠ 0) && decide (c.bankWidth b = w)) &&
  decide (sKeyBase prof n + 160 * w ≤ 640) &&
  (!sChain prof n || (decide (sChainFrom prof n < n) && decide (sChainDest prof n + 16 ≤ 160 * w))) &&
  (match modes with | [] => true | m :: r => r.all (fun x => decide (x = m))) &&
  (match bs, modes with
    | b :: _, 3 :: _ => decide (bs = (List.range 32).filter (fun x =>
        decide (c.runFirst b ≤ x) && decide (x ≤ c.runLast 31 (c.runFirst b))))
    | _, _ => true)

/-- The conditions of R184 on a profile record; the reserved width is refused of every search (R49). -/
def Core.profileOk (c : Core) (prof : Nat) : Bool :=
  (List.range 4).all (fun n => decide (sWidthCode prof n ≠ 3) && (!sEnable prof n || c.searchOk prof n)) &&
  (profileBanks prof).Nodup

/-- The bits of slot `k` of a search record of width `w` that are not reserved (R182, R183). -/
def profMask (w k : Nat) : Nat :=
  if k = 0 then (2 ^ 4 - 1) * 2 ^ 60 + (2 ^ 57 - 2 ^ 16)
  else if k = 1 then 2 ^ 32 - 1
  else if k < 12 then 2 ^ min 64 (160 * w - 64 * (k - 2)) - 1
  else 0

/-- A profile as it is stored: the reserved bits of a search that is not enabled, which R184 does not check, read 0 (R12). -/
def profileStored (prof : Nat) : Nat :=
  (List.range 64).foldl (fun a j => a * 2 ^ 64 + (recSlot prof 64 j &&& profMask (sWidth prof (j / 16)) (j % 16))) 0

/-- PROFILE_WRITE (R181, R184): epoch_target names exactly one epoch, not in use. -/
def Core.writeProfile (c : Core) (p rec target : Nat) : Core × Reason :=
  if target % 4 ≠ 1 ∧ target % 4 ≠ 2 then (c, .badValue)
  else if c.targetInUse target then (c, .epochInUse)
  else if c.syncing then (c, .busy)
  else if !c.profileOk rec then (c, .badValue)
  else (c.setTab wProfile (bankEntry (target % 4 / 2) p) (profileStored rec), .ok)

/-! ### The search (R185 to R192) -/

/-- One entry that matched: its slot and its descriptor. -/
abbrev Hit := Nat × Nat

/-- Whether a record of width `w` matches a key under a mask in an epoch (R185). -/
def entryMatches (w e key gmask rec : Nat) : Bool :=
  let d := descOf w rec
  dValid d e && !dUnusable d && decide ((key ^^^ keyValOf w rec) &&& keyMaskOf w rec &&& gmask = 0)

/-- What flipped unit bits make of an entry's comparison (R205): a match, a miss, or nothing. -/
def flipOf (w : Nat) (ds : List Defect) (slot : Nat) : Option Bool :=
  (ds.find? (fun d => decide (d.site = .searchUnit) && decide (d.entry / w * w = slot) && decide (1 ≤ d.sub) && decide (d.sub ≤ 2))).map
    (fun d => decide (d.sub = 1))

/-- The matches in some banks, in slot order, flipped bits among them. -/
def Core.matchesIn (c : Core) (bs : List Nat) (w e key gmask : Nat) (ds : List Defect) : List Hit :=
  (bs.map (fun b => ((c.bankEntries b).filter (fun x =>
    match flipOf w ds x.1 with
    | some m => m && dValid (descOf w x.2) e && !dUnusable (descOf w x.2)
    | none => entryMatches w e key gmask x.2)).map (fun x => (x.1, descOf w x.2)))).flatten

/-- R180: of entries that share an ID, the one at the lowest slot. -/
def mergeById : List Hit → List Hit
  | [] => []
  | h :: r => h :: (mergeById r).filter (fun x => decide (dId x.2 ≠ dId h.2))

/-- R186: the highest priority; among equals the lowest slot. The hits come in slot order. -/
def winner : List Hit → Option Hit
  | [] => none
  | h :: r => match winner r with
    | none => some h
    | some x => if dPriority h.2 < dPriority x.2 then some x else some h

/-- One search's result (R185, R187). -/
structure SearchRes where
  enabled : Bool
  hit : Bool
  multiple : Bool
  id : Nat
  action : Nat
  valid : Bool
  chain : Nat
  deriving DecidableEq, Repr

/-- A search that does not run. -/
def SearchRes.off : SearchRes := ⟨false, false, false, 0, 0, false, 0⟩

/-- The segments of a longest-prefix run with the occupancy bit of an epoch set (R192, R193), as round
numbers, one for each segment. -/
def Core.lpmOccupied (c : Core) (bs : List Nat) (e : Nat) : List Nat :=
  match bs with
  | [] => []
  | b0 :: _ =>
    let n := bs.length
    ((List.range (8 * n)).filter (fun g =>
      (c.tabRange wSearch (2048 * b0 + 256 * g) (2048 * b0 + 256 * (g + 1))).any
        (fun x => dValid (descOf 1 x.2) e))).map (fun g => g / n)

/-- The segments a longest-prefix search powers (R192): the occupied ones of every round up to the first
with a match. -/
def lpmPowered (occ : List Nat) (first : Option Nat) : Nat :=
  match first with
  | none => occ.length
  | some r => (occ.filter (fun x => decide (x ≤ r))).length

/-- The search key of search `n` (R185). -/
def searchKey (prof n key : Nat) (res : List SearchRes) : Nat :=
  let w := sWidth prof n
  let k := bits (key >>> sKeyBase prof n) (160 * w - 1) 0
  if sChain prof n then
    let r := res.getD (sChainFrom prof n) SearchRes.off
    putBits k (sChainDest prof n + 15) (sChainDest prof n) (if r.hit then r.chain else 0)
  else k

/-- What a step of a profile's searches accumulates: the side, the results so far, and the first drop. -/
structure SearchAcc where
  core : Core
  res : List SearchRes
  drop : Option Nat

/-- Marks the entry at a slot unusable (R205, R206). -/
def Core.searchUnusable (c : Core) (s kind : Nat) : Core :=
  let w := c.bankWidth (slotBank s)
  let r := c.tab wSearch s
  let c1 := c.setTab wSearch s (mkEntry w (putBit (descOf w r) 55 true) (keyValOf w r) (keyMaskOf w r))
  (c1.inc Reg.search_unusable).report 258 kind s

/-- A unit or descriptor corrected (R205). -/
def Core.searchCorrected (c : Core) (s : Nat) : Core := (c.inc Reg.search_corrected).reportRate 258 1 s

/-- The memory errors a search meets (R206): a bad unit among the hits, or an uncorrectable descriptor of
the winner. Answers whether the frame is dropped. -/
def Core.searchDefects (c : Core) (hits : List Hit) (win : Option Hit) (w : Nat) : List Defect → Core × Bool
  | [] => (c, false)
  | d :: r =>
    let hitSlot := hits.any (fun h => decide (h.1 ≤ d.entry) && decide (d.entry < h.1 + w))
    let s := d.entry / w * w
    let step : Core × Bool :=
      match d.site with
      | .searchUnit =>
        if hitSlot then
          (((if d.unc then c.searchUnusable s 2 else c.searchCorrected s)).reportRate 258 4 s, true)
        else (c, false)
      | .searchDesc =>
        if (match win with | some x => decide (x.1 = s) | none => false) then
          if d.unc then ((c.searchUnusable s 3).reportRate 258 4 s, true) else (c.searchCorrected s, false)
        else (c, false)
      | _ => (c, false)
    let rest := Core.searchDefects step.1 hits win w r
    (rest.1, step.2 || rest.2)

/-- SEARCH (R185 to R192) number `n` of a profile. -/
def searchOne (prof key e : Nat) (ds : List Defect) (a : SearchAcc) (n : Nat) : SearchAcc :=
  if !sEnable prof n then { a with res := a.res ++ [SearchRes.off] }
  else
    let c := a.core.inc Reg.search_lookups
    let w := sWidth prof n
    let all := sBanks prof n
    let fenced := all.any (fun b => bitOf c.banksFenced b)
    let bs := all.filter (fun b => !bitOf c.banksFenced b)
    let k := searchKey prof n key a.res
    let lpm := match all with | [] => false | b :: _ => decide (c.rd (Reg.bank_mode b) = 3)
    let matched := c.matchesIn bs w e k (sGmask prof n) ds
    -- a longest-prefix search compares the rounds up to the first with a match, and its winner is among those
    let round (h : Hit) : Nat := (h.1 - 2048 * all.headD 0) / 256 / all.length
    let first := matched.head?.map round
    let raw := if lpm then matched.filter (fun h => decide (some (round h) = first)) else matched
    let hits := mergeById raw
    let win := winner hits
    let occ := if lpm then c.lpmOccupied all e else []
    let c1 := if lpm then
        ((c.inc Reg.lpm_searches).add Reg.lpm_segments_powered (lpmPowered occ first)).add
          Reg.lpm_segments_occupied occ.length
      else c
    let fenceDrop := fenced && !sFenceSkip prof n
    let ecc := c1.searchDefects raw win w ds
    let c2 := ecc.1
    let drop := if fenceDrop then some Reg.search_drop_fenced
      else if ecc.2 then some Reg.search_drop_ecc else none
    let multiple := !lpm && decide (1 < hits.length)
    let r : SearchRes := match win with
      | some h => ⟨true, true, multiple, dId h.2, dAction h.2, true, dChain h.2⟩
      | none => ⟨true, false, false, 0, sMissAction prof n, sMissValid prof n, 0⟩
    let c3 := match win with
      | some _ => c2.inc Reg.search_hits
      | none => c2.inc Reg.search_misses
    let c4 := if r.multiple then c3.inc Reg.search_multiple else c3
    { core := c4, res := a.res ++ [r], drop := match a.drop with | some x => some x | none => drop }

/-! ### The Badger (R194 to R200) -/

/-- The target slot of a command (R195); none when it would lie below slot 0. -/
def BadgerCmd.targetSlot (b : BadgerCmd) (w : Nat) : Option Nat :=
  if b.dir = 0 then some (b.last + w) else if b.first < w then none else some (b.first - w)

/-- The slot a command vacates (R196). -/
def BadgerCmd.vacated (b : BadgerCmd) : Nat := if b.dir = 0 then b.first else b.last

/-- The checks of R195 on a command. -/
def Core.badgerOk (c : Core) (b : BadgerCmd) : Bool :=
  let bank := slotBank b.first
  let w := c.bankWidth bank
  let r := c.runSlots bank
  decide (b.first ≤ b.last) && decide (c.rd (Reg.bank_mode bank) ≠ 0) && decide (b.last < r.2) &&
  decide (b.first % w = 0) && decide (b.last % w = 0) &&
  (match b.targetSlot w with
    | some t => decide (r.1 ≤ t) && decide (t < r.2)
    | none => false)

/-- The command that the objects of the Badger spell (R194). -/
def Core.badgerCmd (c : Core) (write : Bool) : BadgerCmd :=
  { seq := (c.rd Reg.badger_seq_issued + 1) % 2 ^ 32, first := c.rd Reg.badger_first,
    last := c.rd Reg.badger_last, dir := c.rd Reg.badger_dir, notify := c.flag Reg.badger_notify,
    target := c.rd Reg.badger_epoch_target, stage := beNat (c.rdOctets Reg.badger_stage 176), write := write }

/-- One write of badger_go: 1 moves, 2 moves and writes the staged entry (R194, R195, R274). -/
def Core.badgerEnqueue (c : Core) (go : Nat) : Core × Reason :=
  let n := c.badgerQ.length + (if c.badgerRun.isSome then 1 else 0)
  let cmd := c.badgerCmd (decide (go = 2))
  if go ≠ 1 ∧ go ≠ 2 then (c, .badValue)
  else if c.targetInUse cmd.target then (c, .epochInUse)
  else if c.syncing ∧ cmd.target % 4 ≠ 0 then (c, .busy)
  else if 16 ≤ n then (c, .busy)
  else if !c.badgerOk cmd then (c, .badValue)
  else ({ (c.wr Reg.badger_seq_issued cmd.seq) with badgerQ := c.badgerQ ++ [cmd] }, .ok)

/-- The staged record of a command at width `w`: the first 16 + 40w octets of the 176. -/
def BadgerCmd.record (b : BadgerCmd) (w : Nat) : Nat := b.stage >>> (8 * (176 - searchEntryBytes w))

/-- One place of the block moved from `src` to `dst` (R196, R197): the copy carries everything, the source
is left free; open probe cursors follow it (R203). -/
def Core.badgerStep (c : Core) (src dst : Nat) : Core :=
  let w := c.bankWidth (slotBank src)
  let r := c.tab wSearch src
  let freed := mkEntry w (putBits (descOf w r) 57 56 0) (keyValOf w r) (keyMaskOf w r)
  let c1 := (c.setTab wSearch dst r).setTab wSearch src freed
  { (c1.inc Reg.badger_moves) with
    probes := c.probes.map (fun x =>
      if (x.2.state = 1 ∨ x.2.state = 3) ∧ x.2.lastSlot = src then (x.1, { x.2 with lastSlot := dst }) else x) }

/-- The places of a block in the order the Badger moves them, as (source, destination). -/
def BadgerCmd.moves (b : BadgerCmd) (w : Nat) : List (Nat × Nat) :=
  let n := (b.last - b.first) / w + 1
  if b.dir = 0 then (List.range n).map (fun i => (b.last - i * w, b.last - i * w + w))
  else (List.range n).map (fun i => (b.first + i * w, b.first + i * w - w))

/-- Whether a bank of the run of bank `b` is fenced. -/
def Core.runFenced (c : Core) (b : Nat) : Bool :=
  let r := c.runSlots b
  (List.range 32).any (fun x => bitOf c.banksFenced x && decide (r.1 ≤ 2048 * x) && decide (2048 * x < r.2))

/-- The running command's moves up to the `n`-th made. -/
def Core.badgerTo (c : Core) (n : Nat) : Core :=
  match c.badgerRun with
  | none => c
  | some r =>
    let ms := ((r.cmd.moves (c.bankWidth (slotBank r.cmd.first))).take n).drop r.moved
    let c1 := ms.foldl (fun (a : Core) m => a.badgerStep m.1 m.2) c
    { c1 with badgerRun := some { r with
        moved := r.moved + ms.length, slot := match ms.getLast? with | some m => m.2 | none => r.slot } }

/-- The moves of the running command, and those that have ended by now: one takes w + 2 table clocks of 1.5 GHz (R196). -/
def Core.badgerCount (c : Core) (r : BadgerRun) : Nat × Nat :=
  let w := c.bankWidth (slotBank r.cmd.first)
  let n := (r.cmd.moves w).length
  (n, min n ((c.now - r.since) / (2 * (w + 2))))

/-- The pipeline clock in which the running command ends, its staged write included. -/
def Core.badgerEnd (c : Core) (r : BadgerRun) : Nat :=
  let w := c.bankWidth (slotBank r.cmd.first)
  r.since + 2 * ((c.badgerCount r).1 * (w + 2) + (if r.cmd.write then w + 1 else 0))

/-- The running command's moves that have ended by now made: searches, probes, windows, scrubbing and the objects that count entries
see the block as it stands, and occupancy bits with it (R193, R197, R198). -/
def Core.badgerNow (c : Core) : Core :=
  match c.badgerRun with
  | some r => if r.code = 0 then c.badgerTo (c.badgerCount r).2 else c
  | none => c

/-- A bank fenced (R199): a command that runs in its run finishes the move in progress and stops. -/
def Core.badgerFence (c : Core) (b : Nat) : Core :=
  match c.badgerRun with
  | some r =>
    if r.code = 0 ∧ c.now < c.badgerEnd r ∧ c.runSlots b = c.runSlots (slotBank r.cmd.first) then
      let d := c.badgerTo ((c.badgerCount r).2 + 1)
      { d with badgerRun := d.badgerRun.map (fun x => { x with code := 2 }) }
    else c
  | none => c

/-- Whether the staged entry of a command would satisfy R179 and R191 at the slot it vacates, the block moved. -/
def Core.stagedOk (c : Core) (cmd : BadgerCmd) : Bool :=
  let bank := slotBank cmd.first
  let w := c.bankWidth bank
  let x := cmd.record w
  let moved := (cmd.moves w).foldl (fun (a : Core) m => a.badgerStep m.1 m.2) c
  moved.orderOk cmd.vacated (dPriority (descOf w x)) &&
  (decide (c.rd (Reg.bank_mode bank) ≠ 3) || lpmOk (descOf w x) (keyValOf w x))

/-- BADGER_COMMAND_START (R196): the next command starts with its checks; one that fails moves nothing. A command that finds a
bank of its run fenced already stops before its first move (DEDUCED from R199, log entry 63). -/
def Core.badgerStart (c : Core) : Core :=
  match c.badgerRun, c.badgerQ with
  | none, cmd :: rest =>
    let bank := slotBank cmd.first
    let tgt := (cmd.targetSlot (c.bankWidth bank)).getD 0
    let code := if dAny (c.descAt tgt) then 1 else if cmd.write && !c.stagedOk cmd then 3 else if c.runFenced bank then 2 else 0
    { c with badgerQ := rest, badgerRun := some ⟨cmd, code, 0, 0, c.now⟩ }
  | _, _ => c

/-- The staged entry of a command written to the slot it vacated. -/
def Core.badgerWrite (c : Core) (cmd : BadgerCmd) : Core :=
  let bank := slotBank cmd.first
  let w := c.bankWidth bank
  let x := cmd.record w
  let d := descOf w x
  let mask := if c.rd (Reg.bank_mode bank) = 3 then lpmMask (dPriority d) else keyMaskOf w x
  if cmd.write then
    c.setTab wSearch cmd.vacated (mkEntry w (storedDesc d (bitOf cmd.target 0) (bitOf cmd.target 1)) (keyValOf w x) mask)
  else c

/-- BADGER_COMMAND_DONE (R196, R199): the rest of a command that nothing stopped runs, and the command counts as done; a failure is
recorded and reported, a completion is reported when asked. -/
def Core.badgerDone (c : Core) : Core :=
  match c.badgerRun with
  | none => c
  | some r =>
    if r.code = 0 then
      let c0 := ((c.advanceTo (c.badgerEnd r)).badgerTo (c.badgerCount r).1).badgerWrite r.cmd
      let c1 := { (c0.wr Reg.badger_seq_done r.cmd.seq) with badgerRun := none }.inc Reg.badger_commands
      if r.cmd.notify then c1.report 259 1 r.cmd.seq else c1
    else
      let c1 := { (c.wr Reg.badger_seq_done r.cmd.seq) with badgerRun := none }
      ((c1.inc Reg.badger_failures).wr Reg.badger_last_error
        (r.cmd.seq * 2 ^ 32 + r.code * 2 ^ 24 + r.slot % 2 ^ 16)).report 259 2 (r.code * 2 ^ 32 + r.cmd.seq)

/-- The searches of a frame's profile, in search-number order (R185); `drop` is the drop reason of the
lowest-numbered search that drops the frame (R189). A running Badger command stands where it is now (R197). -/
def Core.runSearches (c : Core) (e profile key : Nat) (ds : List Defect) : SearchAcc :=
  (List.range 4).foldl (searchOne (c.profile e profile) key e ds) ⟨c.badgerNow, [], none⟩

/-! ### Probes (R201 to R204) -/

/-- Cursor `i`. -/
def Core.probe (c : Core) (i : Nat) : Probe := SMap.getD c.probes i ⟨0, 0, 0, 0, 0⟩

/-- Cursor `i` set; probe_cmd reads its state. -/
def Core.setProbe (c : Core) (i : Nat) (p : Probe) : Core :=
  { (c.wr (Reg.probe_cmd i) p.state) with probes := SMap.put c.probes i ⟨0, 0, 0, 0, 0⟩ p }

/-- A write of probe_cmd (R202): 1 search, 2 step, 3 close. Until a search or step completes the cursor
reads busy and refuses a further one. -/
def Core.probeCommand (c : Core) (i v : Nat) : Core × Reason :=
  let p := c.probe i
  if v = 0 ∨ 3 < v then (c, .badValue)
  else if v = 3 then (c.setProbe i ⟨0, 0, 0, 0, 0⟩, .ok)
  else if p.state = 3 then (c, .busy)
  else if v = 2 ∧ p.state = 0 then (c, .wrongState)
  else (c.setProbe i { p with state := 3, pend := if v = 2 ∧ p.state = 2 then 4 else v }, .ok)

/-- The matches of a cursor's key: the bank set and global mask of its search, as they stand; neither
key_base nor chains (R202). -/
def Core.probeMatches (c : Core) (i : Nat) : List Hit :=
  let prof := c.profile (c.rd (Reg.probe_epoch i)) (c.rd (Reg.probe_profile i))
  let n := c.rd (Reg.probe_search i)
  let w := sWidth prof n
  let key := beNat (c.rdOctets (Reg.probe_key i) 80) % 2 ^ (160 * w)
  mergeById (c.matchesIn (sBanks prof n) w (c.rd (Reg.probe_epoch i)) key (sGmask prof n) [])

/-- Whether a match comes after the cursor's last one in the order of R202. -/
def Probe.after (p : Probe) (h : Hit) : Bool :=
  decide (dId h.2 ≠ p.lastId) && decide (dPriority h.2 ≤ p.lastPrio) &&
  !(decide (dPriority h.2 = p.lastPrio) && decide (h.1 ≤ p.lastSlot))

/-- What a probe returns for an entry (R201). -/
def Core.probeReturn (c : Core) (i : Nat) (h : Hit) (multiple : Bool) : Core :=
  let c1 := c.wr (Reg.probe_result i)
    (2 ^ 63 + b2n multiple * 2 ^ 62 + dPriority h.2 * 2 ^ 40 + dId h.2 * 2 ^ 20 + h.1)
  (c1.wr (Reg.probe_entry i) (dChain h.2 * 2 ^ 17 + dAction h.2)).setProbe i
    ⟨1, 0, dId h.2, dPriority h.2, h.1⟩

/-- PROBE_COMPLETE (R202): the search or step in progress completes. -/
def Core.probeComplete (c' : Core) (i : Nat) : Core :=
  let c := c'.badgerNow
  let p := c.probe i
  if p.state ≠ 3 then c
  else
    let ms := c.probeMatches i
    let none' (c0 : Core) : Core :=
      ((c0.wr (Reg.probe_result i) 0).wr (Reg.probe_entry i) 0).setProbe i { p with state := 2, pend := 0 }
    let c1 := c.inc Reg.probe_searches
    if p.pend = 1 then
      match winner ms with
      | some h => c1.probeReturn i h (decide (1 < ms.length))
      | none => none' c1
    else if p.pend = 2 then
      match winner (ms.filter p.after) with
      | some h => c1.probeReturn i h false
      | none => none' c1
    else none' c1

/-! ### Scrubbing (R205) -/

/-- What the scrubber does at one slot (R205). -/
def Core.scrubSlot (c' : Core) (f : ScrubFinding) : Core :=
  let c := c'.badgerNow
  let w := c.bankWidth (slotBank f.slot)
  let s := f.slot / w * w
  let c1 := if f.unitBad && f.shadowBad then c.searchUnusable s 2
    else if f.unitBad || f.shadowBad then c.searchCorrected s else c
  if f.descBad then (if f.descUnc then c1.searchUnusable s 3 else c1.searchCorrected s) else c1

end Sys2Proof.Machine
end

