-- ==== Sys2Proof/Machine/Station.lean ====
section
/-! DEFINITION. Station.lean: the station table, its lookups, the learning engine, learning records,
ageing and the software operations (R211 to R247). -/

namespace Sys2Proof.Machine

/-- What a side's engine takes from the device: whether the device is Joined, the engine ID (side A's in
Joined mode, R239), and the learn time of this clock, low 48 bits (R232). -/
structure LearnEnv where
  joined : Bool
  engine : Nat
  now : Nat

/-! ### Entries (R216) -/

def eFid (x : Nat) : Nat := bits x 191 180
def eMac (x : Nat) : Nat := bits x 179 132
def eKind (x : Nat) : Nat := bits x 131 130
def eDest (x : Nat) : Nat := bits x 129 122
def eOwner (x : Nat) : Nat := bits x 121 110
def eTime (x : Nat) : Nat := bits x 109 62
def eSeq (x : Nat) : Nat := bits x 61 46
def eStatic (x : Nat) : Bool := bitOf x 45
def eLocked (x : Nat) : Bool := bitOf x 44
def eRemote (x : Nat) : Bool := bitOf x 43
def eJade (x : Nat) : Bool := bitOf x 42
def eAmber (x : Nat) : Bool := bitOf x 41
def eUnusable (x : Nat) : Bool := bitOf x 40
def eClear (x : Nat) : Bool := bitOf x 39
def eAge (x : Nat) : Nat := bits x 38 37
def eMoves (x : Nat) : Nat := bits x 36 32
def eTimer (x : Nat) : Nat := bits x 31 0

/-- The validity bit of an epoch. -/
def eValid (x e : Nat) : Bool := if e = 0 then eAmber x else eJade x

/-- A slot that is not free (R218). -/
def eTaken (x : Nat) : Bool := (eAmber x || eJade x) && !eUnusable x

/-- The entry's destination as (kind, id). -/
def eDst (x : Nat) : Nat × Nat := (eKind x, eDest x)

/-- The number of slots: 262,144 ways and 16 stash entries (R213). -/
def stationSlots : Nat := 262160

/-- The bucket of a key in subtable `t` (R214). -/
def Core.bucket (c : Core) (t fid mac : Nat) : Nat :=
  let seed := if t = 0 then c.rd Reg.station_seed_0 else c.rd Reg.station_seed_1
  (crc32cRaw 0xFFFFFFFF (toBe 4 seed ++ toBe 2 (fid % 4096) ++ toBe 6 mac) ^^^ 0xFFFFFFFF) % 2 ^ 15

/-- The four slots of a bucket (R213). -/
def bucketSlots (t b : Nat) : List Nat := (List.range 4).map (fun w => t * 131072 + 4 * b + w)

/-- The stash slots. -/
def stashSlots : List Nat := (List.range 16).map (fun i => 262144 + i)

/-- The slots a lookup of a key reads (R220). -/
def Core.keySlots (c : Core) (fid mac : Nat) : List Nat :=
  bucketSlots 0 (c.bucket 0 fid mac) ++ bucketSlots 1 (c.bucket 1 fid mac) ++ stashSlots

/-- Whether an entry holds a key. -/
def eKeyIs (x fid mac : Nat) : Bool := decide (eFid x = fid) && decide (eMac x = mac)

/-- The slot that holds a key with a validity bit set (R218). -/
def Core.findKey (c : Core) (fid mac : Nat) : Option Nat :=
  (c.keySlots fid mac).find? (fun s => eTaken (c.tab wStation s) && eKeyIs (c.tab wStation s) fid mac)

/-- A lookup on an epoch's stamp (R220). -/
def Core.stationLookup (c : Core) (e fid mac : Nat) : Option Nat :=
  (c.keySlots fid mac).find? (fun s =>
    let x := c.tab wStation s
    eValid x e && !eUnusable x && eKeyIs x fid mac)

/-- A free slot among some, the lowest first (R218, R226). -/
def Core.freeSlot (c : Core) (l : List Nat) : Option Nat := l.find? (fun s => !eTaken (c.tab wStation s))

/-- How many slots of a list are free. -/
def Core.freeCount (c : Core) (l : List Nat) : Nat := (l.filter (fun s => !eTaken (c.tab wStation s))).length

/-- R226: the slot a new key takes, or none when neither bucket nor the stash has room. -/
def Core.placeSlot (c : Core) (fid mac : Nat) : Option Nat :=
  let b0 := bucketSlots 0 (c.bucket 0 fid mac)
  let b1 := bucketSlots 1 (c.bucket 1 fid mac)
  let n0 := c.freeCount b0
  let n1 := c.freeCount b1
  if n0 = 0 ∧ n1 = 0 then c.freeSlot stashSlots
  else if n1 ≤ n0 then c.freeSlot b0 else c.freeSlot b1

/-- A dynamic entry as the engine places it: both validity bits, age 0, a move window not begun (R217, R225). -/
def newEntry (fid mac kind dest owner time seq : Nat) (remote : Bool) : Nat :=
  fid * 2 ^ 180 + mac * 2 ^ 132 + kind * 2 ^ 130 + dest * 2 ^ 122 + owner * 2 ^ 110 +
  (time % 2 ^ 48) * 2 ^ 62 + (seq % 2 ^ 16) * 2 ^ 46 + b2n remote * 2 ^ 43 + 2 ^ 42 + 2 ^ 41

/-- Dynamic entries with a destination (R244, R245). -/
def Core.dynamicCount (c : Core) (kind dest : Nat) : Nat :=
  ((c.tabRange wStation 0 stationSlots).filter (fun x =>
    eTaken x.2 && !eStatic x.2 && decide (eKind x.2 = kind) && decide (eDest x.2 = dest))).length

/-- Slots holding a validity bit (R244, station_used), and those of the stash (stash_used). -/
def Core.stationUsed (c : Core) (lo hi : Nat) : Nat :=
  ((c.tabRange wStation lo hi).filter (fun x => eAmber x.2 || eJade x.2)).length

/-- The device port number of port `p` of the side, and back. -/
def Core.devPort (c : Core) (p : Nat) : Nat := 64 * c.id.num + p

/-- Whether a device port belongs to the side. -/
def Core.ownPort (c : Core) (n : Nat) : Bool := decide (n / 64 = c.id.num)

/-- learn_limit of a port of the side, station_quota of a vport; a port group has none (R245). -/
def Core.underLimit (c : Core) (kind dest : Nat) : Bool :=
  if kind = 0 then !c.ownPort dest || decide (c.dynamicCount 0 dest < c.rd (Reg.learn_limit (dest % 64)))
  else if kind = 1 then decide (c.dynamicCount 1 dest < c.rd (Reg.station_quota dest))
  else true

/-! ### Records (R234, R235) -/

def rOp (r : Nat) : Nat := bits r 159 156
def rFid (r : Nat) : Nat := bits r 155 144
def rMac (r : Nat) : Nat := bits r 143 96
def rEngine (r : Nat) : Nat := bits r 95 84
def rPort (r : Nat) : Nat := bits r 83 76
def rSeq (r : Nat) : Nat := bits r 75 60
def rTime (r : Nat) : Nat := bits r 59 12

/-- The port field of a destination: the device port, 128 + v, or 255 for a group (R234). -/
def portField (kind dest : Nat) : Nat := if kind = 0 then dest else if kind = 1 then 128 + dest else 255

/-- A record. -/
def mkRecord (op fid mac engine port seq time : Nat) : Nat :=
  op * 2 ^ 156 + fid * 2 ^ 144 + mac * 2 ^ 96 + engine * 2 ^ 84 + port * 2 ^ 76 + (seq % 2 ^ 16) * 2 ^ 60 +
  (time % 2 ^ 48) * 2 ^ 12

/-- A record on the crossing: it carries beside it the destination that this side's entry has, so that both tables hold the same
(R28, R236). -/
def crossing (rec kind dest : Nat) : Nat := rec % 2 ^ 160 + (256 * kind + dest) * 2 ^ 160

/-- A record queued for sending, and in Joined mode handed to the crossing with its destination (R235, R239). -/
def Core.queueRecord (c : Core) (env : LearnEnv) (rec : Nat) (dest : Nat × Nat) (notPort : Option Nat) (cross : Bool) : Core :=
  let c1 := if env.joined && cross then { c with crossRecs := c.crossRecs ++ [crossing rec dest.1 dest.2] } else c
  if c1.sendQ.length < 1024 then { c1 with sendQ := c1.sendQ ++ [⟨rec, notPort, c1.now, false⟩] }
  else (c1.inc Reg.msg_tx_overflow).reportRate 262 4 (notPort.getD 0)

/-- The engine's next record sequence. -/
def Core.nextSeq (c : Core) : Core × Nat := ({ c with learnSeq := (c.learnSeq + 1) % 2 ^ 16 }, c.learnSeq)

/-- An op 3 record for a local entry that the engine removes (R234): a fresh sequence, the own engine and
the entry's learn time. -/
def Core.withdraw (c : Core) (env : LearnEnv) (x : Nat) : Core :=
  if eRemote x then c
  else
    let s := c.nextSeq
    s.1.queueRecord env (mkRecord 3 (eFid x) (eMac x) env.engine (portField (eKind x) (eDest x)) s.2 (eTime x)) (eDst x) none true

/-- An entry removed: both validity bits clear (R217). -/
def Core.removeSlot (c : Core) (s : Nat) : Core := c.setTab wStation s (putBits (c.tab wStation s) 42 41 0)

/-! ### Moves (R229) and the order of requests (R237) -/

/-- R237. -/
def newerThan (now : Nat) (x qEngine qSeq qTime : Nat) : Bool :=
  if eStatic x then false
  else if 2 ^ 46 ≤ (now + 2 ^ 48 - eTime x) % 2 ^ 48 then true
  else
    let d := (qTime + 2 ^ 48 - eTime x) % 2 ^ 48
    if d ≠ 0 then decide (d < 2 ^ 47)
    else if qEngine ≠ eOwner x then decide (eOwner x < qEngine)
    else
      let e := (qSeq + 2 ^ 16 - eSeq x) % 2 ^ 16
      decide (e ≠ 0) && decide (e < 2 ^ 15)

/-- An entry with its move window restarted. -/
def restartWindow (x nowMs : Nat) : Nat := putBits (putBits x 36 32 0) 31 0 (nowMs % 65536)

/-- What a move did to its entry (R229): nothing, it locked the entry, or the entry took the new destination. -/
inductive Moved where
  | no
  | locked
  | yes
  deriving DecidableEq, Repr

/-- R229 on the entry of slot `s`. -/
def Core.moveEntry (c : Core) (s kind dest owner time seq : Nat) (remote : Bool) : Core × Moved :=
  let x0 := c.tab wStation s
  let nowMs := c.sideTime / 1000000
  let nowS := c.sideTime / 1000000000
  let hold := c.rd Reg.flap_hold_s
  if eLocked x0 && (decide (hold = 0) || decide ((nowS + 2 ^ 32 - eTimer x0) % 2 ^ 32 < hold)) then
    (c.inc Reg.learn_locked_suppressed, .no)
  else
    let x1 := if eLocked x0 then restartWindow (putBit x0 44 false) nowMs else x0
    let x2 := if c.rd Reg.flap_window_ms ≤ (nowMs % 65536 + 65536 - eTimer x1 % 65536) % 65536
      then restartWindow x1 nowMs else x1
    if eMoves x2 = c.rd Reg.flap_threshold then
      let x3 := putBits (putBit x2 44 true) 31 0 (nowS % 2 ^ 32)
      (((c.setTab wStation s x3).inc Reg.flap_locks).report 260 3 s, .locked)
    else
      let x3 := putBits x2 36 32 (eMoves x2 + 1)
      let x4 := putBits (putBits (putBits x3 131 122 (kind * 256 + dest)) 121 110 owner) 109 62 (time % 2 ^ 48)
      let x5 := putBits (putBit (putBits x4 61 46 (seq % 2 ^ 16)) 43 remote) 38 37 0
      ((c.setTab wStation s x5).inc Reg.learn_moves, .yes)

/-- The objects that show the rehash queue's head and count (R242). -/
def Core.showRehash (c : Core) : Core :=
  let c1 := c.wr Reg.rehash_count c.rehashQ.length
  match c.rehashQ with
  | [] => (c1.wr Reg.rehash_head 0).wr Reg.rehash_dest 0
  | (k, d) :: _ => (c1.wr Reg.rehash_head (2 ^ 63 + k)).wr Reg.rehash_dest d

/-- INSERTION_FAILED (R227). -/
def Core.insertionFailed (c : Core) (fid mac kind dest : Nat) : Core :=
  let k := fid * 2 ^ 48 + mac
  let c1 := c.inc Reg.learn_fail
  if c1.rehashQ.any (fun x => decide (x.1 = k)) then c1
  else if c1.rehashQ.length < 16 then
    ({ c1 with rehashQ := c1.rehashQ ++ [(k, kind * 256 + dest)] }.showRehash).report 260 2 c1.rehashQ.length
  else (c1.inc Reg.rehash_queue_overflow).reportRate 260 5 0

/-- STATION_PLACE (R226, R227): the Boolean says whether the key was placed. -/
def Core.place (c : Core) (fid mac kind dest owner time seq : Nat) (remote : Bool) : Core × Bool :=
  match c.placeSlot fid mac with
  | some s => ((c.setTab wStation s (newEntry fid mac kind dest owner time seq remote)).inc Reg.learn_inserted, true)
  | none => (c.insertionFailed fid mac kind dest, false)

/-- R225: one local request applied against the table as it stands. -/
def Core.applyLocal (c : Core) (env : LearnEnv) (fid mac kind dest time : Nat) : Core :=
  let sq := c.nextSeq
  let c0 := sq.1
  let rec1 (op : Nat) := mkRecord op fid mac env.engine (portField kind dest) sq.2 time
  match c0.findKey fid mac with
  | none =>
    if !c0.underLimit kind dest then
      (c0.inc Reg.learn_limit_refused).reportRate 260 4 (if kind = 1 then 0x80 + dest else dest % 64)
    else
      let r := c0.place fid mac kind dest env.engine time sq.2 false
      if r.2 then r.1.queueRecord env (rec1 1) (kind, dest) none true else r.1
  | some s =>
    let x := c0.tab wStation s
    if eStatic x then c0.inc Reg.learn_static_blocked
    else if eDst x = (kind, dest) then
      let c1 := (c0.setTab wStation s (putBits x 38 37 0)).inc Reg.learn_refreshed
      if eAge x ≠ 0 then c1.queueRecord env (rec1 2) (kind, dest) none true else c1
    else if !newerThan env.now x env.engine sq.2 time then c0.inc Reg.learn_superseded
    else
      let r := c0.moveEntry s kind dest env.engine time sq.2 false
      if r.2 = .yes then r.1.queueRecord env (rec1 1) (kind, dest) none true else r.1

/-- LEARN_RECORD_APPLY (R237, R238): one received record applied with its arrival destination; a record
that changes the table is sent on. -/
def Core.applyRecord (c : Core) (env : LearnEnv) (rec kind dest : Nat) (arrival : Option Nat) : Core :=
  let fwd (c0 : Core) (changed : Bool) : Core :=
    if changed then c0.queueRecord env rec (kind, dest) arrival arrival.isSome else c0
  let op := rOp rec
  match c.findKey (rFid rec) (rMac rec) with
  | none =>
    if op = 1 then
      let r := c.place (rFid rec) (rMac rec) kind dest (rEngine rec) (rTime rec) (rSeq rec) true
      fwd r.1 r.2
    else c
  | some s =>
    let x := c.tab wStation s
    if op = 1 then
      if newerThan env.now x (rEngine rec) (rSeq rec) (rTime rec) then
        let r := c.moveEntry s kind dest (rEngine rec) (rTime rec) (rSeq rec) true
        fwd r.1 (decide (r.2 ≠ .no))
      else c.inc Reg.rec_superseded
    else if op = 2 then
      if !eStatic x && decide (eOwner x = rEngine rec) && decide (eDst x = (kind, dest)) then
        fwd ((c.setTab wStation s (putBits x 38 37 0)).inc Reg.learn_refreshed) (decide (eAge x ≠ 0))
      else c
    else if op = 3 then
      if !eStatic x && decide (eOwner x = rEngine rec) &&
          decide ((rTime rec + 2 ^ 48 - eTime x) % 2 ^ 48 < 2 ^ 47) then
        fwd (c.removeSlot s) true
      else c
    else c

/-! ### The request queue (R222, R224) -/

/-- A request of a frame accepted at clock `at'` joins the queue in the order of acceptance, merges with an equal one, or is
dropped (R224, R225). -/
def Core.learnRequest (c : Core) (fid mac kind dest time at' : Nat) : Core :=
  let c1 := c.inc Reg.learn_requests
  if c1.learnQ.any (fun q => match q with
      | .loc f m k d _ _ => decide (f = fid) && decide (m = mac) && decide (k = kind) && decide (d = dest)
      | _ => false) then c1.inc Reg.learn_merged
  else if c1.learnQ.length < 4096 then { c1 with learnQ := (LearnReq.loc fid mac kind dest time at').into c1.learnQ }
  else (c1.inc Reg.learn_queue_drops).reportRate 260 1 0

/-! ### Learning messages (R234 to R240) -/

/-- The records of a message body. -/
def msgRecords (o : Octets) (off : Nat) : Nat → List Nat
  | 0 => []
  | n + 1 => beNat (padTo 20 (slice o off 20)) :: msgRecords o (off + 20) n

/-- Whether a record is well formed (R240). -/
def recordOk (r : Nat) : Bool :=
  decide (1 ≤ rOp r) && decide (rOp r ≤ 3) && !bitOf (rMac r) 40 && decide (rMac r ≠ 0) &&
  decide (bits r 11 0 = 0) && (decide (rPort r ≤ 191) || decide (rPort r = 255))

/-- One record of a message taken into the request queue (R236, R240). -/
def Core.takeRecord (env : LearnEnv) (kind dest p : Nat) (c : Core) (r : Nat) : Core :=
  if !recordOk r then (c.inc Reg.msg_rx_malformed).reportRate 262 1 p
  else if rEngine r = env.engine then (c.inc Reg.msg_rx_own).reportRate 262 2 p
  else if c.learnQ.length < 4096 then { c with learnQ := c.learnQ ++ [.record r kind dest (some p) c.now] }
  else (c.inc Reg.learn_queue_drops).reportRate 260 1 0

/-- A learning message from port `p`, its body from the octet after the EtherType (R236, R240). -/
def Core.learnMessage (c : Core) (env : LearnEnv) (p : Nat) (body : Octets) : Core :=
  let h := beNat (padTo 8 (slice body 0 8))
  let n := bits h 59 56
  let kd : Nat × Nat := if c.rd (Reg.learn_group p) = 255 then (0, c.devPort p) else (2, c.rd (Reg.learn_group p))
  if bits h 63 60 ≠ 1 ∨ n = 0 ∨ 8 < n ∨ body.length < 8 + 20 * n ∨ bits h 43 0 ≠ 0 then
    (c.inc Reg.msg_rx_malformed).reportRate 262 1 p
  else if bits h 55 44 = env.engine then (c.inc Reg.msg_rx_own).reportRate 262 2 p
  else (msgRecords body 8 n).foldl (Core.takeRecord env kd.1 kd.2 p) (c.inc Reg.msg_rx)

/-- Records that arrive over the crossing take the destination that comes with them: of a record of the device's own engine that is
what its port field names (R236); of a port group, and of a record from outside, whose port field names a port of its own engine, it
is the other side's, since both tables hold the same entries (R28; DEDUCED, log entry 66). -/
def Core.takeCrossed (c : Core) (recs : List Nat) : Core :=
  recs.foldl (fun a r =>
    if a.learnQ.length < 4096 then
      { a with learnQ := a.learnQ ++ [.record (r % 2 ^ 160) (r / 2 ^ 168) (r / 2 ^ 160 % 256) none a.now] }
    else (a.inc Reg.learn_queue_drops).reportRate 260 1 0) c

/-- The octets of a message (R234, R235): header, records, padded to 60 octets before the FCS. -/
def learnMsgOctets (dst src vid engine : Nat) (recs : List Nat) : Octets :=
  let tag := if vid = 0 then [] else toBe 2 0x8100 ++ toBe 2 (7 * 2 ^ 13 + vid)
  let body := toBe 6 dst ++ toBe 6 src ++ tag ++ toBe 2 0x88B5 ++
    toBe 8 (1 * 2 ^ 60 + recs.length * 2 ^ 56 + engine * 2 ^ 44) ++ (recs.map (toBe 20)).flatten
  body ++ List.replicate (60 - body.length) 0

/-- The ports that send learning messages. -/
def Core.msgPorts (c : Core) : List Nat := (List.range 64).filter (fun p => c.flag (Reg.learn_msg_tx p))

/-- Whether a message is due (R235): 8 records held, or the oldest has waited learn_msg_batch_us; and the
interval since the last message has passed. -/
def Core.msgDue (c : Core) : Bool :=
  (decide (8 ≤ c.sendQ.length) ||
    (match c.sendQ with
      | [] => false
      | r :: _ => decide (r.since + usTicks (c.rd Reg.learn_msg_batch_us) ≤ c.now))) &&
  (decide (c.lastMsg = 0) || decide (c.lastMsg + usTicks (c.rd Reg.learn_msg_interval_us) ≤ c.now + 1))

/-! ### Ageing, scrubbing and flushing (R228, R231, R233, R241) -/

/-- A memory error found at a slot (R241): 0 none, 1 corrected, 2 uncorrectable. An entry made unusable loses its validity bits,
since its key may be placed again and two slots with one key never hold one (DEDUCED from R218, log entry 62). -/
def Core.stationEcc (c : Core) (s ecc : Nat) : Core :=
  if stationSlots ≤ s then c
  else if ecc = 1 then (c.inc Reg.station_corrected).reportRate 261 1 s
  else if ecc = 2 then
    ((c.setTab wStation s (putBits (putBit (c.tab wStation s) 40 true) 42 41 0)).inc Reg.station_unusable).report 261 2 s
  else c

/-- The memory errors that an access to some slots meets, each slot's once (R241): the side, and the slots whose error is
uncorrectable. -/
def Core.stationDefects (c : Core) (slots : List Nat) (ds : List Defect) : Core × List Nat :=
  let mine := ds.filter (fun d => decide (d.site = .station) && inList d.entry slots)
  let hit := (mine.map (fun d => d.entry)).eraseDups
  let bad := hit.filter (fun s => mine.any (fun d => decide (d.entry = s) && d.unc))
  (hit.foldl (fun (a : Core) s => a.stationEcc s (if inList s bad then 2 else 1)) c, bad)

/-- The slots that the learning engine reads to decide on a request: those of its key; of a relocation its slot and the buckets
of the entry there; of a flush all. -/
def Core.engineSlots (c : Core) : LearnReq → List Nat
  | .loc fid mac _ _ _ _ => c.keySlots fid mac
  | .record r _ _ _ _ => c.keySlots (rFid r) (rMac r)
  | .command 3 _ =>
    let s := c.rd Reg.station_cmd_slot
    let x := c.tab wStation s
    s :: (bucketSlots 0 (c.bucket 0 (eFid x) (eMac x)) ++ bucketSlots 1 (c.bucket 1 (eFid x) (eMac x)))
  | .command 4 _ => []
  | .command _ _ =>
    let x := beNat (c.rdOctets Reg.station_stage 24)
    c.keySlots (eFid x) (eMac x)

/-- The errors that the engine finds as it decides on a request; a flush reads every slot. -/
def Core.engineDefects (c : Core) (q : LearnReq) (ds : List Defect) : Core :=
  match q with
  | .command 4 _ => (c.stationDefects (ds.map (fun d => d.entry)) ds).1
  | _ => (c.stationDefects (c.engineSlots q) ds).1

/-- The slot a stash entry, or the entry of a bucket slot, may be relocated to (R226, R243). -/
def Core.relocateSlot (c : Core) (s : Nat) : Option Nat :=
  let x := c.tab wStation s
  let b0 := bucketSlots 0 (c.bucket 0 (eFid x) (eMac x))
  let b1 := bucketSlots 1 (c.bucket 1 (eFid x) (eMac x))
  if 262144 ≤ s then
    let n0 := c.freeCount b0
    let n1 := c.freeCount b1
    if n0 = 0 ∧ n1 = 0 then none else if n1 ≤ n0 then c.freeSlot b0 else c.freeSlot b1
  else if s < 131072 then c.freeSlot b1 else c.freeSlot b0

/-- An entry moved from slot `s` to a free slot `d`: the copy first, then the original cleared (R243). -/
def Core.relocate (c : Core) (s d : Nat) : Core :=
  ((c.setTab wStation d (c.tab wStation s))).removeSlot s

/-- LEARN_APPLY: the oldest queued request, when it is a local one (R225); `ds` is what its table accesses meet (R241). -/
def Core.learnApply (c : Core) (env : LearnEnv) (ds : List Defect) : Core :=
  match c.learnQ with
  | .loc fid mac kind dest time t :: r =>
    (({ c with learnQ := r } : Core).engineDefects (.loc fid mac kind dest time t) ds).applyLocal env fid mac kind dest time
  | _ => c

/-- LEARN_RECORD_APPLY: the oldest queued request, when it is a received record. -/
def Core.learnRecordApply (c : Core) (env : LearnEnv) (ds : List Defect) : Core :=
  match c.learnQ with
  | .record rec kind dest arr t :: r =>
    (({ c with learnQ := r } : Core).engineDefects (.record rec kind dest arr t) ds).applyRecord env rec kind dest arr
  | _ => c

/-- AGEING_VISIT (R228, R231, R241) of a slot. -/
def Core.ageingVisit (c : Core) (env : LearnEnv) (s ecc : Nat) : Core :=
  let c0 := c.stationEcc s ecc
  let x := c0.tab wStation s
  if !eTaken x then c0
  else
    let c1 := if eStatic x then c0
      else if eAge x = 3 then ((c0.removeSlot s).inc Reg.aged_out).withdraw env x
      else c0.setTab wStation s (putBits x 38 37 (eAge x + 1))
    if 262144 ≤ s ∧ eTaken (c1.tab wStation s) = true then
      match c1.relocateSlot s with
      | some d => (c1.relocate s d).inc Reg.stash_moves
      | none => c1
    else c1

/-- The entries a predicate selects removed and counted in flushed (R233, R243); a port's flush withdraws its local dynamic ones
(R234), a flush command tells no one. -/
def Core.flushWhere (c : Core) (env : LearnEnv) (tell : Bool) (p : Nat → Bool) : Core × Nat :=
  let hit := (c.tabRange wStation 0 stationSlots).filter (fun x => eTaken x.2 && p x.2)
  (hit.foldl (fun a x =>
    let a1 := (a.removeSlot x.1).inc Reg.flushed
    if eStatic x.2 || !tell then a1 else a1.withdraw env x.2) c, hit.length)

/-- STATION_FLUSH_ON_DOWN (R233) for port `p`. -/
def Core.flushPort (c : Core) (env : LearnEnv) (p : Nat) : Core :=
  if c.flag (Reg.flush_on_down p) then
    (c.flushWhere env true (fun x => !eStatic x && decide (eKind x = 0) && decide (eDest x = c.devPort p))).1
  else c

/-! ### Software operations (R217, R219, R242, R243) -/

/-- The values R219 refuses as bad: a port outside the side in Split mode, a group address, a reserved
field. -/
def Core.stationValueOk (c : Core) (joined : Bool) (x : Nat) : Bool :=
  (joined || decide (eKind x ≠ 0) || c.ownPort (eDest x)) &&
  (decide (eKind x ≠ 0) || decide (eDest x < 128)) && (decide (eKind x ≠ 1) || decide (eDest x < 64)) &&
  (decide (eKind x ≠ 3) || decide (eDest x = 0)) && !bitOf (eMac x) 40 &&
  (eLocked x || decide (bits x 31 16 = 0))

/-- The stored form of a record written: the read-only and clear bits replaced by the validity bits given. -/
def stationStored (x : Nat) (va vj : Bool) : Nat := putBits x 42 39 (b2n vj * 8 + b2n va * 4)

/-- The epoch rules of R217 on a write of `x` over the stored entry `old`. -/
def Core.stationEpochs (c : Core) (old x target : Nat) : Reason :=
  if eStatic x then c.epochCheck target (eAmber old) (eJade old) (eClear x)
  else if !eStatic old then .ok
  else if (eAmber old && c.epochInUse 0) || (eJade old && c.epochInUse 1) then .epochInUse
  else if c.syncing && (eAmber old || eJade old) then .busy
  else .ok

/-- STATION_ENTRY_WRITE (R217, R219) to a slot. -/
def Core.writeStation (c : Core) (joined : Bool) (s x target : Nat) : Core × Reason :=
  let old := c.tab wStation s
  let ep := c.stationEpochs old x target
  if ep ≠ .ok then (c, ep)
  else if eClear x then
    if eStatic x then
      (c.setTab wStation s (putBits old 42 41
        (b2n (eJade old && !bitOf target 1) * 2 + b2n (eAmber old && !bitOf target 0))), .ok)
    else (c.removeSlot s, .ok)
  else if !c.stationValueOk joined x then (c, .badValue)
  else if (match c.findKey (eFid x) (eMac x) with | some t => decide (t ≠ s) | none => false) then (c, .keyPresent)
  else if !inList s (c.keySlots (eFid x) (eMac x)) then (c, .wrongBucket)
  else if eStatic x then
    (c.setTab wStation s (stationStored x (eAmber old || bitOf target 0) (eJade old || bitOf target 1)), .ok)
  else (c.setTab wStation s (stationStored x true true), .ok)

/-- A station command enters the request queue (R242, R243). -/
def Core.stationCommand (c : Core) (cmd : Nat) : Core × Reason :=
  if cmd = 0 ∨ 4 < cmd then (c, .badValue)
  else if c.rd Reg.station_cmd = 1 then (c, .busy)
  else ({ (c.wr Reg.station_cmd 1) with learnQ := c.learnQ ++ [.command cmd c.now] }, .ok)

/-- The end of a command: done or failed, with its result (R242). -/
def Core.stationResult (c : Core) (r : Reason) (n : Nat) : Core :=
  (c.wr Reg.station_cmd (if r = .ok then 2 else 3)).wr Reg.station_cmd_result (r.code * 2 ^ 24 + n)

/-- STATION_CMD_EXECUTE (R243). An insert with clear 1 clears the validity bits of the free slot it takes, so it leaves no
entry (R217). -/
def Core.stationExecute (c : Core) (env : LearnEnv) (cmd : Nat) : Core :=
  let x := beNat (c.rdOctets Reg.station_stage 24)
  let target := c.rd (wStation * 256 + 3)
  if cmd = 1 then
    if !eClear x && !c.stationValueOk env.joined x then c.stationResult .badValue 0
    else if (c.findKey (eFid x) (eMac x)).isSome then c.stationResult .keyPresent 0
    else match c.placeSlot (eFid x) (eMac x) with
      | none => c.stationResult .noRoom 0
      | some s =>
        let w := c.writeStation env.joined s x target
        if w.2 = .ok then (if eClear x then w.1 else w.1.inc Reg.learn_inserted).stationResult .ok s else w.1.stationResult w.2 0
  else if cmd = 2 then
    match c.findKey (eFid x) (eMac x) with
    | none => c.stationResult .wrongState 0
    | some s =>
      let old := c.tab wStation s
      if eStatic old && ((eAmber old && c.epochInUse 0) || (eJade old && c.epochInUse 1)) then
        c.stationResult .epochInUse 0
      else (c.removeSlot s).stationResult .ok s
  else if cmd = 3 then
    let s := c.rd Reg.station_cmd_slot
    if stationSlots ≤ s ∨ eTaken (c.tab wStation s) = false then c.stationResult .noRoom 0
    else match c.relocateSlot s with
      | some d => (c.relocate s d).stationResult .ok d
      | none => c.stationResult .noRoom 0
  else
    let f := c.rd Reg.flush_filter
    let sel (y : Nat) : Bool :=
      (!bitOf f 63 || decide (eFid y = bits f 59 48)) &&
      (!bitOf f 62 || decide (eDst y = (bits f 47 46, bits f 45 38))) &&
      (!bitOf f 61 || decide (eOwner y = bits f 37 26)) && (bitOf f 60 || !eStatic y)
    let r := c.flushWhere env false sel
    r.1.stationResult .ok r.2

/-- STATION_CMD_EXECUTE: the oldest queued request, when it is a command. -/
def Core.stationCmdExecute (c : Core) (env : LearnEnv) (ds : List Defect) : Core :=
  match c.learnQ with
  | .command cmd t :: r => (({ c with learnQ := r } : Core).engineDefects (.command cmd t) ds).stationExecute env cmd
  | _ => c

/-- REHASH_POP (R242): the head of the rehash queue removed. -/
def Core.rehashPop (c : Core) (v : Nat) : Core × Reason :=
  if v ≠ 1 then (c, .badValue) else ({ c with rehashQ := c.rehashQ.tail }.showRehash, .ok)

/-- ANNOUNCE (R244): an op 1 record for every local dynamic entry. -/
def Core.announceAll (c : Core) (env : LearnEnv) (v : Nat) : Core × Reason :=
  if v ≠ 1 then (c, .badValue)
  else
    let l := (c.tabRange wStation 0 stationSlots).filter (fun x => eTaken x.2 && !eStatic x.2 && !eRemote x.2)
    let c1 := l.foldl (fun a x => a.queueRecord env
      (mkRecord 1 (eFid x.2) (eMac x.2) (eOwner x.2) (portField (eKind x.2) (eDest x.2)) (eSeq x.2) (eTime x.2)) (eDst x.2) none true) c
    (c1.wr Reg.announce 2, .ok)

/-! ### The VID map (R211, R212) -/

/-- The VID map entry of an epoch. -/
def Core.vidEntry (c : Core) (e vid : Nat) : Nat := c.tab wVidMap (bankEntry e vid)

/-- The station VID of a frame (R211): `src` the vid_source, `pvid` the port's. -/
def stationVid (pr : ParseRec) (src pvid : Nat) : Nat :=
  let v := if src = 2 ∨ pr.vlanCount = 0 then 0
    else if src = 1 ∧ 2 ≤ pr.vlanCount then pr.innerTci % 4096 else pr.outerTci % 4096
  if v = 0 then pvid else v

/-- VID_MAP_WRITE (R212): as the shape bank's rules. -/
def Core.writeVidMap (c : Core) (v rec target : Nat) : Core × Reason :=
  if target % 4 ≠ 1 ∧ target % 4 ≠ 2 then (c, .badValue)
  else if c.targetInUse target then (c, .epochInUse)
  else if c.syncing then (c, .busy)
  else (c.setTab wVidMap (bankEntry (target % 4 / 2) v) (putBits (putBits rec 63 32 0) 29 12 0), .ok)

/-- SHAPE_ENTRY_WRITE (R160, R166). -/
def Core.writeShape (c : Core) (s rec target : Nat) : Core × Reason :=
  if target % 4 ≠ 1 ∧ target % 4 ≠ 2 then (c, .badValue)
  else if c.targetInUse target then (c, .epochInUse)
  else if c.syncing then (c, .busy)
  else if !shapeEntryOk s rec then (c, .badValue)
  else
    let e := bankEntry (target % 4 / 2) s
    ((c.setTab wShape e rec).setMark wShape e 0, .ok)

end Sys2Proof.Machine
end

