-- ==== Sys2Proof/Machine/Actions.lean ====
section
/-! DEFINITION. Actions.lean: the action stage: resolution, execution in the order of R654, FRER, port
groups, lists, mirroring, the edits and their writes, and the integrity of its windows (R248 to R272, R284). -/

namespace Sys2Proof.Machine

/-! ### Entries -/

def aStop (x : Nat) : Bool := bitOf x 127
def aSteerKind (x : Nat) : Nat := bits x 126 124
def aSteerId (x : Nat) : Nat := bits x 123 111
def aTtlOp (x : Nat) : Nat := bits x 79 78
def aPop (x : Nat) : Nat := bits x 69 68
def aPush (x : Nat) : Nat := bits x 67 66
def aRewrite (x : Nat) : Nat := bits x 65 52
def aRtagOp (x : Nat) : Nat := bits x 51 50

/-- Fields of a FRER function entry (R268). -/
def fnMode (x : Nat) : Nat := bits x 127 126
def fnTakeNoSeq (x : Nat) : Bool := bitOf x 125
def fnHistory (x : Nat) : Nat := bits x 124 118
def fnResetMs (x : Nat) : Nat := bits x 117 102

/-- Members of a port group entry (R257). -/
def groupMembers (x : Nat) : List Nat :=
  (List.range (min 16 (bits x 63 59))).map (fun k => bits x (191 - 8 * k) (184 - 8 * k))

/-- The action set (R248): for each group of R249 what the last search set. -/
structure ActionSet where
  steer : Option (Nat × Nat)
  queue : Option Nat
  vid : Option Nat
  pcp : Option Nat
  dscp : Option Nat
  ecn : Option Nat
  ttl : Option (Nat × Nat)
  tags : Option (Nat × Nat × Nat)
  rtag : Option (Nat × Nat)
  filter : Option Nat
  mirror : Option Nat

/-- The empty set. -/
def ActionSet.empty : ActionSet :=
  ⟨none, none, none, none, none, none, none, none, none, none, none⟩

/-- The groups an entry sets override the earlier ones (R248, R249). -/
def ActionSet.merge (a : ActionSet) (x : Nat) : ActionSet :=
  let pick {α : Type} (b : Bool) (v : α) (old : Option α) : Option α := if b then some v else old
  { steer := pick (decide (aSteerKind x ≠ 0)) (aSteerKind x, aSteerId x) a.steer
    queue := pick (bitOf x 110) (bits x 109 107) a.queue
    vid := pick (bitOf x 106) (bits x 105 94) a.vid
    pcp := pick (bitOf x 93) (bits x 92 90) a.pcp
    dscp := pick (bitOf x 89) (bits x 88 83) a.dscp
    ecn := pick (bitOf x 82) (bits x 81 80) a.ecn
    ttl := pick (decide (aTtlOp x ≠ 0)) (aTtlOp x, bits x 77 70) a.ttl
    tags := pick (decide (aPop x ≠ 0) || decide (aPush x ≠ 0) || decide (aRewrite x ≠ 0)) (aPop x, aPush x, aRewrite x) a.tags
    rtag := pick (decide (aRtagOp x ≠ 0)) (aRtagOp x, bits x 49 40) a.rtag
    filter := pick (bitOf x 39) (bits x 38 27) a.filter
    mirror := pick (bitOf x 26) (bits x 25 22) a.mirror }

/-- A frame in the pipeline: what the parser, the searches and the station lookup made of it. -/
structure Frame where
  no : Nat
  data : Octets
  pr : ParseRec
  ingress : Ingress
  second : Bool
  results : List SearchRes
  /-- The destination's entry, and whether the destination was a group address (R221). -/
  dst : Option StationRes
  group : Bool
  fid : Nat
  l3ok : Bool
  /-- The PCP of the outermost tag as received on the first pass (R300). -/
  prio : Nat
  defects : List Defect
  errFlags : Nat
  macsec : Bool
  /-- The whole frame has arrived. -/
  ended : Bool
  tsReq : Bool
  stamp : Nat

/-- The stamp of a frame. -/
def Frame.epoch (f : Frame) : Nat := f.pr.epoch

/-- The frame length L, FCS included. -/
def Frame.len (f : Frame) : Nat := f.data.length + 4

/-- What the action stage takes from outside the side: whether the device is Joined, and which device ports
are active, that is link_state 1 and not fenced (R259). -/
structure ActEnv where
  joined : Bool
  active : Nat → Bool

/-- A copy the action stage makes; ports are device ports. -/
structure Draft where
  target : Target
  queue : Nat
  data : Octets
  edits : Edits
  mirror : Bool

/-- What a read of an action-stage entry gives. -/
inductive ActRead where
  | entry (x : Nat)
  | invalid
  | ecc

/-- A memory error in word `word` of an entry of an action-stage window (R284), word 0 the most significant. A window without
validity bits has no unusable entry; the dynamic fields of a FRER function lie in words 0 and 1. -/
def Core.actionEcc (c : Core) (w e word : Nat) (unc : Bool) : Core :=
  let addr := keyIndex c.id (w * 256) * 2 ^ 32 + e
  if !unc then c.reportRate 263 1 addr
  else
    let c1 := (if w = wFrerCnt then c else c.setTab w e (putBit (c.tab w e) 60 true)).report 263 2 addr
    if w = wFrer ∧ word ≤ 1 then
      let d := SMap.getD c1.frer e FrerDyn.zero
      { c1 with frer := SMap.put c1.frer e FrerDyn.zero { d with valid := false } }
    else c1

/-- An entry read on a stamp (R250, R284). -/
def Core.readAction (c : Core) (w e epoch : Nat) (ds : List Defect) : Core × ActRead :=
  let c1 := (ds.filter (fun d => decide (d.site = .action) && decide (d.sub % 65536 = w) && decide (d.entry = e))).foldl
    (fun a d => a.actionEcc w e (d.sub / 65536) d.unc) c
  let r := c1.tab w e
  (c1, if !recValid r epoch then .invalid else if recUnusable r then .ecc else .entry (recEntry r))

/-! ### Resolution (R248 to R251) -/

/-- Resolution's running value: the side, the set, whether a stop came, and the drop. -/
structure Resolving where
  core : Core
  set : ActionSet
  stopped : Bool
  drop : Option Nat

/-- One search's action (R248): an entry that is not valid or unusable drops the frame, and one that meets an
uncorrectable error as action_drop_ecc. -/
def resolveOne (f : Frame) (r : Resolving) (s : SearchRes) : Resolving :=
  if !s.enabled || !s.valid || r.stopped || r.drop.isSome then r
  else
    let was := recUnusable (r.core.tab wAction s.action)
    match r.core.readAction wAction s.action f.epoch f.defects with
    | (c1, .entry x) => { r with core := c1, set := r.set.merge x, stopped := aStop x }
    | (c1, .invalid) => { r with core := c1, drop := some Reg.action_drop_invalid }
    | (c1, .ecc) => { r with core := c1, drop := some (if was then Reg.action_drop_invalid else Reg.action_drop_ecc) }

/-- Station steering (R258): the flood list, or the entry's destination, or a drop (none). -/
def stationSteer (c : Core) (f : Frame) : Option (Nat × Nat) :=
  match (if f.group then none else f.dst) with
  | none => some (4, f.fid)
  | some r =>
    if r.kind = 0 ∧ f.ingress = .port (r.id % 64) ∧ c.ownPort r.id = true then none
    else if r.kind = 1 ∧ f.ingress = .vport r.id then none
    else some ((if r.kind = 0 then 1 else if r.kind = 1 then 3 else 2), r.id)

/-- A named entry read when its condition holds; 0 where it does not. -/
def Core.readNamed (c : Core) (f : Frame) (need : Bool) (w e : Nat) (drop : Option Nat) : Core × Nat × Option Nat :=
  if !need || drop.isSome then (c, 0, drop)
  else match c.readAction w e f.epoch f.defects with
    | (c1, .entry x) => (c1, x, none)
    | (c1, .invalid) => (c1, 0, some Reg.action_drop_invalid)
    | (c1, .ecc) => (c1, 0, some Reg.action_drop_ecc)

/-! ### Edits (R264 to R267) -/

/-- The TPIDs an Edits carries, as the walk takes them. -/
def Edits.cfg (e : Edits) : ParserCfg := ⟨e.tpid0, e.tpid1, e.rtagType, 0, fun _ => 0, fun _ => 0⟩

/-- The walk of a frame under the Edits' TPIDs. -/
def Edits.walk (e : Edits) (o : Octets) : Walk := Machine.walk e.cfg (o.take 128)

/-- Octets removed. -/
def cutOut (o : Octets) (at' n : Nat) : Octets := o.take at' ++ o.drop (at' + n)

/-- Octets inserted. -/
def putIn (o : Octets) (at' : Nat) (x : Octets) : Octets := o.take at' ++ x ++ o.drop at'

/-- Octets replaced. -/
def overwrite (o : Octets) (at' : Nat) (x : Octets) : Octets := o.take at' ++ x ++ o.drop (at' + x.length)

/-- Up to `n` outermost VLAN tags removed (R264 step 2). -/
def Edits.pop (e : Edits) : Nat → Octets → Octets
  | 0, o => o
  | n + 1, o => match (e.walk o).tags with
    | [] => o
    | t :: _ => Edits.pop e n (cutOut o t 4)

/-- The IPv4 header checksum after a 16-bit word changes from `old` to `new` (RFC 1624, incremental). -/
def checksumUpdate (ck old new : Nat) : Nat :=
  let s := (65535 - ck % 65536) + (65535 - old % 65536) + new % 65536
  let f := s % 65536 + s / 65536
  65535 - (f % 65536 + f / 65536)

/-- The DS octet after set_dscp, set_ecn and a CE mark (R264, R299): CE replaces an ECN-capable codepoint. -/
def Edits.ds (e : Edits) (v : Nat) : Nat :=
  let a := match e.dscp with | some d => d * 4 + v % 4 | none => v
  let b := match e.ecn with | some x => a / 4 * 4 + x | none => a
  if e.ce && decide (b % 4 ≠ 0) then b / 4 * 4 + 3 else b

/-- The TTL or hop limit after ttl_op. -/
def Edits.newTtl (e : Edits) (v : Nat) : Nat := if e.ttlOp = 1 then v - 1 else if e.ttlOp = 2 then e.ttl else v

/-- Step 5 of R264 on an IP header at `p`. -/
def Edits.onIp (e : Edits) (o : Octets) (p : Nat) : Octets :=
  if octetAt o p / 16 = 4 then
    let tos := e.ds (octetAt o (p + 1))
    let ttl := e.newTtl (octetAt o (p + 8))
    let ck1 := checksumUpdate (be16 o (p + 10)) (octetAt o p * 256 + octetAt o (p + 1)) (octetAt o p * 256 + tos)
    let ck2 := checksumUpdate ck1 (octetAt o (p + 8) * 256 + octetAt o (p + 9)) (ttl * 256 + octetAt o (p + 9))
    overwrite (overwrite (overwrite o (p + 1) (toBe 1 tos)) (p + 8) (toBe 1 ttl)) (p + 10) (toBe 2 ck2)
  else
    let tc := e.ds ((octetAt o p % 16) * 16 + octetAt o (p + 1) / 16)
    let o1 := overwrite o p (toBe 1 (octetAt o p / 16 * 16 + tc / 16) ++ toBe 1 ((tc % 16) * 16 + octetAt o (p + 1) % 16))
    overwrite o1 (p + 7) (toBe 1 (e.newTtl (octetAt o (p + 7))))

/-- Whether step 5 has something to do. -/
def Edits.wantsIp (e : Edits) : Bool := e.dscp.isSome || e.ecn.isSome || decide (e.ttlOp ≠ 0) || e.ce

/-- Where a redundancy tag is inserted (R264 step 7): after the last VLAN tag. -/
def lastVlanEnd (c : ParserCfg) (o : Octets) : Nat → Nat → Nat → Nat
  | 0, _, last => last
  | f + 1, pos, last =>
    let t := be16 o pos
    if (tpidKind c t).isSome then lastVlanEnd c o f (pos + 4) (pos + 4)
    else if t = c.rtagType then lastVlanEnd c o f (pos + 6) last
    else last

/-- What applying edits gives: the frame, whether step 5 was skipped (action_l3_skipped), whether step 4
found no tag (action_vid_untagged), and whether a CE mark changed the field (sc_ce_marked). -/
structure Edited where
  data : Octets
  l3Skipped : Bool
  vidUntagged : Bool
  ceMarked : Bool

/-- The edits of a frame in the order of R264. Step 5 has nothing to work on in a frame with a usable L3 base and no IP header;
only an unusable base counts as skipped (R265). -/
def Edits.apply (e : Edits) (o : Octets) : Edited :=
  let s1 := if e.popRtag then (match (e.walk o).rtagPos with | some p => cutOut o p 6 | none => o) else o
  let s2 := e.pop e.popVlan s1
  let s3a := match e.newDa with | some a => overwrite s2 0 (toBe 6 a) | none => s2
  let s3 := match e.newSa with | some a => overwrite s3a 6 (toBe 6 a) | none => s3a
  let want4 := e.vid.isSome || e.pcp.isSome
  let tags := (e.walk s3).tags
  let s4 := match tags with
    | t :: _ =>
      let tci := be16 s3 (t + 2)
      let a := match e.vid with | some v => tci / 4096 * 4096 + v | none => tci
      let b := match e.pcp with | some p => p * 8192 + a % 8192 | none => a
      if want4 then overwrite s3 (t + 2) (toBe 2 b) else s3
    | [] => s3
  let s5 := if e.wantsIp && e.l3ok && e.ip then e.onIp s4 (e.walk s4).l3 else s4
  let tpid (k : Nat) : Nat := if k = 0 then 0x8100 else if k = 1 then 0x88A8 else if k = 2 then e.tpid0 else e.tpid1
  let tag (x : Nat) : Octets := toBe 2 (tpid (x / 65536)) ++ toBe 2 (x % 65536)
  let s6 := if e.pushVlan = 2 then putIn s5 12 (tag e.tagA ++ tag e.tagB)
    else if e.pushVlan = 1 then putIn s5 12 (tag e.tagA) else s5
  let s7 := match e.pushRtag with
    | some q => putIn s6 (lastVlanEnd e.cfg s6 8 12 12) (toBe 2 e.rtagType ++ [0, 0] ++ toBe 2 q)
    | none => s6
  let p := (e.walk s4).l3
  let ecn := ({ e with ce := false } : Edits).ds (if octetAt s4 p / 16 = 4 then octetAt s4 (p + 1) else octetAt s4 (p + 1) / 16) % 4
  ⟨s7, e.wantsIp && !e.l3ok, want4 && tags.isEmpty, e.ce && e.l3ok && e.ip && decide (ecn ≠ 0) && decide (ecn ≠ 3)⟩

/-- The edits applied, with the counters of R265 and R299. -/
def Core.applyEdits (c : Core) (e : Edits) (o : Octets) : Core × Octets :=
  let r := e.apply o
  let c1 := if r.l3Skipped then c.inc Reg.action_l3_skipped else c
  let c2 := if r.ceMarked then c1.inc Reg.sc_ce_marked else c1
  (if r.vidUntagged then c2.inc Reg.action_vid_untagged else c2, r.data)

/-- The length change of R266. -/
def Edits.delta (e : Edits) (pr : ParseRec) : Int :=
  4 * ((e.pushVlan : Int) - (min e.popVlan pr.vlanCount : Nat)) +
  6 * ((b2n e.pushRtag.isSome : Int) - (b2n (e.popRtag && pr.rtag) : Nat))

/-- The Edits of an action set with its rewrite entry (R249, R256). -/
def ActionSet.edits (c : Core) (a : ActionSet) (rw : Nat) (f : Frame) (rseq : Option Nat) : Edits :=
  let t := a.tags.getD (0, 0, 0)
  { popRtag := (match a.rtag with | some (3, _) => true | _ => false)
    popVlan := t.1
    newDa := if bitOf rw 95 then some (bits rw 191 144) else none
    newSa := if bitOf rw 94 then some (bits rw 143 96) else none
    vid := a.vid, pcp := a.pcp, dscp := a.dscp, ecn := a.ecn
    ttlOp := (a.ttl.getD (0, 0)).1, ttl := (a.ttl.getD (0, 0)).2
    pushVlan := t.2.1
    tagA := bits rw 93 92 * 65536 + bits rw 91 76
    tagB := bits rw 75 74 * 65536 + bits rw 73 58
    pushRtag := rseq
    tpid0 := c.rd (Reg.tpid_extra_0 f.epoch), tpid1 := c.rd (Reg.tpid_extra_1 f.epoch)
    rtagType := c.rd (Reg.rtag_ethertype f.epoch)
    l3ok := f.l3ok, ip := decide (f.pr.ipver ≠ 0), ce := false }

/-! ### FRER (R268 to R272) -/

/-- The dynamic state of a function. -/
def Core.fn (c : Core) (n : Nat) : FrerDyn := SMap.getD c.frer n FrerDyn.zero

/-- The dynamic state of a function, set. -/
def Core.setFn (c : Core) (n : Nat) (d : FrerDyn) : Core := { c with frer := SMap.put c.frer n FrerDyn.zero d }

/-- A function's counter: 0 passed, 1 eliminated, 2 rogue, 3 lost, 4 out_of_order, 5 resets. -/
def Core.countFn (c : Core) (n k d : Nat) : Core := c.countWord wFrerCnt n 6 k d

/-- recover (R270): the drop's counter, or none when the frame passes. -/
def Core.frerRecover (c : Core) (n x : Nat) (pr : ParseRec) : Core × Option Nat :=
  let d := c.fn n
  let h := fnHistory x
  if !pr.rtag then
    if fnTakeNoSeq x then (c.countFn n 0 1, none) else (c, some Reg.frer_tagless)
  else
    let s := pr.rtagSeq
    let pass (c0 : Core) (y : FrerDyn) : Core × Option Nat := ((c0.setFn n { y with since := c.now }).countFn n 0 1, none)
    if !d.valid then pass c { d with recovSeq := s, history := 1, valid := true }
    else
      let u := (s + 65536 - d.recovSeq) % 65536
      if u < 32768 then
        -- d ≥ 0
        if h ≤ u then ((c.countFn n 2 1).reportRate 265 2 n, some Reg.frer_rogue)
        else if 0 < u then
          let lost := u - popCount u (d.history >>> (h - u))
          pass (c.countFn n 3 lost) { d with recovSeq := s, history := ((d.history <<< u) ||| 1) % 2 ^ h }
        else if bitOf d.history 0 then (c.countFn n 1 1, some Reg.frer_eliminated)
        else pass (c.countFn n 4 1) { d with history := putBit d.history 0 true }
      else
        let b := 65536 - u
        if h ≤ b then ((c.countFn n 2 1).reportRate 265 2 n, some Reg.frer_rogue)
        else if bitOf d.history b then (c.countFn n 1 1, some Reg.frer_eliminated)
        else pass (c.countFn n 4 1) { d with history := putBit d.history b true }

/-- The time at which a function's reset timer expires, when it runs: reset_ms of the entry as it stands. -/
def Core.frerDeadline (c : Core) (n : Nat) : Option Nat :=
  if (c.fn n).valid then some ((c.fn n).since + msTicks (fnResetMs (recEntry (c.tab wFrer n)))) else none

/-- FRER_RESET_TIMEOUT (R270): reset_ms has passed with no tagged frame passed; the clocks run to it. -/
def Core.frerTimeout (c : Core) (n : Nat) : Core :=
  match c.frerDeadline n with
  | none => c
  | some t =>
    let c1 := c.advanceTo t
    ((c1.setFn n { c1.fn n with valid := false }).countFn n 5 1).report 265 1 n

/-! ### Execution (R654) -/

/-- What the action stage answers: a drop in a counter, a frame for the recirculation path with its mirror copy, or copies. -/
inductive ActOut where
  | drop (k : Nat)
  | recirc (e : Edits) (mirror : List Draft)
  | copies (l : List Draft)

/-- The queue of R251. -/
def frameQueue (a : ActionSet) (f : Frame) : Nat :=
  match a.queue with
  | some q => q
  | none => if f.pr.vlanCount = 0 then 0 else f.pr.outerTci / 8192

/-- The TTL or hop limit of a frame with an IP header that ttl_op can reach. -/
def Frame.ttl (f : Frame) : Option Nat :=
  if f.l3ok && decide (f.pr.ipver ≠ 0) then
    some (octetAt f.data (f.pr.l3Offset + (if f.pr.ipver = 4 then 8 else 7)))
  else none

/-- The copies of a list (R260), ports first, then vports. -/
def listDrafts (c : Core) (x q : Nat) (f : Frame) (e : Edits) : List Draft :=
  let prune := bitOf x 63
  let ps := (setBits 128 (bits x 255 128)).filter (fun n =>
    !(prune && c.ownPort n && decide (f.ingress = .port (n % 64))))
  let vs := (setBits 64 (bits x 127 64)).filter (fun v => !(prune && decide (f.ingress = .vport v)))
  ps.map (fun n => ⟨.port n, q, f.data, e, false⟩) ++ vs.map (fun v => ⟨.vport v, q, f.data, e, false⟩)

/-- The mirror copy of R263: without edits, truncated to the session's bytes, its new FCS among them. Its ECN mark is decided
like that of any copy (R299). -/
def mirrorDraft (c : Core) (x : Nat) (f : Frame) : Draft :=
  let t := bits x 52 39
  { target := if bitOf x 63 then .vport (bits x 62 56) else .port (bits x 62 56)
    queue := bits x 55 53
    data := if t = 0 then f.data else f.data.take (t - 4)
    edits := ActionSet.empty.edits c 0 f none, mirror := true }

/-- The room of the recirculation path (R261): 256 frames, 32 KiB. -/
def Core.recircRoom (c : Core) (n : Nat) : Bool :=
  decide (c.recirc.length < 256) && decide ((c.recirc.map (fun r => r.data.length)).foldl (· + ·) 0 + n ≤ 32768)

/-- Step 7 of R654: the destinations. -/
def Core.destinations (c : Core) (env : ActEnv) (f : Frame) (steer : Option (Nat × Nat)) (entry q : Nat)
    (e : Edits) : Core × ActOut :=
  match steer with
  | none => (c, .drop Reg.action_drop_same_port)
  | some (1, n) => (c, .copies [⟨.port n, q, f.data, e, false⟩])
  | some (2, _) =>
    let act := (groupMembers entry).filter env.active
    (match act[f.pr.hash % act.length]? with
      | some n => (c, .copies [⟨.port n, q, f.data, e, false⟩])
      | none => (c, .drop Reg.action_drop_group_down))
  | some (3, v) => (c, .copies [⟨.vport v, q, f.data, e, false⟩])
  | some (4, _) =>
    let l := listDrafts c entry q f e
    if l.isEmpty then (c, .drop Reg.action_drop_empty_list)
    else (c.add Reg.replica_copies (l.length - 1), .copies l)
  | some (_, _) =>
    if c.recircRoom ((f.data.length : Int) + e.delta f.pr).toNat then (c.inc Reg.recirculations, .recirc e [])
    else (c, .drop Reg.action_drop_recirc_full)

/-- Steps 4 to 7 of R654 for a frame that the TTL check lets through. `fnx` is the FRER entry, `entry` the
list's or group's, `rw` the rewrite entry. -/
def Core.carryOut (c : Core) (env : ActEnv) (f : Frame) (a : ActionSet) (steer : Option (Nat × Nat))
    (entry fnx rw : Nat) : Core × ActOut :=
  let rt := a.rtag.getD (0, 0)
  let step4 : Core × Option Nat :=
    if rt.1 = 2 ∨ rt.1 = 3 then
      if fnMode fnx ≠ 2 then (c, some Reg.action_drop_invalid) else c.frerRecover rt.2 fnx f.pr
    else (c, none)
  match step4 with
  | (c4, some k) => (c4, .drop k)
  | (c4, none) =>
    let step5 : Core × PoliceOut :=
      match a.filter with
      | some s => c4.police s f.len f.epoch f.defects
      | none => (c4, .ok none)
    match step5 with
    | (c5, .error k) => (c5, .drop k)
    | (c5, .ok ipv) =>
      let q := ipv.getD (frameQueue a f)
      if rt.1 = 1 ∧ fnMode fnx ≠ 1 then (c5, .drop Reg.action_drop_invalid)
      else
        let d := c5.fn rt.2
        let c6 := if rt.1 = 1 then c5.setFn rt.2 { d with genSeq := (d.genSeq + 1) % 65536 } else c5
        let seq := if rt.1 = 1 then some d.genSeq else none
        c6.destinations env f steer entry q (a.edits c6 rw f seq)

/-- The action stage on a frame (R248, R654). -/
def Core.actionStage (c : Core) (env : ActEnv) (f : Frame) : Core × ActOut :=
  let r := f.results.foldl (resolveOne f) ⟨c.inc Reg.action_frames, ActionSet.empty, false, none⟩
  let a := r.set
  let steer := match a.steer with
    | some x => some x
    | none => stationSteer r.core f
  -- step 1: every entry that the actions name
  let rwIx := (a.tags.getD (0, 0, 0)).2.2
  let n1 := r.core.readNamed f (decide (rwIx ≠ 0)) wRewrite rwIx r.drop
  let n2 := n1.1.readNamed f (match steer with | some (2, _) => true | _ => false) wGroup (steer.getD (0, 0)).2 n1.2.2
  let n3 := n2.1.readNamed f (match steer with | some (4, _) => true | _ => false) wRepl (steer.getD (0, 0)).2 n2.2.2
  let n4 := n3.1.readNamed f a.rtag.isSome wFrer (a.rtag.getD (0, 0)).2 n3.2.2
  let n5 := n4.1.readNamed f a.mirror.isSome wMirror (a.mirror.getD 0) n4.2.2
  let c1 := n5.1
  match n5.2.2 with
  | some k => (c1, .drop k)
  | none =>
    let kind := (steer.getD (0, 0)).1
    if kind = 6 then (c1, .drop Reg.action_drop_explicit)
    else if kind = 5 ∧ f.second = true then (c1, .drop Reg.action_drop_recirc_limit)
    else
      let trapped := decide ((a.ttl.getD (0, 0)).1 = 1) && (match f.ttl with | some t => decide (t ≤ 1) | none => false)
      let tv := c1.rd Reg.ttl_trap_vport
      if trapped && decide (tv = 255) then (c1, .drop Reg.action_drop_ttl)
      else
        let out : Core × ActOut :=
          if trapped then
            let e := ({ a with ttl := none, rtag := none } : ActionSet).edits c1 n1.2.1 f none
            (c1.inc Reg.ttl_trapped, .copies [⟨.vport tv, frameQueue a f, f.data, e, false⟩])
          else c1.carryOut env f a steer (n2.2.1 + n3.2.1) n4.2.1 n1.2.1
        -- step 8
        if a.mirror.isNone then out
        else match out with
          | (c2, .copies l) => (c2.inc Reg.mirror_copies, .copies (l ++ [mirrorDraft c2 n5.2.1 f]))
          | (c2, .recirc e l) => (c2.inc Reg.mirror_copies, .recirc e (l ++ [mirrorDraft c2 n5.2.1 f]))
          | r => r

/-! ### Writes (R252 to R268) -/

/-- What R255 refuses in any write of an entry, by window; `own` says which device ports may be named, `member` which are
members of a group. -/
def actionFieldsOk (w x : Nat) (own member : Nat → Bool) : Bool :=
  if w = wAction then
    let k := aSteerKind x
    let i := aSteerId x
    decide (k ≠ 7) && decide (bits x 21 0 = 0) && decide (aTtlOp x ≠ 3) && decide (aPop x ≠ 3) && decide (aPush x ≠ 3) &&
    (decide (k ≠ 1) || (own i && !member i)) && (decide (aPush x = 0) || decide (aRewrite x ≠ 0)) &&
    (!bitOf x 106 || (decide (bits x 105 94 ≠ 0) && decide (bits x 105 94 ≠ 4095)))
  else if w = wRewrite then decide (bits x 57 0 = 0)
  else if w = wRepl then decide (bits x 62 0 = 0) && (setBits 128 (bits x 255 128)).all own
  else if w = wGroup then
    let n := bits x 63 59
    decide (bits x 58 0 = 0) && decide (1 ≤ n) && decide (n ≤ 16) && (groupMembers x).all own
  else if w = wFrer then decide (fnMode x ≠ 3) && decide (bits x 68 64 = 0)
  else decide (bits x 38 0 = 0) && (bitOf x 63 || own (bits x 62 56))

/-- The ranges of the layouts, which a write with clear 0 must keep (R49, R252, R255, R257, R262, R268). -/
def actionEntryOk (w e x : Nat) : Bool :=
  if w = wAction then
    let k := aSteerKind x
    let i := aSteerId x
    (decide (k ≠ 1) || decide (i < 128)) && (decide (k ≠ 2) || decide (i < 256)) && (decide (k ≠ 3) || decide (i < 64)) &&
    ((decide (k ≠ 5) && decide (k ≠ 6)) || decide (i = 0)) && (decide (aTtlOp x ≠ 2) || decide (bits x 77 70 ≠ 0))
  else if w = wRewrite then decide (e ≠ 0)
  else if w = wRepl then true
  else if w = wGroup then (groupMembers x).all (fun p => decide (p < 128))
  else if w = wFrer then decide (1 ≤ fnHistory x) && decide (fnHistory x ≤ 64) && decide (1 ≤ fnResetMs x)
  else
    let t := bits x 52 39
    (decide (t = 0) || (decide (64 ≤ t) && decide (t ≤ 9216))) && (!bitOf x 63 || decide (bits x 62 56 < 64))

/-- The ports an entry may name (R255): any in Joined mode, the side's own in Split mode. -/
def Core.mayName (c : Core) (joined : Bool) (n : Nat) : Bool := joined || c.ownPort n

/-- ACTION_ENTRY_WRITE (R255) and FRER_STATE_RESET (R268); `member` says which device ports are members of a 100 Gb/s group.
Dynamic FRER fields are ignored on write. -/
def Core.writeAction (c : Core) (joined : Bool) (member : Nat → Bool) (w e rec : Nat) : Core × Reason :=
  let x := recEntry rec
  let resv := if w = wFrer then bits rec 58 0 else bits rec 59 0
  if resv ≠ 0 ∨ actionFieldsOk w x (c.mayName joined) member = false then (c, .badValue)
  else
    let keep (v : Nat) : Nat := if w = wFrer then putBits (putBits v 101 64 0) 63 0 0 else v
    let r := c.writeRec w e rec (actionEntryOk w e x) keep
    if r.2 = .ok ∧ w = wFrer ∧ bitOf rec 59 = true then (r.1.setFn e FrerDyn.zero, .ok) else r

/-- A FRER record as a read gives it: the dynamic fields live. -/
def Core.frerRecord (c : Core) (e : Nat) : Nat :=
  let d := c.fn e
  let r := c.tab wFrer e
  let x := putBits (putBits (recEntry r) 101 69 (d.genSeq * 2 ^ 17 + d.recovSeq * 2 + b2n d.valid)) 63 0 d.history
  x * 2 ^ 64 + r % 2 ^ 64

end Sys2Proof.Machine
end

