-- ==== Sys2Proof/Machine/Epochs.lean ====
section
/-! DEFINITION. Epochs.lean: epochs, their flips, copies and synchronisation, and the scrubbing of the
action stage (R165, R166, R207, R244, R273 to R281, R284, R576). -/

namespace Sys2Proof.Machine

/-- The object that holds an epoch's in-flight count (R275, R282). -/
def inflightKey (e : Nat) : Nat := if e = 0 then Reg.inflight_amber else Reg.inflight_jade

/-- A frame enters its epoch (R275). -/
def Core.enterEpoch (c : Core) (e : Nat) : Core := c.wr (inflightKey e) (c.rd (inflightKey e) + 1)

/-- A frame leaves its epoch. -/
def Core.leaveEpoch (c : Core) (e : Nat) : Core := c.wr (inflightKey e) (c.rd (inflightKey e) - 1)

/-- The flip takes effect (R278). -/
def Core.flipEffect (c : Core) (e : Nat) : Core :=
  { ((c.wr Reg.epoch_live e).wr Reg.epoch_flip 2) with flipEff := c.now }

/-- The in-flight count of the epoch that a flip drains. -/
def Core.draining (c : Core) : Nat := c.rd (inflightKey (1 - c.rd Reg.epoch_live))

/-- FLIP_COMPLETE (R278): `others` is the other side's count in Joined mode (R27). -/
def Core.flipComplete (c : Core) (others : Nat) : Core :=
  if 2 ≤ c.rd Reg.epoch_flip ∧ c.draining + others = 0 then
    let c1 := ((c.wr Reg.epoch_flip 0).wr Reg.flip_duration_ns (ceilDiv (c.now - c.flipEff) 3 % 2 ^ 32)).inc Reg.epoch_flips
    if c1.flag Reg.flip_notify then c1.report 264 1 0 else c1
  else c

/-- A scheduled flip takes effect; in Den it completes in the same clock, since no frame carries a stamp (R547). -/
def Core.flipScheduled (c : Core) : Core :=
  let f := c.flipEffect c.flipTarget
  if c.inDen then f.flipComplete 0 else f

/-- Whether one of the copies of R166 runs. -/
def Core.copying (c : Core) : Bool :=
  decide (c.rd Reg.shape_copy = 1) || decide (c.rd Reg.profile_copy = 1) || decide (c.rd Reg.vid_map_copy = 1)

/-- A write to epoch_flip (R277), and before the side's release (R576). -/
def Core.epochFlip (c : Core) (v : Nat) : Core × Reason :=
  if v = 2 then
    if c.rd Reg.epoch_flip = 1 then (c.wr Reg.epoch_flip 0, .ok) else (c, .wrongState)
  else if 2 < v then (c, .badValue)
  else if v = c.rd Reg.epoch_live then (c, .wrongState)
  else if c.rd Reg.epoch_flip ≠ 0 ∨ c.copying = true ∨ c.syncing = true then (c, .busy)
  else if c.rd Reg.flip_time = 0 ∨ (c.released = true ∧ c.rd Reg.flip_time ≤ c.sideTime) then
    if c.released then ({ c.flipEffect v with flipTarget := v }, .ok)
    else ((c.wr Reg.epoch_live v).inc Reg.epoch_flips, .ok)
  else ({ (c.wr Reg.epoch_flip 1) with flipTarget := v, flipAt := c.rd Reg.flip_time }, .ok)

/-- Above every time of flip_time: a flip that follows another side's comes due by no time of its own. -/
abbrev flipFollows : Nat := 2 ^ 64

/-- Side B in Joined mode after side A has taken a write of epoch_flip: it flips, waits or cancels with it (R27, R281). -/
def Core.followFlip (a c : Core) : Core :=
  if a.rd Reg.epoch_flip = 1 then { (c.wr Reg.epoch_flip 1) with flipTarget := a.flipTarget, flipAt := flipFollows }
  else if a.rd Reg.epoch_live = c.rd Reg.epoch_live then c.wr Reg.epoch_flip (a.rd Reg.epoch_flip)
  else if c.released then { c.flipEffect (a.rd Reg.epoch_live) with flipTarget := a.rd Reg.epoch_live }
  else (c.wr Reg.epoch_live (a.rd Reg.epoch_live)).inc Reg.epoch_flips

/-- A scheduled flip that follows takes effect. -/
def Core.flipWith (c : Core) : Core := if c.rd Reg.epoch_flip = 1 then c.flipScheduled else c

/-- A scheduled flip whose time side time has reached takes effect. -/
def Core.flipDue (c : Core) : Core :=
  if c.rd Reg.epoch_flip = 1 ∧ c.released = true ∧ c.flipAt * nsUnit ≤ c.sideUnits then c.flipScheduled else c

/-- FLIP_TIME_REACHED (R277): side time runs to flip_time and the flip takes effect. -/
def Core.flipTimeReached (c : Core) : Core :=
  if c.rd Reg.epoch_flip = 1 then (c.advance (c.ticksToUnits (c.flipAt * nsUnit))).flipDue else c

/-- FLIP_OVERRUN (R279): 2 µs after taking effect the flip has not completed. -/
def Core.flipOverrun (c : Core) (others : Nat) : Core :=
  if c.rd Reg.epoch_flip = 2 ∧ c.draining + others ≠ 0 then
    ((c.advanceTo (c.flipEff + usTicks 2)).wr Reg.epoch_flip 3).report 264 2 0
  else c

/-! ### Copies (R166, R207, R244) -/

/-- A write to shape_copy, profile_copy or vid_map_copy, `k` its object: `v` is the target epoch. A refused
write reads back as 3, unless a copy runs. -/
def Core.startCopy (c : Core) (k v : Nat) : Core × Reason :=
  if 1 < v then (c, .badValue)
  else if c.rd k = 1 then (c, .busy)
  else if c.syncing then (c.wr k 3, .busy)
  else if c.epochInUse v then (c.wr k 3, .epochInUse)
  else ({ (c.wr k 1) with copyTo := SMap.put c.copyTo k 0 v }, .ok)

/-- The entries `0 … n − 1` of a banked window copied from the other epoch into epoch `e`. -/
def Core.copyBank (c : Core) (w n e : Nat) : Core :=
  let src := c.tabRange w (bankEntry (1 - e) 0) (bankEntry (1 - e) n)
  let cleared := (c.tabRange w (bankEntry e 0) (bankEntry e n)).foldl (fun a x => a.setTab w x.1 0) c
  src.foldl (fun a x => a.setTab w (bankEntry e (x.1 % 2 ^ 28)) x.2) cleared

/-- The marks of a banked window copied likewise. -/
def Core.copyMarks (c : Core) (w n e : Nat) : Core :=
  (List.range n).foldl (fun a i => a.setMark w (bankEntry e i) (a.mark w (bankEntry (1 - e) i))) c

/-- The parser's scalars and 256 shapes copied into epoch `e` (R165). -/
def Core.copyShapes (c : Core) (e : Nat) : Core :=
  let c1 := [Reg.tpid_extra_0, Reg.tpid_extra_1, Reg.rtag_ethertype, Reg.hash_seed].foldl
    (fun a r => a.wr (r e) (a.rd (r (1 - e)))) c
  (c1.copyBank wShape 256 e).copyMarks wShape 256 e

/-- SHAPE_COPY_DONE, PROFILE_COPY_DONE, VID_MAP_COPY_DONE: `k` the object; what it copies, into its target. -/
def Core.copyDone (c : Core) (k : Nat) (f : Core → Nat → Core) : Core :=
  if c.rd k = 1 ∧ c.syncing = false then (f c (SMap.getD c.copyTo k 0)).wr k 2 else c

/-! ### epoch_sync (R280) -/

/-- A write to epoch_sync. A refused write reads back as 3, unless a sync runs. -/
def Core.epochSync (c : Core) (v : Nat) : Core × Reason :=
  if v ≠ 1 then (c, .badValue)
  else if c.syncing then (c, .busy)
  else if c.rd Reg.epoch_flip ≠ 0 then (c.wr Reg.epoch_sync 3, .epochInUse)
  else if c.copying then (c.wr Reg.epoch_sync 3, .busy)
  else ((((c.wr Reg.epoch_sync 1).wr Reg.shape_copy 1).wr Reg.profile_copy 1).wr Reg.vid_map_copy 1, .ok)

/-- The validity bits of a pair: both equal to the live one. -/
def syncBits (live amber jade : Bool) : Bool := if live then jade else amber

/-- Every entry of a window changed by a function. -/
def Core.mapTab (c : Core) (w hi : Nat) (f : Nat → Nat → Nat) : Core :=
  (c.tabRange w 0 hi).foldl (fun a x => a.setTab w x.1 (f x.1 x.2)) c

/-- A record with a control word whose idle bit becomes the live bit. -/
def syncRec (live : Bool) (r : Nat) : Nat :=
  let b := b2n (syncBits live (bitOf r 61) (bitOf r 62))
  putBits r 62 61 (3 * b)

/-- EPOCH_SYNC_DONE (R280). -/
def Core.epochSyncDone (c : Core) : Core :=
  if !c.syncing then c
  else
    let live := decide (c.rd Reg.epoch_live = 1)
    let e := 1 - c.rd Reg.epoch_live
    let c1 := ((c.copyShapes e).copyBank wProfile 256 e).copyBank wVidMap 4096 e
    let c2 := [(wAction, 131072), (wRewrite, 16384), (wRepl, 8192), (wGroup, 256), (wFrer, 1024), (wMirror, 16),
      (wFilter, 4096), (wMeter, 2048)].foldl (fun a w => a.mapTab w.1 w.2 (fun _ r => syncRec live r)) c1
    let c3 := c2.mapTab wSearch 65536 (fun s r =>
      let w := c2.bankWidth (slotBank s)
      let d := descOf w r
      let b := b2n (syncBits live (dValid d 0) (dValid d 1))
      mkEntry w (putBits d 57 56 (3 * b)) (keyValOf w r) (keyMaskOf w r))
    let c4 := c3.mapTab wStation stationSlots (fun _ x =>
      if eStatic x then putBits x 42 41 (3 * b2n (syncBits live (eAmber x) (eJade x))) else x)
    (((c4.wr Reg.epoch_sync 2).wr Reg.shape_copy 2).wr Reg.profile_copy 2).wr Reg.vid_map_copy 2

/-! ### Scrubbing of the action stage (R284) -/

/-- The entries of a window of R253. -/
def actionEntries (w : Nat) : Nat :=
  if w = wAction then 131072 else if w = wRewrite then 16384 else if w = wRepl then 8192 else if w = wGroup then 256
  else if w = wFrer ∨ w = wFrerCnt then 1024 else if w = wMirror then 16 else 0

/-- ACTION_SCRUB: a finding in a word of an entry of a window of R253. -/
def Core.actionScrub (c : Core) (w e word : Nat) (unc : Bool) : Core :=
  if e < actionEntries w then c.actionEcc w e word unc else c

end Sys2Proof.Machine
end

