-- ==== Sys2Proof/Machine/PortBase.lean ====
section
/-! DEFINITION. PortBase.lean: what has arrived of a frame, and the MAC Control frames a port sends
(R106, R121, R141). -/

namespace Sys2Proof.Machine

/-! ### Receive buffer (R106, R141) -/

/-- The octets of a frame in reception that have arrived; all of an ended frame. -/
def Core.arrived (c : Core) (f : RxFrame) : Nat :=
  if f.ended then f.octets.length
  else min f.octets.length ((c.now - f.start) * 1000 / f.octet)

/-- Whether a frame is still being received. -/
def Core.rxOpen (c : Core) (no : Nat) : Bool := c.rx.any (fun f => decide (f.no = no) && !f.ended)

/-- A frame of the receive list changed. -/
def Core.modRx (c : Core) (no : Nat) (f : RxFrame → RxFrame) : Core :=
  { c with rx := c.rx.map (fun g => if g.no = no then f g else g) }

/-- The side with the configuration that a frame started under, for reads of its port's objects (R97, R135). -/
def Core.under (c : Core) (f : RxFrame) : Core := { c with regs := f.conf }

/-- The objects of port `p` that a frame keeps from its start: its configuration (R98) and its wake detector (R133). -/
def Core.portConf (c : Core) (p : Nat) : SMap Slot :=
  c.regs.filter (fun x => decide (x.1 / 256 = 0x100 + p) || decide (x.1 / 256 = 0x1C0 + p))

/-- A drop-reason counter of a frame. One that the parser accepted before its last octet keeps it until then: the frame may be
found errored, which is then its only reason (R36, R108, R109). -/
def Core.countDrop (c : Core) (no k : Nat) : Core :=
  if c.rxOpen no then c.modRx no (fun f => { f with lateDrops := f.lateDrops ++ [k] }) else c.inc k

/-! ### MAC Control frames (R121) -/

/-- The side's management MAC address (R75). -/
def Core.mgmtMac (c : Core) : Nat := c.rd Reg.mgmt_mac

/-- A MAC Control frame with its FCS: destination, source, 0x8808, opcode and parameters, padded. -/
def macControl (src opcode : Nat) (params : Octets) : Octets :=
  let body := padTo 60 (toBe 6 0x0180C2000001 ++ toBe 6 src ++ toBe 2 0x8808 ++ toBe 2 opcode ++ params)
  body ++ toLe 4 (crc32 body)

/-- The pause frame of state 8, or the PFC frame of a priority. -/
def pauseFrame (src st quanta : Nat) : Octets :=
  if st = 8 then macControl src 0x0001 (toBe 2 quanta)
  else macControl src 0x0101 (toBe 2 (2 ^ st) ++
    ((List.range 8).map (fun q => toBe 2 (if q = st then quanta else 0))).flatten)

/-- The earliest start that R118 allows, in thirds of a ps: at or after the present clock and the end of the last
frame's wire time, on the grid of the last frame's first preamble octet. -/
def Core.earliest (c : Core) (p : Nat) : Nat :=
  let x := c.port p
  let t := max (c.now * 1000) x.txEnd
  if x.txEnd = 0 then t
  else
    let g := max 1 (c.startAlign p * octetTime (c.mbps p))
    x.txStart + ceilDiv (t - x.txStart) g * g

/-- The octet times by which an alignment marker stretches a frame that a port sends from `t0` to `t1`: under Clause 108 the RS-FEC
sublayer inserts one periodically, and a frame that spans it is stretched by its time, up to the allowance of R119. A marker that
falls into idle, or whose time the idle after a frame holds, costs nothing, so the mean rate stays. The period, the phase and the
length are free values, log entry 61. -/
def Core.marker (c : Core) (p t0 t1 : Nat) : Nat :=
  let n (t : Nat) : Nat := (t + Config.fecPhase c.num p) / (Config.fecPeriod + 1)
  if c.fecAllowance p = 0 ∨ n t0 = n t1 then 0 else Config.fecMarker % (c.fecAllowance p + 1)

/-- Octet times from a frame's first preamble octet to the next start, `m` of them a marker's (R118). -/
def spacing (len a m : Nat) : Nat := ceilDiv (8 + len + m + 12) (max 1 a) * max 1 a

/-- A wire time that the shapers still have to count when the next frame starts: they count every frame at the bound of
R118, which a frame under the FEC allowance may not have taken. -/
def Core.chargeRest (c : Core) (p t0 : Nat) : Core :=
  let x := c.port p
  let k := shaperKey false p x.txQueue
  match SMap.find? c.shapers k with
  | none => c
  | some s =>
    if t0 < x.txWire then
      { c with shapers := SMap.insert c.shapers k { s with credit := s.credit - (c.shaperRate false p * (x.txWire - t0) : Nat) } }
    else c

/-- The port's shapers brought up to the start of a frame. -/
def Core.shapersToStart (c : Core) (p t0 : Nat) : Core := (c.touchShapersTo false p t0).chargeRest p t0

/-- A pause or PFC frame put on the wire of a port whose link is up, between two data frames (R104, R121). -/
def Core.emitPause (c : Core) (p st quanta : Nat) : Core :=
  if c.linkUp p then
    let o := pauseFrame c.mgmtMac st quanta
    let t0 := c.earliest p
    let oct := octetTime (c.mbps p)
    (((c.shapersToStart p t0).modPort p (fun y => { y with
      txStart := t0, txEnd := t0 + spacing o.length (c.startAlign p) (c.marker p t0 (t0 + (8 + o.length) * oct)) * oct, txWire := t0 })).emit
      (.control p o)).inc (if st = 8 then Reg.tx_pause_frames p else Reg.tx_pfc_frames p)
  else c

/-- A pause or PFC frame sent by a port (R121), an XOFF or the quanta 0 that end it: never inside a data frame, so it waits for the end
of one in transmission, in place of one of its state that waits. Its quanta are those of its start (R97). -/
def Core.sendPause (c : Core) (p st : Nat) (xoff : Bool) : Core :=
  if c.linkUp p && (c.port p).tx.isSome then c.modPort p (fun y => { y with ctl := SMap.insert y.ctl st (b2n xoff) })
  else c.emitPause p st (if xoff then c.rd (Reg.tx_pause_quanta p) else 0)

/-- The MAC has ended a data frame: the control frames that waited for it are sent. -/
def Core.macFree (c : Core) (p : Nat) : Core :=
  let w := (c.port p).ctl
  w.foldl (fun (a : Core) x => a.emitPause p x.1 (if x.2 = 0 then 0 else a.rd (Reg.tx_pause_quanta p))) (c.modPort p (fun y => { y with tx := none, txData := [], ctl := [] }))

end Sys2Proof.Machine
end

