-- ==== Sys2Proof/Machine/Macsec.lean ====
section
/-! DEFINITION. Macsec.lean: MACsec on a port's receive and transmit paths (R112, R113, R120, R126 to R131).
The frame format and the processing are those of IEEE 802.1AE-2018, which R126 names; PRESUMED, log entry 3. -/

namespace Sys2Proof.Machine

/-- Whether a cipher suite uses extended packet numbers. -/
def suiteXpn (s : Nat) : Bool := decide (2 ≤ s)

/-- The key of an SA under a suite: the first 16 octets for a 128-bit suite (R128). -/
def Core.saKey (c : Core) (p a suite : Nat) : Octets :=
  (c.rdOctets (Reg.sa_key p a) 32).take (if suite % 2 = 0 then 16 else 32)

/-- The IV of a packet: SCI and PN, or the salted SSCI and extended PN. -/
def Core.saIv (c : Core) (p a suite sci pn : Nat) : Nat :=
  if suiteXpn suite then
    (c.rd (Reg.sa_ssci p a) * 2 ^ 64 + pn) ^^^ beNat (c.rdOctets (Reg.sa_salt p a) 12)
  else sci * 2 ^ 32 + pn % 2 ^ 32

/-- The octets of the confidentiality offset. -/
def confOffset (v : Nat) : Nat := if v = 1 then 30 else if v = 2 then 50 else 0

/-- The PN limit of a suite (R131). -/
def pnLimit (suite : Nat) : Nat := if suiteXpn suite then 2 ^ 64 - 1 else 2 ^ 32 - 1

/-- A transmit SA marked exhausted (R131). -/
def Core.saExhausted (c : Core) (p a : Nat) : Bool :=
  decide (pnLimit (c.rd (Reg.sc_cipher p 0)) ≤ c.rd (Reg.sa_next_pn p a))

/-- sa_state (R105): bit 2a + 1 exhausted, bit 2a in use. -/
def Core.saState (c : Core) (p : Nat) : Nat :=
  (List.range 8).foldl (fun v a =>
    let used := c.flag (Reg.sa_enable p a) && (decide (2 ≤ a) || decide (c.rd (Reg.tx_active_sa p) = a))
    v + 4 ^ a * (b2n used + 2 * b2n (decide (a < 2) && c.flag (Reg.sa_enable p a) && c.saExhausted p a))) 0

/-- The padded frame protected by the active SA (R117 step 3, R130, R131); none when the SA is not installed or
exhausted. -/
def Core.macsecTx (c : Core) (p : Nat) (data : Octets) : Core × Option Octets :=
  let a := c.rd (Reg.tx_active_sa p)
  let suite := c.rd (Reg.sc_cipher p 0)
  let fl := c.rd (Reg.sc_flags p 0)
  if !c.flag (Reg.sa_enable p a) || c.saExhausted p a then (c, none)
  else
    let pn := c.rd (Reg.sa_next_pn p a)
    let sci := c.rd (Reg.sc_sci p 0)
    let withSci := bitOf fl 0
    let tci := b2n (bitOf fl 1) * 64 + b2n withSci * 32 + b2n (bitOf fl 2) * 16 + 12 + c.rd (Reg.sa_an p a) % 4
    let user := data.drop 12
    let sl := if user.length < 48 then user.length else 0
    let head := data.take 12 ++ toBe 2 0x88E5 ++ toBe 1 tci ++ toBe 1 sl ++ toBe 4 (pn % 2 ^ 32) ++
      (if withSci then toBe 8 sci else [])
    let off := min (confOffset (c.rd (Reg.confidentiality_offset p))) user.length
    let r := gcmSeal (c.saKey p a suite) (c.saIv p a suite sci pn) (head ++ user.take off) (user.drop off)
    let c1 := c.wr (Reg.sa_next_pn p a) (pn + 1)
    let c2 := if !suiteXpn suite && decide (0xC0000000 < pn + 1) && (SMap.find? (c1.port p).pnWarned a).isNone then
        (c1.modPort p (fun x => { x with pnWarned := SMap.insert x.pnWarned a 1 })).reportRate (4 * p + 3) 3 p
      else c1
    (c2, some (head ++ user.take off ++ r.1 ++ r.2))

/-- What the receive path makes of a frame (R112). -/
inductive MacsecRx where
  | plain (data : Octets) (protected' check : Bool)
  | drop

/-- A SecTAG as received: TCI and AN, SL, PN, the SCI it carries or implies (IEEE 802.1AE 9.5), and where the user data begins. -/
structure SecTag where
  tci : Nat
  an : Nat
  sl : Nat
  pn : Nat
  sci : Option Nat
  len : Nat

/-- The SecTAG of a frame whose EtherType is 0x88E5. With ES set and no SCI the SCI is the source address and port identifier
1, or 0 with SCB. -/
def secTag (d : Octets) : SecTag :=
  let t := octetAt d 14
  let sc := bitOf t 5
  let sa := beNat (padTo 6 (slice d 6 6))
  ⟨t, t % 4, octetAt d 15, be32 d 16,
   if sc then some (be32 d 20 * 2 ^ 32 + be32 d 24)
   else if bitOf t 6 then some (sa * 2 ^ 16 + b2n (!bitOf t 4)) else none,
   if sc then 16 else 8⟩

/-- Whether a SecTAG is valid (IEEE 802.1AE-2018 9.12), `n` octets after it: version 0; no SCI with ES or SCB; the length 0 to
47 with its reserved bits 0; the octets it claims, or 48, with the ICV there. -/
def SecTag.valid (t : SecTag) (n : Nat) : Bool :=
  !bitOf t.tci 7 && !(bitOf t.tci 5 && (bitOf t.tci 6 || bitOf t.tci 4)) && decide (t.sl < 48) &&
  decide ((if t.sl = 0 then 48 else t.sl) + 16 ≤ n)

/-- The receive channel of a tag: the channel with its SCI, or channel 1 when the tag carries and implies none. -/
def Core.rxChannel (c : Core) (p : Nat) (t : SecTag) : Option Nat :=
  match t.sci with
  | some s => [1, 2, 3].find? (fun k => decide (c.rd (Reg.sc_sci p k) = s))
  | none => some 1

/-- The installed receive SA slot of a channel with an association number. -/
def Core.rxSlot (c : Core) (p k an : Nat) : Option Nat :=
  [2 * k, 2 * k + 1].find? (fun a => c.flag (Reg.sa_enable p a) && decide (c.rd (Reg.sa_an p a) = an))

/-- The packet number of a tag under XPN, recovered from the lowest acceptable PN. -/
def xpnRecover (lowest pn32 : Nat) : Nat :=
  let hi := lowest / 2 ^ 32
  if 2 ^ 31 ≤ lowest % 2 ^ 32 ∧ pn32 < 2 ^ 31 then (hi + 1) * 2 ^ 32 + pn32 else hi * 2 ^ 32 + pn32

/-- What the SA of a protected frame makes of it: the SA slot, its channel, the packet number, the plain octets and whether
the ICV is good. None when the tag is not valid or names no installed SA; PN 0 is valid only with extended numbers. -/
structure SecOpen where
  slot : Nat
  chan : Nat
  pn : Nat
  out : Octets
  good : Bool

/-- The SA lookup and the decryption of a frame with a SecTAG. -/
def Core.secOpen (c : Core) (p : Nat) (d : Octets) : Option SecOpen :=
  let t := secTag d
  let body := d.drop (12 + t.len)
  if !t.valid body.length then none
  else
    match (c.rxChannel p t).bind (fun k => (c.rxSlot p k t.an).map (fun a => (k, a))) with
    | none => none
    | some (k, a) =>
      let suite := c.rd (Reg.sc_cipher p k)
      if !suiteXpn suite && decide (t.pn = 0) then none
      else
        let user := body.take (if t.sl = 0 then body.length - 16 else t.sl)
        let pn := if suiteXpn suite then xpnRecover (c.rd (Reg.sa_next_pn p a)) t.pn else t.pn
        let sci := t.sci.getD (c.rd (Reg.sc_sci p k))
        let off := if bitOf t.tci 3 then min (confOffset (c.rd (Reg.confidentiality_offset p))) user.length else user.length
        let r := gcmOpen (c.saKey p a suite) (c.saIv p a suite sci pn) (d.take (12 + t.len) ++ user.take off)
          (user.drop off) (slice body user.length 16)
        some ⟨a, k, pn, d.take 12 ++ user.take off ++ r.1, r.2⟩

/-- The objects of an SA slot are those that a frame started under. -/
def Core.sameSa (c w : Core) (p a : Nat) : Bool :=
  (List.range 16).all (fun j => decide (c.rd (Reg.sa_enable p a / 16 * 16 + j) = w.rd (Reg.sa_enable p a / 16 * 16 + j)))

/-- Reception under MACsec (R112, R113) of a frame without its FCS on a port with macsec_enable; `w` reads the port's objects as
they stood at the frame's start, the packet numbers among them: the frame finishes under its old SA, and a slot that software has
rewritten since keeps what was written (R130). A frame with no SecTAG is dropped under Strict and forwarded
otherwise. Under Disabled a frame that is not valid still counts (R138). -/
def Core.macsecRx (c w : Core) (p : Nat) (d : Octets) : Core × MacsecRx :=
  let mode := w.rd (Reg.validate_frames p)
  let dropIt (c0 : Core) : Core × MacsecRx := ((c0.inc (Reg.rx_drop_macsec p)).reportRate (4 * p + 3) 2 p, .drop)
  if be16 d 12 ≠ 0x88E5 then (if mode = 2 then dropIt c else (c, .plain d false false))
  else
    let t := secTag d
    let body := d.drop (12 + t.len)
    let sl := t.sl % 64
    let raw := d.take 12 ++ body.take (if sl = 0 then body.length - 16 else min sl (body.length - 16))
    let found := w.secOpen p d
    let valid := match found with | some r => r.good | none => false
    let c1 := if valid then c else c.inc (Reg.rx_macsec_not_valid p)
    if mode = 0 then (c1, .plain raw true false)
    else match found with
      | none => if mode = 2 then dropIt c1 else (c1.reportRate (4 * p + 3) 2 p, .plain raw true true)
      | some r =>
        let low := w.rd (Reg.sa_next_pn p r.slot)
        let late := decide (r.pn < low)
        let c2 := if late then c1.inc (Reg.rx_macsec_late p) else c1
        if r.good && !late then
          (if c2.sameSa w p r.slot then c2.wr (Reg.sa_next_pn p r.slot) (max low (r.pn + 1 - w.rd (Reg.sc_replay_window p r.chan))) else c2,
            .plain r.out true false)
        else if mode = 2 then dropIt c2
        else (c2.reportRate (4 * p + 3) 2 p, .plain r.out true true)

end Sys2Proof.Machine
end

