-- ==== Sys2Proof/Machine/Fabric.lean ====
section
/-! DEFINITION. Fabric.lean: admission, budgets and XOFF (R297 to R304), the fabric of groups, middles and
slices (R288 to R296), drops, fences and degraded operation (R309 to R312), and the crossing (R313 to R315). -/

namespace Sys2Proof.Machine

/-! ### Pause states (R122 to R125) -/

/-- Whether a pause state of a port holds now; state 8 is 802.3 pause. -/
def Core.pauseHolds (c : Core) (p st : Nat) : Bool :=
  match SMap.find? (c.port p).pauseEnd st with
  | some t => decide (c.now < t)
  | none => false

/-- Whether a frame of a pause state waits to be sent (R124). -/
def Core.pauseWaits (c : Core) (p st : Nat) : Bool :=
  (List.range 8).any (fun q => (decide (st = 8) || decide (st = q)) && !(SMap.getD c.queues (8 * p + q) []).isEmpty)

/-- The end of a pause state: its watchdog returns to 0 (R124). -/
def Core.endPause (c : Core) (p st : Nat) : Core :=
  (c.touchShapers false p).modPort p (fun x => { x with pauseEnd := SMap.erase x.pauseEnd st, wdCount := SMap.erase x.wdCount st, wdSince := SMap.erase x.wdSince st })

/-- The watchdog of a pause state brought up to date (R124): the time counted so far is added, a state whose
pause time has run out ends, and counting goes on while a frame waits. -/
def Core.touchPause (c : Core) (p st : Nat) : Core :=
  match SMap.find? (c.port p).pauseEnd st with
  | none => c
  | some t =>
    if t ≤ c.now then c.endPause p st
    else
      let since := (SMap.find? (c.port p).wdSince st).getD c.now
      let n := SMap.getD (c.port p).wdCount st 0 + (c.now - since)
      c.modPort p (fun x => { x with
        wdCount := SMap.put x.wdCount st 0 n
        wdSince := if c.pauseWaits p st then SMap.insert x.wdSince st c.now else SMap.erase x.wdSince st })

/-- Every watchdog of a port brought up to date, around a change of its queues. -/
def Core.touchPort (c : Core) (p : Nat) : Core := (List.range 9).foldl (fun a st => a.touchPause p st) c

/-! ### Copies and queues -/

/-- The key of a target's queue. -/
def queueKey (t : Target) (q : Nat) : Nat := (t.kind * 64 + t.num) * 8 + q

/-- The key of a stream (R293). -/
def streamKey (g : Nat) (t : Target) (q : Nat) : Nat := g * 2048 + queueKey t q

/-- A copy by its number. -/
def Core.copy (c : Core) (id : Nat) : Option Copy := c.copies.find? (fun x => decide (x.id = id))

/-- A copy changed. -/
def Core.modCopy (c : Core) (id : Nat) (f : Copy → Copy) : Core :=
  { c with copies := c.copies.map (fun x => if x.id = id then f x else x) }

/-- A copy that has ended, taken out of the side. -/
def Core.forgetCopy (c : Core) (id : Nat) : Core :=
  { c with copies := c.copies.filter (fun x => decide (x.id ≠ id)) }

/-- The copies linked to a queue, head first. -/
def Core.queue (c : Core) (t : Target) (q : Nat) : List Nat := SMap.getD c.queues (queueKey t q) []

/-- A queue set; a port's pause watchdogs see it empty or fill (R124). -/
def Core.setQueue (c : Core) (t : Target) (q : Nat) (l : List Nat) : Core :=
  match t with
  | .port p =>
    let c1 := (c.touchPort p).touchShapers false p
    ({ c1 with queues := SMap.put c1.queues (queueKey t q) [] l } : Core).touchPort p
  | .vport v => { (c.touchShapers true v) with queues := SMap.put c.queues (queueKey t q) [] l }
  | .learn => { c with queues := SMap.put c.queues (queueKey t q) [] l }

/-- The head of a queue. -/
def Core.headCopy (c : Core) (t : Target) (q : Nat) : Option Copy :=
  match c.queue t q with
  | [] => none
  | id :: _ => c.copy id

/-- Cells of a copy's frame (R285). -/
def Copy.total (x : Copy) : Nat := cellsOf x.data.length

/-- Cells charged to the copy's budget: reserved and written (R297). -/
def Copy.charged (x : Copy) : Nat := x.reserved + x.written

/-- The sum of a quantity over the copies a predicate selects. -/
def Core.sumCopies (c : Core) (p : Copy → Bool) (f : Copy → Nat) : Nat :=
  c.copies.foldl (fun a x => if p x then a + f x else a) 0

/-- queue_cells (R298): every cell charged to a queue, in any budget. -/
def Core.queueCells (c : Core) (t : Target) (q : Nat) : Nat :=
  c.sumCopies (fun x => decide (x.target = t) && decide (x.queue = q)) Copy.charged

/-- Cells charged to a queue in one budget. -/
def Core.queueUsed (c : Core) (t : Target) (q : Nat) (b : Budget) : Nat :=
  c.sumCopies (fun x => decide (x.target = t) && decide (x.queue = q) && decide (x.budget = b)) Copy.charged

/-- Cells charged to a budget of the side. -/
def Core.budgetUsed (c : Core) (b : Budget) : Nat := c.sumCopies (fun x => decide (x.budget = b)) Copy.charged

/-- vport_cells (R461). -/
def Core.vportCells (c : Core) (v : Nat) : Nat := c.sumCopies (fun x => decide (x.target = .vport v)) Copy.charged

/-- over_share of vport `v` (R461, R475). -/
def Core.overShare (c : Core) (v : Nat) : Bool := decide (c.rd (Reg.share_cells v) < c.vportCells v)

/-- over_share entered since `old`, and reported (R475). -/
def Core.enteredShare (c old : Core) (v : Nat) : Core := if c.overShare v && !old.overShare v then c.reportRate 432 4 v else c

/-- Copies of lossless frames of a port and state charged to shared or headroom (R300). -/
def Core.losslessCells (c : Core) (p st : Nat) : Nat :=
  c.sumCopies (fun x => x.lossless && decide (x.ingress = .port p) && decide (x.prio = st) &&
    (decide (x.budget = .shared) || decide (x.budget = .headroom))) Copy.charged

/-- Cells of a port and state charged to headroom. -/
def Core.headroomUsed (c : Core) (p st : Nat) : Nat :=
  c.sumCopies (fun x => decide (x.budget = .headroom) && decide (x.ingress = .port p) && decide (x.prio = st)) Copy.charged

/-- ingress_cells (R321). -/
def Core.ingressCells (c : Core) (p : Nat) : Nat :=
  ((List.range 9).map (fun st => c.losslessCells p st)).foldl (· + ·) 0

/-- The headroom a port takes from the shared pool (R301). -/
def Core.headroomCost (c : Core) (p : Nat) : Nat :=
  let h := c.rd (Reg.headroom_cells p)
  let fc := c.rd (Reg.flow_control p)
  if fc = 2 then h * popCount 8 (c.rd (Reg.pfc_enable p)) else if fc = 1 then h else 0

/-- Whether vport `v` has been created (R459). -/
def Core.vportExists (c : Core) (v : Nat) : Bool := decide (c.rd (Reg.vport_state v) ≠ 0)

/-- What shared_cells is computed from (R301), as an integer: a vport's queues count while it exists. -/
def Core.sharedInt (c : Core) : Int :=
  let ports := ((List.range 64).filter (fun p => !c.absent p)).foldl (fun a p =>
    a + c.headroomCost p + ((List.range 8).map (fun q => c.rd (Reg.min_cells p q))).foldl (· + ·) 0) 0
  let vports := ((List.range 64).filter c.vportExists).foldl (fun a v =>
    a + ((List.range 8).map (fun q => c.rd (Reg.vp_min_cells v q))).foldl (· + ·) 0) 0
  196608 - (c.rd Reg.mgmt_reserve_cells : Int) - (ports : Nat) - (vports : Nat)

/-- shared_cells (R301). -/
def Core.sharedCells (c : Core) : Nat := c.sharedInt.toNat

/-! ### XOFF (R300) -/

/-- The XOFF condition of a port's state checked after its lossless count changed: asked for at xoff_cells,
ended at xon_cells or below. -/
def Core.xoffCheck (c : Core) (p st : Nat) : Core :=
  let n := c.losslessCells p st
  let k := 16 * p + st
  if (SMap.find? c.xoffs k).isNone then
    if c.rd (Reg.xoff_cells p) ≤ n then
      ({ (c.inc Reg.sc_xoff_requests) with xoffs := SMap.insert c.xoffs k (c.now + 1) }).sendPause p st true
    else c
  else if n ≤ c.rd (Reg.xon_cells p) then ({ c with xoffs := SMap.erase c.xoffs k }).sendPause p st false
  else c

/-- The check for the port and state a copy is charged to. -/
def Core.xoffOf (c : Core) (x : Copy) : Core :=
  match x.ingress with
  | .port p => if x.lossless then c.xoffCheck p x.prio else c
  | _ => c

/-! ### Cells of the output buffer (R285, R325) -/

/-- What a copy's cell carries beside its data: the header of R286; cells on the crossing have seq 0. -/
def Copy.header (x : Copy) (seq index : Nat) : BitVec 64 :=
  let bytes := min 256 (x.data.length - 256 * index)
  let v := seq % 128 * 2 ^ 50 + index % 64 * 2 ^ 44 + b2n (decide (index + 1 = x.total)) * 2 ^ 43 + b2n x.bad * 2 ^ 42 +
    b2n x.ct * 2 ^ 41 + b2n x.mgmt * 2 ^ 40 + x.target.kind * 2 ^ 38 + x.target.num % 64 * 2 ^ 32 + x.queue * 2 ^ 29 +
    x.group * 2 ^ 26 + (bytes - 1) % 256 * 2 ^ 18 + (Config.frameId x.id).toNat
  BitVec.ofNat 57 v ++ Config.headerCheck (BitVec.ofNat 57 v)

/-- An output slice takes a pool 0 buffer for a cell (R325, R329): the side and the buffer, none when no bit is free. -/
def Core.takeCell (c : Core) : Option (Core × Nat) :=
  (c.nextBuffer 0).map (fun x =>
    (({ c with
        lastLane := SMap.put c.lastLane 0 0 ((x.1 + 1) % 8)
        poolUsed := SMap.insert c.poolUsed (bufKey 0 x.2) 1
        poolTags := SMap.insert c.poolTags (bufKey 0 x.2) 74 } : Core).inc (Reg.pool_allocs 0), x.2))

/-- A copy's written cells return to free, with their buffers (R316, R325). -/
def Core.freeWritten (c : Core) (x : Copy) : Core :=
  let c1 := c.moveCells (if x.held then .held else .queued) .free x.written
  ({ c1 with poolUsed := x.cells.foldl (fun m y => SMap.erase m (bufKey 0 y.2)) c1.poolUsed } : Core).add (Reg.pool_frees 0) x.cells.length

/-! ### The end of a copy -/

/-- A copy taken off its queue. -/
def Core.unlink (c : Core) (x : Copy) : Core :=
  c.setQueue x.target x.queue ((c.queue x.target x.queue).filter (fun i => decide (i ≠ x.id)))

/-- Cells of a copy on their way: in the middles, delivered to the slice, or still to come over the crossing. -/
def Core.cellsAway (c : Core) (x : Copy) : Nat :=
  if x.ingress = .crossing then x.reserved
  else (c.middles.filter (fun y => decide (y.cell.copy = x.id))).length +
    (c.arriving.filter (fun y => decide (y.copy = x.id))).length

/-- A copy that has ended but for cells that return as they arrive: it goes when none is left (R309, R316). -/
def Core.leaveDead (c : Core) (x : Copy) (reserved sent : Nat) : Core :=
  if reserved = 0 then c.forgetCopy x.id
  else c.modCopy x.id (fun y => { y with dead := true, reserved := reserved, written := 0, cells := [], sent := sent })

/-- A copy withdrawn: its written cells return to free at once, the cells its group has not sent are discarded
there, and those on their way return as they arrive. -/
def Core.withdrawCopy (c : Core) (id : Nat) : Core :=
  match c.copy id with
  | none => c
  | some x =>
    if x.dead then c
    else
      let away := min x.reserved (c.cellsAway x)
      let c1 := (c.unlink x).moveCells .inFabric .free (x.reserved - away)
      ((c1.freeWritten x).leaveDead x away x.total).xoffOf x

/-- A copy dropped: counted once and withdrawn (R287, R295, R306, R309). -/
def Core.dropCopy (c : Core) (id k : Nat) : Core :=
  match c.copy id with
  | none => c
  | some x => if x.dead then c else (c.inc k).withdrawCopy id

/-- A copy transmitted or delivered: its cells return to free (R316). -/
def Core.finishCopy (c : Core) (id : Nat) : Core :=
  match c.copy id with
  | none => c
  | some x =>
    (((c.unlink x).freeWritten x).moveCells .inFabric .free x.reserved).forgetCopy id |>.xoffOf x

/-- A copy's reservation trimmed when its last octet has arrived, to the cells still to come (R297). -/
def Core.trimCopy (c : Core) (id : Nat) : Core :=
  match c.copy id with
  | none => c
  | some x =>
    let m := x.reserved - (x.total - x.sent + c.cellsAway x)
    let c1 := c.moveCells .inFabric .free m
    (if x.dead && decide (x.reserved ≤ m) then c1.forgetCopy id
     else c1.modCopy id (fun y => { y with reserved := y.reserved - m, ended := true })).xoffOf x

/-- One reserved cell of a copy discarded before it is written (R287, R309, R310, R316). -/
def Core.discardOne (c : Core) (id : Nat) : Core :=
  match c.copy id with
  | none => c
  | some x =>
    let c1 := c.moveCells .inFabric .free 1
    (if x.dead && decide (x.reserved ≤ 1) then c1.forgetCopy id
     else c1.modCopy id (fun y => { y with reserved := y.reserved - 1 })).xoffOf x

/-! ### Admission (R297 to R304) -/

/-- A copy offered to admission. -/
structure Offer where
  frameNo : Nat
  target : Target
  queue : Nat
  data : Octets
  ingress : Ingress
  group : Nat
  prio : Nat
  lossless : Bool
  second : Bool
  mgmt : Bool
  mirror : Bool
  edits : Edits
  pr : ParseRec
  errFlags : Nat
  /-- The frame's last octet has arrived (R297). -/
  ended : Bool
  lr : Nat
  /-- The frame may leave by cut-through (first pass, from a port, no MACsec), in Mb/s of its port. -/
  ctFrom : Option Nat
  tsReq : Bool
  stamp : Nat
  /-- What a first pass's edits added to the frame (R261, R292). -/
  shift : Int
  /-- The other side's number of a frame that crosses (R362). -/
  origin : Nat

/-- The cells an offer reserves (R297). -/
def Offer.cells (o : Offer) : Nat := max 1 (ceilDiv (o.lr - 4) 256)

/-- R302: the counter that takes a copy whose target is unavailable. A fenced port counts as fenced, although
its link_state reads 0. -/
def Core.unavailable (c : Core) (t : Target) : Option Nat :=
  match t with
  | .learn => if bitOf (c.rd Reg.slices_fenced) 0 then some Reg.sc_drop_fenced else none
  | .port p => if c.portFenced p then some Reg.sc_drop_fenced
    else if c.linkUp p then none else some (Reg.tx_drop_link_down p)
  | .vport v =>
    let st := c.rd (Reg.vport_state v)
    if 64 ≤ v then some Reg.sc_drop_no_target
    else if bitOf (c.rd Reg.slices_fenced) (v / 8) then some Reg.sc_drop_fenced
    else if st = 0 ∨ st = 2 ∨ st = 5 then some Reg.sc_drop_no_target else none

/-- Whether pause or PFC stops queue `q` of a port now (R122, R123, R346). -/
def Core.paused (c : Core) (p q : Nat) : Bool := c.pauseHolds p 8 || c.pauseHolds p q

/-- R304: whether a copy is admitted for cut-through. -/
def Core.cutThrough (c : Core) (o : Offer) : Bool :=
  match o.target, o.ctFrom with
  | .port p, some rate =>
    !o.mirror && !o.mgmt && !o.second && decide (c.mbps p ≤ rate) && c.flag (Reg.ct_enable p) &&
    (match (c.port p).ctBackoff with | some t => decide (t ≤ c.now) | none => true) &&
    decide (c.queueCells o.target o.queue = 0) && !c.paused p o.queue && bitOf (c.portGates p) o.queue
  | _, _ => false

/-- A copy admitted (R297, R316). -/
def Core.accept (c : Core) (o : Offer) (b : Budget) (ce : Bool) : Core :=
  let n := o.cells
  let ct := c.cutThrough o
  let x : Copy :=
    { id := c.copyNo, frameNo := o.frameNo, data := o.data, target := o.target, queue := o.queue,
      group := o.group, ingress := o.ingress, prio := o.prio, lossless := o.lossless, second := o.second,
      budget := b, reserved := n, written := 0, cells := [], held := false, ct := ct, mgmt := o.mgmt, mirror := o.mirror,
      bad := false, ended := o.ended, sent := 0, headSlot := 0, dead := false, linked := false,
      complete := false, started := false, edits := { o.edits with ce := ce }, pr := o.pr,
      errFlags := o.errFlags, tsReq := o.tsReq, stamp := o.stamp, shift := o.shift, endAs := 0, origin := o.origin }
  let c1 := { c with copies := c.copies ++ [x], copyNo := c.copyNo + 1 }
  let c2 := (c1.moveCells .free .inFabric n).inc Reg.sc_admitted
  let c3 := if ct then (c2.inc Reg.sc_cut_through).modRx o.frameNo (fun f => { f with cut := true }) else c2
  if o.ended then (c3.xoffOf x).trimCopy x.id else c3.xoffOf x

/-- The admission parameters of a queue: min_cells, alpha_exp, ecn_mode, ecn_cells (R321, R460). -/
def Core.queueParams (c : Core) (t : Target) (q : Nat) : Nat × Nat × Nat × Nat :=
  match t with
  | .port p => (c.rd (Reg.min_cells p q), c.rd (Reg.alpha_exp p q), c.rd (Reg.ecn_mode p q), c.rd (Reg.ecn_cells p q))
  | .vport v => (c.rd (Reg.vp_min_cells v q), c.rd (Reg.vp_alpha_exp v q), 0, 0)
  | .learn => (0, 7, 0, 0)

/-- Whether an offer is ECN-capable (R299). -/
def Offer.ect (o : Offer) : Bool := o.edits.l3ok && o.edits.ip && decide ((o.edits.ecn.getD (o.pr.tos % 4)) ≠ 0)

/-- The budgets of R298. -/
def Core.admitBudget (c : Core) (o : Offer) : Core :=
  let n := o.cells
  let q := c.queueParams o.target o.queue
  if c.queueUsed o.target o.queue .min + n ≤ q.1 then c.accept o .min false
  else
    let free := c.sharedCells - c.budgetUsed .shared
    let limit := free * 2 ^ q.2.1 / 128
    if free < n ∨ limit < c.queueUsed o.target o.queue .shared + n then
      match o.ingress with
      | .port p =>
        if o.lossless then
          if c.headroomUsed p o.prio + n ≤ c.rd (Reg.headroom_cells p) then c.accept o .headroom false
          else ((c.countDrop o.frameNo Reg.sc_drop_shared).report 344 3 p).reportRate 344 1 0
        else (c.countDrop o.frameNo Reg.sc_drop_shared).reportRate 344 1 0
      | _ => (c.countDrop o.frameNo Reg.sc_drop_shared).reportRate 344 1 0
    else if q.2.2.1 ≠ 0 ∧ q.2.2.2 ≤ c.queueCells o.target o.queue then
      if o.ect then c.accept o .shared true
      else if q.2.2.1 = 2 then c.countDrop o.frameNo Reg.sc_drop_early
      else c.accept o .shared false
    else c.accept o .shared false

/-- R303 on a received management frame: the policer, then the reserve. -/
def Core.admitMgmt (c : Core) (o : Offer) : Core :=
  let pol := match o.ingress with
    | .port _ => c.policeMgmt (o.data.length + 4)
    | _ => (c, true)
  if !pol.2 then (pol.1.countDrop o.frameNo Reg.sc_drop_mgmt_policer).report 344 2 0
  else if pol.1.rd Reg.mgmt_reserve_cells < pol.1.budgetUsed .mgmt + o.cells then
    (pol.1.countDrop o.frameNo Reg.sc_drop_mgmt_full).report 344 2 0
  else
    let c1 := pol.1.accept o .mgmt false
    match o.target with
    | .vport v => c1.enteredShare pol.1 v
    | _ => c1

/-- Admission of a copy to a queue of its own side (R298, R302, R474). -/
def Core.admitOffer (c : Core) (o : Offer) : Core :=
  let share := match o.target with
    | .vport v => !o.mgmt && decide (v < 64) && decide (c.rd (Reg.share_cells v) < c.vportCells v + o.cells)
    | _ => false
  match o.target with
  | .vport v =>
    if share then c.countDrop o.frameNo (Reg.vp_drop_share v)
    else match c.unavailable o.target with
      | some k => c.countDrop o.frameNo k
      | none => if o.mgmt then c.admitMgmt o else c.admitBudget o
  | _ => match c.unavailable o.target with
    | some k => c.countDrop o.frameNo k
    | none => if o.mgmt then c.admitMgmt o else c.admitBudget o

/-- A device-originated management frame that waits for reserve cells (R303), admitted when it fits. -/
def Core.originate (c : Core) (o : Offer) : Core :=
  match c.unavailable o.target with
  | some k => (c.inc Reg.mgmt_originated).inc k
  | none => (c.inc Reg.mgmt_originated).accept o .mgmt false

/-! ### Ingress groups and middles (R288 to R293) -/

/-- A stream's state. -/
def Core.stream (c : Core) (k : Nat) : Stream := SMap.getD c.streams k Stream.zero

/-- A stream's state, set. -/
def Core.setStream (c : Core) (k : Nat) (s : Stream) : Core := { c with streams := SMap.put c.streams k Stream.zero s }

/-- The copy's stream. -/
def Copy.stream (x : Copy) : Nat := streamKey x.group x.target x.queue

/-- Whether a copy's next cell has its data (R292): 256 octets of it, or the rest of the frame. Of a frame still in reception as many
octets of a copy are missing as of the received frame, whatever a first pass's edits added or took (R261). -/
def Core.dataReady (c : Core) (x : Copy) : Bool :=
  x.ended || (decide (x.sent + 1 < x.total) && (match c.rx.find? (fun f => decide (f.no = x.frameNo)) with
    | some f => decide (((256 * (x.sent + 1) : Nat) : Int) ≤ (c.arrived f : Nat) + x.shift)
    | none => false))

/-- Whether a copy's next cell is ready for middle `m` (R292). An earlier frame of the same ingress and class in its stream
goes first; a cell beyond the reservation waits. Copies from the crossing do not pass the middles (R314). -/
def Core.cellReady (c : Core) (m : Nat) (x : Copy) : Bool :=
  let st := c.stream x.stream
  decide (x.ingress ≠ .crossing) && decide (x.sent < x.total) && decide (c.cellsAway x < x.reserved) && c.dataReady x &&
  (SMap.find? c.spent (64 * x.group + 8 * m + x.target.slice)).isNone &&
  decide ((st.next + 128 - st.expected) % 128 < 16) &&
  !c.copies.any (fun y => decide (y.id < x.id) && decide (y.stream = x.stream) && decide (y.mgmt = x.mgmt) &&
    decide (y.ingress = x.ingress) && decide (y.sent < y.total) && decide (c.cellsAway y < y.reserved))

/-- The copy that group `g` serves in a slot (R292): management first, then slices in round robin. -/
def Core.pickCell (c : Core) (g slot : Nat) : Option Copy :=
  let m := (g + slot) % 8
  if bitOf (c.rd Reg.middles_degraded) m then none
  else
    let ready := c.copies.filter (fun x => decide (x.group = g) && c.cellReady m x)
    match ready.find? (fun x => x.mgmt) with
    | some x => some x
    | none =>
      let last := SMap.getD c.sliceRr g 0
      ((List.range 8).map (fun i => (last + i) % 8)).findSome? (fun k => ready.find? (fun x => decide (x.target.slice = k)))

/-- The pipeline clock in which a slot begins. -/
def Core.slotStart (c : Core) (s : Nat) : Nat := c.slotBase + ceilDiv (s * 2048) 100

/-- One middle's delivery in a slot (R291): the head of its FIFO for the connected slice goes to the slice, or
is discarded when the slice is fenced (R309). -/
def Core.middleDeliver (c : Core) (slot m : Nat) : Core :=
  let k := (m + slot) % 8
  match c.middles.find? (fun x => decide (x.cell.middle = m) && decide (x.cell.slice = k) && decide (x.slot < slot)) with
  | none => c
  | some x =>
    let key := 64 * x.cell.group + 8 * m + k
    let c1 := { c with
      middles := c.middles.filter (fun y => !(decide (y.cell.copy = x.cell.copy) && decide (y.cell.index = x.cell.index)))
      returning := c.returning ++ [(key, slot)] }
    if bitOf (c.rd Reg.slices_fenced) k then
      c1.discardOne x.cell.copy
    else { c1 with arriving := c1.arriving ++ [x.cell] }

/-- Credits whose return time has passed are back at their groups. -/
def Core.returnCredits (c : Core) (slot : Nat) : Core :=
  let due := c.returning.filter (fun x => decide (x.2 + 2 ≤ slot))
  { c with
    returning := c.returning.filter (fun x => decide (slot < x.2 + 2))
    spent := due.foldl (fun m x => SMap.erase m x.1) c.spent }

/-- The middles run through every slot before `upto`; no FIFO holds anything after 72 slots. -/
def Core.runMiddles (c : Core) (upto : Nat) : Core :=
  let n := min 72 (upto - c.middleSlot)
  let c1 := (List.range n).foldl (fun a i =>
    (List.range 8).foldl (fun b m => b.middleDeliver (upto - n + i) m) a) c
  ({ c1 with middleSlot := max c.middleSlot upto }).returnCredits upto

/-- A cell sent by group `g` in a slot. -/
def Core.sendCell (c : Core) (g slot : Nat) (x : Copy) : Core :=
  let m := (g + slot) % 8
  let k := x.target.slice
  let st := c.stream x.stream
  let cell : Cell := ⟨x.id, st.next, x.sent, decide (x.sent + 1 = x.total), g, m, k, x.header st.next x.sent⟩
  let c1 := (c.setStream x.stream { st with next := (st.next + 1) % 128, log := st.log ++ [(st.next, x.id)] }).modCopy x.id
    (fun y => { y with sent := y.sent + 1, headSlot := if y.sent = 0 then slot else y.headSlot })
  ({ c1 with
    spent := SMap.insert c1.spent (64 * g + 8 * m + k) 1
    middles := c1.middles ++ [{ cell := cell, slot := slot }]
    groupSlot := SMap.put c1.groupSlot g 0 (slot + 1)
    sliceRr := SMap.put c1.sliceRr g 0 ((k + 1) % 8) } : Core).inc Reg.sc_fabric_cells

/-- CELL_SEND (R292): group `g` sends its next ready cell in the first slot in which it can, among the present
slot and the seven after; the clocks run to that slot. `hdr` is what the group's header check finds:
1 corrected, 2 uncorrectable (R287). -/
def Core.cellSend (c : Core) (g hdr : Nat) : Core :=
  let s0 := max c.slot (SMap.getD c.groupSlot g 0)
  match (List.range 8).find? (fun i => ((c.advanceTo (c.slotStart (s0 + i))).runMiddles (s0 + i)).pickCell g (s0 + i) |>.isSome) with
  | none => c
  | some i =>
    let s := s0 + i
    let c1 := (c.advanceTo (c.slotStart s)).runMiddles s
    match c1.pickCell g s with
    | none => c
    | some x =>
      let p := match x.ingress with | .port p => p | _ => 0
      if hdr = 2 then
        (if x.dead then (c1.modCopy x.id (fun y => { y with sent := y.sent + 1 })).discardOne x.id
         else c1.dropCopy x.id Reg.sc_drop_ecc).report (336 + g) 2 p
      else
        let c2 := c1.sendCell g s x
        if hdr = 1 then c2.reportRate (336 + g) 1 p else c2

/-- CREDIT_RETURN (R291): the oldest credit of group `g` on its way returns. -/
def Core.creditReturn (c : Core) (g : Nat) : Core :=
  let c1 := c.runMiddles c.slot
  match c1.returning.find? (fun x => decide (x.1 / 64 = g)) with
  | none => c1
  | some x => { c1 with returning := c1.returning.filter (fun y => decide (y ≠ x)), spent := SMap.erase c1.spent x.1 }

/-- credits_at_groups (R317), the credits whose return time has passed among them. -/
def Core.creditsAtGroups (c : Core) : Nat :=
  512 - 64 * popCount 8 (c.rd Reg.middles_degraded) - (c.returnCredits c.slot).spent.length

/-! ### Output slices (R294, R295) -/

/-- A frame linked at the tail of its queue. -/
def Core.link (c : Core) (x : Copy) : Core :=
  (c.setQueue x.target x.queue (c.queue x.target x.queue ++ [x.id])).modCopy x.id (fun y => { y with linked := true })

/-- release (R294) of one cell. -/
def Core.releaseCell (c : Core) (cell : Cell) : Core :=
  match c.copy cell.copy with
  | none => c
  | some x =>
    if x.dead then c
    else
      let c1 := if x.ct && decide (cell.index = 0) then c.link x else c
      if cell.last || decide (cell.index + 1 = x.total) then
        let c2 := c1.modCopy x.id (fun y => { y with complete := true })
        if x.ct then c2 else c2.link x
      else c1

/-- The cells a stream holds from its expected one on, released in order; at most 16 are held. -/
def Core.drainStream (c : Core) (k : Nat) : Nat → Core
  | 0 => c
  | n + 1 =>
    let st := c.stream k
    match st.held.find? (fun h => decide (h.1 = 0)) with
    | none => c
    | some h =>
      let st1 := { st with
        held := (st.held.filter (fun x => decide (x.1 ≠ 0))).map (fun x => (x.1 - 1, x.2))
        expected := (st.expected + 1) % 128
        log := st.log.filter (fun x => decide (x.1 ≠ st.expected)) }
      Core.drainStream ((c.setStream k st1).releaseCell h.2.2) k n

/-- The address field of a resequencing report (R323): group, target with its kind, queue. -/
def reseqAddr (x : Copy) : Nat := x.group + x.target.num * 8 + (x.target.kind % 2) * 512 + x.queue * 1024

/-- Cell `i` of a copy written into the buffer, or discarded when its frame has been dropped (R294, R316). A slice that finds no
free bit in pool 0 drops the frame (R343); the allocation that its chain of one pool could not serve counts there (R329). -/
def Core.writeCell (c : Core) (id i : Nat) : Core :=
  match c.copy id with
  | none => c
  | some x =>
    if x.dead then c.discardOne id
    else match c.takeCell with
      | none => (((((c.inc (Reg.pool_alloc_fail 0)).reportRate 348 2 0).discardOne id).dropCopy id Reg.sc_drop_ecc).report 351 1 x.target.slice)
      | some (c1, b) =>
        ((c1.moveCells .inFabric .queued 1).modCopy id (fun y => { y with
          reserved := y.reserved - 1, written := y.written + 1, cells := SMap.insert y.cells i b })).watermark 0 1

/-- on_cell (R294) at slice `k`, with the reaction of R295 to a displaced or doubled cell. -/
def Core.onCell (c : Core) (k : Nat) (cell : Cell) : Core :=
  match c.copy cell.copy with
  | none => c
  | some x =>
    let sk := x.stream
    let st := c.stream sk
    let c1 := c.writeCell cell.copy cell.index
    let d := (cell.seq + 128 - st.expected) % 128
    if 16 ≤ d ∨ st.held.any (fun h => decide (h.1 = d)) = true then
      (c1.dropCopy x.id Reg.sc_drop_reseq).report (320 + k) 3 (reseqAddr x)
    else
      (c1.setStream sk { st with held := st.held ++ [(d, c.now, cell)] }).drainStream sk 16

/-- The first slot from `s` on in which a middle delivers a cell for slice `k`. -/
def Core.nextDelivery (c : Core) (k s : Nat) : Option Nat :=
  ((List.range 16).map (s + ·)).find? (fun t =>
    c.middles.any (fun x => decide (x.cell.slice = k) && decide ((x.cell.middle + t) % 8 = k) && decide (x.slot < t)))

/-- What a header check on the way to a slice finds (R287): 0 nothing, 1 and 2 a corrected and an uncorrectable
header at the slice, 3 and 4 at the middle. An uncorrectable one discards the cell and drops its frame. The slice names the
buffer that it has ready for the cell (R323, log entry 64). -/
def Core.headerCheck (c : Core) (k hdr : Nat) (cell : Cell) : Core × Bool :=
  let e := if hdr ≤ 2 then 320 + k else 328 + cell.middle
  let addr := if hdr ≤ 2 then ((c.nextBuffer 0).map (fun x => x.2)).getD 0 else k
  if hdr = 0 then (c, true)
  else if hdr = 1 ∨ hdr = 3 then (c.reportRate e 1 addr, true)
  else (((c.discardOne cell.copy).dropCopy cell.copy Reg.sc_drop_ecc).report e 2 addr, false)

/-- CELL_ARRIVE (R294): the next cell on its way to slice `k` arrives; the clocks run to the end of the slot
that delivers it. -/
def Core.cellArrive (c : Core) (k hdr : Nat) : Core :=
  let c0 := c.runMiddles c.slot
  let c1 := if c0.arriving.any (fun x => decide (x.slice = k)) then c0
    else match c0.nextDelivery k c0.slot with
      | none => c0
      | some t => (c0.advanceTo (c0.slotStart (t + 1))).runMiddles (t + 1)
  match c1.arriving.find? (fun x => decide (x.slice = k)) with
  | none => c1
  | some cell =>
    let c2 := { c1 with arriving := c1.arriving.filter (fun x =>
      !(decide (x.copy = cell.copy) && decide (x.index = cell.index))) }
    let h := c2.headerCheck k hdr cell
    if h.2 then h.1.onCell k cell else h.1

/-- RESEQ_TIMEOUT (R295) of a stream: 2 µs after the first held cell arrived the expected cell is lost, and
every frame with a cell from the expected to the highest held is dropped. -/
def Core.reseqTimeout (c : Core) (g : Nat) (t : Target) (q : Nat) : Core :=
  let sk := streamKey g t q
  let st := c.stream sk
  if st.held.isEmpty then c
  else
    let c0 := c.advanceTo (st.held.foldl (fun a h => min a h.2.1) c.now + usTicks 2)
    let top := st.held.foldl (fun a h => max a h.1) 0
    let gone := st.log.filter (fun x => decide ((x.1 + 128 - st.expected) % 128 ≤ top))
    let addr := g + t.num * 8 + (t.kind % 2) * 512 + q * 1024
    let c1 := gone.foldl (fun a x => a.dropCopy x.2 Reg.sc_drop_reseq) c0
    (c1.setStream sk { st with
      held := [], expected := (st.expected + top + 1) % 128
      log := st.log.filter (fun x => decide (top < (x.1 + 128 - st.expected) % 128)) }).report (320 + t.slice) 3 addr

/-! ### Fences and degraded operation (R309 to R312) -/

/-- Every live copy a predicate selects dropped in a counter. -/
def Core.dropWhere (c : Core) (p : Copy → Bool) (k : Nat) : Core :=
  (c.copies.filter (fun x => p x && !x.dead)).foldl (fun a x => a.dropCopy x.id k) c

/-- The streams of a slice forgotten. -/
def Core.resetStreams (c : Core) (k : Nat) : Core :=
  { c with streams := c.streams.filter (fun x => decide (x.1 % 2048 / 8 % 64 / 8 ≠ k) || decide (x.1 % 2048 / 512 = 2 ∧ k ≠ 0)) }

/-- Steps 1 to 5 of R309 for slice `k`, as far as they act at once: the middles discard the rest as the slots
come. -/
def Core.fenceSlice (c : Core) (k : Nat) : Core :=
  let c1 := c.wr Reg.slices_fenced (putBit (c.rd Reg.slices_fenced) k true)
  let c2 := c1.dropWhere (fun x => decide (x.target.slice = k)) Reg.sc_drop_fenced
  let gone := c2.arriving.filter (fun x => decide (x.slice = k))
  (gone.foldl (fun (a : Core) x => a.discardOne x.copy) { c2 with
    arriving := c2.arriving.filter (fun x => decide (x.slice ≠ k)) }).resetStreams k

/-- Whether a cell for slice `k` is in a middle (R312). -/
def Core.sliceBusy (c : Core) (k : Nat) : Bool := c.middles.any (fun x => decide (x.cell.slice = k))

/-- R310: middle `m` removed. -/
def Core.degradeMiddle (c : Core) (m : Nat) : Core :=
  let held := c.middles.filter (fun x => decide (x.cell.middle = m))
  let c1 := { (c.wr Reg.middles_degraded (putBit (c.rd Reg.middles_degraded) m true)) with
    middles := c.middles.filter (fun x => decide (x.cell.middle ≠ m))
    returning := c.returning.filter (fun x => decide (x.1 / 8 % 8 ≠ m))
    spent := c.spent.filter (fun x => decide (x.1 / 8 % 8 ≠ m)) }
  held.foldl (fun (a : Core) x => (a.discardOne x.cell.copy).dropCopy x.cell.copy Reg.sc_drop_degraded) c1

/-- R312: a slice's streams restart at 0. -/
def Core.unfenceSlice (c : Core) (k : Nat) : Core :=
  (c.wr Reg.slices_fenced (putBit (c.rd Reg.slices_fenced) k false)).resetStreams k

/-! ### The crossing, sending side (R313) -/

/-- Cells that wait in a group's crossing FIFO: the reservations not yet sent. -/
def Core.crossUsed (c : Core) (g : Nat) : Nat :=
  c.crossOut.foldl (fun a x => if x.group = g then a + (x.reserved - x.sent) else a) 0

/-- Admission of a cross-side copy to its group's crossing FIFO: the side, and whether it was admitted. -/
def Core.admitCross (c : Core) (o : Offer) : Core × Bool :=
  if c.rd Reg.crossing_fifo_cells < c.crossUsed o.group + o.cells then (c.report 345 3 0, false)
  else
    let x : Copy :=
      { id := c.copyNo, frameNo := o.frameNo, data := o.data, target := o.target, queue := o.queue,
        group := o.group, ingress := o.ingress, prio := o.prio, lossless := false, second := o.second,
        budget := .shared, reserved := if o.ended then cellsOf o.data.length else o.cells,
        written := 0, cells := [], held := false, ct := false, mgmt := o.mgmt,
        mirror := o.mirror, bad := false, ended := o.ended, sent := 0, headSlot := 0, dead := false,
        linked := false, complete := false, started := false, edits := o.edits, pr := o.pr,
        errFlags := o.errFlags, tsReq := o.tsReq, stamp := o.stamp, shift := o.shift, endAs := 0, origin := o.origin }
    let h := SMap.getD c.crossHold o.frameNo (0, 0)
    ({ c with crossOut := c.crossOut ++ [x], copyNo := c.copyNo + 1,
              txJobs := c.txJobs.map (fun j => if o.tsReq ∧ j.frameNo = o.frameNo ∧ j.tsWait = true then { j with crossed := true } else j)
              crossHold := SMap.insert c.crossHold o.frameNo (h.1 + 1, o.pr.epoch) }, true)

/-- The copy at the head of a group's crossing FIFO, once its next cell has its data, or when it stops (R276, R292, R313). -/
def Core.crossHead (c : Core) (g : Nat) : Option Copy :=
  match c.crossOut.find? (fun x => decide (x.group = g)) with
  | some x => if x.dead || c.dataReady x then some x else none
  | none => none

/-- A copy with its next cell sent over the crossing: taken out with its last one. -/
def Core.crossSent (c : Core) (x : Copy) (last : Bool) : Core :=
  { c with
    crossOut := if last then c.crossOut.filter (fun y => decide (y.id ≠ x.id))
      else c.crossOut.map (fun y => if y.id = x.id then { y with sent := y.sent + 1 } else y)
    crossRr := (x.group + 1) % 8 }

/-- The cell that ends a copy which stops while it crosses: no data, and bad in its header (R286; DEDUCED, log entry 34). -/
def Copy.stopCell (x : Copy) : CrossCell :=
  ⟨x.id, x.sent, true, { x with bad := true, data := x.data.take (256 * (x.sent + 1)) }.header 0 x.sent, none, x.endAs⟩

/-- CROSSING_SEND (R313): the next cell of the next group in round robin that has one, if any. -/
def Core.crossSend (c : Core) : Core × Option CrossCell :=
  match ((List.range 8).map (fun i => (c.crossRr + i) % 8)).findSome? c.crossHead with
  | none => (c, none)
  | some x =>
    if x.dead then (c.crossSent x true, some x.stopCell)
    else
      let last := decide (x.sent + 1 = x.total)
      (c.crossSent x last, some ⟨x.id, x.sent, last, x.header 0 x.sent, if x.sent = 0 then some x else none, 0⟩)

/-- The sending side after the far side has decided on a copy: the frame leaves its epoch when none of its
copies is left undecided (R27, R314). -/
def Core.crossDecided (c : Core) (frame : Nat) (admitted : Bool) : Core :=
  let c1 := if admitted then c.inc Reg.crossing_frames_out else c
  match SMap.find? c1.crossHold frame with
  | none => c1
  | some (n, e) =>
    if n ≤ 1 then
      let c2 : Core := { c1 with crossHold := SMap.erase c1.crossHold frame }
      if c2.recirc.any (fun r => decide (r.frameNo = frame)) then c2 else c2.leaveEpoch e
    else { c1 with crossHold := SMap.insert c1.crossHold frame (n - 1, e) }

/-- The copies in the crossing FIFOs that a predicate selects go no further, their unsent cells discarded. One that has not begun to
cross leaves its epoch here, and the caller counts it; one that has begun has been admitted on the far side (R314), which drops it in
counter `k` when the cell that ends it arrives. Answers the copies to be counted here. DEDUCED, log entry 34. -/
def Core.stopCrossing (c : Core) (p : Copy → Bool) (k : Nat) : Core × Nat :=
  let gone := c.crossOut.filter (fun x => p x && decide (x.sent = 0))
  let c1 : Core := { c with crossOut := (c.crossOut.filter (fun x => !(p x && decide (x.sent = 0)))).map (fun x =>
    if p x && !x.dead then { x with dead := true, endAs := k, reserved := x.sent } else x) }
  (gone.foldl (fun (a : Core) x => a.crossDecided x.frameNo false) c1, gone.length)

/-- R311: the unsent cells of a group discarded and their frames dropped, those in its crossing FIFO among them; its ports are fenced
by the collector. -/
def Core.fenceGroup (c : Core) (i : Nat) : Core :=
  let c1 := c.dropWhere (fun x => decide (x.group = i) && decide (x.ingress ≠ .crossing) && decide (x.sent < x.total)) Reg.sc_drop_fenced
  let r := c1.stopCrossing (fun x => decide (x.group = i)) Reg.sc_drop_fenced
  r.1.add Reg.sc_drop_fenced r.2

/-! ### The crossing, receiving side (R314) -/

/-- Cells on the crossing's receive FIFO for a slice: reservations of admitted copies not yet arrived. -/
def Core.crossFifoUsed (c : Core) (k : Nat) : Nat :=
  c.sumCopies (fun x => decide (x.ingress = .crossing) && decide (x.target.slice = k)) (fun x => x.reserved)

/-- The head cell of a copy from the far side admitted (R314): never cut-through, the far-side port's number
taken within the side. A refused copy counts in the receiving side's drop counter, and as a frame that
entered by the crossing. -/
def Core.crossAdmit (c : Core) (x : Copy) : Core × Bool :=
  let t := match x.target with | .port p => Target.port (p % 64) | y => y
  let o : Offer :=
    { frameNo := 0, target := t, queue := x.queue, data := x.data, ingress := .crossing, group := x.group,
      prio := x.prio, lossless := false, second := x.second, mgmt := x.mgmt, mirror := x.mirror,
      edits := x.edits, pr := x.pr, errFlags := x.errFlags, ended := x.ended,
      lr := if x.ended then x.data.length + 4 else 256 * x.reserved + 4,
      ctFrom := none, tsReq := x.tsReq, stamp := x.stamp, shift := 0, origin := x.frameNo }
  let c0 := c.inc Reg.crossing_frames_in
  if 256 < c0.crossFifoUsed t.slice + o.cells then (c0.inc Reg.sc_drop_cross_rx, false)
  else
    let c1 := c0.admitOffer o
    (c1, decide (c1.copyNo ≠ c0.copyNo))

/-- The head cell of a copy from the far side: admitted, or with an uncorrectable header discarded with its frame (R287, R314,
R315). -/
def Core.crossHeadIn (c : Core) (cell : CrossCell) (x : Copy) (bad : Bool) : Core :=
  let own := c.copyNo
  let r : Core × Bool := if bad then ((c.inc Reg.crossing_frames_in).inc Reg.sc_drop_ecc, false) else c.crossAdmit x
  { r.1 with crossMap := SMap.insert r.1.crossMap cell.copy (if r.2 then some own else none) }

/-- The last cell of a copy from the far side is here: the cells it does not need return to free (R297). -/
def Core.crossTrim (c : Core) (id : Nat) : Core :=
  match c.copy id with
  | none => c
  | some x => (c.moveCells .inFabric .free (x.reserved - 1)).modCopy id (fun y => { y with reserved := min 1 y.reserved, ended := true })

/-- A copy from the far side of which no more comes: dropped, and the cells still reserved for it return to free (R306, R311, R316). -/
def Core.crossStop (c : Core) (id k : Nat) : Core :=
  let c1 := c.dropCopy id k
  match c1.copy id with
  | none => c1
  | some x => (c1.moveCells .inFabric .free x.reserved).forgetCopy id

/-- A cell of an admitted copy from the far side: written and released in order of arrival (R314), or discarded with its frame
(R315). -/
def Core.crossCellIn (c : Core) (id : Nat) (cell : CrossCell) (bad : Bool) : Core :=
  let c1 := (if cell.last then c.crossTrim id else c).modCopy id (fun z => { z with sent := z.sent + 1 })
  if bad then (c1.discardOne id).dropCopy id Reg.sc_drop_ecc
  else (c1.writeCell id cell.index).releaseCell ⟨id, 0, cell.index, cell.last, 0, 0, 0, cell.header⟩

/-- CROSSING_RECEIVE (R287, R314): the next cell from the crossing. `hdr` is what the check of its header finds: 1 corrected, 2
uncorrectable. Answers the sender's frame decided on by it. -/
def Core.crossReceive (c : Core) (hdr : Nat) : Core × Option Nat :=
  match c.crossIn with
  | [] => (c, none)
  | cell :: rest =>
    let bad := decide (hdr = 2)
    let c0 : Core := { c with crossIn := rest }
    let c1 := if hdr = 0 then c0 else if bad then c0.report 345 2 0 else c0.reportRate 345 1 0
    let c2 := match cell.head with
      | none => c1
      | some x => c1.crossHeadIn cell x bad
    let c3 := match SMap.getD c2.crossMap cell.copy none with
      | none => c2
      | some id => if cell.drop ≠ 0 then c2.crossStop id cell.drop else c2.crossCellIn id cell bad
    (if cell.last then { c3 with crossMap := SMap.erase c3.crossMap cell.copy } else c3, cell.head.map (fun x => x.frameNo))

end Sys2Proof.Machine
end

