-- ==== Sys2Proof/Machine/Pipeline.lean ====
section
/-! DEFINITION. Pipeline.lean: a frame's way through the pipeline: arbitration, parsing, searches, station
lookup, actions and admission (R140 to R170, R185, R211, R220 to R223, R248, R298). -/

namespace Sys2Proof.Machine

/-- An epoch's parser configuration. -/
def Core.parserCfg (c : Core) (e : Nat) : ParserCfg :=
  ⟨c.rd (Reg.tpid_extra_0 e), c.rd (Reg.tpid_extra_1 e), c.rd (Reg.rtag_ethertype e), c.rd (Reg.hash_seed e),
   fun s => c.tab wShape (bankEntry e s), fun s => c.mark wShape (bankEntry e s)⟩

/-- What the pipeline takes from outside the side. -/
structure PipeEnv where
  act : ActEnv
  learn : LearnEnv

/-- A frame chosen for the parser. -/
structure Entry where
  frameNo : Nat
  data : Octets
  ingress : Ingress
  /-- The first pass's results, on a second pass. -/
  second : Option Recirc
  errFlags : Nat
  macsec : Bool
  ended : Bool
  tsReq : Bool
  stamp : Nat
  /-- port_flags as the frame's start found it (R97); 0 for a frame of no port. -/
  flags : Nat

/-- The group a frame's cells leave through (R288). -/
def Ingress.group : Ingress → Nat
  | .port p => p / 8
  | .vport v => v / 8
  | _ => 0

/-- The pause state a copy of a port's frame is counted under (R300), when it is lossless. -/
def Core.losslessState (c : Core) (i : Ingress) (prio : Nat) : Option Nat :=
  match i with
  | .port p =>
    let fc := c.rd (Reg.flow_control p)
    if fc = 1 then some 8
    else if fc = 2 ∧ bitOf (c.rd (Reg.pfc_enable p)) prio = true then some prio
    else none
  | _ => none

/-- The longest frame an ingress may bring (R297). -/
def Core.longest (c : Core) (i : Ingress) (len : Nat) : Nat :=
  match i with
  | .port p => c.rd (Reg.rx_max_frame p)
  | _ => len

/-- How many octets longer than the frame received a frame on its second pass is (R261). -/
def Core.passShift (c : Core) (f : Frame) : Int :=
  if f.second then (match c.rx.find? (fun g => decide (g.no = f.no)) with
    | some g => (f.data.length + 4 : Nat) - (g.octets.length : Nat)
    | none => 0)
  else 0

/-- A draft as an offer to admission. A port's frame of more than 132 bytes reserves for rx_max_frame, a truncated mirror copy of one
too (R297); one that has grown on its first pass beyond it reserves its length, once that is known. -/
def Core.offer (c : Core) (f : Frame) (d : Draft) (mgmt : Bool) : Offer :=
  let known := decide (f.len ≤ 132) || (match f.ingress with | .port _ => false | _ => true)
  let own := d.data.length + 4
  let most := c.longest f.ingress own
  let st := c.losslessState f.ingress f.prio
  { frameNo := f.no, target := (match d.target with | .port n => if c.ownPort n then .port (n % 64) else .port n | t => t),
    queue := d.queue, data := d.data, ingress := f.ingress, group := f.ingress.group,
    prio := st.getD f.prio, lossless := st.isSome, second := f.second, mgmt := mgmt, mirror := d.mirror,
    edits := d.edits, pr := f.pr, errFlags := f.errFlags, ended := f.ended || known,
    lr := if known then own else if f.ended then max own most else most,
    ctFrom := (match f.ingress with
      | .port p => if f.second || f.macsec then none else some (c.mbps p)
      | _ => none),
    tsReq := f.tsReq && !d.mirror, stamp := f.stamp, shift := c.passShift f, origin := 0 }

/-- One copy on its way to admission: to its queue, or to the crossing for a port of the other side. The
number counts the copies the crossing refused. -/
def Core.offerCopy (env : ActEnv) (f : Frame) (mgmt : Bool) (a : Core × Nat) (d : Draft) : Core × Nat :=
  let o := a.1.offer f d mgmt
  match d.target with
  | .port n =>
    if a.1.ownPort n then (a.1.admitOffer o, a.2)
    else if env.joined then
      let r := a.1.admitCross o
      (r.1, if r.2 then a.2 else a.2 + 1)
    else (a.1.inc Reg.sc_drop_no_target, a.2)
  | _ => (a.1.admitOffer o, a.2)

/-- A frame leaves its epoch, unless a copy of it waits at the crossing, whose decision is then awaited (R275). -/
def Core.leaveFor (c : Core) (no e : Nat) : Core := if (SMap.find? c.crossHold no).isSome then c else c.leaveEpoch e

/-- Every copy of a frame admitted; the frame leaves its epoch unless a copy has gone to the crossing (R275). -/
def Core.offerAll (c : Core) (env : ActEnv) (f : Frame) (mgmt : Bool) (l : List Draft) : Core × Nat :=
  let r := l.foldl (Core.offerCopy env f mgmt) (c, 0)
  (r.1.leaveFor f.no f.epoch, r.2)

/-- A frame dropped in the pipeline: it is counted, and leaves its epoch (R275). -/
def Core.dropFrame (c : Core) (no e k : Nat) : Core := (c.countDrop no k).leaveFor no e

/-- A learn request of a frame, with the learn time and the clock of its acceptance; one of a frame still being received waits
for its last octet (R222, R225, R232). -/
def Core.requestLearn (c : Core) (env : LearnEnv) (no fid mac kind dest : Nat) : Core :=
  if c.rxOpen no then c.modRx no (fun f => { f with heldLearn := some (fid, mac, kind, dest, env.now % 2 ^ 48, c.now) })
  else c.learnRequest fid mac kind dest (env.now % 2 ^ 48) c.now

/-- A counter of the learn conditions: of a frame still being received it waits for the last octet, which may find the frame
errored (R222). -/
def Core.countLearn (c : Core) (no k : Nat) : Core :=
  if c.rxOpen no then c.modRx no (fun f => { f with lateCounts := f.lateCounts ++ [k] }) else c.inc k

/-- The shape-slot errors a parse meets (R170): bit 0 of an entry's mark removes it from selection, bit 1 drops what selects it; an
entry that selection cannot pass by, 254 or 255, may have both. R170 names no effect of an error in slot 15, which is reserved: it is
taken as one in a descriptor slot (DESIGN CHOICE, log entry 68). -/
def Core.shapeDefects (c : Core) (e : Nat) (ds : List Defect) : Core :=
  (ds.filter (fun d => decide (d.site = .shapeSlot))).foldl (fun a d =>
    let k := bankEntry e d.entry
    let addr := e * 256 + d.entry
    let mark := putBit (a.mark wShape k) (if d.sub < 3 then 0 else 1) true
    if d.unc then (a.setMark wShape k mark).report 257 2 addr
    else (a.inc Reg.parse_ecc_corrected).report 257 1 addr) c

/-- The counters and reports of R168, R169 for a parsed frame. -/
def Core.countParse (c : Core) (pr : ParseRec) : Core :=
  let on (b : Nat) : Bool := bitOf pr.flags b
  let one (a : Core) (b : Bool) (k : Nat) : Core := if b then a.inc k else a
  let rep (a : Core) (b : Bool) (kind : Nat) : Core := if b then a.reportRate 256 kind 0 else a
  let c1 := c.inc (if pr.secondPass then Reg.parse_second_pass else Reg.parse_frames)
  let c2 := rep (one c1 (on pfOverdeep) Reg.parse_overdeep) (on pfOverdeep) 1
  let c3 := one c2 (on pfFragment) Reg.parse_fragments
  let c4 := rep (one c3 (on pfConflict) Reg.parse_length_conflicts) (on pfConflict) 2
  let c5 := rep (one c4 (on pfMalformed) Reg.parse_l3_malformed) (on pfMalformed) 3
  let c6 := rep (one c5 (on pfShort) Reg.parse_window_short) (on pfShort) 4
  one (one (one c6 (decide (pr.shape = 254)) Reg.parse_unmatched) (decide (pr.shape = 252)) Reg.parse_tyist)
    (decide (pr.shape = 253)) Reg.parse_learning

/-! ### Station lookup (R211, R220 to R223) -/

/-- vid_source, pvid and the learn enable of an ingress. -/
def Core.ingressVid (c : Core) (i : Ingress) : Nat × Nat × Bool :=
  match i with
  | .port p => (c.rd (Reg.vid_source p), c.rd (Reg.pvid p), c.flag (Reg.learn_enable p))
  | .vport v => (0, c.rd (Reg.vp_pvid v), c.flag (Reg.vp_learn_enable v))
  | _ => (0, 1, false)

/-- The destination a learn request of an ingress carries (R222). -/
def Core.learnDest (c : Core) (i : Ingress) : Nat × Nat :=
  match i with
  | .port p => if c.rd (Reg.learn_group p) = 255 then (0, c.devPort p) else (2, c.rd (Reg.learn_group p))
  | .vport v => (1, v)
  | _ => (3, 0)

/-- The source lookup and its learn request (R222, R223), `bad` the slots with an uncorrectable error, one of which suppresses the
request (R241): the side, and whether the frame is dropped as flapping. -/
def Core.sourceLookup (c : Core) (env : LearnEnv) (no e fid mac : Nat) (enabled : Bool) (i : Ingress) (bad : List Nat) : Core × Bool :=
  if !enabled then (c, false)
  else if bitOf mac 40 || decide (mac = 0) then (c.countLearn no Reg.learn_bad_sa, false)
  else
    let kd := c.learnDest i
    let lost := (c.keySlots fid mac).any (fun s => inList s bad)
    let req : Core := if lost then c else c.requestLearn env no fid mac kd.1 kd.2
    match c.stationLookup e fid mac with
    | none => (req, false)
    | some s =>
      let x := c.tab wStation s
      let same := decide (eDst x = kd)
      if eStatic x then (if same then c else c.countLearn no Reg.learn_static_blocked, false)
      else if same then (if eAge x = 0 then c else req, false)
      else (req, eLocked x && c.flag Reg.flap_action)

/-- The destination lookup (R220, R221, R241): the destination's entry, or the counter that takes the frame. -/
def Core.destLookup (c : Core) (e fid mac : Nat) (bad : List Nat) : Core × Except Nat (Option StationRes) :=
  if bitOf mac 40 then (c, .ok none)
  else
    let c0 := c.inc Reg.station_dst_lookups
    match (c.keySlots fid mac).find? (fun s => inList s bad) with
    | some s => (c0.reportRate 261 3 s, .error Reg.station_drop_ecc)
    | none =>
      match c0.stationLookup e fid mac with
      | none => (c0.inc Reg.station_dst_miss_flood, .ok none)
      | some s =>
        let x := c0.tab wStation s
        let c1 := c0.inc Reg.station_dst_hits
        if eKind x = 3 then (c1, .error Reg.station_drop_discard) else (c1, .ok (some ⟨eKind x, eDest x, eStatic x, s⟩))

/-! ### The pipeline -/

/-- A frame through its actions to admission or the recirculation path, where it stays in its epoch (R275). -/
def Core.actFrame (c : Core) (env : ActEnv) (f : Frame) : Core × Nat :=
  match c.actionStage env f with
  | (c1, .drop k) => (c1.dropFrame f.no f.epoch k, 0)
  | (c1, .recirc e l) =>
    let r := c1.applyEdits e f.data
    l.foldl (Core.offerCopy env f false) ({ r.1 with recirc := r.1.recirc ++ [{
        frameNo := f.no, data := r.2, epoch := f.epoch, ingress := f.ingress, dst := f.dst, group := f.group,
        fid := f.fid, prio := f.prio, errFlags := f.errFlags, macsec := f.macsec, ended := f.ended, stamp := f.stamp,
        tsReq := f.tsReq }] }, 0)
  | (c1, .copies l) => c1.offerAll env f false l

/-- A frame of an ordinary shape: station VID, searches, lookups, actions. A drop by a search counts before one
by the station lookup. -/
def Core.lookupFrame (c : Core) (env : PipeEnv) (f : Frame) (p : Parsed) : Core × Nat :=
  if f.second then
    let r := c.runSearches f.epoch p.pr.profile p.key f.defects
    match r.drop with
    | some k => (r.core.dropFrame f.no f.epoch k, 0)
    | none => r.core.actFrame env.act { f with results := r.res }
  else
    let iv := c.ingressVid f.ingress
    let vid := stationVid f.pr iv.1 iv.2.1
    let map := c.vidEntry f.epoch vid
    if !bitOf map 31 then (c.dropFrame f.no f.epoch Reg.station_drop_vid, 0)
    else
      let fid := bits map 11 0
      let r := c.runSearches f.epoch p.pr.profile p.key f.defects
      let da := beNat (padTo 6 (slice f.data 0 6))
      let sa := beNat (padTo 6 (slice f.data 6 6))
      let slots := c.keySlots fid sa ++ (if bitOf da 40 then [] else c.keySlots fid da)
      let x := r.core.stationDefects slots f.defects
      let s := x.1.sourceLookup env.learn f.no f.epoch fid sa (bitOf map 30 && iv.2.2) f.ingress x.2
      let d := s.1.destLookup f.epoch fid da x.2
      match r.drop with
      | some k => (d.1.dropFrame f.no f.epoch k, 0)
      | none =>
        match d.2 with
        | .error k => (d.1.dropFrame f.no f.epoch k, 0)
        | .ok dst =>
          if s.2 then (d.1.dropFrame f.no f.epoch Reg.station_drop_flap, 0)
          else d.1.actFrame env.act { f with results := r.res, dst := dst, group := bitOf da 40, fid := fid }

/-- A deferred length check that finds a mismatch, counted and reported (R153, R169). -/
def Core.countLate (c : Core) : Core := (c.inc Reg.parse_late_length).reportRate 256 5 0

/-- How the parser sees an entry (R141, R142, R147, R164). -/
def Core.parseIn (c : Core) (x : Entry) (e : Nat) : ParseIn :=
  { data := x.data, epoch := e, fromVport := (match x.ingress with | .vport _ => true | _ => false),
    fromPort := (match x.ingress with | .port _ => true | _ => false), secondPass := x.second.isSome,
    ingress := (match x.ingress with | .port p => p | .vport v => v | _ => 0),
    inband := bitOf x.flags 5, fabric := bitOf x.flags 4, mgmtMac := c.mgmtMac }

/-- The L3 base of a frame is usable (R159). -/
def l3Usable (pr : ParseRec) : Bool :=
  !bitOf pr.flags pfOverdeep && !bitOf pr.flags pfConflict && !bitOf pr.flags pfMalformed &&
  (decide (pr.ipver ≠ 0) || bitOf pr.flags pfLlc || decide (pr.etype = 0x22F0))

/-- The frame of a parsed entry. -/
def Entry.frame (x : Entry) (p : Parsed) (ds : List Defect) : Frame :=
  let prio := match x.second with
    | some r => r.prio
    | none => if p.pr.vlanCount = 0 then 0 else p.pr.outerTci / 8192
  { no := x.frameNo, data := x.data, pr := p.pr, ingress := x.ingress, second := x.second.isSome, results := [],
    dst := (match x.second with | some r => r.dst | none => none),
    group := (match x.second with | some r => r.group | none => false),
    fid := (match x.second with | some r => r.fid | none => 0),
    l3ok := l3Usable p.pr, prio := prio, defects := ds, errFlags := x.errFlags, macsec := x.macsec, ended := x.ended,
    tsReq := x.tsReq, stamp := x.stamp }

/-- One frame accepted by the parser (R141), on its way to admission. A deferred length check waits for the last octet of a
frame in reception, and is made at once when that has arrived (R153). Answers the copies the crossing refused. -/
def Core.acceptEntry (c : Core) (env : PipeEnv) (x : Entry) (ds : List Defect) : Core × Nat :=
  let e := match x.second with | some r => r.epoch | none => c.rd Reg.epoch_live
  let c0 := match x.second with | some _ => c | none => c.enterEpoch e
  let c1 := c0.shapeDefects e ds
  let p0 := parse (c1.parserCfg e) (c1.parseIn x e)
  let c2 := c1.countParse p0.pr
  let wrong := p0.deferred && p0.lateMismatch
  let waits := c2.rxOpen x.frameNo
  let p := if wrong && !waits then { p0 with pr := p0.pr.lateMarked } else p0
  let c3 := if waits then c2.modRx x.frameNo (fun f => { f with pr := some p.pr, lateLength := f.lateLength + b2n wrong })
    else if wrong then c2.countLate else c2
  let f := x.frame p ds
  if p.pr.shape = 252 then c3.offerAll env.act f true [⟨.vport 0, 7, x.data, Edits.nil, false⟩]
  else if p.pr.shape = 253 then c3.offerAll env.act f true [⟨.learn, 0, x.data, Edits.nil, false⟩]
  else if p.badShape then (c3.dropFrame x.frameNo e Reg.parse_drop_ecc, 0)
  else c3.lookupFrame env f p

/-! ### Arbitration (R140, R141) -/

/-- Whether the parser may accept a frame (R141). Still in reception, a MAC Control frame waits for its last octet, and on a
port with MACsec a frame with a SecTAG does, and under Strict any frame (R112 to R114). -/
def Core.mayEnter (c : Core) (f : RxFrame) : Bool :=
  !f.accepted && decide (f.dropAs = 0) &&
  (f.ended || (decide (min f.octets.length 132 ≤ c.arrived f) &&
    decide (be16 f.octets 12 ≠ 0x8808) && decide (132 < f.octets.length) &&
    !((c.under f).flag (Reg.macsec_enable f.port) &&
      (decide (be16 f.octets 12 = 0x88E5) || decide ((c.under f).rd (Reg.validate_frames f.port) = 2)))))

/-- Whether a recirculated frame's first 132 bytes, or all of it when it is shorter, are in the path (R261): as many octets of
it are missing as of the received frame. -/
def Core.recircReady (c : Core) (r : Recirc) : Bool :=
  r.ended || (match c.rx.find? (fun f => decide (f.no = r.frameNo)) with
    | some f =>
      let n := r.data.length + 4
      decide (min n 132 + f.octets.length ≤ c.arrived f + n)
    | none => true)

/-- A frame counted as received (R115, R138). -/
def Core.countRx (c : Core) (p len : Nat) : Core := (c.inc (Reg.rx_frames p)).add (Reg.rx_octets p) len

/-- A frame counted as passed to the parser (R115, R138). -/
def Core.countPassed (c : Core) (p : Nat) (data : Octets) : Core :=
  let da := beNat (padTo 6 (slice data 0 6))
  if da = 2 ^ 48 - 1 then c.inc (Reg.rx_broadcast p)
  else if bitOf da 40 then c.inc (Reg.rx_multicast p)
  else c.inc (Reg.rx_unicast p)

/-- The frame's FCS taken off, what the parser sees. -/
def RxFrame.seen (f : RxFrame) : Octets := if f.ended then f.plain else f.octets.take (f.octets.length - 4)

/-- The next waiting port frame in round-robin order. -/
def Core.nextPort (c : Core) : Option RxFrame :=
  ((List.range 64).map (fun i => (c.rrPort + i) % 64)).findSome? (fun p =>
    c.rx.find? (fun f => decide (f.port = p) && c.mayEnter f))

/-- The next staged vport frame in round-robin order. -/
def Core.nextVport (c : Core) : Option TxJob :=
  ((List.range 64).map (fun i => (c.rrVport + i) % 64)).findSome? (fun v =>
    c.txJobs.find? (fun j => decide (j.v = v) && decide (j.state = 1)))

/-- A port frame accepted. A frame accepted before its last octet stays in the receive buffer; one that has
ended leaves it. Whether an accepted frame counts as passed to the parser shows at its last octet (R115). -/
def Core.acceptPort (c : Core) (env : PipeEnv) (f : RxFrame) (ds : List Defect) : Core × Nat :=
  let c1 : Core := { c with
    rrPort := (f.port + 1) % 64,
    rx := if f.ended then c.rx.filter (fun g => decide (g.no ≠ f.no))
      else c.rx.map (fun (g : RxFrame) => if g.no = f.no then { g with accepted := true } else g) }
  let c2 := c1.countRx f.port f.octets.length
  let c3 := if f.ended then c2.countPassed f.port f.seen else c2
  c3.acceptEntry env ⟨f.no, f.seen, .port f.port, none, b2n f.macsecCheck * 128, f.macsec, f.ended, false, f.stamp,
    (c.under f).rd (Reg.port_flags f.port)⟩ ds

/-- A vport frame accepted (R466 step 2). -/
def Core.acceptVport (c : Core) (env : PipeEnv) (j : TxJob) (ds : List Defect) : Core × Nat :=
  let no := c.frameNo + 1
  let c1 : Core := { c with
    rrVport := (j.v + 1) % 64, vportWait := 0, frameNo := no,
    txJobs := c.txJobs.map (fun x => if x = j then { x with state := 2, frameNo := no, since := c.now } else x) }
  let c2 := (c1.inc (Reg.vp_vport_frames_sent j.v)).add (Reg.vp_tx_octets j.v) j.len
  c2.acceptEntry env ⟨no, j.data, .vport j.v, none, 0, false, true, j.tsReq, 0, 0⟩ ds

/-- PARSER_ACCEPT (R140, R141): a recirculated frame first, then a port's, then a vport's; a waiting vport frame
at least once in 16 clocks. With no frame ready nothing happens. -/
def Core.parserAccept (c : Core) (env : PipeEnv) (ds : List Defect) : Core × Nat :=
  let v := c.nextVport
  let waited (a : Core) : Core := if v.isSome then { a with vportWait := a.vportWait + 1 } else a
  match (if 15 ≤ c.vportWait then v else none) with
  | some j => c.acceptVport env j ds
  | none =>
    match c.recirc.find? c.recircReady with
    | some r =>
      ({ (waited c) with recirc := c.recirc.filter (fun x => decide (x ≠ r)) } : Core).acceptEntry env
        ⟨r.frameNo, r.data, r.ingress, some r, r.errFlags, r.macsec, r.ended, r.tsReq, r.stamp, 0⟩ ds
    | none =>
      match c.nextPort with
      | some f => (waited c).acceptPort env f ds
      | none =>
        match v with
        | some j => c.acceptVport env j ds
        | none => (c, 0)

end Sys2Proof.Machine
end

