-- ==== Sys2Proof/Machine/Ports.lean ====
section
/-! DEFINITION. Ports.lean: links, reception, pause and the wake detector of the ports (R102 to R115,
R121 to R125, R132 to R139, R655). -/

namespace Sys2Proof.Machine

/-! ### Links (R102 to R104, R655) -/

/-- Auto-negotiation runs on a port (R98): SGMII and 1000BASE-X with an_enable, not at the low rate. -/
def Core.negotiates (c : Core) (p : Nat) : Bool :=
  c.flag (Reg.an_enable p) && !c.inDen && (decide (c.rd (Reg.port_mode p) = 1) || decide (c.rd (Reg.port_mode p) = 2))

/-- The receiver is locked without fault, auto-negotiation done where it runs (R102 step 3). -/
def Core.linkReady (c : Core) (p : Nat) : Bool :=
  let x := c.port p
  x.signal && x.locked && !x.lfault && !x.rfault && (!c.negotiates p || (x.anDone && !x.anFailed))

/-- What link_state reads of a port that is not up, from its receiver (R655): 0 when no condition holds, in
which case a port in 2 or 3 stays there until its receiver locks without fault. -/
def PortDyn.shows (x : PortDyn) : Nat :=
  if x.signal && !x.locked then 2
  else if x.lfault then 2
  else if x.anFailed then 2
  else if x.rfault then 3
  else if !x.signal && x.faulted then 2
  else if !x.signal then x.shown
  else 0

/-- A change of link_state into or out of 1 counted (R105). -/
def Core.linkChange (c : Core) (p : Nat) : Core := c.inc (Reg.link_changes p)

/-- Frames bound for a port that has gone down are discarded (R104). -/
def Core.dropForPort (c : Core) (p : Nat) : Core :=
  (c.dropWhere (fun x => decide (x.target = .port p)) (Reg.tx_drop_link_down p)).modPort p (fun x => { x with tx := none, ctl := [] })

/-- A port taken down without a fault: by admin_up 0, a fence, a new mode or port test. Its pause states end and their watchdogs return
to 0, a hold-off runs on, while a link fault leaves the pause times running: the spec says nothing of either (R122, R125; DESIGN
CHOICE, log entry 67). -/
def Core.portDown (c : Core) (p : Nat) : Core :=
  let c1 := if c.linkUp p then c.linkChange p else c
  (c1.dropForPort p).modPort p (fun x => { x with
    signal := false, locked := false, lfault := false, rfault := false, anDone := false, anFailed := false,
    anSpeed := 0, up := false, shown := 0, faulted := false, holdoff := none, sendsRf := false, denSince := none,
    fallbackAt := none, pauseEnd := [], wdCount := [], wdSince := [] })

/-- A held port retrains its lane to den_rate; its 100 ms begin (R132). Its pause states end, so their watchdogs return to 0 (R124). -/
def Core.retrain (c : Core) (p : Nat) : Core :=
  c.modPort p (fun x => { x with
    signal := false, locked := false, lfault := false, rfault := false, anDone := false, anFailed := false, up := false
    shown := 0, faulted := false, holdoff := none, sendsRf := false, pauseEnd := [], wdCount := [], wdSince := []
    denSince := some c.now, fallbackAt := none })

/-- A held port that may run again in Den starts to retrain. -/
def Core.denStart (c : Core) (p : Nat) : Core :=
  if c.rd Reg.power_state = 2 ∧ c.flag (Reg.den_hold p) = true ∧ c.mayRun p = true then c.retrain p else c

/-- den_rate written (R132): a port held in Den trains again at the new rate (DEDUCED, log entry 67). -/
def Core.denRate (c : Core) (p v : Nat) : Core :=
  let d := c.wr (Reg.den_rate p) v
  if c.rd (Reg.den_rate p) = v then d else d.denStart p

/-- den_hold written (R132): in Den a port given up is idle and a port taken up retrains; one given up while the side leaves Den is
idle too. -/
def Core.denHold (c : Core) (p v : Nat) : Core :=
  let put (a : Core) : Core := a.wr (Reg.den_hold p) v
  if c.inDen = false ∨ (c.flag (Reg.den_hold p) = decide (v ≠ 0)) then put c
  else if v = 0 then put (c.portDown p)
  else (put c).denStart p

/-- admin_up written (R102): 1 starts the lane; 0 holds it idle. -/
def Core.adminUp (c : Core) (p v : Nat) : Core :=
  if v = 0 then (c.portDown p).wr (Reg.admin_up p) 0
  else if c.flag (Reg.admin_up p) then c
  else ((c.wr (Reg.admin_up p) 1).modPort p (fun x => { x with shown := 0, faulted := false })).denStart p

/-- The wake detector of a held port works: in Den, and while the side enters or leaves it, so that no wake is lost (R548, R549). -/
def Core.wakeable (c : Core) (p : Nat) : Bool :=
  c.flag (Reg.den_hold p) && decide (1 ≤ c.rd Reg.power_state) && decide (c.rd Reg.power_state ≤ 3)

/-- The wake detector's link wake of a held port (R135): bit 4 of wake_status. -/
def Core.linkWake (c : Core) (p : Nat) (gain : Bool) : Core :=
  let w := c.rd (Reg.wake_on_link p)
  if c.wakeable p = true ∧ (if gain then w = 2 ∨ w = 3 else w = 1 ∨ w = 3) then
    (((((c.wr (Reg.wake_status p) (putBit (c.rd (Reg.wake_status p)) 4 true)).wr (Reg.last_wake p) c.sideTime).inc
      (Reg.wake_matches p)).report (4 * p + 1) 2 p)).wake 1
  else c

/-- The link of a port is up: for forwarding, or at the low rate. The first link-up at den_rate after the entry to Den is a link gain
too, and wakes under wake_on_link 2 or 3 (R135; DESIGN CHOICE, log entry 67). -/
def Core.goUp (c : Core) (p : Nat) : Core :=
  let c1 := c.modPort p (fun x => { x with up := true, shown := 0, holdoff := none, denSince := none, fallbackAt := none, sendsRf := false })
  if c.inDen then c1.linkWake p true else ((c1.linkChange p).report (4 * p) 2 p).linkWake p true

/-- A port whose link is not up follows its receiver: the holdoff runs while it is locked without fault (R102),
and link_state shows the rest (R655). A port with a fast return (R132, R551) is up at once. -/
def Core.settle (c : Core) (p : Nat) : Core :=
  if (c.port p).up || !c.mayRun p then c
  else if c.linkReady p then
    if c.inDen || (c.port p).fallbackAt.isSome then c.goUp p
    else c.modPort p (fun x => { x with
      shown := 0, sendsRf := false
      holdoff := some (x.holdoff.getD (c.now + msTicks (c.rd (Reg.link_up_holdoff_ms p)))) })
  else c.modPort p (fun x => { x with holdoff := none, shown := x.shows, sendsRf := x.lfault })

/-- LANE_LOCK (R102): the receiver achieves sync, block lock or lane alignment. A port held at the low rate, or
back from it, is up without holdoff (R132, R551). -/
def Core.laneLock (c : Core) (p : Nat) : Core :=
  if !c.mayRun p || (c.inDen && !c.flag (Reg.den_hold p)) then c
  else
    let c1 := c.modPort p (fun x => { x with signal := true, locked := true })
    c1.settle p

/-- AN_COMPLETE (R102, R139): 0 failed, 1 half duplex or a reserved speed, 2 to 4 a speed of 10, 100 or
1,000 Mb/s; `word` is the partner's word. -/
def Core.anComplete (c : Core) (p outcome word : Nat) : Core :=
  if !c.mayRun p || !c.negotiates p || !(c.port p).locked then c
  else
    let speed := if outcome = 2 then 10 else if outcome = 3 then 100 else 1000
    let c1 := (c.wr (Reg.an_partner p) word).modPort p (fun x => { x with
      anDone := decide (2 ≤ outcome), anFailed := decide (outcome < 2), anSpeed := if 2 ≤ outcome then speed else 0 })
    let c2 := if outcome = 1 then c1.reportRate (4 * p + 3) 6 p else c1
    c2.settle p

/-- LINK_UP_HOLDOFF_EXPIRY (R102 step 4). -/
def Core.holdoffExpiry (c : Core) (p : Nat) : Core :=
  match (c.port p).holdoff with
  | none => c
  | some t => if c.mayRun p && !c.inDen then (c.advanceTo t).goUp p else c

/-- The receiver's conditions set. -/
def Core.setCondition (c : Core) (p : Nat) (signal locked lfault rfault : Bool) : Core :=
  c.modPort p (fun x =>
    let l := signal && locked
    { x with
      signal := signal, locked := l, lfault := lfault, rfault := rfault
      anDone := x.anDone && l, anFailed := x.anFailed && l, anSpeed := if l then x.anSpeed else 0 })

/-- LINK_CONDITION_CHANGE (R655): the receiver's conditions change; an up port answers only a fault that
persists. -/
def Core.conditionChange (c : Core) (p : Nat) (signal locked lfault rfault : Bool) : Core :=
  if c.mayRun p && !(c.inDen && !c.flag (Reg.den_hold p)) then (c.setCondition p signal locked lfault rfault).settle p else c

/-- LINK_FAULT (R103): a fault has persisted for link_fault_filter_ns: 0 loss of signal, 1 loss of lock, 2 and 3 a
received local or remote fault sequence, 4 failed auto-negotiation. -/
def Core.linkFault (c : Core) (env : LearnEnv) (p cause : Nat) : Core :=
  if !c.mayRun p || (c.inDen && !c.flag (Reg.den_hold p)) then c
  else
    let x := c.port p
    let c1 := (c.setCondition p (decide (cause ≠ 0) && x.signal) (decide (2 ≤ cause) && x.locked)
      (decide (cause = 2) || x.lfault) (decide (cause = 3) || x.rfault)).modPort p (fun y => { y with
        anFailed := decide (cause = 4) || y.anFailed, anDone := y.anDone && decide (cause ≠ 4) })
    if !x.up then c1.settle p
    else
      let c2 := c1.modPort p (fun y => { y with
        up := false, faulted := true, shown := if cause = 3 then 3 else 2, sendsRf := y.lfault, holdoff := none })
      if c.inDen then (c2.report (4 * p) (if cause = 3 then 3 else 1) p).linkWake p false
      else
        let c3 := ((c2.wr (Reg.last_link_down p) c.sideTime).linkChange p).report (4 * p) (if cause = 3 then 3 else 1) p
        ((c3.dropForPort p).flushPort env p).linkWake p false

/-- DEN_LINK_TIMEOUT (R132): a held port has not linked at den_rate within 100 ms. -/
def Core.denLinkTimeout (c : Core) (p : Nat) : Core :=
  match (c.port p).denSince with
  | none => c
  | some t =>
    if c.rd Reg.power_state = 2 ∧ (c.port p).up = false then
      ((c.advanceTo (t + msTicks 100)).modPort p (fun x => { x with denSince := none })).report (4 * p) 1 p
    else c

/-- EVENT_RATE_INTERVAL (R137): one message for each source and kind that has advanced. -/
def Core.rateInterval (c : Core) : Core :=
  c.rates.foldl (fun a m => a.report m.src m.kind m.addr) { c with rates := [] }

/-! ### Pause (R121 to R125) -/

/-- Whether a pause state is in watchdog hold-off (R125). -/
def Core.heldOff (c : Core) (p st : Nat) : Bool :=
  match SMap.find? (c.port p).holdEnd st with
  | some t => decide (c.now < t)
  | none => false

/-- A pause of `quanta` for a state (R122): it replaces the remaining time; 0 ends the pause. -/
def Core.pause (c : Core) (p st quanta : Nat) : Core :=
  if c.heldOff p st then c
  else
    let c1 := c.touchPause p st
    if quanta = 0 then c1.endPause p st
    else ((c1.touchShapers false p).modPort p (fun x => { x with
      pauseEnd := SMap.insert x.pauseEnd st (c1.now + ceilDiv (quanta * quantumTime (c1.mbps p)) 1000) })).touchPause p st

/-- A PFC frame's effect: each priority of its vector that `enabled` enables (pfc_enable). -/
def Core.pfc (c : Core) (p enabled vector : Nat) (quanta : Nat → Nat) : Core :=
  (setBits 8 vector).foldl (fun a q => if bitOf enabled q then a.pause p q (quanta q) else a) c

/-- A pause frame consumed (R114); `w` reads the port's configuration as it stood at the frame's start. -/
def Core.takePause (c w : Core) (p quanta : Nat) : Core :=
  let c1 := (c.inc (Reg.rx_control_frames p)).inc (Reg.rx_pause_frames p)
  if w.rd (Reg.flow_control p) = 1 then c1.pause p 8 quanta
  else (c1.inc (Reg.rx_control_bad p)).reportRate (4 * p + 3) 6 p

/-- A PFC frame consumed (R114). -/
def Core.takePfc (c w : Core) (p vector : Nat) (quanta : Nat → Nat) : Core :=
  let c1 := (c.inc (Reg.rx_control_frames p)).inc (Reg.rx_pfc_frames p)
  if w.rd (Reg.flow_control p) = 2 then c1.pfc p (w.rd (Reg.pfc_enable p)) vector quanta
  else (c1.inc (Reg.rx_control_bad p)).reportRate (4 * p + 3) 6 p

/-- A MAC Control frame consumed (R114). -/
def Core.takeControl (c w : Core) (p : Nat) (d : Octets) : Core :=
  if be16 d 14 = 0x0001 then c.takePause w p (be16 d 16)
  else if be16 d 14 = 0x0101 then c.takePfc w p (be16 d 16 % 256) (fun q => be16 d (18 + 2 * q))
  else ((c.inc (Reg.rx_control_frames p)).inc (Reg.rx_control_bad p)).reportRate (4 * p + 3) 6 p

/-- Whether a port receives (R115). -/
def Core.receives (c : Core) (p : Nat) : Bool := decide (c.linkState p = 1) || decide (c.linkState p = 6)

/-- A minimal frame that a low-power side drops at its start (R106). -/
def Core.dropLowPower (c : Core) (p len : Nat) : Core :=
  ((c.inc (Reg.rx_frames p)).add (Reg.rx_octets p) len).inc (Reg.rx_drop_lowpower p)

/-- PAUSE_FRAME_RECEIVE and PFC_FRAME_RECEIVE (R122): a valid control frame of 64 octets. -/
def Core.controlReceive (c : Core) (p : Nat) (act : Core → Core) : Core :=
  if !c.receives p then c else if c.lowPower then c.dropLowPower p 64 else act c

/-- PAUSE_EXPIRY (R122): the pause time runs out. -/
def Core.pauseExpiry (c : Core) (p st : Nat) : Core :=
  match SMap.find? (c.port p).pauseEnd st with
  | none => c
  | some t => (c.advanceTo t).touchPause p st

/-- PAUSE_WATCHDOG_TRIP (R124): the time a state still has to count passes, unless its pause ends first. -/
def Core.watchdogTrip (c : Core) (p st : Nat) : Core :=
  let c0 := c.touchPause p st
  match SMap.find? (c0.port p).pauseEnd st, SMap.find? (c0.port p).wdSince st with
  | some t, some _ =>
    let rest := msTicks (c0.rd (Reg.pause_watchdog_ms p)) - SMap.getD (c0.port p).wdCount st 0
    if c0.now + rest < t then
      let c1 := (c0.advance rest).endPause p st
      let c2 := (c1.modPort p (fun x => { x with
        holdEnd := SMap.insert x.holdEnd st (c1.now + msTicks (c1.rd (Reg.pause_holdoff_ms p))) })).inc (Reg.pause_watchdog_trips p)
      c2.report (4 * p + 2) 1 (p + (if st = 8 then 2 ^ 11 else st * 2 ^ 8))
    else c
  | _, _ => c

/-- PAUSE_HOLDOFF_END (R125). -/
def Core.pauseHoldoffEnd (c : Core) (p st : Nat) : Core :=
  match SMap.find? (c.port p).holdEnd st with
  | none => c
  | some t => (c.advanceTo t).modPort p (fun x => { x with holdEnd := SMap.erase x.holdEnd st })

/-- PAUSE_REFRESH (R121): half of tx_pause_quanta after the last XOFF it is sent again. -/
def Core.pauseRefresh (c : Core) (p st : Nat) : Core :=
  match SMap.find? c.xoffs (16 * p + st) with
  | none => c
  | some t =>
    let q := c.rd (Reg.tx_pause_quanta p)
    let c1 := c.advanceTo (t - 1 + q * quantumTime (c.mbps p) / 2000)
    ({ c1 with xoffs := SMap.insert c1.xoffs (16 * p + st) (c1.now + 1) } : Core).sendPause p st true

/-! ### Reception (R106 to R115) -/

/-- The receive buffer of a port (R106). -/
def Core.rxBuffer (c : Core) (p : Nat) : Nat := if c.rd (Reg.port_mode p) = 7 then 65536 else 16384

/-- Octets of a received frame that its group has not sent: all that have arrived, less those in cells already
sent by the copy that is furthest behind. -/
def Core.rxHeld (c : Core) (f : RxFrame) : Nat :=
  let n := c.arrived f
  if !f.accepted then n
  else
    let rest := c.copies.filter (fun x => decide (x.frameNo = f.no) && !x.dead && decide (x.sent < x.total))
    n - 256 * (rest.foldl (fun a x => min a x.sent) 40)

/-- The octets of port `p`'s receive buffer in use. -/
def Core.rxUse (c : Core) (p : Nat) : Nat :=
  let mine := (c.rx.filter (fun f => decide (f.port = p) && decide (f.dropAs = 0))).foldl (fun a f => a + c.rxHeld f) 0
  let waiting := (c.copies.filter (fun x => decide (x.ingress = .port p) && !x.dead && decide (x.sent < x.total) &&
    !c.rx.any (fun f => decide (f.no = x.frameNo)))).foldl (fun (a : SMap Nat) x =>
      SMap.insert a x.frameNo (max (SMap.getD a x.frameNo 0) (x.data.length - 256 * x.sent))) []
  mine + waiting.foldl (fun a x => a + x.2) 0

/-- A stamp of R362 in ns: a time in thirds of a ps with an offset in ps (I32) added. -/
def Core.stampAt (_c : Core) (t off : Nat) : Nat := (((t : Int) + 3 * signedOf 32 off) / 3000).toNat

/-- RX_FRAME_START (R106): a frame of the wire's octets begins `idle` octets after the previous one's end. -/
def Core.rxStart (c : Core) (p : Nat) (o : Octets) (idle : Nat) : Core :=
  if !c.receives p then c
  else
    let full := decide (c.rxBuffer p < c.rxUse p + c.rd (Reg.rx_max_frame p) + 32)
    let d := if c.lowPower then 1 else if full then 2 else 0
    let c0 := if d = 0 ∧ idle < 5 then (c.inc (Reg.rx_ifg_short p)).reportRate (4 * p + 3) 6 p else c
    let f : RxFrame :=
      { no := c0.frameNo + 1, port := p, octets := o, start := c0.now, ended := false, accepted := false, dropAs := d,
        plain := [], macsec := false, macsecCheck := false, lateLength := 0, cut := false,
        stamp := c0.stampAt (c0.now * 1000) (c0.rd (Reg.ts_rx_offset_ps p)), octet := octetTime (c0.mbps p),
        conf := c0.portConf p, lateDrops := [], lateCounts := [], heldLearn := none, pr := none }
    let c1 : Core := { c0 with rx := c0.rx ++ [f], frameNo := c0.frameNo + 1 }
    if d = 1 then c1.dropLowPower p o.length
    else if d = 2 then
      (((c1.inc (Reg.rx_frames p)).add (Reg.rx_octets p) o.length).inc (Reg.rx_drop_overflow p)).reportRate (4 * p + 3) 5 p
    else c1

/-- The FCS of a frame as received. -/
def fcsOf (o : Octets) : Nat := leNat (o.drop (o.length - 4))

/-- Whether the FCS is good. -/
def fcsGood (o : Octets) : Bool := decide (4 ≤ o.length) && decide (crc32 (o.take (o.length - 4)) = fcsOf o)

/-- The length field of R107 and the tags stepped over to reach it. -/
def lengthField (o : Octets) : Nat → Nat → Nat × Nat
  | 0, t => (be16 o (12 + 4 * t), t)
  | n + 1, t =>
    let v := be16 o (12 + 4 * t)
    if v = 0x8100 ∨ v = 0x88A8 then lengthField o n (t + 1) else (v, t)

/-- The length class of R107; D may be negative. -/
def lengthError (o : Octets) : Bool :=
  let r := lengthField o 3 0
  let d : Int := (o.length : Int) - 18 - (4 * r.2 : Nat)
  (decide (1501 ≤ r.1) && decide (r.1 ≤ 1535)) ||
  (decide (r.1 ≤ 1500) && (decide (d < r.1) || (decide (r.1 < d) && decide (64 < o.length))))

/-- The length once any SecTAG and ICV are removed (R107). -/
def Core.bareLength (c : Core) (p : Nat) (o : Octets) : Nat :=
  if c.flag (Reg.macsec_enable p) && decide (be16 o 12 = 0x88E5) then o.length - ((secTag o).len + 16) else o.length

/-- The classes of a frame as rx_error_flags bits (R107, R111), under the configuration of its start; `slow` says that the port
ran at 10 or 100 Mb/s. A frame over 9,216 bytes as received is oversize (R108, R138). -/
def Core.rxClasses (c : Core) (p : Nat) (o : Octets) (slow align code : Bool) : Nat :=
  let al := align && decide (c.rd (Reg.port_mode p) = 1) && slow
  let excess := decide (c.rd (Reg.rx_max_frame p) < c.bareLength p o) || decide (9216 < o.length)
  let len := bitOf (c.rd (Reg.port_flags p)) 6 && lengthError o
  let f := 2 * b2n (!fcsGood o) + 4 * b2n al + 8 * b2n code + 16 * b2n len + 32 * b2n (decide (o.length < 64)) + 64 * b2n excess
  if f = 0 then 0 else f + 1

/-- The class counters of R107, and the messages of R136. -/
def Core.countClasses (c : Core) (p flags : Nat) : Core :=
  let one (a : Core) (b : Bool) (k : Nat) : Core := if b then a.inc k else a
  let c1 := one c (bitOf flags 1) (Reg.rx_fcs_errors p)
  let c2 := one c1 (bitOf flags 2 || bitOf flags 3) (Reg.rx_align_code_errors p)
  let c3 := one c2 (bitOf flags 5) (Reg.rx_runts p)
  let c4 := one c3 (bitOf flags 6) (Reg.rx_oversize p)
  let c5 := one c4 (bitOf flags 4) (Reg.rx_length_errors p)
  if flags = 0 then c5 else c5.reportRate (4 * p + 3) 1 p

/-- The FEC counters of a frame's codewords. -/
def Core.countFec (c : Core) (p good bad : Nat) : Core :=
  if c.rd (Reg.fec_mode p) = 0 then c
  else
    let c1 := (c.add (Reg.fec_corrected p) good).add (Reg.fec_uncorrected p) bad
    if bad = 0 then c1 else c1.reportRate (4 * p + 3) 4 p

/-- The wake detector of a held port (R134, R135): each enabled pattern that a frame matches, the patterns those of the
frame's start, which `w` reads. It looks at every frame dropped under R106, in Den and while the side enters or leaves it, so that no
wake is lost (R549). A pattern with pattern_mask 0 has no highest enabled byte and matches every good frame; the address of the message
is the pattern number (R135) without p (R136): DESIGN CHOICES, log entry 67. -/
def Core.wakePatterns (c w : Core) (p : Nat) (o : Octets) : Core :=
  if !fcsGood o || !c.wakeable p then c
  else (List.range 4).foldl (fun (a : Core) k =>
    let off := w.rd (Reg.pattern_offset p k)
    let js := setBits 48 (w.rd (Reg.pattern_mask p k))
    let v := w.rdOctets (Reg.pattern_value p k) 48
    if bitOf (w.rd (Reg.pattern_enable p)) k &&
        js.all (fun j => decide (off + j < o.length) && decide (octetAt o (off + j) = octetAt v j)) then
      (((((a.wr (Reg.wake_status p) (putBit (a.rd (Reg.wake_status p)) k true)).wr (Reg.last_wake p) a.sideTime).inc
        (Reg.wake_matches p)).report (4 * p + 1) 1 k)).wake 0
    else a) c

/-- R109: the diagnostic vport that takes an errored frame, when that is allowed; deliver_errored as at the frame's start. -/
def Core.diagTarget (c : Core) (f : RxFrame) : Option Nat :=
  let v := c.rd Reg.diag_vport
  if bitOf ((c.under f).rd (Reg.port_flags f.port)) 7 && decide (f.octets.length ≤ 9216) && decide (v < 64) && c.vportExists v then some v else none

/-- The delivery of R109 of a frame that the parser has not accepted: whole, with its flags and its parse results, past every
lookup. -/
def Core.deliverErrored (c : Core) (env : PipeEnv) (f : RxFrame) (flags v : Nat) (o : Octets) : Core :=
  let e := c.rd Reg.epoch_live
  let x : Entry := {
    frameNo := f.no, data := o, ingress := .port f.port, second := none, errFlags := flags, macsec := false, ended := true,
    tsReq := false, stamp := f.stamp, flags := (c.under f).rd (Reg.port_flags f.port) }
  let r := parse (c.parserCfg e) (c.parseIn x e)
  let late := r.deferred && r.lateMismatch
  let pr : ParseRec := if late then r.pr.lateMarked else r.pr
  let c1 := ((c.enterEpoch e).countParse pr).inc (Reg.rx_errored_delivered f.port)
  let c2 := if late then c1.countLate else c1
  (c2.offerAll env.act ({ x.frame r [] with pr := pr }) false [⟨.vport v, 0, o, Edits.nil, false⟩]).1

/-- The same of a frame that the parser has accepted: its record and its stamp are those of the acceptance, and it has left its
epoch (R142, R275). -/
def Core.deliverAccepted (c : Core) (env : PipeEnv) (f : RxFrame) (pr : ParseRec) (flags v : Nat) (o : Octets) : Core :=
  let c1 := c.inc (Reg.rx_errored_delivered f.port)
  let x : Entry := {
    frameNo := f.no, data := o, ingress := .port f.port, second := none, errFlags := flags, macsec := false, ended := true,
    tsReq := false, stamp := f.stamp, flags := 0 }
  (Core.offerCopy env.act ({ x.frame { Parsed.zero with pr := pr } [] with pr := pr }) false (c1, 0) ⟨.vport v, 0, o, Edits.nil, false⟩).1

/-- An errored frame that the parser has not accepted (R108, R109). -/
def Core.endErrored (c : Core) (env : PipeEnv) (f : RxFrame) (flags : Nat) : Core :=
  let c1 := c.countRx f.port f.octets.length
  match c1.diagTarget f with
  | some v => c1.deliverErrored env f flags v (f.octets.take (f.octets.length - 4))
  | none => c1.inc (Reg.rx_drop_errored f.port)

/-- What is left of a frame on the recirculation path and at the crossing, taken out; a copy that has begun to cross is dropped on the
far side in sc_drop_ct_errored (DEDUCED, log entry 34). Answers the rest, to be counted here. -/
def Core.takeElsewhere (c : Core) (no : Nat) : Core × Nat :=
  let rs := c.recirc.filter (fun r => decide (r.frameNo = no))
  let c1 : Core := { c with recirc := c.recirc.filter (fun r => decide (r.frameNo ≠ no)) }
  let r := (rs.foldl (fun (a : Core) x => a.leaveFor no x.epoch) c1).stopCrossing (fun x => decide (x.frameNo = no)) Reg.sc_drop_ct_errored
  (r.1, rs.length + r.2)

/-- A frame on the recirculation path or at the crossing is errored: it goes no further. -/
def Core.dropElsewhere (c : Core) (no k : Nat) : Core :=
  let r := c.takeElsewhere no
  if r.2 = 0 then r.1 else r.1.add k r.2

/-- A frame finished with a stomped FCS (R306): the correct CRC of the octets sent, every bit inverted. -/
def stomp (o : Octets) : Octets := o ++ toLe 4 (crc32 o ^^^ 0xFFFFFFFF)

/-- The cells of a copy that are in the buffer from its first on, without a gap. -/
def Copy.run (x : Copy) : Nat :=
  ((List.range (x.cells.length + 1)).find? (fun i => (SMap.find? x.cells i).isNone)).getD 0

/-- The octets of the frame in transmission, FCS included, that come from the first `n` cells of its copy: the edits of its head, a
SecTAG among them, change where they end. -/
def Core.sentFrom (c : Core) (p : Nat) (x : Copy) (n : Nat) : Nat :=
  let len := (c.port p).txData.length
  let head : Int := (len : Int) - (c.port p).txTail - (max x.data.length 60 : Nat)
  min (len - 4) ((256 * n : Nat) + head).toNat

/-- The frame in transmission cut after what the first `n` cells of its copy hold, with a stomped FCS; the next frame starts as R118
says of a frame of that length (R306, R307). -/
def Core.cutTx (c : Core) (p : Nat) (x : Copy) (n : Nat) : Core :=
  let o := stomp ((c.port p).txData.take (c.sentFrom p x n))
  let t0 := (c.port p).txStart
  let oct := octetTime (c.mbps p)
  let last := t0 + (8 + o.length) * oct
  c.modPort p (fun y => { y with
    txData := o, txLast := last, txEnd := t0 + spacing o.length (c.startAlign p) (c.marker p t0 last) * oct
    txWire := t0 + wireOctets o.length (c.startAlign p) (c.fecAllowance p) * oct })

/-- A cut-through copy in transmission whose frame turns out errored (R306): it ends after its last stored octet. A frame beyond the
reservation of R297 has only the cells reserved for it stored. -/
def Core.endStomped (c : Core) (x : Copy) : Core :=
  let n := x.reserved + x.written
  match x.target, decide (n < x.total) with
  | .port p, true => (c.cutTx p x n).modCopy x.id (fun y => { y with
      bad := true, data := y.data.take (256 * n), complete := y.complete || decide (x.reserved = 0 ∧ x.run = n) })
  | _, _ => c.modCopy x.id (fun y => { y with bad := true })

/-- A frame that turns out errored after the parser accepted it. When a copy of it was admitted for cut-through, R306 holds: a copy
that has started ends with a stomped FCS, the others are dropped. Else it goes the way of R108 and R109, and counts once for
itself and once for each copy beyond the first (R36, R260): under R109 one of them is the delivery. -/
def Core.lateErrored (c : Core) (env : PipeEnv) (f : RxFrame) (flags : Nat) : Core :=
  let mine := c.copies.filter (fun x => decide (x.frameNo = f.no) && !x.dead)
  let errored := Reg.rx_drop_errored f.port
  let o := f.octets.take (f.octets.length - 4)
  if f.cut then
    let c1 := (mine.filter (fun x => x.started)).foldl (fun (a : Core) x => (a.endStomped x).inc Reg.sc_ct_stomped) (c.countPassed f.port o)
    let c2 := f.lateDrops.foldl (fun (a : Core) k => a.inc k) c1
    ((mine.filter (fun x => !x.started)).foldl (fun (a : Core) x => a.dropCopy x.id Reg.sc_drop_ct_errored) c2).dropElsewhere
      f.no Reg.sc_drop_ct_errored
  else
    let r := (mine.foldl (fun (a : Core) x => a.withdrawCopy x.id) c).takeElsewhere f.no
    let n := mine.length + r.2 + f.lateDrops.length
    if n = 0 then r.1
    else match r.1.diagTarget f, f.pr with
    | some v, some pr => (if n = 1 then r.1 else r.1.add errored (n - 1)).deliverAccepted env f
        (if f.lateLength = 0 then pr else pr.lateMarked) flags v o
    | _, _ => r.1.add errored n

/-- A port becomes a member of a group while frames arrive on it (R95): it counts and reports nothing of them, nor what its sources
still had to report at the interval's end, so what the parser has not accepted vanishes, and an accepted one is withdrawn as errored, for the identity of R493. DEDUCED, log entry 22. -/
def Core.cutOff (c : Core) (p : Nat) : Core :=
  let mine := c.rx.filter (fun f => decide (f.port = p) && !f.ended)
  let c1 : Core := { c with rx := c.rx.filter (fun f => !(decide (f.port = p) && !f.ended)) }
  let c2 : Core := { c1 with rates := c1.rates.filter (fun m => decide (256 ≤ m.src) || decide (m.src / 4 ≠ p)) }
  (mine.filter (fun f => f.accepted)).foldl (fun (a : Core) f =>
    let own := a.copies.filter (fun x => decide (x.frameNo = f.no) && !x.dead)
    let r := (own.foldl (fun (b : Core) x => b.withdrawCopy x.id) a).takeElsewhere f.no
    r.1.add (Reg.rx_drop_errored p) (own.length + r.2 + f.lateDrops.length)) c2

/-- The deferred length checks of an accepted frame (R153): one for each pass of it. -/
def Core.lateLength (c : Core) (f : RxFrame) : Core :=
  if 0 < f.lateLength then
    let c1 := (List.range f.lateLength).foldl (fun (a : Core) _ => a.countLate) c
    { c1 with copies := c1.copies.map (fun x => if x.frameNo = f.no then { x with pr := x.pr.lateMarked } else x) }
  else c

/-- The last octet of a frame that the parser accepted before it (R153, R297). -/
def Core.endAccepted (c : Core) (f : RxFrame) : Core :=
  let c1 : Core := { c with
    recirc := c.recirc.map (fun r => if r.frameNo = f.no then { r with ended := true } else r)
    crossOut := c.crossOut.map (fun x => if x.frameNo = f.no then { x with ended := true, reserved := x.total } else x) }
  ((c1.copies.filter (fun x => decide (x.frameNo = f.no))).foldl (fun (a : Core) x => a.trimCopy x.id) c1).lateLength f

/-- What an accepted frame's good last octet settles: it has been passed to the parser, the drops that were found count, and
its learn request is issued (R115, R222). -/
def Core.settleGood (c : Core) (f : RxFrame) : Core :=
  let c1 := c.countPassed f.port (f.octets.take (f.octets.length - 4))
  let c2 := (f.lateDrops ++ f.lateCounts).foldl (fun (a : Core) k => a.inc k) c1
  match f.heldLearn with
  | some (fid, mac, kind, dest, time, at') => c2.learnRequest fid mac kind dest time at'
  | none => c2

/-- A good frame that the parser has not accepted: MAC Control, MACsec, or the wait for the parser (R112 to R114). -/
def Core.endWaiting (c : Core) (f : RxFrame) : Core :=
  let p := f.port
  let d := f.octets.take (f.octets.length - 4)
  let w := c.under f
  let keep (a : Core) (plain : Octets) (sec chk : Bool) : Core := { a with rx := a.rx ++ [{ f with
    ended := true, plain := plain, macsec := sec, macsecCheck := chk }] }
  if be16 d 12 = 0x8808 then c.takeControl w p d
  else if w.flag (Reg.macsec_enable p) then
    match c.macsecRx w p d with
    | (c1, .drop) => (c1.inc (Reg.rx_frames p)).add (Reg.rx_octets p) f.octets.length
    | (c1, .plain o sec chk) => if be16 o 12 = 0x8808 then c1.takeControl w p o else keep c1 o sec chk
  else keep c d false false

/-- RX_FRAME_END (R107): the last octet of the oldest frame in reception on a port arrives. -/
def Core.rxEnd (c : Core) (env : PipeEnv) (p : Nat) (align code : Bool) (fecGood fecBad : Nat) : Core :=
  match c.rx.find? (fun f => decide (f.port = p) && !f.ended) with
  | none => c
  | some f =>
    let c0 := c.advanceTo (f.start + ceilDiv (f.octets.length * f.octet) 1000)
    let c1 := ({ c0 with rx := c0.rx.filter (fun g => decide (g.no ≠ f.no)) } : Core).modPort p (fun x => { x with rxEnd := c0.now })
    let c2 := c1.countFec p fecGood fecBad
    if f.dropAs = 1 then c2.wakePatterns (c2.under f) p f.octets
    else if f.dropAs = 2 then c2
    else
      let w := c2.under f
      let flags := w.rxClasses p f.octets (decide (240000 ≤ f.octet)) align (code || (decide (w.rd (Reg.fec_mode p) ≠ 0) && decide (0 < fecBad)))
      let c3 := c2.countClasses p flags
      if f.accepted then
        let c4 := c3.endAccepted f
        if flags = 0 then c4.settleGood f else c4.lateErrored env f flags
      else if flags = 0 then c3.endWaiting f
      else c3.endErrored env f flags

end Sys2Proof.Machine
end

