-- ==== Sys2Proof/Machine/Sched.lean ====
section
/-! DEFINITION. Sched.lean: the queue scheduler, the fit test and the transmit MAC (R117 to R120, R305 to R307,
R345 to R350, R355 to R357, R362). -/

namespace Sys2Proof.Machine

/-! ### Selection (R347, R348) -/

/-- What a selection needs to know of a port or a vport. -/
structure Queues where
  /-- The number of its scheduler state: port p, or 64 + v. -/
  key : Nat
  strict : Nat
  eligible : Nat → Bool
  /-- Queue 7 holds a management frame and is eligible when its shaper is ignored. -/
  mgmt7 : Bool
  holds : Nat → Bool
  charge : Nat → Nat
  quantum : Nat → Nat

/-- The deficit round robin of R348 over the queues 7 − S down to 0, `i` the index in the group; the fuel bounds the
rounds a charge can take. -/
def dwrrFrom (z : Queues) (i : Nat) (d s : SMap Nat) : Nat → Option (Nat × SMap Nat × SMap Nat × Nat)
  | 0 => none
  | n + 1 =>
    let size := 8 - z.strict
    let q := 7 - z.strict - i
    let next := (i + 1) % size
    if z.eligible q then
      let stale := decide (SMap.getD s q 0 = 1)
      let d1 := if stale then d else SMap.put d q 0 (SMap.getD d q 0 + z.quantum q)
      if z.charge q ≤ SMap.getD d1 q 0 then
        some (q, SMap.put d1 q 0 (SMap.getD d1 q 0 - z.charge q), SMap.put s q 0 1, i)
      else dwrrFrom z next d1 (SMap.put s q 0 0) n
    else
      dwrrFrom z next (if z.holds q then d else SMap.put d q 0 0) (SMap.put s q 0 0) n

/-- dwrr_next of R348. -/
def Core.dwrr (c : Core) (z : Queues) : Core × Option Nat :=
  if !(List.range (8 - z.strict)).any z.eligible then (c, none)
  else
    let x := c.port z.key
    match dwrrFrom z (x.dwrrLast - z.strict) x.deficit x.stale 2000 with
    | none => (c, none)
    | some (q, d, s, i) =>
      (c.modPort z.key (fun y => { y with deficit := d, stale := s, dwrrLast := i + z.strict }), some q)

/-- select of R347. -/
def Core.select (c : Core) (z : Queues) : Core × Option Nat :=
  if z.mgmt7 then (c, some 7)
  else match ((List.range z.strict).map (7 - ·)).find? z.eligible with
    | some q => (c, some q)
    | none => c.dwrr z

/-! ### The fit test (R355, R356) -/

/-- Units of side time in 1 ps. -/
def psUnit : Nat := nsUnit / 1000

/-- The length L of the fit test (R355): the frame's, or Lr while its end is not known, with the change of R266. -/
def Core.fitLength (c : Core) (p : Nat) (x : Copy) : Nat :=
  let l := if x.ended then x.data.length + 4 else (match x.ingress with | .port i => c.rd (Reg.rx_max_frame i) | _ => x.data.length + 4)
  max 64 (((l : Int) + x.edits.delta x.pr).toNat) + c.expansion p

/-- The wire time of the fit test in thirds of a ps. -/
def Core.fitWire (c : Core) (p : Nat) (x : Copy) : Nat :=
  wireOctets (c.fitLength p x) (c.startAlign p) (c.fecAllowance p) * octetTime (c.mbps p)

/-- The wire time in units of side time: real ps into ps of side time, rounded up. -/
def Core.fitUnits (c : Core) (p : Nat) (x : Copy) : Nat :=
  ceilDiv (c.fitWire p x * c.sideRate) (1000 * psUnit) * psUnit

/-- fits(p, q, t0) of R355. -/
def Core.fits (c : Core) (p q : Nat) (x : Copy) : Bool :=
  let u := c.sideUnits + (c.earliest p - c.now * 1000) * c.sideRate / 1000
  match c.portClose p q u with
  | none => true
  | some e => decide (u < e) && decide (u + c.fitUnits p x ≤ e)

/-- Whether a head frame can never fit (R356). -/
def Core.neverFits (c : Core) (p q : Nat) (x : Copy) : Bool :=
  c.flag (Reg.oper_gate_enable p) && !(c.port p).gclPending && !c.fits p q x &&
  (match c.portLongest p q with
    | some l => decide (l * nsUnit < c.fitUnits p x)
    | none => false)

/-- The head frames of a queue that can never fit are dropped. -/
def Core.dropNeverFits (c : Core) (p q : Nat) : Nat → Core
  | 0 => c
  | n + 1 =>
    match c.headCopy (.port p) q with
    | none => c
    | some x =>
      if c.neverFits p q x then
        ((c.dropCopy x.id (Reg.sched_drop_never_fits p)).reportRate 352 3 (p + q * 64)).dropNeverFits p q n
      else c

/-! ### Eligible queues of a port (R305, R346) -/

/-- Whether the MAC may begin the frame now (R305): a cut-through frame waits for ct_hold_slots after its head cell
or for its last cell. A queue whose head is still held is not eligible, queue 7 with management frames behind it among them; R346
lists no hold (R88, R305, R346; DESIGN CHOICE, log entry 67). -/
def Core.mayBegin (c : Core) (x : Copy) : Bool :=
  !x.ct || x.complete || decide (x.headSlot + c.rd Reg.ct_hold_slots ≤ c.slot)

/-- R346 without the shaper. -/
def Core.eligibleNs (c : Core) (p q : Nat) : Bool :=
  match c.headCopy (.port p) q with
  | none => false
  | some x =>
    c.mayBegin x && !c.paused p q &&
    (!c.flag (Reg.oper_gate_enable p) || (bitOf (c.portGates p) q && c.fits p q x))

/-- The queues of port `p`. -/
def Core.portQueues (c : Core) (p : Nat) : Queues :=
  { key := p, strict := c.rd (Reg.oper_strict_count p)
    eligible := fun q => c.eligibleNs p q && c.shaperOk false p q
    mgmt7 := (c.queue (.port p) 7).any (fun i => match c.copy i with | some x => x.mgmt | none => false) && c.eligibleNs p 7
    holds := fun q => !(c.queue (.port p) q).isEmpty
    charge := fun q => (match c.headCopy (.port p) q with | some x => c.fitLength p x | none => 0)
    quantum := fun q => c.rd (Reg.oper_quantum p q) }

/-! ### The transmit MAC (R117, R118, R362) -/

/-- Edits, padding, MACsec and FCS (R117): the octets on the wire, or the counter that takes the frame. A frame
whose end is not known is not measured against tx_max_wire before it starts. -/
def Core.txOctets (c : Core) (p : Nat) (x : Copy) : Core × Except Nat Octets :=
  let e := c.applyEdits x.edits x.data
  let d := if e.2.length < 60 then padTo 60 e.2 else e.2
  let m : Core × Option Octets := if c.protects p then e.1.macsecTx p d else (e.1, some d)
  match m.2 with
  | none => (m.1, .error (Reg.tx_drop_macsec p))
  | some o =>
    if x.ended && decide (c.rd (Reg.tx_max_wire p) < o.length + 4) then (m.1, .error (Reg.tx_drop_oversize p))
    else (m.1, .ok (o ++ toLe 4 (crc32 o)))

/-- What an egress request gave goes to the descriptor of frame `no` that waits for it (R362): the stamp and the port that holds the
request, plus 1, or no stamp. -/
def Core.giveStamp (c : Core) (no : Nat) (r : Option (Nat × Nat)) : Core :=
  { c with txJobs := c.txJobs.map (fun j =>
      if j.frameNo = no ∧ j.tsWait = true then (match r with
        | some (ts, port) => { j with tsWait := false, tsValid := true, ts := ts, tsPort := port }
        | none => { j with tsWait := false, noTs := true })
      else j) }

/-- An egress stamp requested by a transmit descriptor (R362): the first copy sent whose stamp the descriptor still awaits takes it and
holds the port's request until the completion. A copy that came over the crossing returns its stamp over it at once (DEDUCED, log
entry 34). -/
def Core.takeStamp (c : Core) (p : Nat) (x : Copy) (t0 : Nat) : Core :=
  let far := decide (x.ingress = .crossing)
  if !x.tsReq || (!far && !c.txJobs.any (fun j => decide (j.frameNo = x.frameNo) && j.tsWait)) then c
  else
    let c1 := c.inc (Reg.ts_tx_requests p)
    let full := decide (64 ≤ (c1.port p).stamps)
    let ts := c1.stampAt (t0 + 8 * octetTime (c1.mbps p)) (c1.rd (Reg.ts_tx_offset_ps p))
    let c2 := if full then (c1.inc (Reg.ts_tx_overflow p)).reportRate 359 1 p else c1
    if far then { c2 with stampsBack := c2.stampsBack ++ [(x.origin, if full then none else some ts)] }
    else if full then c2.giveStamp x.frameNo none
    else (c2.giveStamp x.frameNo (some (ts, p + 1))).modPort p (fun y => { y with stamps := y.stamps + 1 })

/-- A frame begins (R118). The next start counts a marker the FEC actually inserts; the shapers count the bound. -/
def Core.beginFrame (c : Core) (p : Nat) (x : Copy) (o : Octets) : Core :=
  let t0 := c.earliest p
  let oct := octetTime (c.mbps p)
  let a := c.startAlign p
  let m := c.marker p t0 (t0 + (8 + o.length) * oct)
  let c2 := ((c.shapersToStart p t0).unlink x).modPort p (fun y => { y with
    tx := some x.id, txStart := t0, txLast := t0 + (8 + o.length) * oct, txEnd := t0 + spacing o.length a m * oct,
    txQueue := x.queue, txWire := t0 + wireOctets o.length a (c.fecAllowance p) * oct, txData := o,
    txMax := c.rd (Reg.tx_max_wire p), txRate := c.mbps p * 1000000, txTail := if c.protects p then 20 else 4, overrun := false })
  (c2.modCopy x.id (fun y => { y with started := true })).takeStamp p x t0

/-- An uncorrectable or corrected read of a copy's cell (R319), reported by the target's slice with the buffer (R323). -/
def Core.bufferEcc (c : Core) (x : Copy) (rd : CellRead) : Core :=
  let b := SMap.getD x.cells rd.cell.val 0
  if rd.ecc = 1 then (c.inc Reg.sc_buffer_corrected).reportRate (320 + x.target.slice) 1 b
  else if rd.ecc = 2 then c.report (320 + x.target.slice) 2 b
  else c

/-- The selected head frame started; one that is not sent is dropped and counted, and the port selects again. `rd` is what the
read of the first choice meets (R319). -/
def Core.selectPort (c : Core) (p : Nat) (rd : CellRead) : Nat → Core × Bool
  | 0 => (c, false)
  | n + 1 =>
    match c.select (c.portQueues p) with
    | (c1, none) => (c1, false)
    | (c1, some q) =>
      match c1.headCopy (.port p) q with
      | none => (c1, false)
      | some x =>
        let e := c1.bufferEcc x rd
        if rd.ecc = 2 then (e.dropCopy x.id Reg.sc_drop_ecc).selectPort p ⟨0, 0⟩ n
        else match e.txOctets p x with
        | (c2, .ok o) => (c2.beginFrame p x o, true)
        | (c2, .error k) =>
          let c3 := if k = Reg.tx_drop_macsec p then c2.reportRate (4 * p + 3) 2 p else c2
          (c3.dropCopy x.id k).selectPort p ⟨0, 0⟩ n

/-- The clock at which a held cut-through head of the port may begin, the earliest. -/
def Core.heldUntil (c : Core) (p : Nat) : Option Nat :=
  (List.range 8).foldl (fun a q =>
    match c.headCopy (.port p) q with
    | some x =>
      if c.mayBegin x then a
      else
        let t := c.slotStart (x.headSlot + c.rd Reg.ct_hold_slots)
        (match a with | some b => some (min b t) | none => some t)
    | none => a) none

/-- QUEUE_SELECT (R347): the port's MAC can begin a frame. The clocks run to the end of the last frame's wire time,
and, when only held cut-through heads wait, to the end of the hold. -/
def Core.queueSelect (c : Core) (p : Nat) (rd : CellRead) : Core :=
  if !c.linkUp p || (c.port p).tx.isSome then c
  else
    let c0 := c.advanceTo ((c.port p).txEnd / 1000)
    let c1 := if (c0.port p).gclNext then c0.portChangeMade p else c0
    let c2 := ((List.range 8).foldl (fun (a : Core) q => a.dropNeverFits p q ((a.queue (.port p) q).length)) c1).touchShapers false p
    let r := c2.selectPort p rd 64
    if r.2 then r.1
    else match r.1.heldUntil p with
      | none => r.1
      | some t =>
        let again : CellRead := if (c2.select (c2.portQueues p)).2.isSome then ⟨0, 0⟩ else rd
        (((r.1.advanceTo t).touchShapers false p).selectPort p again 64).1

/-- The end of a transmission: the frame is put out and counted. -/
def Core.sentFrame (c : Core) (p : Nat) (o : Octets) (stomped : Bool) : Core :=
  let c1 := (((c.emit (.frame p o stomped)).inc (Reg.tx_frames p)).add (Reg.tx_octets p) o.length).macFree p
  if stomped then c1.inc (Reg.tx_stomped p) else c1

/-- Whether a frame of the device is a learning message, untagged or with one tag (R234, R235). -/
def isLearnMsg (o : Octets) : Bool :=
  decide (be16 o 12 = 0x88B5) || (decide (be16 o 12 = 0x8100) && decide (be16 o 16 = 0x88B5))

/-- TRANSMIT_COMPLETE (R117, R306, R319): the last octet of the frame in transmission leaves, once its last cell is in
the buffer. `rd` is what the buffer reads met. -/
def Core.transmitComplete (c : Core) (p : Nat) (rd : CellRead) : Core :=
  match (c.port p).tx with
  | none => c
  | some id =>
    match c.copy id with
    | none => c.macFree p
    | some x =>
      if !x.complete then c
      else
        let c1 := (c.advanceTo (ceilDiv (c.port p).txLast 1000)).bufferEcc x rd
        let o := (c.port p).txData
        let body := o.take (o.length - 4)
        let excess := x.ct && decide ((c.port p).txMax < o.length)
        let bad := x.bad || excess || decide (rd.ecc = 2)
        let c2 := if excess && !x.bad then c1.inc Reg.sc_ct_stomped else c1
        let c3 := if x.ingress = .device && isLearnMsg x.data then c2.inc Reg.msg_tx else c2
        (c3.finishCopy id).sentFrame p (if bad then stomp body else o) bad

/-- CT_UNDERRUN (R307): the next cell of the cut-through frame in transmission is not in the buffer. The frame ends with what the cells
before it hold, and the next one starts as R118 says of a frame of that length. Its later cells are sent and freed on arrival. -/
def Core.ctUnderrun (c : Core) (p : Nat) : Core :=
  match (c.port p).tx with
  | none => c
  | some id =>
    match c.copy id with
    | none => c
    | some x =>
      if !x.ct || x.complete then c
      else
        let c1 := c.cutTx p x x.run
        let c2 := (c1.freeWritten x).leaveDead x x.reserved x.sent
        let c3 := ((c2.xoffOf x).inc Reg.sc_ct_underruns).modPort p (fun y => { y with
          ctBackoff := some (c.now + usTicks (c.rd Reg.ct_backoff_us)) })
        (c3.sentFrame p (c1.port p).txData true).reportRate (320 + p / 8) 4 p

/-- CT_BACKOFF_EXPIRY (R307). -/
def Core.ctBackoffExpiry (c : Core) (p : Nat) : Core :=
  match (c.port p).ctBackoff with
  | none => c
  | some t => (c.advanceTo t).modPort p (fun y => { y with ctBackoff := none })

end Sys2Proof.Machine
end

