-- ==== Sys2Proof/Machine/Time.lean ====
section
/-! DEFINITION. Time.lean: side time, the domain clocks, steps and PPS (R358 to R366). -/

namespace Sys2Proof.Machine

/-! ### TIME96 (R45) -/

/-- A domain value in units as a TIME96 of two slots: seconds, then ns with the fraction in 2^-16 ns above. -/
def time96Of (u : Nat) : Nat :=
  let ns := u / nsUnit
  (ns / 1000000000) % 2 ^ 48 + 2 ^ 64 * (ns % 1000000000 + 2 ^ 32 * (u % nsUnit * 65536 / nsUnit))

/-- A TIME96 of two slots in units. -/
def unitsOf96 (v : Nat) : Nat :=
  (v % 2 ^ 48 * 1000000000 + bits v 95 64) * nsUnit + bits v 111 96 * (nsUnit / 65536)

/-- Whether a TIME96 is one: ns below 10^9, reserved bits 0. -/
def time96Ok (v : Nat) : Bool := decide (bits v 63 48 = 0) && decide (bits v 95 64 < 1000000000) && decide (v < 2 ^ 112)

/-! ### Steps (R361) -/

/-- What a step of side time does in its clock, `before` the side time in units before it. -/
def Core.stepped (c : Core) (before : Nat) : Core :=
  if c.sideUnits = before then c
  else
    let back := decide (c.sideUnits < before)
    let mag := (if back then before - c.sideUnits else c.sideUnits - before) / nsUnit
    let c1 := (c.inc Reg.side_time_steps).report 357 1 (b2n back * 2 ^ 47 + min mag (2 ^ 47 - 1))
    let c2 := ((List.range 64).foldl (fun (a : Core) p => a.portChangeDue p) c1).gateOverruns (List.range 64)
    (c2.gates.foldl (fun (a : Core) g => a.sgateChangeDue g.1) c2).flipDue

/-- TIME_SOURCE_WRITE (R359). -/
def Core.timeSource (c : Core) (v : Nat) : Core × Reason :=
  if 4 < v then (c, .badValue)
  else if c.released then (((c.touchAllShapers.wr Reg.time_source v).resyncShapers).stepped c.sideUnits, .ok)
  else (c.wr Reg.time_source v, .ok)

/-- A domain clock stepped to a value in units. -/
def Core.stepDomain (c : Core) (d : Nat) (u : Int) (slew : Int) : Core :=
  let c1 := c.touchAllShapers
  (({ c1 with doms := SMap.put c1.doms d ⟨0, 0⟩ ⟨u.toNat, slew⟩ } : Core).resyncShapers).stepped c.sideUnits

/-- DOMAIN_ADJUST (R360): `v` is the I64 written, in ns. A slew changes the rate of side time, so the shapers are brought up to date. -/
def Core.domainAdjust (c : Core) (d v : Nat) : Core × Reason :=
  if !c.released then (c, .wrongState)
  else
    let x := signedOf 64 v
    let s := c.dom d
    if x.natAbs ≤ c.rd Reg.slew_limit_ns then
      ({ c.touchAllShapers with doms := SMap.put c.doms d ⟨0, 0⟩ ⟨s.value, s.slew + x * nsUnit⟩ }, .ok)
    else (c.stepDomain d (s.value + s.slew + x * nsUnit) 0, .ok)

/-- DOMAIN_SET (R360). -/
def Core.domainSet (c : Core) (d v : Nat) : Core × Reason :=
  if !time96Ok v then (c, .badValue)
  else if !c.released then (c, .wrongState)
  else ((c.stepDomain d (unitsOf96 v) (c.dom d).slew).wrWide (Reg.domain_set d) 2 v, .ok)

/-- SLEW_COMPLETE (R360): the clocks run until nothing of domain `d`'s slew remains. -/
def Core.slewComplete (c : Core) (d : Nat) : Core :=
  if (c.dom d).slew = 0 then c else c.advance (ceilDiv (c.dom d).slew.natAbs (max 1 c.slewUnit))

/-- slew_remaining in ns: 0 only when nothing remains. -/
def Core.slewRemaining (c : Core) (d : Nat) : Int :=
  let s := (c.dom d).slew
  (if s < 0 then -1 else 1) * (ceilDiv s.natAbs nsUnit : Nat)

/-- TIME_SNAPSHOT (R380): the local clock and the domains latched in one clock. -/
def Core.timeSnapshot (c : Core) (v : Nat) : Core × Reason :=
  if v ≠ 1 then (c, .badValue)
  else
    let c1 := (c.wr Reg.snap_local c.localNs).wr Reg.snapshot 2
    ((List.range 4).foldl (fun (a : Core) d => a.wrWide (Reg.snap_domain d) 2 (time96Of (c.dom d).value)) c1, .ok)

/-! ### PPS (R364 to R366) -/

/-- The units the PPS output follows: pps_out_domain, or side time for 4. -/
def Core.ppsUnits (c : Core) : Nat :=
  let d := c.rd Reg.pps_out_domain
  if d = 4 then c.sideUnits else (c.dom d).value

/-- The clocks until the PPS time, with its offset, reaches the next whole second; at least 1. -/
def Core.ppsTicks (c : Core) : Nat :=
  let sec := nsUnit * 1000000000
  let off := signedOf 32 (c.rd Reg.pps_out_offset_ns) * nsUnit
  let now := (c.ppsUnits : Int) + off
  let target := ((now / (sec : Nat) + 1) * (sec : Nat) - off).toNat
  let d := if c.rd Reg.pps_out_domain = 4 then c.rd Reg.time_source else c.rd Reg.pps_out_domain
  (c.wr Reg.time_source d).ticksToUnits target

/-- PPS_OUT_EDGE (R364). -/
def Core.ppsOutEdge (c : Core) : Core :=
  if c.flag Reg.pps_out_enable && !c.ppsOut && c.released then
    let c1 := c.advance c.ppsTicks
    { c1 with ppsOut := true, ppsEnd := c1.now + nsTicks (c.rd Reg.pps_out_width_ns) }
  else c

/-- PPS_OUT_END (R364): the output has been high for pps_out_width_ns. -/
def Core.ppsOutEnd (c : Core) : Core := if c.ppsOut then { c.advanceTo c.ppsEnd with ppsOut := false } else c

/-- pps_out_enable written: at 0 the output is low. -/
def Core.ppsOutEnable (c : Core) (v : Nat) : Core :=
  let c1 := c.wr Reg.pps_out_enable v
  if v = 0 then { c1 with ppsOut := false } else c1

/-- pps_in_enable written: an edge is awaited from then on. -/
def Core.ppsInEnable (c : Core) (v : Nat) : Core :=
  { (c.wr Reg.pps_in_enable v) with
    ppsBase := if v = 0 then none else (match c.ppsBase with | some t => some t | none => some c.now)
    ppsPrev := if v = 0 then none else c.ppsPrev }

/-- PPS_IN_EDGE (R365, R366). -/
def Core.ppsInEdge (c : Core) : Core :=
  if !c.flag Reg.pps_in_enable || !c.released then c
  else
    let glitch := match c.ppsPrev with
      | some t => decide (c.now - t < usTicks 1)
      | none => false
    if glitch then c.inc Reg.pps_in_glitches
    else
      let c1 := ((c.inc Reg.pps_in_edges).wr Reg.pps_in_last_local c.localNs).wr Reg.pps_in_last_side c.sideTime
      let out := match c.ppsPrev with
        | some t =>
          let gap := c.now - t
          let w := nsTicks (c.rd Reg.pps_in_window_ns)
          decide (gap + w < nsTicks 1000000000) || decide (nsTicks 1000000000 + w < gap)
        | none => false
      let c2 : Core := { c1 with ppsPrev := some c.now, ppsBase := some c.now }
      if out then (c2.inc Reg.pps_in_out_of_window).report 358 2 0 else c2

/-- PPS_MISSING (R366): no edge for 1 s and the window, once for each such second. -/
def Core.ppsMissing (c : Core) : Core :=
  match c.ppsBase with
  | none => c
  | some t =>
    if c.flag Reg.pps_in_enable && c.released then
      let c1 := c.advanceTo (t + nsTicks (1000000000 + c.rd Reg.pps_in_window_ns))
      (({ c1 with ppsBase := some (t + nsTicks 1000000000) } : Core).inc Reg.pps_in_missing).report 358 1 0
    else c

end Sys2Proof.Machine
end

