-- ==== Sys2Proof/Machine/Vports.lean ====
section
/-! DEFINITION. Vports.lean: vports: rings, records and interrupts, transmission, local and host delivery, shares,
resets, freezing, saving and restoring (R401 to R404, R455 to R483). -/

namespace Sys2Proof.Machine

/-! ### Functions and interrupts (R464, R465, R533) -/

/-- A function's state. -/
def Core.pfn (c : Core) (n : Nat) : FnDyn := SMap.getD c.fns n FnDyn.zero

/-- A function's state, changed. -/
def Core.modPfn (c : Core) (n : Nat) (f : FnDyn → FnDyn) : Core := { c with fns := SMap.put c.fns n FnDyn.zero (f (c.pfn n)) }

/-- A vport's engines. -/
def Core.vp (c : Core) (v : Nat) : VportDyn := SMap.getD c.vps v VportDyn.zero

/-- A vport's engines, changed. -/
def Core.modVp (c : Core) (v : Nat) (f : VportDyn → VportDyn) : Core := { c with vps := SMap.put c.vps v VportDyn.zero (f (c.vp v)) }

/-- An MSI-X vector: sent, or pending while masked or while the function may not write (PCI Express). -/
def Core.msixSend (c : Core) (n v : Nat) : Core :=
  let f := c.pfn n
  if !f.msixEnable then c
  else if f.masked v || !f.master then c.modPfn n (fun x => { x with pend := putBit x.pend v true })
  else c.emit (.msix n v)

/-- Pending vectors of a function that may be sent now. -/
def Core.msixFlush (c : Core) (n : Nat) : Core :=
  (setBits 64 (c.pfn n).pend).foldl (fun a v =>
    let f := a.pfn n
    if f.msixEnable && f.master && !f.masked v then (a.modPfn n (fun x => { x with pend := putBit x.pend v false })).emit (.msix n v) else a) c

/-- Interrupt `k` of a vport (R464). -/
def Core.vportIrq (c : Core) (v k : Nat) : Core :=
  if c.rd (Reg.placement v) = 1 then c.msixSend v k
  else c.msi (c.rd (Reg.guest_core v)) (c.rd (Reg.guest_file v)) (c.rd (Reg.msi_base v) + k)

/-- The vport has host placement. -/
def Core.hostPlaced (c : Core) (v : Nat) : Bool := decide (c.rd (Reg.placement v) = 1)

/-- Whether a vport's engines may write its completion records (R473). -/
def Core.mayWrite (c : Core) (v : Nat) : Bool := !c.hostPlaced v || (c.pfn v).master

/-! ### Rings (R462) -/

/-- The number of a ring's interrupt (R464). -/
def Ring.num : Ring → Nat
  | .rx => 0
  | .txc => 1
  | .stale => 2

/-- The index objects and the base of a ring. -/
def Ring.tail (r : Ring) (v : Nat) : Nat := match r with | .rx => Reg.rx_tail v | .txc => Reg.txc_tail v | .stale => Reg.stale_tail v
def Ring.head (r : Ring) (v : Nat) : Nat := match r with | .rx => Reg.rx_head v | .txc => Reg.txc_head v | .stale => Reg.stale_head v
def Ring.base (r : Ring) (v : Nat) : Nat :=
  match r with | .rx => Reg.rx_ring_base v | .txc => Reg.txc_ring_base v | .stale => Reg.stale_ring_base v
def Ring.shift : Ring → Nat
  | .rx => 24
  | .txc => 16
  | .stale => 8

/-- 2^(6 + code) entries, the code at a shift of ring_sizes (R460). -/
def Core.ringSize (c : Core) (v sh : Nat) : Nat := 2 ^ (6 + bits (c.rd (Reg.ring_sizes v)) (sh + 3) sh)

/-- The distance of free-running 32-bit indices. -/
def gap (a b : Nat) : Nat := (a + 2 ^ 32 - b) % 2 ^ 32

/-- Records of a ring not yet consumed. -/
def Core.ringHeld (c : Core) (r : Ring) (v : Nat) : Nat := gap (c.rd (r.tail v)) (c.rd (r.head v))

/-- The write times of a ring's records. -/
def VportDyn.times (x : VportDyn) : Ring → List Nat
  | .rx => x.rxTimes
  | .txc => x.txcTimes
  | .stale => x.staleTimes

/-- The same, set. -/
def VportDyn.setTimes (x : VportDyn) (r : Ring) (l : List Nat) : VportDyn :=
  match r with
  | .rx => { x with rxTimes := l }
  | .txc => { x with txcTimes := l }
  | .stale => { x with staleTimes := l }

/-- An armed ring whose condition holds sends its interrupt and is disarmed (R465). An irq_count of 0 acts as 1. -/
def Core.ringIrq (c : Core) (v : Nat) (r : Ring) : Core :=
  let x := c.vp v
  let l := x.times r
  let late := match l with
    | t :: _ => decide (t + nsTicks (c.rd (Reg.irq_delay_ns v)) ≤ c.now)
    | [] => false
  if bitOf x.armed r.num && (late || decide (max 1 (c.rd (Reg.irq_count v)) ≤ l.length)) then
    (c.modVp v (fun y => { y with armed := putBit y.armed r.num false })).vportIrq v r.num
  else c

/-- IRQ_DELAY_EXPIRY (R465): the oldest record of an armed ring has waited irq_delay_ns. -/
def Core.irqDelay (c : Core) (v : Nat) (r : Ring) : Core :=
  match (c.vp v).times r with
  | [] => c
  | t :: _ =>
    if bitOf (c.vp v).armed r.num then (c.advanceTo (t + nsTicks (c.rd (Reg.irq_delay_ns v)))).ringIrq v r else c

/-! ### Credits (R472, R473) -/

/-- credits_available. -/
def Core.creditsFree (c : Core) (v : Nat) : Nat :=
  c.rd (Reg.dma_credits v) - c.rd (Reg.credits_in_flight v) - c.rd (Reg.credits_unreturned v)

/-- A credit from available to in flight. -/
def Core.takeCredit (c : Core) (v : Nat) : Core := c.wr (Reg.credits_in_flight v) (c.rd (Reg.credits_in_flight v) + 1)

/-- A credit from in flight to available. -/
def Core.giveCredit (c : Core) (v : Nat) : Core := c.wr (Reg.credits_in_flight v) (c.rd (Reg.credits_in_flight v) - 1)

/-- A credit from in flight to unreturned. -/
def Core.moveCredit (c : Core) (v : Nat) : Core :=
  (c.giveCredit v).wr (Reg.credits_unreturned v) (c.rd (Reg.credits_unreturned v) + 1)

/-! ### Side memory through the engines (R471) -/

/-- Bytes written for a core-placed vport at a side offset: master 8 for the DMA engines, 9 for local delivery. -/
def Side.ringPut (d : Side) (v : Nat) (dma : Bool) (a : Nat) (o : Octets) : Side × Bool :=
  if a < 2 ^ 63 then d.spmBurst (if dma then 8 else 9) a o else d.dramPut (d.r.enginePort v dma) (a - 2 ^ 63) o

/-- Bytes read likewise. -/
def Side.ringGet (d : Side) (v a n : Nat) : Side × Option Octets :=
  if a < 2 ^ 63 then d.spmFetch 8 a n else d.dramGet (d.r.enginePort v true) (a - 2 ^ 63) n

/-- Bytes of a pool buffer written or read: the pool's location and an offset (R333). -/
def Side.bufPut (d : Side) (v q off : Nat) (o : Octets) : Side × Bool :=
  if d.r.rd (Reg.pool_location q) = 1 then d.spmBurst 9 off o else d.dramPut (d.r.enginePort v false) off o
def Side.bufGet (d : Side) (v q off n : Nat) : Side × Option Octets :=
  if d.r.rd (Reg.pool_location q) = 1 then d.spmFetch 8 off n else d.dramGet (d.r.enginePort v true) off n

/-! ### Completion records (R463, R473, R477, R478) -/

/-- What a completion record says. -/
structure Completion where
  addr : Nat
  stamp : Nat
  len : Nat
  tag : Nat
  gen : Nat
  errFlags : Nat
  tx : Bool
  queue : Nat
  status : Nat
  tsValid : Bool
  noTs : Bool

/-- Its 32 octets, little-endian. -/
def Completion.octets (k : Completion) : Octets :=
  toLe 32 (k.addr % 2 ^ 64 * 2 ^ 192 + k.stamp % 2 ^ 64 * 2 ^ 128 + k.len % 2 ^ 16 * 2 ^ 112 + k.tag % 2 ^ 16 * 2 ^ 96 +
    k.gen % 2 ^ 16 * 2 ^ 80 + k.errFlags % 2 ^ 16 * 2 ^ 64 + b2n k.tx * 2 ^ 63 + k.queue % 8 * 2 ^ 60 +
    k.status % 16 * 2 ^ 56 + b2n k.tsValid * 2 ^ 55 + b2n k.noTs * 2 ^ 54)

/-- The octets of an entry put at its place. -/
def Side.putEntry (d : Side) (v : Nat) (dma : Bool) (a : Nat) (o : Octets) : Side × Bool :=
  if d.r.hostPlaced v then ({ d with r := d.r.emit (.hostWrite v a o) }, true) else d.ringPut v dma a o

/-- A record written to its ring, or to the stale ring when the generation has changed; the item's credit moves on. A late
record that is not written is counted, whatever the reason (R478).
Answers whether the record stands in its own ring. -/
def Side.writeRecord (d : Side) (v : Nat) (own : Ring) (k : Completion) : Side × Bool :=
  let c := d.r
  let stale := decide (k.gen ≠ c.rd (Reg.generation v))
  let r := if stale then Ring.stale else own
  let size := c.ringSize v r.shift
  let full := decide (size ≤ c.ringHeld r v)
  let lost (a : Core) : Core :=
    if stale then ((a.giveCredit v).inc (Reg.stale_overflow v)).report 433 2 v else a.giveCredit v
  if !c.mayWrite v || stale && (full || decide (c.rd (r.base v) = 0)) then ({ d with r := lost c }, false)
  else
    let i := c.rd (r.tail v)
    let w := d.putEntry v k.tx (c.rd (r.base v) + i % size * 32) k.octets
    if !w.2 then ({ w.1 with r := lost w.1.r }, false)
    else
      let r1 := ((w.1.r.wr (r.tail v) ((i + 1) % 2 ^ 32)).moveCredit v).modVp v (fun x => x.setTimes r (x.times r ++ [c.now]))
      let r2 := if stale then (r1.inc (Reg.stale_results v)).reportRate 433 1 v else r1
      ({ w.1 with r := r2.ringIrq v r }, !stale)

/-! ### Doorbells (R454, R462, R472) -/

/-- A doorbell that moves an index backward or past the ring. -/
def Core.badDoorbell (c : Core) (v : Nat) : Core := (c.inc (Reg.bad_doorbell v)).reportRate 435 2 v

/-- Whether a vport's doorbells are taken: not absent, resetting or fenced (R476 step 1). -/
def Core.takesDoorbells (c : Core) (v : Nat) : Bool :=
  let s := c.rd (Reg.vport_state v)
  decide (s = 1) || decide (s = 3) || decide (s = 4)

/-- TX_TAIL_WRITE and FILL_TAIL_WRITE: a producer index written by the owner. -/
def Core.producerWrite (c : Core) (v tail head sh x : Nat) : Core :=
  if !c.takesDoorbells v then c
  else if 2 ^ 31 ≤ gap x (c.rd tail) ∨ c.ringSize v sh < gap x (c.rd head) then c.badDoorbell v
  else c.wr tail x

/-- tx_tail. -/
def Core.txTailWrite (c : Core) (v x : Nat) : Core := c.producerWrite v (Reg.tx_tail v) (Reg.tx_head v) 20 x

/-- fill_tail. -/
def Core.fillTailWrite (c : Core) (v x : Nat) : Core := c.producerWrite v (Reg.fill_tail v) (Reg.fill_head v) 12 x

/-- CONSUMER_HEAD_WRITE (R465, R472): records consumed, their credits returned, the ring armed. -/
def Core.consumerWrite (c : Core) (v : Nat) (r : Ring) (x : Nat) : Core :=
  if !c.takesDoorbells v then c
  else
    let n := gap x (c.rd (r.head v))
    if c.ringHeld r v < n then c.badDoorbell v
    else
      let u := c.rd (Reg.credits_unreturned v)
      (((c.wr (r.head v) x).wr (Reg.credits_unreturned v) (u - n)).modVp v (fun y =>
        { (y.setTimes r ((y.times r).drop n)) with armed := putBit y.armed r.num true })).ringIrq v r

/-! ### Transmission (R466, R470) -/

/-- The engines issue work: the side is in Run and not stopped. -/
def Core.enginesRun (c : Core) : Bool := c.released && decide (c.rd Reg.power_state = 0) && decide (c.rd Reg.side_state ≠ 2)

/-- An address range the DMA window allows (R470). -/
def Core.windowOk (c : Core) (v a n : Nat) : Bool :=
  decide (c.rd (Reg.dma_window_limit v) = 0) ||
  (decide (c.rd (Reg.dma_window_base v) ≤ a) && decide (a + n ≤ c.rd (Reg.dma_window_limit v)))

/-- The first pool of a chain whose buffers hold `need` bytes (R401 step 2). -/
def Core.poolFor (c : Core) (q need : Nat) : Nat → Option Nat
  | 0 => none
  | n + 1 =>
    if q = 0 then none
    else if need ≤ c.bufBytes q then some q
    else c.poolFor (c.rd (Reg.successor q)) need n

/-- A transmit job replaced. -/
def Core.setJob (c : Core) (old new : TxJob) : Core := { c with txJobs := c.txJobs.map (fun x => if x = old then new else x) }

/-- A bad descriptor counted (R454). -/
def Core.badDescriptor (c : Core) (v : Nat) : Core := (c.inc (Reg.bad_descriptors v)).reportRate 435 1 v

/-- A job that begins: its descriptor is fetched and its credit taken. -/
def Core.startJob (c : Core) (v : Nat) (j : TxJob) : Core :=
  let c1 := (c.takeCredit v).wr (Reg.tx_head v) ((c.rd (Reg.tx_head v) + 1) % 2 ^ 32)
  { c1 with txJobs := c1.txJobs ++ [j] }

/-- Host reads of the side that are outstanding (R450). -/
def Core.readsOut (c : Core) : Nat := (c.txJobs.filter (fun j => decide (j.state = 0) && j.host)).length

/-- TX_DESCRIPTOR_FETCH (R466): the engine fetches the vport's next descriptor. `desc` is what host memory holds
there; under core placement the ring is read. Without a staging buffer the descriptor waits, and no tokens are spent. -/
def Side.txFetch (d : Side) (v : Nat) (desc : Octets) : Side :=
  let c := d.r
  let host := c.hostPlaced v
  if c.rd (Reg.vport_state v) ≠ 1 ∨ c.enginesRun = false ∨ c.creditsFree v = 0 ∨ c.rd (Reg.tx_head v) = c.rd (Reg.tx_tail v) ∨
      c.mayWrite v = false ∨ (host = true ∧ 256 ≤ c.readsOut) then d
  else
    let at' := c.rd (Reg.tx_ring_base v) + c.rd (Reg.tx_head v) % c.ringSize v 20 * 32
    let r : Side × Option Octets := if host then (d, some (padTo 32 desc)) else d.ringGet v at' 32
    let w := leNat (r.2.getD (List.replicate 32 0))
    let addr := bits w 255 192
    let len := bits w 191 176
    let ts := bitOf w 159
    let j : TxJob :=
      { v := v, gen := c.rd (Reg.generation v), addr := addr, tag := bits w 175 160, len := len, tsReq := ts,
        keep := bitOf w 158, host := host, state := 0, handle := 2 ^ 63, data := [], frameNo := 0, status := 0,
        tsWait := ts, tsValid := false, noTs := false, ts := 0, since := c.now, tsPort := 0, crossed := false }
    let bad (x : Side) : Side := { x with r := (x.r.startJob v { j with state := 3, status := 2, tsWait := false }).badDescriptor v }
    let m := r.1.r.rd (Reg.tx_meter v)
    let t : Core × Bool := if m < 2048 then r.1.r.txMeter m (len + 4) else (r.1.r, true)
    if !t.2 then { r.1 with r := t.1 }
    else if len < 14 ∨ 9212 < len then bad { r.1 with r := t.1 }
    else if host then
        if !t.1.windowOk v addr len then bad { r.1 with r := t.1 }
        else match t.1.poolFor (t.1.rd (Reg.tx_pool v)) len 8 with
          | none => bad { r.1 with r := t.1 }
          | some q =>
            let a := t.1.poolAlloc q v
            if bitOf a.2 63 then { r.1 with r := (r.1.r.poolAlloc q v).1 }
            else { r.1 with r := a.1.startJob v { j with handle := a.2 } }
      else
        match t.1.decodeHandle addr with
        | none => bad { r.1 with r := t.1 }
        | some (q, i) =>
          if SMap.getD t.1.poolTags (bufKey q i) 0 ≠ v + 1 ∨ t.1.bufBytes q < len then bad { r.1 with r := t.1 }
          else
            let g := ({ r.1 with r := t.1 } : Side).bufGet v q (addr % 2 ^ 40) len
            match g.2 with
            | some o => { g.1 with r := g.1.r.startJob v { j with state := 1, handle := addr, data := o } }
            | none => { g.1 with r := g.1.r.startJob v { j with state := 3, status := 3, handle := addr, tsWait := false } }

/-- The oldest descriptor of a vport whose host read is outstanding. -/
def Core.reading (c : Core) (v : Nat) : Option TxJob :=
  c.txJobs.find? (fun j => decide (j.v = v) && decide (j.state = 0) && j.host)

/-- The staging buffer or the handle of a job freed (R466 step 3). -/
def Core.freeJob (c : Core) (j : TxJob) : Core :=
  let c1 := if bitOf j.handle 63 || (!j.host && j.keep) then c else (c.poolFree j.handle 10 j.v false).1
  c1.setJob j { j with handle := 2 ^ 63 }

/-- A host read that ends in an error (R454): status 3. -/
def Core.readFailed (c : Core) (j : TxJob) (kind : Nat) : Core :=
  (((c.setJob j { j with state := 3, status := 3, tsWait := false }).inc (Reg.host_dma_errors j.v)).reportRate 434 kind j.v).freeJob
    { j with state := 3, status := 3, tsWait := false }

/-- A transmission that a reset of its vport flushes (R476): completed with status 1. -/
def Core.flushJob (c : Core) (j : TxJob) : Core :=
  let j' := { j with state := 3, status := 1, tsWait := false }
  ((c.setJob j j').inc (Reg.flushed_descriptors j.v)).freeJob j'

/-- DMA_READ_COMPLETION (R466): 0 with data, 1 UR or CA, 2 poisoned. A vport in reset discards the data. -/
def Core.readCompletion (c : Core) (v outcome : Nat) (o : Octets) : Core :=
  match c.reading v with
  | none => c
  | some j =>
    if c.rd (Reg.vport_state v) = 2 then c.flushJob j
    else if outcome = 0 then c.setJob j { j with state := 1, data := padTo j.len o }
    else c.readFailed j (if outcome = 1 then 1 else 3)

/-- PCIE_CPL_TIMEOUT (R454): `ms` is pcie_cpl_timeout_ms. Answers whether a read has timed out. That of a vport in reset ends as R476 says. -/
def Core.readTimeout (c : Core) (v ms : Nat) : Core × Bool :=
  match c.reading v with
  | none => (c, false)
  | some j =>
    let c1 := c.advanceTo (j.since + msTicks ms)
    (if c1.rd (Reg.vport_state v) = 2 then c1.flushJob j else c1.readFailed j 2, true)

/-- Whether a frame has wholly entered its ingress group: no copy of it has cells to send. -/
def Core.entered (c : Core) (no : Nat) : Bool :=
  !c.copies.any (fun x => decide (x.frameNo = no) && !x.dead && decide (x.sent < x.total) && decide (x.ingress ≠ .crossing)) &&
  !c.recirc.any (fun r => decide (r.frameNo = no))

/-- Whether no copy of a frame is left that could give its egress stamp (R466 step 4). -/
def Core.stampGone (c : Core) (no : Nat) : Bool :=
  !c.copies.any (fun x => decide (x.frameNo = no) && x.tsReq && !x.dead && !x.started) && !c.recirc.any (fun r => decide (r.frameNo = no))

/-- TX_STAMP_TIMEOUT (R466): the egress stamp has not returned within 1 ms. -/
def Core.stampTimeout (c : Core) (v : Nat) : Core :=
  match c.txJobs.find? (fun j => decide (j.v = v) && decide (j.state = 2) && j.tsWait) with
  | none => c
  | some j => (c.advanceTo (j.since + msTicks 1)).setJob j { j with tsWait := false }

/-- Buffers of a vport's entered frames freed. -/
def Core.freeEntered (c : Core) (v : Nat) : Core :=
  (c.txJobs.filter (fun j => decide (j.v = v) && decide (j.state = 2) && c.entered j.frameNo)).foldl (fun (a : Core) j => a.freeJob j) c

/-- Whether a job's completion may be written. One that awaits a stamp from the other side waits for it or for its 1 ms (R466). -/
def Core.jobDone (c : Core) (j : TxJob) : Bool :=
  decide (j.state = 3) || (decide (j.state = 2) && c.entered j.frameNo && (!j.tsWait || (!j.crossed && c.stampGone j.frameNo)))

/-- A job's completion written and the job ended. -/
def Side.endJob (d : Side) (j : TxJob) : Side :=
  let k : Completion := ⟨j.addr, if j.tsValid then j.ts else 0, j.len, j.tag, j.gen, 0, true, 0, j.status, j.tsValid, j.noTs⟩
  let r0 : Core := { d.r with txJobs := d.r.txJobs.erase j }
  let r1 := if j.tsPort = 0 then r0 else r0.modPort (j.tsPort - 1) (fun y => { y with stamps := y.stamps - 1 })
  (({ d with r := r1 } : Side).writeRecord j.v .txc k).1

/-- The errors that an access to the pool manager's stores meets (R342). -/
def Side.poolMeets (d : Side) (ds : List Defect) : Side := { d with r := d.r.poolDefects ds }

/-- TX_COMPLETION (R466): the completion of the vport's oldest descriptor, when it has ended and its ring has room. -/
def Side.txCompletion (d : Side) (v : Nat) : Side :=
  let c := d.r.freeEntered v
  let d1 : Side := { d with r := c }
  if c.rd (Reg.vport_state v) = 5 then d1
  else match c.txJobs.find? (fun j => decide (j.v = v)) with
    | none => d1
    | some j =>
      if c.jobDone j && (decide (j.gen ≠ c.rd (Reg.generation v)) || decide (c.ringHeld .txc v < c.ringSize v 16)) then d1.endJob j else d1

/-! ### Delivery (R350, R401 to R404, R467 to R469) -/

/-- Whether a vport's rings can take a frame (R469): records of deliveries in flight have their entries already. -/
def Core.canDeliver (c : Core) (v : Nat) : Bool :=
  let flying := (c.rxJobs.filter (fun j => decide (j.v = v))).length
  let ps := c.rd Reg.power_state
  decide (c.rd (Reg.vport_state v) = 1) && decide (c.rd Reg.side_state ≠ 2) && (decide (ps = 0) || decide (ps = 1) || decide (ps = 4)) &&
  decide (0 < c.creditsFree v) && decide (c.ringHeld .rx v + flying < c.ringSize v 24) &&
  (!c.hostPlaced v || decide (c.rd (Reg.fill_head v) ≠ c.rd (Reg.fill_tail v)))

/-- The stored length with the change of R266. -/
def Copy.delivered (x : Copy) : Nat := ((x.data.length : Int) + x.edits.delta x.pr).toNat

/-- The queues of vport `v` (R350). The object server's frames never reach the rings (R457). -/
def Core.vportQueues (c : Core) (v : Nat) : Queues :=
  let free := c.canDeliver v
  { key := 64 + v, strict := (if v = 0 then max 1 (c.rd (Reg.strict_count v)) else c.rd (Reg.strict_count v))
    eligible := fun q => free && c.shaperOk true v q &&
      (match c.headCopy (.vport v) q with | some x => !x.mgmt | none => false)
    mgmt7 := false
    holds := fun q => !(c.queue (.vport v) q).isEmpty
    charge := fun q => (match c.headCopy (.vport v) q with | some x => x.delivered | none => 0)
    quantum := fun q => c.rd (Reg.quantum v q) }

/-- A vport's frame taken off its queue, in transmission for charge × 8 ÷ vport_rate (R350); one that follows another
within a clock begins where that one ends. -/
def Core.beginDelivery (c : Core) (v : Nat) (x : Copy) : Core :=
  let e := (c.port (64 + v)).txEnd
  let t0 := if c.now * 1000 < e + 1000 then e else c.now * 1000
  let c1 := (c.touchShapersTo true v t0).unlink x
  let w := ceilDiv (x.delivered * 8 * 3000000000000) (max 1 (c1.rd (Reg.vport_rate v)))
  (c1.modPort (64 + v) (fun y => { y with txStart := t0, txLast := t0 + w, txEnd := t0 + w, txQueue := x.queue, txWire := t0 + w, txRate := c1.rd (Reg.vport_rate v) })).modCopy x.id
    (fun y => { y with started := true })

/-- The cells of a copy moved from queued to held. -/
def Core.holdCopy (c : Core) (x : Copy) : Core := (c.moveCells .queued .held x.written).modCopy x.id (fun y => { y with held := true })

/-- A fill descriptor's fields (R463): address, length, tag. -/
def fillFields (o : Octets) : Nat × Nat × Nat := let w := leNat (padTo 16 o); (bits w 127 64, bits w 63 48, bits w 47 32)

/-- Whether a fill descriptor is good (R463, R470). -/
def Core.fillOk (c : Core) (v : Nat) (f : Nat × Nat × Nat) : Bool :=
  decide (f.1 % 64 = 0) && decide (128 ≤ f.2.1) && decide (f.2.1 ≤ 16384) && decide (f.2.1 % 64 = 0) && c.windowOk v f.1 f.2.1

/-- The fill descriptor at fill_head consumed. -/
def Core.takeFill (c : Core) (v : Nat) : Core := c.wr (Reg.fill_head v) ((c.rd (Reg.fill_head v) + 1) % 2 ^ 32)

/-- A delivery begun: the copy, its edited data, and where it goes. -/
def Core.startDelivery (c : Core) (v : Nat) (x : Copy) (host : Bool) (addr tag : Nat) : Core :=
  let e := c.applyEdits x.edits x.data
  let c1 := ((e.1.beginDelivery v x).takeCredit v).holdCopy x
  { c1 with rxJobs := c1.rxJobs ++ [⟨v, x.id, c.rd (Reg.generation v), host, addr, tag, e.2, x.pr, x.errFlags, x.stamp, x.queue⟩] }

/-- A selected frame under core placement (R401 steps 1 to 4). -/
def Core.selectLocal (c : Core) (v : Nat) (x : Copy) (ds : List Defect) : Core :=
  match c.poolFor (c.rd (Reg.rx_pool v)) (64 + x.delivered) 8 with
  | none => ((c.beginDelivery v x).dropCopy x.id Reg.ld_drop_too_long).reportRate 393 1 v
  | some q =>
    let a := (c.poolDefects ds).poolAlloc q v
    if bitOf a.2 63 then (a.1.beginDelivery v x).dropCopy x.id Reg.pool_drop_deliver
    else a.1.startDelivery v x false a.2 0

/-- A selected frame under host placement (R468); `fill` is the descriptor at fill_head. -/
def Side.selectHost (d : Side) (v : Nat) (x : Copy) (fill : Octets) : Side :=
  let f := fillFields fill
  let c := d.r
  if !c.fillOk v f then
    let d1 : Side := { d with r := ((c.takeFill v).takeCredit v).badDescriptor v }
    (d1.writeRecord v .rx ⟨f.1, 0, 0, f.2.2, c.rd (Reg.generation v), 0, false, 0, 2, false, false⟩).1
  else if f.2.1 < 64 + x.delivered then { d with r := (c.beginDelivery v x).dropCopy x.id (Reg.vp_drop_too_long v) }
  else { d with r := (c.takeFill v).startDelivery v x true f.1 f.2.2 }

/-- VPORT_SELECT (R350): the vport's next frame. The clocks run to the end of the last frame's transmission. -/
def Side.vportSelect (d : Side) (v : Nat) (fill : Octets) (ds : List Defect) : Side :=
  let c0 := ((d.r.advanceTo (ceilDiv (d.r.port (64 + v)).txEnd 1000)).touchShapers true v).adoptSlopes v
  match c0.select (c0.vportQueues v) with
  | (_, none) => d
  | (c1, some q) =>
    match c1.headCopy (.vport v) q with
    | none => d
    | some x => if c1.hostPlaced v then ({ d with r := c1 } : Side).selectHost v x fill else { d with r := c1.selectLocal v x ds }

/-- A delivery that writes no record: its cells are free and its credit available again. -/
def Core.abandon (c : Core) (j : RxJob) (k : Nat) : Core :=
  let c1 : Core := { c with rxJobs := c.rxJobs.erase j }
  let c2 := (c1.inc k).finishCopy j.copy
  (if j.host then c2 else (c2.poolFree j.addr 9 j.v false).1).giveCredit j.v

/-- The deliveries of a fenced slice's vports, whose frames have been dropped, end without a record (R309). -/
def Core.endFenced (c : Core) (k : Nat) : Core :=
  (c.rxJobs.filter (fun j => decide (j.v / 8 = k))).foldl (fun (a : Core) j =>
    let a1 : Core := { a with rxJobs := a.rxJobs.erase j }
    (if j.host then a1 else (a1.poolFree j.addr 9 j.v false).1).giveCredit j.v) c

/-- The buffer of R402. -/
def RxJob.buffer (j : RxJob) : Octets := j.pr.octets ++ List.replicate 32 0 ++ j.data

/-- A delivery's record written and the frame counted (R401 steps 5 to 7, R468 step 4). -/
def Side.endDelivery (d : Side) (j : RxJob) : Side :=
  let r0 : Core := { d.r with rxJobs := d.r.rxJobs.erase j }
  let r1 := r0.finishCopy j.copy
  let n := j.data.length
  let r2 := (r1.inc (Reg.vp_vport_frames_delivered j.v)).add (Reg.vp_rx_octets j.v) n
  let r3 := if j.host then r2 else (r2.inc Reg.ld_frames).add Reg.ld_octets n
  (({ d with r := r3 } : Side).writeRecord j.v .rx
    ⟨j.addr, j.stamp, n, j.tag, j.gen, j.errFlags, false, j.queue, 0, false, false⟩).1

/-- What a delivery's cell reads meet (R319, R404). -/
def Core.deliveryEcc (c : Core) (j : RxJob) (rd : CellRead) : Core :=
  match c.copy j.copy with
  | some x => c.bufferEcc x rd
  | none => c

/-- One delivery brought to its end (R401, R404, R468); an uncorrectable cell drops the frame (R319). -/
def Side.completeDelivery (d : Side) (j : RxJob) (rd : CellRead) : Side :=
  let c := d.r.deliveryEcc j rd
  if rd.ecc = 2 then { d with r := c.abandon j Reg.sc_drop_ecc }
  else if j.host then
    if !(c.pfn j.v).master then { d with r := c.abandon j (Reg.vp_drop_reset j.v) }
    else ({ d with r := c.emit (.hostWrite j.v j.addr j.buffer) } : Side).endDelivery j
  else
    let w := ({ d with r := c } : Side).bufPut j.v (bits j.addr 62 60) (j.addr % 2 ^ 40) j.buffer
    if w.2 then w.1.endDelivery j
    else { w.1 with r := (w.1.r.abandon j Reg.ld_drop_write_error).report 393 2 j.v }

/-- LD_WRITE_COMPLETE (`host` false) and HOST_DELIVERY_COMPLETE (`host` true): the oldest delivery of the vport ends.
A fenced vport's items wait (R523). -/
def Side.deliveryComplete (d : Side) (v : Nat) (host : Bool) (rd : CellRead) : Side :=
  if d.r.rd (Reg.vport_state v) = 5 then d
  else match d.r.rxJobs.find? (fun j => decide (j.v = v) && decide (j.host = host)) with
    | none => d
    | some j => d.completeDelivery j rd

/-! ### Life of a vport (R457 to R459, R476 to R480) -/

/-- The vports that exist. -/
def Core.created (c : Core) : List Nat := (List.range 64).filter c.vportExists

/-- The sum of an object over the vports that exist, but one. -/
def Core.sumOthers (c : Core) (v : Nat) (k : Nat → Nat) : Nat :=
  (c.created.filter (fun u => decide (u ≠ v))).foldl (fun a u => a + c.rd (k u)) 0

/-- A ring of a core-placed vport lies in the scratchpad or the usable DRAM (R459). Its base is a side offset: a
scratchpad offset, or with [63] a DRAM offset. -/
def Core.ringInside (c : Core) (b n : Nat) : Bool :=
  if b < 2 ^ 63 then decide (b + n ≤ 0x1000000) else decide (b - 2 ^ 63 + n ≤ c.dramUsable)

/-- The ring checks of R459. -/
def Core.ringsOk (c : Core) (v : Nat) : Bool :=
  let z := c.rd (Reg.ring_sizes v)
  let bs := [(Reg.rx_ring_base v, 24), (Reg.tx_ring_base v, 20), (Reg.txc_ring_base v, 16), (Reg.stale_ring_base v, 8)]
  [24, 20, 16, 12, 8].all (fun sh => decide (bits z (sh + 3) sh ≤ 10)) &&
  (bs ++ [(Reg.fill_ring_base v, 12)]).all (fun b => decide (c.rd b.1 % 64 = 0)) &&
  (c.hostPlaced v || bs.all (fun b => c.ringInside (c.rd b.1) (32 * c.ringSize v b.2)))

/-- The checks of R459, in the order of its table. -/
def Core.vportChecks (c : Core) (v : Nat) : Reason :=
  let m := c.rd (Reg.tx_meter v)
  let a := c.rd (Reg.search_first v)
  let n := c.rd (Reg.search_units v)
  let others := c.created.filter (fun u => decide (u ≠ v))
  let mins := ((List.range 8).map (fun q => c.rd (Reg.vp_min_cells v q))).foldl (· + ·) 0
  if c.rd (Reg.vport_state v) ≠ 0 then .wrongState
  else if !c.ringsOk v then .badValue
  else if 8192 < c.sumOthers v Reg.dma_credits + c.rd (Reg.dma_credits v) then .overCommitted
  else if c.rd Reg.vport_cells_total < c.sumOthers v Reg.share_cells + c.rd (Reg.share_cells v) ∨
      c.sharedInt - (mins : Nat) < 16384 then .overCommitted
  else if [c.rd (Reg.rx_pool v), c.rd (Reg.tx_pool v)].any (fun q => decide (q = 0) || decide (7 < q) || !c.flag (Reg.pool_enable q)) then
    .badValue
  else if m ≠ 0xFFFF ∧ others.any (fun u => decide (c.rd (Reg.tx_meter u) = m)) = true then .resourceTaken
  else if 262144 < c.rd (Reg.station_quota v) then .badValue
  else if n ≠ 0 ∧ others.any (fun u =>
      let b := c.rd (Reg.search_first u)
      let k := c.rd (Reg.search_units u)
      decide (k ≠ 0) && decide (a < b + k) && decide (b < a + n)) = true then .resourceTaken
  else .ok

/-- Every ring index 0. -/
def Core.clearIndices (c : Core) (v : Nat) : Core :=
  ([Reg.tx_tail, Reg.tx_head, Reg.fill_tail, Reg.fill_head, Reg.rx_tail, Reg.rx_head, Reg.txc_tail, Reg.txc_head,
    Reg.stale_tail, Reg.stale_head].foldl (fun (a : Core) k => a.wr (k v) 0) c).modVp v
    (fun x => { x with rxTimes := [], txcTimes := [], staleTimes := [], armed := 7 })

/-- A vport made: state 1, generation 1, indices and counters 0, rings armed. -/
def Core.openVport (c : Core) (v : Nat) : Core :=
  let c1 := (List.range 13).foldl (fun (a : Core) k => a.wr (Reg.vp_vport_frames_sent v + k) 0) c
  let c2 := ((((c1.clearIndices v).wr (Reg.vport_state v) 1).wr (Reg.generation v) 1).wr (Reg.credits_in_flight v) 0).wr
    (Reg.credits_unreturned v) 0
  { (c2.modVp v (fun x => { x with destroying := false, changed := false })) with
    reclaimed := c2.reclaimed.filter (fun o => decide (o ≠ v)) }

/-- VPORT_CREATE (R459). -/
def Core.vportCreate (c : Core) (v : Nat) : Core × Reason :=
  match c.vportChecks v with
  | .ok => ((c.openVport v).wr (Reg.vport_ctl v) 2, .ok)
  | r => (c.wr (Reg.vport_ctl v) 3, r)

/-- Steps 1 and 2 of R476: the queued frames are discarded. -/
def Core.resetSteps (c : Core) (v : Nat) : Core :=
  c.dropWhere (fun x => decide (x.target = .vport v) && !x.held && !x.mgmt) (Reg.vp_drop_reset v)

/-- A reset of vport `v` begins (R476): by vport_ctl 2, a destroy, an FLR, or an unfence. It is accepted in every state; an absent vport
is absent after it (DESIGN CHOICE, log entry 70). -/
def Core.vportReset (c : Core) (v : Nat) (destroy : Bool) : Core :=
  let gone := destroy || decide (c.rd (Reg.vport_state v) = 0)
  (((c.wr (Reg.vport_state v) 2).wr (Reg.vport_ctl v) 1).modVp v (fun x => { x with destroying := x.destroying || gone })).resetSteps v

/-- VPORT_RESET and VPORT_DESTROY (R459, R476, R483); vport 0 cannot be destroyed (R457). -/
def Core.vportResetWrite (c : Core) (v : Nat) (destroy : Bool) : Core × Reason :=
  if destroy = true ∧ v = 0 then (c.wr (Reg.vport_ctl v) 3, .wrongState)
  else (c.vportReset v destroy, .ok)

/-- The items of a vport in reset brought to their ends (R476). -/
def Side.endItems (d : Side) (v : Nat) : Side :=
  let d1 := (d.r.rxJobs.filter (fun j => decide (j.v = v))).foldl (fun (a : Side) j => a.completeDelivery j ⟨0, 0⟩) d
  let r2 := (d1.r.txJobs.filter (fun j => decide (j.v = v) && decide (j.state < 2))).foldl (fun (a : Core) j => a.flushJob j) d1.r
  let r3 := (r2.txJobs.filter (fun j => decide (j.v = v) && decide (j.state = 2))).foldl (fun (a : Core) j => a.freeJob j) r2
  (r3.txJobs.filter (fun j => decide (j.v = v))).foldl (fun (a : Side) j => a.endJob j) { d1 with r := r3 }

/-- VPORT_RESET_COMPLETE (R476 steps 3 to 6). -/
def Side.vportResetComplete (d : Side) (v : Nat) : Side :=
  if d.r.rd (Reg.vport_state v) ≠ 2 then d
  else
    let d1 := d.endItems v
    let c1 := ((d1.r.clearIndices v).wr (Reg.credits_unreturned v) 0).wr (Reg.credits_in_flight v) 0
    let c2 := (c1.scanOwner v).report 350 1 v
    let gone := (c2.vp v).destroying
    let c3 := (((c2.wr (Reg.vport_state v) (if gone then 0 else 1)).wr (Reg.vport_ctl v) 2).report 432 1 v).vportIrq v 3
    { d1 with r := c3.modVp v (fun x => { x with destroying := false, changed := false }) }

/-- VPORT_FREEZE (R479). -/
def Core.vportFreeze (c : Core) (v : Nat) : Core × Reason :=
  if c.rd (Reg.vport_state v) ≠ 1 then (c.wr (Reg.vport_ctl v) 3, .wrongState)
  else (((c.wr (Reg.vport_state v) 3).wr (Reg.vport_ctl v) 1).modVp v (fun x => { x with freezeAt := c.now, changed := false }), .ok)

/-- The vport is frozen. -/
def Core.frozen (c : Core) (v : Nat) : Core :=
  (((c.wr (Reg.in_flight_left v) (c.rd (Reg.credits_in_flight v))).wr (Reg.vport_state v) 4).wr (Reg.vport_ctl v) 2).report 432 2 v |>
    (fun a => a.vportIrq v 3)

/-- FREEZE_COMPLETE (R479). -/
def Core.freezeComplete (c : Core) (v : Nat) : Core :=
  if c.rd (Reg.vport_state v) = 3 ∧ c.rd (Reg.credits_in_flight v) = 0 then c.frozen v else c

/-- FREEZE_DEADLINE (R479). -/
def Core.freezeDeadline (c : Core) (v : Nat) : Core :=
  let t := c.rd (Reg.freeze_deadline_us v)
  if c.rd (Reg.vport_state v) = 3 ∧ t ≠ 0 then (c.advanceTo ((c.vp v).freezeAt + usTicks t)).frozen v else c

/-- VPORT_THAW (R477, R480). -/
def Core.vportThaw (c : Core) (v : Nat) : Core × Reason :=
  if c.rd (Reg.vport_state v) ≠ 4 then (c.wr (Reg.vport_ctl v) 3, .wrongState)
  else
    let g := c.rd (Reg.generation v)
    let c1 := if (c.vp v).changed then c.wr (Reg.generation v) ((g + 1) % 2 ^ 32) else c
    (((c1.wr (Reg.vport_state v) 1).wr (Reg.vport_ctl v) 2).modVp v (fun x => { x with changed := false }), .ok)

/-! ### The state image (R481, R482) -/

/-- The fields of an image before its check, 480 octets. -/
def Core.imageBody (c : Core) (v rev : Nat) : Octets :=
  let m := SMap.getD c.meters (c.rd (Reg.tx_meter v)) MeterState.zero
  let m := if c.rd (Reg.tx_meter v) < 2048 then m else MeterState.zero
  let idx := [Reg.tx_tail, Reg.tx_head, Reg.fill_tail, Reg.fill_head, Reg.rx_tail, Reg.rx_head, Reg.txc_tail, Reg.txc_head,
    Reg.stale_tail, Reg.stale_head]
  let q8 (n : Nat) (f : Nat → Nat) : Octets := ((List.range 8).map (fun q => toBe n (f q))).flatten
  toBe 4 0x49565331 ++ toBe 2 1 ++ toBe 1 rev ++ toBe 1 v ++ toBe 4 (c.rd (Reg.generation v)) ++ toBe 1 (c.rd (Reg.placement v)) ++
  toBe 3 0 ++ toBe 2 (c.rd (Reg.in_flight_left v)) ++ toBe 6 0 ++
  (idx.map (fun k => toBe 4 (c.rd (k v)))).flatten ++
  ((List.range 13).map (fun k => toBe 8 (c.rd (Reg.vp_vport_frames_sent v + k)))).flatten ++
  toBe 8 m.c.tokens ++ toBe 8 m.e.tokens ++ toBe 8 m.c.rem ++ toBe 8 m.e.rem ++
  toBe 4 (c.rd (Reg.share_cells v)) ++ toBe 4 (c.rd (Reg.station_quota v)) ++ toBe 2 (c.rd (Reg.dma_credits v)) ++ toBe 2 0 ++
  q8 2 (fun q => c.rd (Reg.vp_min_cells v q)) ++ q8 1 (fun q => c.rd (Reg.vp_alpha_exp v q)) ++
  q8 4 (fun q => c.rd (Reg.quantum v q)) ++ toBe 4 0 ++ q8 8 (fun q => c.rd (Reg.idle_slope v q)) ++
  q8 8 (fun q => unsignedOf 64 (c.shownCredit true v q)) ++ q8 4 (fun q => SMap.getD (c.port (64 + v)).deficit q 0) ++
  toBe 8 (c.rd (Reg.vport_rate v)) ++ toBe 1 (c.rd (Reg.strict_count v)) ++ List.replicate 39 0

/-- VPORT_SAVE (R481); `rev` is silicon_revision [15:8]. -/
def Core.vportSave (c : Core) (v rev : Nat) : Core × Reason :=
  if c.rd (Reg.vport_state v) ≠ 4 then (c.wr (Reg.vport_ctl v) 3, .wrongState)
  else
    let b := c.imageBody v rev
    ((c.setTab wVport v (beNat (b ++ sha3_256 b))).wr (Reg.vport_ctl v) 2, .ok)

/-- The detail of an image the restore rejects (R482), 0 for none. -/
def imageDetail (o : Octets) (rev : Nat) : Nat :=
  if be32 o 0 ≠ 0x49565331 ∨ be16 o 4 ≠ 1 then 1
  else if octetAt o 6 ≠ rev then 2
  else if slice o 480 32 ≠ sha3_256 (o.take 480) then 3
  else 0

/-- The image's shares, quota, credits and scheduling in the vport's objects. -/
def Core.imageObjects (c : Core) (v : Nat) (o : Octets) : Core :=
  let f (off n : Nat) : Nat := beNat (slice o off n)
  let c1 := (((((c.wr (Reg.share_cells v) (f 200 4)).wr (Reg.station_quota v) (f 204 4)).wr (Reg.dma_credits v) (f 208 2)).wr
    (Reg.vport_rate v) (f 432 8)).wr (Reg.strict_count v) (f 440 1))
  (List.range 8).foldl (fun (a : Core) q =>
    (((a.wr (Reg.vp_min_cells v q) (f (212 + 2 * q) 2)).wr (Reg.vp_alpha_exp v q) (f (228 + q) 1)).wr
      (Reg.quantum v q) (f (236 + 4 * q) 4)).wr (Reg.idle_slope v q) (f (272 + 8 * q) 8)) c1

/-- The image's indices, counters, tokens and scheduling state restored. -/
def Core.imageState (c : Core) (v : Nat) (o : Octets) : Core :=
  let f (off n : Nat) : Nat := beNat (slice o off n)
  let c0 := c.openVport v
  let idx := [Reg.tx_tail, Reg.tx_head, Reg.fill_tail, Reg.fill_head, Reg.rx_tail, Reg.rx_head, Reg.txc_tail, Reg.txc_head,
    Reg.stale_tail, Reg.stale_head]
  let c1 := (List.range 10).foldl (fun (a : Core) k => a.wr ((idx.getD k Reg.tx_tail) v) (f (24 + 4 * k) 4)) c0
  let c2 := (List.range 13).foldl (fun (a : Core) k => a.wr (Reg.vp_vport_frames_sent v + k) (f (64 + 8 * k) 8)) c1
  let m := c2.rd (Reg.tx_meter v)
  let c3 : Core := if m < 2048 then
      let s := SMap.getD c2.meters m MeterState.zero
      { c2 with meters := SMap.insert c2.meters m { s with
        c := { s.c with tokens := f 168 8, rem := f 184 8, credited := f 168 8, spent := 0, discarded := 0 }
        e := { s.e with tokens := f 176 8, rem := f 192 8, credited := f 176 8, spent := 0, discarded := 0 } } }
    else c2
  let c4 := (List.range 8).foldl (fun (a : Core) q =>
    let a1 := a.modPort (64 + v) (fun y => { y with deficit := SMap.put y.deficit q 0 (f (400 + 4 * q) 4) })
    if a1.rd (Reg.idle_slope v q) = 0 then a1
    else
      let credit := signedOf 64 (f (336 + 8 * q) 8) * 3000000000000 / 65536
      { a1 with
        vpSlopes := SMap.put a1.vpSlopes (8 * v + q) 0 (a1.rd (Reg.idle_slope v q))
        shapers := SMap.insert a1.shapers (shaperKey true v q) { Shaper.zero with credit := credit, last := a1.now * 1000 } }) c3
  let held := c4.ringHeld .rx v + c4.ringHeld .txc v + c4.ringHeld .stale v
  let times (r : Ring) : List Nat := List.replicate (min 65536 (c4.ringHeld r v)) c4.now
  ((((c4.wr (Reg.credits_unreturned v) (min held (c4.rd (Reg.dma_credits v)))).wr (Reg.generation v) ((f 8 4 + 1) % 2 ^ 32)).wr
    (Reg.in_flight_left v) (f 16 2)).wr (Reg.vport_state v) 4).modVp v (fun x => { x with rxTimes := times .rx, txcTimes := times .txc, staleTimes := times .stale })

/-- VPORT_RESTORE (R482). -/
def Core.vportRestore (c : Core) (v rev : Nat) : Core × Reason :=
  let no (a : Core) (r : Reason) : Core × Reason := (a.wr (Reg.vport_ctl v) 3, r)
  let o := toBe 512 (c.tab wVport v)
  if v = 0 ∨ c.rd (Reg.vport_state v) ≠ 0 then no c .wrongState
  else
    let k := imageDetail o rev
    if k ≠ 0 then no (c.wr (Reg.restore_detail v) k) .imageRejected
    else
      let c1 := (c.wr (Reg.restore_detail v) 0).imageObjects v o
      match c1.vportChecks v with
      | .ok => ((((c1.imageState v o).wr (Reg.vport_ctl v) 2).report 432 3 v), .ok)
      | r => no c1 r

/-! ### Resets of functions (R455, R458) -/

/-- FLR of function `n` (R455). A PF's FLR takes its VF Enable, and so its VFs' state, with it. -/
def Core.flr (c : Core) (n : Nat) : Core :=
  if n = 0 then
    let c1 : Core := { c with fns := [] }
    (c1.created.filter (fun v => decide (v = 0) || c1.hostPlaced v)).foldl (fun (a : Core) v => a.vportReset v false) c1
  else
    ({ c with fns := SMap.erase c.fns n } : Core).vportReset n false

/-- A vport fenced by its collector (R523): steps 1 and 2 of R476; items in flight keep their credits. -/
def Core.fenceVport (c : Core) (v : Nat) : Core :=
  let c1 := c.wr Reg.vports_fenced (putBit (c.rd Reg.vports_fenced) v true)
  if c1.rd (Reg.vport_state v) = 0 then c1 else (c1.wr (Reg.vport_state v) 5).resetSteps v

end Sys2Proof.Machine
end

