-- ==== Sys2Proof/Machine/Counters.lean ====
section
/-! DEFINITION. Counters.lean: snapshots and clears of the side's counters, the cores' performance counters and the
samplers (R486 to R508). -/

namespace Sys2Proof.Machine

/-! ### Snapshots (R491 to R495) -/

/-- The drop-reason counters, marked D in their tables, by the key of their first object. -/
def dropBases : List Nat :=
  [Reg.rx_drop_errored 0, Reg.rx_drop_overflow 0, Reg.rx_drop_lowpower 0, Reg.rx_drop_macsec 0, Reg.tx_drop_oversize 0,
   Reg.tx_drop_link_down 0, Reg.tx_drop_macsec 0, Reg.parse_drop_ecc, Reg.search_drop_fenced, Reg.search_drop_ecc,
   Reg.station_drop_vid, Reg.station_drop_discard, Reg.station_drop_flap, Reg.station_drop_ecc, Reg.action_drop_invalid,
   Reg.action_drop_explicit, Reg.action_drop_same_port, Reg.action_drop_group_down, Reg.action_drop_empty_list,
   Reg.action_drop_recirc_limit, Reg.action_drop_recirc_full, Reg.action_drop_ttl, Reg.action_drop_ecc,
   Reg.frer_eliminated, Reg.frer_rogue, Reg.frer_tagless] ++
  [Reg.sc_drop_shared, Reg.sc_drop_early, Reg.sc_drop_fenced, Reg.sc_drop_no_target, Reg.sc_drop_mgmt_policer,
   Reg.sc_drop_mgmt_full, Reg.sc_drop_ct_errored, Reg.sc_drop_reseq, Reg.sc_drop_ecc, Reg.sc_drop_degraded,
   Reg.sc_drop_cross_rx, Reg.pool_drop_deliver, Reg.sched_drop_never_fits 0, Reg.pol_drop_invalid, Reg.pol_drop_blocked,
   Reg.pol_drop_sdu, Reg.pol_drop_gate, Reg.pol_drop_red, Reg.pol_drop_yellow, Reg.pol_drop_ecc, Reg.ld_drop_too_long,
   Reg.ld_drop_write_error, Reg.pm_drop_entry, Reg.vp_drop_share 0, Reg.vp_drop_reset 0, Reg.vp_drop_too_long 0]

/-- Whether a row's counters belong to a snapshot: the range S+0000 to S+0FFF and the vport status objects (R491). -/
def ObjRow.snapped (r : ObjRow) : Bool :=
  decide (r.chk = .counter) && (decide (r.base / 256 < 0x1000) || (decide (0x2080 ≤ r.base / 256) && decide (r.base / 256 < 0x3000)))

/-- The key of the crossing's counter among the snapshot's: OD 1601.03 or .04 is not the side's own (R491). -/
abbrev crossKey : Nat := 0

/-- Whether a key is a counter of the snapshot. -/
def snapKey (k : Nat) : Bool := match findRow sideRows k with
  | some r => r.snapped
  | none => false

/-- Whether a counter of the snapshot is a drop reason (R492): the crossing's is one too (DEDUCED from R36, log entry 45). -/
def dropKey (k : Nat) : Bool := decide (k = crossKey) || (match findRow sideRows k with
  | some r => inList r.base dropBases
  | none => false)

/-- The keys of a row's objects. -/
def ObjRow.keys (r : ObjRow) : List Nat :=
  (List.range r.insts).flatMap (fun i => (List.range r.subs).map (fun s => r.base + 256 * i + r.step * s))

/-- The counters of a snapshot in ascending order of index and subindex (R492); OD 1601 stands before every index of a
side. -/
def snapKeys : List Nat := crossKey :: ((sideRows.filter ObjRow.snapped).flatMap ObjRow.keys).mergeSort (fun a b => decide (a ≤ b))

/-- frames_queued (R494): copies admitted and not transmitted, delivered or dropped. -/
def Core.framesQueued (c : Core) : Nat := (c.copies.filter (fun x => !x.dead)).length

/-- frames_in_flight (R494): frames and copies counted on entry and neither admitted nor counted as dropped: on the recirculation
path, on the crossing, and in a receive buffer with a drop that their last octet settles. -/
def Core.framesInFlight (c : Core) : Nat :=
  c.recirc.length + c.crossHold.foldl (fun a x => a + x.2.1) 0 +
    (c.rx.filter (fun f => f.accepted)).foldl (fun a f => a + f.lateDrops.length) 0

/-- COUNTER_SNAPSHOT (R491): every counter and gauge latched in one clock; `cross` is the side's crossing counter. -/
def Core.counterSnapshot (c : Core) (v cross : Nat) : Core × Reason :=
  if v ≠ 1 then (c, .badValue)
  else if c.rd Reg.counter_snapshot = 1 then (c, .busy)
  else
    let l := (c.regs.filter (fun x => snapKey x.1)).map (fun x => (x.1, x.2.toNat))
    let l1 := SMap.put (SMap.put (SMap.put l crossKey 0 cross) Reg.frames_queued 0 c.framesQueued) Reg.frames_in_flight 0 c.framesInFlight
    ((({ c with snapLatch := l1 } : Core).wr Reg.counter_snapshot 1).wr Reg.snapshot_time c.sideTime, .ok)

/-- The sum of one counter over a list of its keys. -/
def sumOf (l : SMap Nat) (ks : List Nat) : Nat := ks.foldl (fun a k => a + SMap.getD l k 0) 0

/-- The terms of the identity (R493, R495) over latched values: their keys and values. -/
def snapTerms (l : SMap Nat) : List (Nat × Nat) :=
  let at' (k : Nat) : Nat := SMap.getD l k 0
  let rx := sumOf l ((List.range 64).map Reg.rx_frames) + at' Reg.mgmt_originated + at' Reg.crossing_frames_in
  let sent := sumOf l ((List.range 64).map Reg.vp_vport_frames_sent)
  let copies := at' Reg.replica_copies + at' Reg.mirror_copies
  let tx := sumOf l ((List.range 64).map Reg.tx_frames) + at' Reg.mgmt_consumed + at' Reg.crossing_frames_out
  let dlv := sumOf l ((List.range 64).map Reg.vp_vport_frames_delivered)
  let drops := l.foldl (fun a x => if dropKey x.1 then a + x.2 else a) 0
  let q := at' Reg.frames_queued
  let f := at' Reg.frames_in_flight
  let bal : Int := ((rx + sent + copies : Nat) : Int) - ((tx + dlv + drops : Nat) : Int) - q - f
  [(Reg.port_frames_received, rx), (Reg.vport_frames_sent, sent), (Reg.copies_created, copies),
   (Reg.port_frames_transmitted, tx), (Reg.vport_frames_delivered, dlv), (Reg.drops_total, drops), (Reg.frames_queued, q),
   (Reg.frames_in_flight, f), (Reg.identity_balance, unsignedOf 64 bal)]

/-- Whether a counter is a statistic of a member of a 100 Gb/s group, which reads 0 (R95). -/
def Core.memberStat (c : Core) (k : Nat) : Bool :=
  decide (0x180 ≤ k / 256) && decide (k / 256 < 0x1C0) && c.member (k / 256 - 0x180)

/-- SNAPSHOT_WRITTEN (R491): the latched values come into the window; a member's statistics read 0 there too. -/
def Core.snapshotWritten (c : Core) : Core :=
  if c.rd Reg.counter_snapshot ≠ 1 then c
  else
    let c1 := (snapTerms c.snapLatch).foldl (fun (a : Core) x => a.wr x.1 x.2)
      { c with snapImage := c.snapLatch.filter (fun x => (decide (x.1 = crossKey) || snapKey x.1) && !c.memberStat x.1), snapLatch := [] }
    (c1.wr Reg.counter_snapshot 2).wr Reg.snapshot_seq ((c1.rd Reg.snapshot_seq + 1) % 2 ^ 32)

/-- The number of an entry of the snapshot window by its place: index, subindex, flags and value (R492). -/
def Core.snapEntry (c : Core) (i : Nat) : Octets :=
  match snapKeys[i]? with
  | none => List.replicate 16 0
  | some k =>
    let v := SMap.getD c.snapImage k 0
    let idx := if k = crossKey then 0x1601 else keyIndex c.id k
    let sub := if k = crossKey then 3 + c.id.num else k % 256
    toLe 2 idx ++ toLe 1 sub ++ toLe 1 (b2n (decide (v = counterMax k)) + 2 * b2n (dropKey k)) ++ toLe 4 0 ++ toLe 8 v

/-- COUNTERS_CLEAR (R489, R506): every counter of a snapshot cleared in one clock. -/
def Core.countersClear (c : Core) : Core :=
  ({ c with regs := c.regs.filter (fun x => !snapKey x.1) } : Core).wr Reg.counters_clear 2

/-- WINDOW_COUNTERS_CLEAR (R506): the counts of frer_counts, meter_state and stream_filter_counts. -/
def Core.windowCountersClear (c : Core) : Core :=
  let c1 := (c.tabRange wFrerCnt 0 1024).foldl (fun (a : Core) x => a.setTab wFrerCnt x.1 0) c
  let c2 := (c1.tabRange wFilterCnt 0 4096).foldl (fun (a : Core) x => a.setTab wFilterCnt x.1 (b2n (bitOf x.2 319) * 2 ^ 319)) c1
  ({ c2 with meters := c2.meters.map (fun x => (x.1, { x.2 with green := 0, yellow := 0, red := 0 })) } : Core).wr
    Reg.counters_clear 2

/-! ### Core performance counters and sampling (R496 to R505) -/

/-- A performance-counter register of core `k`. -/
def hpmKey (k n : Nat) : Nat := 128 * k + n

/-- The intervals of the events 0x0000 to 0x0019 (R498): none where the table has no latency. -/
def hpmEvents : List (Option HpmInterval) :=
  [none, some .dispatchToRetirement, some .dispatchToRetirement, some .dispatchToRetirement, some .dispatchToResolution,
   some .requestToFill, some .issueToReturn, some .issueToOwnership, some .issueToReturn, some .issueToReturn,
   some .requestToFill, some .requestToFill, some .walk, some .issueToReturnOrAcceptance, some .issueToGrant,
   some .dispatchToRetirement, none, some .dispatchToRetirement, some .dispatchToFlush, none, none,
   some .issueToReturn, some .issueToAcceptance, some .issueToCompletion, none, none]

/-- The event that mhpmevent holds after a write of `v` (R497, R498): an unlisted code reads back 0. -/
def hpmEvent (v : Nat) : Nat := let e := v % 2 ^ 16; if e < hpmEvents.length then e else 0

/-- The interval of an event. -/
def hpmInterval (e : Nat) : Option HpmInterval := (hpmEvents[e]?).join

/-- mhpmevent as it reads with OF set (R497): the inhibit bits and the event. -/
def hpmOverflowed (v : Nat) : Nat := 2 ^ 63 + bits v 62 58 * 2 ^ 58 + hpmEvent v

/-- The clock of core `k` in MHz (R543). -/
def Core.coreMhz (c : Core) (k : Nat) : Nat :=
  c.rd Reg.core_pll_mhz / 2 ^ bits (c.rd Reg.core_divider) (2 * k + 1) (2 * k)

/-- The ring's entries (R503). -/
def Core.sampEntries (c : Core) (k : Nat) : Nat := 2 ^ (6 + c.rd (Reg.samp_ring_size k))

/-- A sample record (R502). An instruction whose low two bits are not both 1 is a compressed one. -/
def Core.sampRecord (c : Core) (k n lost : Nat) (x : HpmSample) : Octets :=
  let e := hpmEvent x.event
  let timed := (hpmInterval e).isSome
  let flags := x.priv % 4 + 4 * b2n x.virt + 8 * b2n x.addr.isSome + 16 * b2n timed + 32 * b2n (decide (0 < lost))
  toLe 8 x.pc ++ toLe 8 (x.addr.getD 0) ++ toLe 8 c.localNs ++ toLe 4 (if x.instr % 4 = 3 then x.instr else x.instr % 2 ^ 16) ++
  toLe 4 (if timed then min (2 ^ 32 - 1) x.latency else 0) ++ toLe 2 e ++ toLe 1 n ++ toLe 1 flags ++ toLe 2 x.asid ++
  toLe 2 (x.vmid % 2 ^ 14) ++ toLe 4 (min (2 ^ 32 - 1) lost) ++ toLe 1 k ++ List.replicate 19 0

/-- The sampler's MSI (R504): sent when the records held reach the watermark, and not again before samp_head is
written. -/
def Core.sampMsi (c : Core) (k : Nat) : Core :=
  let m := c.rd (Reg.samp_msi k)
  if bitOf c.sampSent k || decide (gap (c.rd (Reg.samp_tail k)) (c.rd (Reg.samp_head k)) < c.rd (Reg.samp_watermark k)) then c
  else
    let c1 : Core := { c with sampSent := putBit c.sampSent k true }
    if m % 256 = 0 then c1 else c1.msi (bits m 26 24) (bits m 18 16) (m % 256)

/-- A wrap that is not sampled (R503). -/
def Core.sampLose (c : Core) (k : Nat) : Core :=
  ({ c with sampLost := SMap.put c.sampLost k 0 (SMap.getD c.sampLost k 0 + 1) } : Core).inc (Reg.samples_lost k)

/-- The sampler at a wrap of hpmcounter `n` of core `k` (R501, R503). -/
def Side.sample (d : Side) (k n : Nat) (x : HpmSample) : Side :=
  let c := d.r
  let near := match SMap.find? c.sampAt k with
    | some t => decide ((c.now - (t - 1)) * c.coreMhz k < 3000 * c.rd (Reg.samp_min_interval k))
    | none => false
  let tail := c.rd (Reg.samp_tail k)
  if gap tail (c.rd (Reg.samp_head k)) = c.sampEntries k then { d with r := (c.sampLose k).reportRate 396 1 k }
  else if near then { d with r := c.sampLose k }
  else
    let rec' := c.sampRecord k n (SMap.getD c.sampLost k 0) x
    let w := d.spmBurst k (c.rd (Reg.samp_ring_base k) + 64 * (tail % c.sampEntries k)) rec'
    if w.2 then
      let r1 : Core := { w.1.r with sampAt := SMap.insert c.sampAt k (c.now + 1), sampLost := SMap.erase c.sampLost k }
      { w.1 with r := ((r1.wr (Reg.samp_tail k) ((tail + 1) % 2 ^ 32)).inc (Reg.samples_written k)).sampMsi k }
    else { w.1 with r := w.1.r.report 396 2 k }

/-- HPM_COUNTER_WRAP (R500, R501): hpmcounter `n` of core `k` wraps to 0, sets OF and raises the overflow interrupt when
OF was 0; the sampler writes a record when bit n of samp_enable is set. Event 0, as which an unlisted code reads back, counts nothing,
so that its counter cannot wrap (R498). -/
def Side.hpmWrap (d : Side) (k n : Nat) (x : HpmSample) : Side :=
  let c := d.r
  if c.coreAbsent k || c.checker k || decide (hpmEvent x.event = 0) then d
  else
    let was := bitOf (SMap.getD c.hpm (hpmKey k (32 + n)) 0) 63
    let h1 := SMap.erase c.hpm (hpmKey k n)
    let h2 := SMap.insert h1 (hpmKey k (32 + n)) (hpmOverflowed x.event)
    let h3 := if was then h2 else SMap.insert h2 (hpmKey k 68) 1
    let d1 : Side := { d with r := { c with hpm := h3 } }
    if bitOf (c.rd (Reg.samp_enable k)) n then d1.sample k n x else d1

/-- SAMP_HEAD_WRITE (R504, R507): a write that moves it backward or past samp_tail is ignored. -/
def Core.sampHead (c : Core) (k v : Nat) : Core :=
  let h := c.rd (Reg.samp_head k)
  if gap (c.rd (Reg.samp_tail k)) h < gap (v % 2 ^ 32) h then c
  else ({ c with sampSent := putBit c.sampSent k false } : Core).wr (Reg.samp_head k) (v % 2 ^ 32)

end Sys2Proof.Machine
end

