-- ==== Sys2Proof/Machine/Faults.lean ====
section
/-! DEFINITION. Faults.lean: the side's fault collector: classes and counting, status, the log and the first-fault
record, reactions, fences, the error pair and events (R509 to R538). -/

namespace Sys2Proof.Machine

/-! ### Classes and counting (R513, R514) -/

/-- The reaction byte of a class in a fault_config entry (R537). -/
def reactionByte (cfg cls : Nat) : Nat := bits cfg (103 + 8 * cls) (96 + 8 * cls)

/-- A message with its entry number, its classes, and whether counting promoted it. -/
structure Classed where
  msg : FaultMsg
  e : Nat
  base : Nat
  cls : Nat
  promoted : Bool
  deriving DecidableEq, Repr

/-- classify (R514): the source's status after counting, the base class, the final class, promoted. `now` in ns. -/
def classify (cfg st now kind : Nat) : Nat × Nat × Nat × Bool :=
  let base := bits cfg (129 + 2 * (kind % 64)) (128 + 2 * (kind % 64))
  let th := bits cfg 95 88
  if 1 < base ∨ th = 0 then (st, base, base, false)
  else
    let w := bits cfg 87 72 * (if bitOf cfg 71 then 1000000 else 1000)
    let fresh := decide (bits st 251 244 = 0) || decide (w ≤ now - bits st 191 128)
    let st1 := if fresh then putBits (putBits st 191 128 now) 251 244 0 else st
    let n := bits st1 251 244 + 1
    if th ≤ n then (putBits (putBits (putBit st1 262 true) 127 64 (now + w)) 251 244 0, base, 2, true)
    else (putBits st1 251 244 n, base, base, false)

/-- Dispatch order (R515): higher class first, then the lower source number. -/
def Classed.before (a b : Classed) : Bool := decide (b.cls < a.cls) || (decide (a.cls = b.cls) && decide (a.e ≤ b.e))

/-- A classified message put in its place. -/
def Classed.place (x : Classed) : List Classed → List Classed
  | [] => [x]
  | y :: r => if y.before x then y :: Classed.place x r else x :: y :: r

/-- The messages of one clock in dispatch order. -/
def dispatchOrder (l : List Classed) : List Classed := l.foldl (fun a x => x.place a) []

/-- A status entry after a classified message (R516, R517): sticky, the last fields, the count. -/
def recordStatus (st : Nat) (x : Classed) : Nat :=
  let s1 := putBits (putBits (putBits (putBits st 383 320 x.msg.time) 319 272 x.msg.addr) 271 266 x.msg.kind) 265 264 x.cls
  putBits (putBit s1 (252 + x.cls) true) 223 192 (min (2 ^ 32 - 1) (bits s1 223 192 + 1))

/-- A log record (R538). -/
def logRecord (side : Nat) (x : Classed) (same : Bool) (reaction seq now : Nat) : Nat :=
  let f1 := (x.msg.time % 2 ^ 64) * 2 ^ 192 + x.msg.addr % 2 ^ 48 * 2 ^ 144 + side * 2 ^ 142 + x.msg.src % 1024 * 2 ^ 132
  let f2 := x.msg.kind % 64 * 2 ^ 126 + x.base * 2 ^ 124 + x.cls * 2 ^ 122 + b2n x.promoted * 2 ^ 121 + b2n same * 2 ^ 120
  f1 + f2 + reaction % 256 * 2 ^ 112 + seq % 2 ^ 32 * 2 ^ 64 + now % 2 ^ 64

/-- The first-fault status after a further message (R519): ffr_later, and ffr_same_clock for one of the same clock. -/
def ffrCount (st : Nat) (same : Bool) : Nat :=
  let s1 := putBits st 47 32 (min 65535 (bits st 47 32 + 1))
  if same then putBits s1 55 48 (min 255 (bits s1 55 48 + 1)) else s1

/-! ### Live (R516) -/

/-- Kinds of side sources that hold a state. -/
def stateKind (e k : Nat) : Bool :=
  (decide (e < 256) && decide (e % 4 = 0) && (decide (k = 1) || decide (k = 3))) || (decide (e = 264) && decide (k = 2)) ||
  (decide (384 ≤ e) && decide (e < 392) && decide (e % 2 = 0) && decide (k = 3)) ||
  (decide (420 ≤ e) && decide (e < 424) && decide (k = 2)) || (decide (424 ≤ e) && decide (e < 428) && decide (k = 3)) ||
  (decide (465 ≤ e) && decide (e ≤ 467) && (decide (k = 1) || decide (k = 2)))

/-- Whether the state that a message reported still holds. -/
def Core.stateHolds (c : Core) (x : LiveState) : Bool :=
  if x.src < 256 then
    let l := c.linkState (x.src / 4)
    decide (l = 0) || decide (l = 2) || decide (l = 3)
  else if x.src = 264 then decide (c.rd Reg.epoch_flip = 3)
  else if x.src < 392 then decide (c.coreStatus (x.src - 384) = 2)
  else if x.src < 424 then !bitOf (c.rd Reg.fsp_trained) (x.addr % 4)
  else if x.src < 428 then bitOf c.dm.hot (2 * (x.src - 424) + x.addr % 2)
  else if x.src = 465 then bitOf c.conds (x.kind - 1)
  else if x.src = 466 then bitOf c.conds (x.kind + 1)
  else bitOf c.conds 4 || bitOf c.conds 5

/-- States that have ended are forgotten: a live bit comes back only with a new message. -/
def Core.settleStates (c : Core) : Core :=
  if c.stateLive.isEmpty then c else { c with stateLive := c.stateLive.filter c.stateHolds }

/-- Whether source `e` is promoted and its promotion has not lapsed. -/
def Core.promotedNow (c : Core) (e : Nat) : Bool :=
  let st := c.tab wFaultStat e
  bitOf st 262 && decide (c.localNs < bits st 127 64)

/-- The live bit of a class of source `e`, holds of one kind left aside (0 for none). -/
def Core.liveBut (c : Core) (e cls without : Nat) : Bool :=
  c.stateLive.any (fun x => decide (x.src = e) && decide (x.cls = cls) && c.stateHolds x) ||
  (decide (cls = 2) && c.promotedNow e) ||
  c.holds.any (fun h => decide (h.src = e) && decide (h.cls = cls) && decide (h.kind ≠ without))

/-- The live bit of a class (R516). -/
def Core.live (c : Core) (e cls : Nat) : Bool := c.liveBut e cls 0

/-- A fault_status entry as it reads (R538). -/
def Core.faultStatus (c : Core) (e : Nat) : Nat :=
  let st := (List.range 4).foldl (fun a k => putBit a (256 + k) (c.live e k)) (c.tab wFaultStat e)
  putBit (putBit st 262 (c.promotedNow e)) 261 (c.holds.any (fun h => decide (h.src = e)))

/-! ### Fences (R523, R524) -/

/-- The unit that a fence of source `e` with an address acts on: its kind of R524 and number; an ingress group has
kind 12. -/
def Core.fenceUnit (c : Core) (e addr : Nat) : Option (Nat × Nat) :=
  if e < 256 then some (1, e / 4)
  else if 336 ≤ e ∧ e < 344 then some (12, e - 336)
  else if e = 258 then some (2, addr % 65536 / 2048)
  else if 320 ≤ e ∧ e < 328 then some (3, e - 320)
  else if 328 ≤ e ∧ e < 336 then some (4, e - 328)
  else if 416 ≤ e ∧ e < 420 then some (5, c.dramRank addr)
  else if 420 ≤ e ∧ e < 424 then some (5, 2 * (e - 420) + addr % 2)
  else if 424 ≤ e ∧ e < 428 then some (5, 2 * (e - 424) + addr % 2)
  else if 384 ≤ e ∧ e < 392 then some (6, (e - 384) / 2)
  else if e = 395 then some (7, addr / 8 % 64)
  else if 432 ≤ e ∧ e ≤ 436 then some (8, addr % 64)
  else none

/-- The same for a message: kind 0x02 of E+420+c names its rank in [2]. -/
def Core.fenceUnitOf (c : Core) (x : Classed) : Option (Nat × Nat) :=
  if 420 ≤ x.e ∧ x.e < 424 ∧ x.msg.kind = 2 then some (5, 2 * (x.e - 420) + x.msg.addr / 4 % 2) else c.fenceUnit x.e x.msg.addr

/-- Sources that name a fenceable unit (R522). -/
def fenceable (e : Nat) : Bool :=
  decide (e < 256) || decide (e = 258) || (decide (320 ≤ e) && decide (e < 344)) || (decide (384 ≤ e) && decide (e < 392)) ||
  decide (e = 395) || (decide (416 ≤ e) && decide (e < 428)) || (decide (432 ≤ e) && decide (e ≤ 436))

/-- The fence of a unit, 0 for none. -/
def fenceKey (kind num : Nat) : Nat := kind * 65536 + num
def Core.fenceState (c : Core) (kind num : Nat) : Nat := SMap.getD c.fences (fenceKey kind num) 0

/-- A fence on one unit (R523), and the source that holds it. -/
def Core.fenceOne (c : Core) (src cls kind num : Nat) : Core :=
  if c.fenceState kind num ≠ 0 then c
  else
    let c1 : Core := { c with
      fences := SMap.insert c.fences (fenceKey kind num) 1
      holds := c.holds ++ [⟨kind, num, src, cls⟩] }
    match kind with
    | 1 => let d := c1.portDown num; d.wr Reg.ports_fenced (putBit (d.rd Reg.ports_fenced) num true)
    | 2 => let d := c1.badgerFence num; { d with banksFenced := putBit d.banksFenced num true }
    | 3 =>
      -- the ports' link_state leaves 1 with the fence (R105)
      let u := (List.range 8).foldl (fun (a : Core) i => if c1.linkUp (8 * num + i) then a.linkChange (8 * num + i) else a) c1
      let d := (u.fenceSlice num).endFenced num
      (List.range 8).foldl (fun (a : Core) i => a.portDown (8 * num + i)) d
    | 4 => let d := c1.degradeMiddle num; if d.rd Reg.side_state = 0 then d.wr Reg.side_state 1 else d
    | 5 => c1.fenceRank num
    | 6 => { c1 with coresFenced := putBit (putBit c1.coresFenced (2 * num) true) (2 * num + 1) true }
    | 7 => c1.fenceBank num
    | 8 => c1.fenceVport num
    | _ => c1

/-- Whether the unit is fenced already: an ingress group when all its ports are. -/
def Core.fenceStands (c : Core) (u : Nat × Nat) : Bool :=
  if u.1 = 12 then (List.range 8).all (fun i => decide (c.fenceState 1 (8 * u.2 + i) ≠ 0)) else decide (c.fenceState u.1 u.2 ≠ 0)

/-- The fence of a reaction. -/
def Core.fence (c : Core) (src cls : Nat) (u : Nat × Nat) : Core :=
  if u.1 = 12 then (List.range 8).foldl (fun (a : Core) i => a.fenceOne src cls 1 (8 * u.2 + i)) (c.fenceGroup u.2)
  else c.fenceOne src cls u.1 u.2

/-- FENCE_COMPLETE (R523): the slices, ranks and scratchpad banks report it. -/
def Core.fenceComplete (c : Core) (kind num : Nat) : Core :=
  if c.fenceState kind num ≠ 1 then c
  else
    let c1 : Core := { c with fences := SMap.insert c.fences (fenceKey kind num) 2 }
    match kind with
    | 3 => c1.report (320 + num) 5 0
    | 5 => c1.report 429 1 num
    | 7 => c1.report 395 3 num
    | _ => c1

/-- Units of a kind. -/
def unitCount (kind : Nat) : Nat :=
  match kind with
  | 1 => 64
  | 2 => 32
  | 3 => 8
  | 4 => 8
  | 5 => 8
  | 6 => 4
  | 7 => 64
  | 8 => 64
  | _ => 0

/-- An accepted unfence (R524). -/
def Core.unfenceDo (c : Core) (kind num : Nat) : Core :=
  let c1 : Core := { c with
    fences := SMap.erase c.fences (fenceKey kind num)
    holds := c.holds.filter (fun h => !(decide (h.kind = kind) && decide (h.num = num))) }
  match kind with
  | 1 => (c1.wr Reg.ports_fenced (putBit (c1.rd Reg.ports_fenced) num false)).denStart num
  | 2 => { c1 with banksFenced := putBit c1.banksFenced num false }
  | 3 => (List.range 8).foldl (fun (a : Core) i => a.denStart (8 * num + i)) (c1.unfenceSlice num)
  | 4 => c1.wr Reg.middles_degraded (putBit (c1.rd Reg.middles_degraded) num false)
  | 5 => c1.unfenceRank num
  | 6 =>
    let run := putBit (putBit (c1.rd Reg.core_run) (2 * num) false) (2 * num + 1) false
    let d := (c1.coreRun run).1
    { d with
      coresFenced := putBit (putBit d.coresFenced (2 * num) false) (2 * num + 1) false
      halted := putBit (putBit d.halted (2 * num) false) (2 * num + 1) false }
  | 7 => c1.wr Reg.spm_banks_fenced (putBit (c1.rd Reg.spm_banks_fenced) num false)
  | 8 => (c1.wr Reg.vports_fenced (putBit (c1.rd Reg.vports_fenced) num false)).vportReset num false
  | _ => c1

/-- A write to unfence of a kind and a number (R524). -/
def Core.unfence (c : Core) (kind num : Nat) : Core × Reason :=
  if unitCount kind ≤ num then (c, .badValue)
  else if c.rd Reg.side_state = 2 ∨ c.fenceState kind num = 0 then (c, .wrongState)
  else if c.fenceState kind num = 1 ∨ (kind = 3 ∧ c.sliceBusy num = true) then (c, .busy)
  else (c.unfenceDo kind num, .ok)

/-! ### Stop and the pair (R526, R528 to R531) -/

/-- pair_state (R528): 0 while the side drives nothing, else the highest fault state whose cause stands, or healthy. -/
def Core.pairState (c : Core) : Nat :=
  if !c.released then 0
  else if bitOf c.pairCauses 5 then 5
  else if bitOf c.pairCauses 4 then 4
  else if bitOf c.pairCauses 3 then 3
  else if bitOf c.pairCauses 2 then 2 else 1

/-- A fault state of the pair begins. -/
def Core.drivePair (c : Core) (state : Nat) : Core := { c with pairCauses := putBit c.pairCauses state true }

/-- A running field test is aborted (R610). -/
def Core.fieldAbort (c : Core) : Core :=
  if c.rd Reg.field_test_request = 2 then
    (c.wr Reg.field_test_request 5).deviceReport 22 4 (c.num + 2 * c.rd Reg.field_test_result + 2 ^ 17 * c.rd Reg.field_test_fail_unit)
  else c

/-- The copies of the side's state and first-fault record in OD 1410+s (R526 step 3). -/
def Core.copyState (c : Core) : Core :=
  (((c.wr Reg.side_state_copy (c.rd Reg.side_state)).wr Reg.side_ffr_status_copy (c.rd Reg.ffr_status)).wrWide
    Reg.side_ffr_record_copy 4 (c.rdWide Reg.ffr_record 4))

/-- A stop of the side (R526). -/
def Core.stop (c : Core) : Core :=
  if c.rd Reg.side_state = 2 then c
  else
    let c1 := (((c.fieldAbort.wr Reg.side_state 2).wr Reg.power_state 7).drivePair 2)
    let c2 := if c1.rd Reg.dram_state = 2 then c1.wr Reg.dram_state 3 else c1
    ({ c2 with ports := [] } : Core).copyState

/-! ### Events (R532, R533) -/

/-- Whether a source other than `but` that is routed to a host vector is pending. -/
def Core.vectorPending (c : Core) (vec but : Nat) : Bool :=
  (c.tabRange wFaultStat 0 480).any (fun x =>
    decide (x.1 ≠ but) && bitOf x.2 263 && bitOf (c.tab wFaultCfg x.1) 68 && decide (bits (c.tab wFaultCfg x.1) 67 62 = vec))

/-- A source raises its event, at its APLIC source, the Owl and its host vector: `dp` says whether a device source routed to a vector of this physical function is
pending. -/
def Core.raiseEvent (c : Core) (dp : Nat → Bool) (e : Nat) : Core :=
  let st := c.tab wFaultStat e
  let cfg := c.tab wFaultCfg e
  let vec := bits cfg 67 62
  let c0 := (c.setTab wFaultStat e (putBit st 263 true)).aplicInput (e + 1) (bitOf cfg 69)
  let c1 := if !bitOf st 263 && bitOf cfg 70 then c0.emit (.owlEvent (c.eBase + e)) else c0
  if !bitOf st 263 && bitOf cfg 68 && !c.vectorPending vec e && !dp vec then c1.msixSend 0 vec else c1

/-- EVENT_ACK (R532, R533). -/
def Core.eventAck (c : Core) (dp : Nat → Bool) (v : Nat) : Core × Reason :=
  let src := bits v 25 16
  if v ≠ src * 65536 ∨ src < c.eBase ∨ c.eBase + 480 ≤ src then (c, .badValue)
  else
    let e := src - c.eBase
    let st := c.tab wFaultStat e
    let cfg := c.tab wFaultCfg e
    let c1 := (c.setTab wFaultStat e (putBit st 263 false)).aplicInput (e + 1) false
    let vec := bits cfg 67 62
    (if bitOf st 263 && bitOf cfg 68 && (c1.vectorPending vec e || dp vec) then c1.msixSend 0 vec else c1, .ok)

/-! ### The collector (R510, R515, R519 to R521) -/

/-- What a batch of messages carries on: the side, whether the first-fault record was filled in this clock. -/
structure Dispatch where
  core : Core
  filled : Bool

/-- The bits of a reaction that are applied (R521): a stop supersedes a fence, a standing fence or degrade is not
repeated. -/
def Core.applied (c : Core) (x : Classed) (r : Nat) : Nat :=
  let stop := bitOf r 4 && decide (c.rd Reg.side_state ≠ 2)
  let fence := bitOf r 2 && !bitOf r 4 && (match c.fenceUnitOf x with
    | some u => !c.fenceStands u
    | none => false)
  let degrade := bitOf r 3 && decide (c.rd Reg.side_state = 0)
  b2n (bitOf r 0) + 2 * b2n (bitOf r 1) + 4 * b2n fence + 8 * b2n degrade + 16 * b2n stop + 32 * b2n (bitOf r 5)

/-- A log record written (R520). -/
def Core.writeLog (c : Core) (x : Classed) (same : Bool) (a : Nat) : Core :=
  let seq := (c.rd Reg.log_seq + 1) % 2 ^ 32
  let c1 := (c.wr Reg.log_seq seq).setTab wFaultLog ((seq + 255) % 256) (logRecord c.num x same a seq (x.msg.clock / 3))
  if 256 < seq then c1.inc Reg.log_overwritten else c1

/-- The first-fault record and a message (R519). -/
def Dispatch.ffr (d : Dispatch) (x : Classed) (same : Bool) (a seq : Nat) : Dispatch :=
  let c := d.core
  if x.cls < c.rd Reg.ffr_min_class then d
  else if bitOf (c.rd Reg.ffr_status) 63 then { d with core := c.wr Reg.ffr_status (ffrCount (c.rd Reg.ffr_status) d.filled) }
  else
    let o := toBe 32 (logRecord c.num x same a seq (x.msg.clock / 3))
    { core := (c.wr Reg.ffr_status (2 ^ 63 + seq)).wrOctets Reg.ffr_record o, filled := true }

/-- The actions of a reaction (R521), in their order. -/
def Core.act (c : Core) (dp : Nat → Bool) (x : Classed) (a : Nat) : Core :=
  let hold (b : Core) (k : Nat) : Core := { b with holds := b.holds ++ [⟨k, 0, x.e, x.cls⟩] }
  let c1 := if bitOf a 2 then (match c.fenceUnitOf x with
    | some u => c.fence x.e x.cls u
    | none => c) else c
  let c2 := if bitOf a 3 then hold (if c1.rd Reg.side_state = 0 then c1.wr Reg.side_state 1 else c1) 9 else c1
  let c3 := if bitOf a 4 then hold c2.stop 11 else c2
  let c4 := if bitOf a 5 then hold (c3.drivePair 2) 10 else c3
  if bitOf a 1 then c4.raiseEvent dp x.e else c4

/-- A classified message recorded, logged and answered. `logs` counts the batch's logged messages; same_clock tells of another one (R538). -/
def Dispatch.react (dp : Nat → Bool) (logs : Nat) (d : Dispatch) (x : Classed) : Dispatch :=
  let r := reactionByte (d.core.tab wFaultCfg x.e) x.cls
  let c1 := d.core.setTab wFaultStat x.e (recordStatus (d.core.tab wFaultStat x.e) x)
  let c2 : Core := if stateKind x.e x.msg.kind then
      { c1 with stateLive := c1.stateLive ++ [⟨x.e, x.msg.kind, x.cls, x.msg.addr⟩] } else c1
  let a := c2.applied x r
  let same := decide ((if bitOf a 0 then 1 else 0) < logs)
  let c3 := if bitOf a 0 then c2.writeLog x same a else c2
  let d1 := ({ d with core := c3 } : Dispatch).ffr x same a (if bitOf a 0 then c3.rd Reg.log_seq else 0)
  { d1 with core := d1.core.act dp x a }

/-- A message classified (R514): the side, and the message. -/
def Core.classifyMsg (c : Core) (m : FaultMsg) : Core × Classed :=
  let e := m.src - c.eBase
  let r := classify (c.tab wFaultCfg e) (c.tab wFaultStat e) (m.clock / 3) m.kind
  let c1 := (c.setTab wFaultStat e r.1).inc Reg.collector_messages
  (if r.2.2.2 then c1.inc Reg.promotions else c1, ⟨m, e, r.2.1, r.2.2.1, r.2.2.2⟩)

/-- How many messages at the head of the queue one clock takes (R510): at most `n`, and no second one of a source, which comes a clock
after the first. -/
def batchSize (taken : List Nat) : Nat → List FaultMsg → Nat
  | n + 1, m :: l => if inList m.src taken then 0 else batchSize (m.src :: taken) n l + 1
  | _, _ => 0

/-- FAULT_MESSAGE (R510, R514, R515): the collector takes up to 8 messages. Answers whether a Fatal was among them. -/
def Core.faultMessage (c : Core) (dp : Nat → Bool) : Core × Bool :=
  let n := batchSize [] 8 c.faultQ
  let k := (c.faultQ.take n).foldl (fun (a : Core × List Classed) m =>
    let r := a.1.classifyMsg m
    (r.1, a.2 ++ [r.2])) ({ c with faultQ := c.faultQ.drop n }, [])
  let l := dispatchOrder k.2
  let logs := (l.filter (fun x => bitOf (reactionByte (c.tab wFaultCfg x.e) x.cls) 0)).length
  let d := l.foldl (Dispatch.react dp logs) ⟨k.1, false⟩
  let c1 := d.core
  let c2 := if c1.faultQ.isEmpty && decide (0 < c1.qLost) then ({ c1 with qLost := 0 } : Core).report 468 1 (min (2 ^ 32 - 1) c1.qLost) else c1
  (c2, l.any (fun x => decide (x.cls = 3)))

/-- A finding that comes with FAULT_MESSAGE, as its source sends it (R484, R512). An uncorrectable error of a DMA engine fences the vport, as
a fence of its source (R484). -/
def Core.finding (c : Core) (x : SideFinding) : Core :=
  match x with
  | .collectorMemory e unc => c.report 464 (1 + b2n unc) e.val
  | .dmaMemory v unc =>
    let c1 := c.reportRate 436 (1 + b2n unc) v.val
    if unc then c1.fenceOne 436 (c1.baseClass 436 2) 8 v.val else c1

/-- PROMOTION_LAPSE (R516) of source `e`. -/
def Core.promotionLapse (c : Core) (e : Nat) : Core :=
  let st := c.tab wFaultStat e
  if bitOf st 262 then (c.advanceTo (3 * bits st 127 64)).setTab wFaultStat e (putBit st 262 false) else c

/-- The check and effect of a clear of sticky bits (R518) on a status entry. -/
def clearSticky (st cls : Nat) : Nat :=
  let s := bits st 255 252
  let left := s - (s &&& cls)
  let st1 := putBits st 255 252 left
  if left = 0 then putBits (putBit (putBits st1 223 192 0) 260 false) 383 264 0 else st1

/-- FAULT_CLEAR (R518). -/
def Core.faultClear (c : Core) (v : Nat) : Core × Reason :=
  let src := bits v 25 16
  let cls := v % 16
  let no (r : Reason) : Core × Reason := (c.inc Reg.clears_refused, r)
  if v ≠ src * 65536 + cls ∨ src < c.eBase ∨ c.eBase + 480 ≤ src then no .badValue
  else
    let e := src - c.eBase
    if (List.range 4).any (fun k => bitOf cls k && c.live e k) then no .liveSet
    else
      (c.setTab wFaultStat e (clearSticky (c.tab wFaultStat e) cls), .ok)

/-- DEGRADE_RELEASE (R525). -/
def Core.degradeRelease (c : Core) (v : Nat) : Core × Reason :=
  if v ≠ 1 then (c, .badValue)
  else if c.rd Reg.middles_degraded ≠ 0 ∨ c.rd Reg.side_state = 2 then (c, .wrongState)
  else if (c.holds.filter (fun h => decide (h.kind = 9))).any (fun h => c.liveBut h.src h.cls 9) then (c, .liveSet)
  else (({ c with holds := c.holds.filter (fun h => decide (h.kind ≠ 9)) } : Core).wr Reg.side_state 0, .ok)

/-- PAIR_RELEASE (R531); `other` says that a device source which drives the pair has its class live for another reason. -/
def Core.pairRelease (c : Core) (other : Bool) (v : Nat) : Core × Reason :=
  if v ≠ 1 then (c, .badValue)
  else if c.rd Reg.side_state = 2 ∨ c.pairState ≠ 2 then (c, .wrongState)
  else if (c.holds.filter (fun h => decide (h.kind = 10))).any (fun h => c.liveBut h.src h.cls 10) ∨ other = true then (c, .liveSet)
  else ({ c with holds := c.holds.filter (fun h => decide (h.kind ≠ 10)), pairCauses := putBit c.pairCauses 2 false }, .ok)

/-- FFR_CLEAR (R519). -/
def Core.ffrClear (c : Core) (v : Nat) : Core × Reason :=
  if v ≠ 1 then (c, .badValue)
  else
    let rec' := beNat (c.rdOctets Reg.ffr_record 32)
    if bitOf (c.rd Reg.ffr_status) 63 && c.live (bits rec' 141 132 - c.eBase) (bits rec' 123 122) then (c, .liveSet)
    else ((c.wr Reg.ffr_status 0).wrWide Reg.ffr_record 4 0, .ok)

/-- Sources that stand for a partner's violations (R522). -/
def interfaceSource (e : Nat) : Bool :=
  decide (e < 256) || decide (e = 262) || decide (e = 358) || decide (e = 359) || (decide (420 ≤ e) && decide (e < 428)) ||
  decide (e = 434) || decide (e = 435) || decide (e = 470)

/-- A fault_config entry written (R522, R533, R537); the reserved bits read 0. A pending source follows its route (R398). -/
def Core.writeFaultCfg (c : Core) (e rec' : Nat) : Core × Reason :=
  let bad (k : Nat) : Bool :=
    let b := reactionByte rec' k
    decide (64 ≤ b) || (bitOf b 2 && !fenceable e) || ((bitOf b 3 || bitOf b 4) && interfaceSource e)
  if bits rec' 87 72 = 0 ∨ bits rec' 67 62 < 4 ∨ (List.range 4).any bad = true then (c, .badValue)
  else
    let pending := bitOf (c.tab wFaultStat e) 263
    let c1 := (c.setTab wFaultCfg e (rec' / 2 ^ 62 * 2 ^ 62)).aplicInput (e + 1) (pending && bitOf rec' 69)
    (if pending && bitOf rec' 70 && !bitOf (c.tab wFaultCfg e) 70 then c1.emit (.owlEvent (c.eBase + e)) else c1, .ok)

/-! ### The pair's driver and the stall detector (R512, R530) -/

/-- HEARTBEAT_LOSS (R530): the device source of the side's pair driver reports it. -/
def Core.heartbeatLoss (c : Core) : Core := (c.drivePair 3).deviceReport (11 + c.num) 1 0

/-- PAIR_READBACK_MISMATCH (R530): the balls that differ at three checks in a row, [0] P, [1] N; 0 when they agree again. -/
def Core.readbackMismatch (c : Core) (pn : Nat) : Core :=
  let c1 : Core := { c with conds := putBits c.conds 5 4 pn }
  if pn % 4 = 0 then c1 else c1.report 467 1 (pn % 4)

/-- STALL_DETECT (R512): a frame has not left epoch `e` 10 µs after its acceptance. -/
def Core.stallDetect (c : Core) (e : Nat) : Core := if c.rd (inflightKey e) = 0 then c else c.report 471 1 e

end Sys2Proof.Machine
end

