-- ==== Sys2Proof/Machine/Device.lean ====
section
/-! DEFINITION. Device.lean: the device-level registers and collector, and how a command reaches a side (R15, R24, R509 to
R511, R527, R532, R539). -/

namespace Sys2Proof.Machine

/-! ### Device-level registers -/

/-- A device-level object slot. -/
def Dev.rd (d : Dev) (k : Nat) : Nat :=
  match SMap.find? d.regs k with
  | some v => v.toNat
  | none => devDefault k

/-- The same, written. -/
def Dev.wr (d : Dev) (k v : Nat) : Dev :=
  { d with regs := SMap.put d.regs k (BitVec.ofNat 64 (devDefault k)) (BitVec.ofNat 64 v) }

/-- Objects of several slots. -/
def Dev.rdWide (d : Dev) (k : Nat) : Nat → Nat
  | 0 => 0
  | n + 1 => d.rd k + 2 ^ 64 * Dev.rdWide d (k + 1) n
def Dev.wrWide (d : Dev) (k : Nat) : Nat → Nat → Dev
  | 0, _ => d
  | n + 1, v => Dev.wrWide (d.wr k (v % 2 ^ 64)) (k + 1) n (v / 2 ^ 64)
def Dev.rdOctets (d : Dev) (k n : Nat) : Octets := toLe n (d.rdWide k (ceilDiv n 8))
def Dev.wrOctets (d : Dev) (k : Nat) (o : Octets) : Dev := d.wrWide k (ceilDiv o.length 8) (leNat o)

/-- A BOOL object. -/
def Dev.flag (d : Dev) (k : Nat) : Bool := decide (d.rd k ≠ 0)

/-- Joined mode (R19). -/
def Dev.joined (d : Dev) : Bool := decide (d.rd Reg.device_mode = 1)

/-! ### The device collector (R510, R511, R527, R539) -/

abbrev wDevCfg : Nat := 0x1480
abbrev wDevStat : Nat := 0x1481
abbrev wDevLog : Nat := 0x1482

/-- What a device_fault_config entry holds at reset (R513, R522, R527): the Fatal reaction of sources 9 and 10 is 0x23. -/
def devCfgDefault (e : Nat) : Nat :=
  let low := if e = 9 ∨ e = 10 then faultCfgLow - 0x10 * 2 ^ 120 else faultCfgLow
  kindMap (devKindClass e) * 2 ^ 128 + low

/-- An entry of a window of the device collector. -/
def Dev.tab (d : Dev) (w e : Nat) : Nat :=
  match SMap.find? d.tabs (tabKey w e) with
  | some v => v
  | none => if w = wDevCfg then devCfgDefault e else 0

/-- The same, written. -/
def Dev.setTab (d : Dev) (w e v : Nat) : Dev :=
  { d with tabs := SMap.put d.tabs (tabKey w e) (if w = wDevCfg then devCfgDefault e else 0) v }

/-- A message to the device collector (R510): 64 places. -/
def Dev.report (d : Dev) (src kind addr : Nat) : Dev :=
  if d.faultQ.length < 64 then { d with faultQ := d.faultQ ++ [⟨src, kind, addr % 2 ^ 48, d.aon, d.aon⟩] }
  else
    let base := bits (d.tab wDevCfg src) (129 + 2 * (kind % 64)) (128 + 2 * (kind % 64))
    d.setTab wDevStat src (putBit (putBit (d.tab wDevStat src) (252 + base) true) 260 true)

/-- A message under the rate rule (R137). -/
def Dev.reportRate (d : Dev) (src kind addr : Nat) : Dev :=
  if d.rates.any (fun m => m.src == src && m.kind == kind) then d
  else { d with rates := d.rates ++ [⟨src, kind, addr % 2 ^ 48, 0, 0⟩] }

/-- The messages that waited for the end of their interval. -/
def Dev.rateInterval (d : Dev) : Dev := d.rates.foldl (fun (a : Dev) m => a.report m.src m.kind m.addr) { d with rates := [] }

/-- All ones of a device-level counter. -/
def devCounterMax (k : Nat) : Nat :=
  match findRow devRows k with
  | some r => if r.ty = ObjType.u32 then 2 ^ 32 - 1 else allOnes64
  | none => allOnes64

/-- A device-level counter counted up; device source 20 reports one that reaches all ones (R488). -/
def Dev.add (d : Dev) (k n : Nat) : Dev :=
  let v := d.rd k
  let m := devCounterMax k
  if v + n < m then d.wr k (v + n)
  else if v = m then d
  else (d.wr k m).report 20 3 (k / 256 * 2 ^ 16 + k % 256 * 2 ^ 8)
def Dev.inc (d : Dev) (k : Nat) : Dev := d.add k 1

/-- Kinds of device sources that hold a state (R516). -/
def devStateKind (e k : Nat) : Bool :=
  (decide (e ≤ 8) && decide (k = 1)) || (decide (e = 13) && decide (k = 2)) || (decide (e = 14) && decide (k = 1)) ||
  (decide (e = 15) && (decide (k = 1) || decide (k = 2)))

/-- Whether such a state still holds. -/
def Dev.stateHolds (d : Dev) (x : LiveState) : Bool :=
  if x.src ≤ 8 then !bitOf (d.rd Reg.rail_status) x.src
  else if x.src = 13 then !d.linkUp
  else if x.src = 14 then d.avsLowered
  else !bitOf (d.rd Reg.aon_status) (x.kind - 1)

/-- States that have ended are forgotten. -/
def Dev.settleStates (d : Dev) : Dev :=
  if d.stateLive.isEmpty then d else { d with stateLive := d.stateLive.filter d.stateHolds }

/-- The live bit of a class of a device source without its holds of kind `but` (R516). -/
def Dev.liveBut (d : Dev) (e cls but : Nat) : Bool :=
  let st := d.tab wDevStat e
  d.stateLive.any (fun x => decide (x.src = e) && decide (x.cls = cls) && d.stateHolds x) ||
  (decide (cls = 2) && bitOf st 262 && decide (d.aon < bits st 127 64)) ||
  d.holds.any (fun h => decide (h.src = e) && decide (h.cls = cls) && decide (h.kind ≠ but))

/-- The live bit of a class of a device source (R516). -/
def Dev.live (d : Dev) (e cls : Nat) : Bool := d.liveBut e cls 0

/-- The pair drives of a device source, and with `stops` its stops, end on side `n` (R516, R526, R531). -/
def Dev.endHolds (d : Dev) (n : Nat) (stops : Bool) : Dev :=
  { d with holds := d.holds.filter (fun h => !(decide (h.num = n) && (decide (h.kind = 10) || (stops && decide (h.kind = 11))))) }

/-- Whether a device source that drives side `n`'s pair has its class live for another reason (R531). -/
def Dev.pairLive (d : Dev) (n : Nat) : Bool :=
  d.holds.any (fun h => decide (h.kind = 10) && decide (h.num = n) && d.liveBut h.src h.cls 10)

/-- A device_fault_status entry as it reads. -/
def Dev.faultStatus (d : Dev) (e : Nat) : Nat :=
  let st := (List.range 4).foldl (fun a k => putBit a (256 + k) (d.live e k)) (d.tab wDevStat e)
  putBit (putBit st 262 (bitOf st 262 && decide (d.aon < bits st 127 64))) 261 (d.holds.any (fun h => decide (h.src = e)))

/-- device_fault_state (R539). -/
def Dev.faultState (d : Dev) : Nat :=
  if (List.range 64).any (fun e => d.live e 3) then 2 else if (List.range 64).any (fun e => d.live e 2) then 1 else 0

/-- Whether a device source other than `but`, routed to a vector of the side's physical function, is pending (R532,
R533). -/
def Dev.vectorPending (d : Dev) (s vec but : Nat) : Bool :=
  (List.range 64).any (fun e =>
    let cfg := d.tab wDevCfg e
    decide (e ≠ but) && bitOf (d.tab wDevStat e) 263 && bitOf cfg 68 && bitOf cfg (60 + s) && decide (bits cfg 67 62 = vec))

/-! ### The device as a whole -/

/-- The part of a side. -/
def Plant.side (p : Plant) : SideId → Side
  | .a => p.a
  | .b => p.b

/-- The same, set. -/
def Plant.setSide (p : Plant) (sd : SideId) (d : Side) : Plant :=
  match sd with
  | .a => { p with a := d }
  | .b => { p with b := d }

/-- A change of the device-level part. -/
def Plant.onDev (p : Plant) (f : Dev → Dev) : Plant := { p with dev := (f p.dev).settleStates }

/-- The always-on count at a change of power_state (R560). -/
def Plant.stamped (p : Plant) (sd : SideId) (d : Side) : Side :=
  if d.r.rd Reg.power_state = (p.side sd).r.rd Reg.power_state then d else { d with r := d.r.wr Reg.last_transition p.dev.aon }

/-- The messages a side's unit has for the device collector go to it (R509). -/
def Plant.handOn (p : Plant) (sd : SideId) (d0 : Side) : Plant :=
  let d := p.stamped sd d0
  if d.r.toDev.isEmpty then p.setSide sd { d with r := d.r.settleStates }
  else
    let q : Plant := { p with dev := d.r.toDev.foldl (fun (x : Dev) m => x.report m.src m.kind m.addr) p.dev }
    q.setSide sd { d with r := ({ d.r with toDev := [] } : Core).settleStates }

/-- A change of one side. -/
def Plant.onSide (p : Plant) (sd : SideId) (f : Side → Side) : Plant := p.handOn sd (f (p.side sd))

/-- A change of one side's part without its memories. -/
def Plant.onCore (p : Plant) (sd : SideId) (f : Core → Core) : Plant :=
  p.onSide sd (fun d => { d with r := f d.r })

/-- The side runs: released, not Stopped, not stopped through the TAP (R526, R574, R602). -/
def Core.alive (c : Core) : Bool := c.released && decide (c.rd Reg.side_state ≠ 2) && !c.tapStop

/-- The pipeline's clocks run: in Run and until an entry into Den or Burrow has drained (R540, R546). -/
def Core.pipelineRuns (c : Core) : Bool :=
  decide (c.rd Reg.power_state = 0) ||
  ((decide (c.rd Reg.power_state = 1) || decide (c.rd Reg.power_state = 4)) && decide (c.entryStep = 1))

/-- A change that only a running side makes. -/
def Plant.liveSide (p : Plant) (sd : SideId) (f : Side → Side) : Plant :=
  if (p.side sd).r.alive then p.onSide sd f else p
def Plant.liveCore (p : Plant) (sd : SideId) (f : Core → Core) : Plant :=
  if (p.side sd).r.alive then p.onCore sd f else p

/-- The time of learn requests (R232): that of domain learn_domain, or the free-running local clock when the domain has no
grandmaster. -/
def Core.learnTime (c : Core) : Nat :=
  let d := c.rd Reg.learn_domain
  if c.flag (Reg.domain_gm_present d) then c.domNs d else c.localNs

/-- What learning engines share (R28, R232): in Joined mode the identity and the time of side A. -/
def Plant.learnEnv (p : Plant) (sd : SideId) : LearnEnv :=
  let c := if p.dev.joined then p.a.r else (p.side sd).r
  { joined := p.dev.joined, engine := c.rd Reg.engine_id, now := c.learnTime }

/-- Whether a device port forwards, for port groups (R259). -/
def Plant.portActive (p : Plant) (n : Nat) : Bool :=
  if n < 64 then p.a.r.linkUp n else if n < 128 then p.b.r.linkUp (n - 64) else false

/-- What the action stage and the pipeline take from outside their side. -/
def Plant.actEnv (p : Plant) : ActEnv := { joined := p.dev.joined, active := p.portActive }
def Plant.pipeEnv (p : Plant) (sd : SideId) : PipeEnv := { act := p.actEnv, learn := p.learnEnv sd }

/-- A write that Joined mode carries to both sides (R25); `g` is what the other side makes of it, from side A's part after the write.
It completes only when both copies take the value: a refusal by the other side alone is the answer, and neither side's copy changes
(DEDUCED, log entry 57). -/
def Plant.both (p : Plant) (sd : SideId) (f : Core → Core × Reason) (g : Core → Core → Core × Reason) : Plant × Reason :=
  let mine := f (p.side sd).r
  let his := g mine.1 (p.side sd.other).r
  if mine.2 = .ok ∧ his.2 ≠ .ok then (p, his.2)
  else
    let q := p.onCore sd (fun c => (f c).1)
    if mine.2 = .ok then (q.onCore sd.other (fun c => (g mine.1 c).1), .ok) else (q, mine.2)

/-- A flip of side A that has taken effect takes side B's with it (R281). -/
def Plant.flipFollow (p : Plant) : Plant :=
  if p.dev.joined ∧ p.a.r.rd Reg.epoch_flip ≠ 1 then p.onCore .b Core.flipWith else p

/-- Copies the crossing refused at its admission on a side (R313). -/
def Plant.crossDrops (p : Plant) (sd : SideId) (n : Nat) : Plant :=
  if n = 0 then p else p.onDev (fun d => d.add (match sd with | .a => Reg.crossing_drops_ab | .b => Reg.crossing_drops_ba) n)

/-- Device-level vectors pending at a side's physical function. -/
def Plant.devPending (p : Plant) (sd : SideId) (vec : Nat) : Bool := p.dev.vectorPending sd.num vec 64

/-- R24: in Joined mode a Fatal of one side stops both and drives both pairs. -/
def Plant.joinedFatal (p : Plant) (sd : SideId) : Plant :=
  (p.onCore sd (fun c => c.stop.drivePair 2)).onCore sd.other (fun c => c.stop.drivePair 5)

/-- FAULT_MESSAGE (R514). -/
def Plant.faultMessage (p : Plant) (sd : SideId) : Plant :=
  let r := (p.side sd).r.faultMessage (p.devPending sd)
  let q := p.onCore sd (fun _ => r.1)
  if p.dev.joined && r.2 then q.joinedFatal sd else q

/-- Source 481 + d of a side's APLIC follows device source `e`'s pending bit and routes (R398, R532). -/
def Plant.devLevelAt (p : Plant) (sd : SideId) (e : Nat) : Plant :=
  let cfg := p.dev.tab wDevCfg e
  p.onCore sd (fun c => c.aplicInput (481 + e) (bitOf (p.dev.tab wDevStat e) 263 && bitOf cfg 69 && bitOf cfg (58 + sd.num)))

/-- The same of both sides. -/
def Plant.devLevel (p : Plant) (e : Nat) : Plant := (p.devLevelAt .a e).devLevelAt .b e

/-- Every device source's level, as a released side finds it. -/
def Plant.devLevels (p : Plant) (sd : SideId) : Plant := (List.range 64).foldl (fun (q : Plant) e => q.devLevelAt sd e) p

/-- A device source raises its event (R532): to the APLICs, the Owl and the physical functions its entry names. -/
def Plant.devEvent (p : Plant) (e : Nat) : Plant :=
  let st := p.dev.tab wDevStat e
  let cfg := p.dev.tab wDevCfg e
  let vec := bits cfg 67 62
  let send (q : Plant) (sd : SideId) : Plant :=
    if !bitOf st 263 && bitOf cfg 68 && bitOf cfg (60 + sd.num) && !(p.side sd).r.vectorPending vec 480 && !p.dev.vectorPending sd.num vec e
    then q.onCore sd (fun c => c.msixSend 0 vec) else q
  let q := (p.onDev (fun d => d.setTab wDevStat e (putBit st 263 true))).devLevel e
  send (send (if !bitOf st 263 && bitOf cfg 70 then q.onCore .a (fun c => c.emit (.owlEvent e)) else q) .a) .b

/-- A log record of the device collector; its ring holds 64 (R520). -/
def Dev.writeLog (d : Dev) (x : Classed) (a : Nat) : Dev :=
  let seq := (d.logSeq + 1) % 2 ^ 32
  ({ d with logSeq := seq } : Dev).setTab wDevLog ((seq + 63) % 64) (logRecord 2 x false a seq x.msg.clock)

/-- The device's first-fault record and a message (R519). -/
def Dev.ffr (d : Dev) (x : Classed) (a seq : Nat) : Dev :=
  if x.cls < d.rd Reg.device_ffr_min_class then d
  else if bitOf (d.rd Reg.device_ffr_status) 63 then d.wr Reg.device_ffr_status (ffrCount (d.rd Reg.device_ffr_status) false)
  else (d.wr Reg.device_ffr_status (2 ^ 63 + seq)).wrOctets Reg.device_ffr_record (toBe 32 (logRecord 2 x false a seq x.msg.clock))

/-- DEVICE_FAULT_MESSAGE (R510, R514, R527): the collector takes one message. Its pair drive shows as a device Fatal, or as a reaction for a
lower class (R528). -/
def Plant.deviceFaultMessage (p : Plant) : Plant :=
  match p.dev.faultQ with
  | [] => p
  | m :: rest =>
    let r := classify (p.dev.tab wDevCfg m.src) (p.dev.tab wDevStat m.src) m.clock m.kind
    let x : Classed := ⟨m, m.src, r.2.1, r.2.2.1, r.2.2.2⟩
    let a := reactionByte (p.dev.tab wDevCfg m.src) x.cls
    let d1 := ({ p.dev with faultQ := rest } : Dev).setTab wDevStat m.src (recordStatus r.1 x)
    let d2 : Dev := if devStateKind m.src m.kind then { d1 with stateLive := d1.stateLive ++ [⟨m.src, m.kind, x.cls, m.addr⟩] } else d1
    let d3 := if bitOf a 0 then d2.writeLog x a else d2
    let d4 := d3.ffr x a (if bitOf a 0 then d3.logSeq else 0)
    let hold (b : Dev) (k : Nat) : Dev := { b with holds := b.holds ++ [⟨k, 0, m.src, x.cls⟩, ⟨k, 1, m.src, x.cls⟩] }
    let pair := if x.cls = 3 then 4 else 2
    let d5 := if bitOf a 4 then hold d4 11 else d4
    let d6 := if bitOf a 5 then hold d5 10 else d5
    let p1 : Plant := { p with dev := d6.settleStates }
    let p2 := if bitOf a 4 then (p1.onCore .a Core.stop).onCore .b Core.stop else p1
    let p3 := if bitOf a 5 then (p2.onCore .a (fun c => c.drivePair pair)).onCore .b (fun c => c.drivePair pair) else p2
    if bitOf a 1 then p3.devEvent m.src else p3

/-- A finding of a shared part (R17, R511): an uncorrectable word of the Owl's memory ends the Owl's services, a fault of the PCIe core
the host link, until it trains again. -/
def Dev.finding (d : Dev) : DevFinding → Dev
  | .owlMemory unc a => (if unc then { d with owlDown := true } else d : Dev).report 10 (if unc then 2 else 1) a.toNat
  | .pcieCore => ((({ d with linkUp := false } : Dev).wr Reg.link_speed 0).wr Reg.link_width 0).report 13 1 0
  | .collectorMemory unc => d.report 24 (if unc then 2 else 1) 0

/-- DEVICE_FAULT_CLEAR (R539, R518). -/
def Dev.faultClear (d : Dev) (v : Nat) : Dev × Reason :=
  let src := bits v 25 16
  let cls := v % 16
  if v ≠ src * 65536 + cls ∨ 63 < src then (d, .badValue)
  else if (List.range 4).any (fun k => bitOf cls k && d.live src k) then (d, .liveSet)
  else (d.setTab wDevStat src (clearSticky (d.tab wDevStat src) cls), .ok)

/-- DEVICE_EVENT_ACK (R539, R532, R533). -/
def Plant.deviceEventAck (p : Plant) (v : Nat) : Plant × Reason :=
  let src := bits v 25 16
  if v ≠ src * 65536 ∨ 63 < src then (p, .badValue)
  else
    let st := p.dev.tab wDevStat src
    let cfg := p.dev.tab wDevCfg src
    let vec := bits cfg 67 62
    let again (q : Plant) (sd : SideId) : Plant :=
      if bitOf st 263 && bitOf cfg 68 && bitOf cfg (60 + sd.num) &&
        ((p.side sd).r.vectorPending vec 480 || p.dev.vectorPending sd.num vec src)
      then q.onCore sd (fun c => c.msixSend 0 vec) else q
    (again (again ((p.onDev (fun d => d.setTab wDevStat src (putBit st 263 false))).devLevel src) .a) .b, .ok)

/-- DEVICE_FFR_CLEAR (R539, R519). -/
def Dev.ffrClear (d : Dev) (v : Nat) : Dev × Reason :=
  if v ≠ 1 then (d, .badValue)
  else
    let r := beNat (d.rdOctets Reg.device_ffr_record 32)
    if bitOf (d.rd Reg.device_ffr_status) 63 && d.live (bits r 141 132) (bits r 123 122) then (d, .liveSet)
    else ((d.wr Reg.device_ffr_status 0).wrWide Reg.device_ffr_record 4 0, .ok)

/-- A device_fault_config entry written (R527, R537): the reactions of sources 0 to 10 and 13 are fixed. -/
def Dev.writeFaultCfg (d : Dev) (e rec' : Nat) : Dev × Reason :=
  let old := d.tab wDevCfg e
  let changes (k : Nat) : Bool := decide (reactionByte rec' k ≠ reactionByte old k)
  let fixed := (decide (e ≤ 7) || decide (e = 9) || decide (e = 10)) && changes 3 || (decide (e = 8) || decide (e = 13)) && changes 2
  let bad (k : Nat) : Bool :=
    let b := reactionByte rec' k
    decide (64 ≤ b) || bitOf b 2 || bitOf b 3
  if bits rec' 87 72 = 0 ∨ bits rec' 67 62 < 4 ∨ fixed = true ∨ (List.range 4).any bad = true then (d, .badValue)
  else (d.setTab wDevCfg e (rec' / 2 ^ 58 * 2 ^ 58), .ok)

/-- OWL_WATCHDOG_EXPIRY (R17, R511): the Owl's services are refused from then on. -/
def Dev.watchdogExpiry (d : Dev) : Dev := ({ d with owlDown := true } : Dev).report 9 1 0

/-- A time of the always-on count, which moves in 40 ns steps (R509). -/
def Dev.runTo (d : Dev) (t : Nat) : Dev := { d with aon := max d.aon (ceilDiv t 40 * 40) }

/-- 1 ns of the 25 MHz oscillator, unless it is lost (R509, R540, R561). -/
def Dev.tick (d : Dev) : Dev :=
  if bitOf (d.rd Reg.aon_status) 1 = false then d
  else if d.aonSub + 1 < 40 then { d with aonSub := d.aonSub + 1 } else { d with aon := d.aon + 40, aonSub := 0 }

end Sys2Proof.Machine
end

