-- ==== Sys2Proof/Machine/Power.lean ====
section
/-! DEFINITION. Power.lean: clocks, power states, wake, adaptive voltage, ageing, rails and temperature (R540 to R563, R620,
R636, R643, R647 to R651). -/

namespace Sys2Proof.Machine

/-! ### PLLs and clocks (R541, R543, R556) -/

/-- A PLL start asks for a raise of VDD by 20 mV for 10 ms (R556); one that meets a raise in force prolongs it. The regulator answers
with the next reading (R557; DEDUCED, log entry 73). A failed Owl changes nothing (R17). -/
def Dev.pllStart (d : Dev) : Dev :=
  if !d.flag Reg.avs_enable || d.owlDown then d else { d with avsRaise := d.aon + 10000000 + 1 }

/-- The unlocked PLLs a side has reported; the state of E+465 kind 0x01 (R516). -/
def Core.setPllBad (c : Core) (n : Nat) (b : Bool) : Core :=
  let m := putBit c.pllBad n b
  { c with pllBad := m, conds := putBit c.conds 0 (decide (m ≠ 0)) }

/-- PLL_LOCK (R541 steps 2 to 4): bit `n` of pll_locked. -/
def Core.pllLock (c : Core) (n : Nat) : Core :=
  let c1 := (c.wr Reg.pll_locked (putBit (c.rd Reg.pll_locked) n true)).setPllBad n false
  { c1 with pllTry := putBit c1.pllTry n false, conds := putBit c1.conds 1 false }

/-- PLL_LOCK_TIMEOUT (R541): one retry, then E+465 reports it. A reference that is absent or out of range is reported, and
the PLL not started (R626). -/
def Core.pllLockTimeout (c : Core) (n : Nat) (refBad : Bool) : Core :=
  if bitOf (c.rd Reg.pll_locked) n then c
  else if refBad then ({ c with conds := putBit c.conds 1 true, pllTry := putBit c.pllTry n false } : Core).report 465 2 0
  else if bitOf c.pllTry n then (({ c with pllTry := putBit c.pllTry n false } : Core).setPllBad n true).report 465 1 0
  else ({ c with pllTry := putBit c.pllTry n true } : Core).inc Reg.pll_retries

/-- A PLL of a side that the Owl is starting has failed: bit `n` for its lock, bit `n` + 8 for its reference. The release reports it. -/
def Core.startTimeout (c : Core) (n : Nat) (refBad : Bool) : Core :=
  if bitOf c.pllBad n || bitOf c.pllBad (n + 8) then c
  else if refBad then { c with pllBad := putBit c.pllBad (n + 8) true, pllTry := putBit c.pllTry n false }
  else if bitOf c.pllTry n then { c with pllBad := putBit c.pllBad n true, pllTry := putBit c.pllTry n false }
  else ({ c with pllTry := putBit c.pllTry n true } : Core).inc Reg.pll_retries

/-- A PLL of a side that the Owl is starting locks. -/
def Core.startLock (c : Core) (n : Nat) : Core :=
  { c with pllBad := putBit (putBit c.pllBad n false) (n + 8) false, pllTry := putBit c.pllTry n false }

/-- The Owl starts a side's PLLs before it releases the side: at boot, out of Burrow, after a reset (R554 step 4, R574, R628). -/
def Plant.pllStarting (p : Plant) (sd : SideId) : Bool :=
  let c := (p.side sd).r
  !c.released && !p.dev.porst && !p.dev.owlDown && decide (2 ≤ p.dev.bootPhase) &&
    (decide (c.rd Reg.power_state = 7) || (decide (c.rd Reg.power_state = 6) && decide (c.entryStep = 3)))

/-- PLL_LOCK_TIMEOUT: the retry is a PLL start. -/
def Plant.pllTimeout (p : Plant) (sd : SideId) (n : Nat) (refBad : Bool) : Plant :=
  let c := (p.side sd).r
  if p.pllStarting sd then
    let q := p.onCore sd (fun x => x.startTimeout n refBad)
    if !refBad && !bitOf c.pllBad n && !bitOf c.pllBad (n + 8) && !bitOf c.pllTry n then q.onDev Dev.pllStart else q
  else
    let q := p.liveCore sd (fun x => x.pllLockTimeout n refBad)
    if c.alive && !bitOf (c.rd Reg.pll_locked) n && !refBad && !bitOf c.pllTry n then q.onDev Dev.pllStart else q

/-- PLL_LOCK of a side that starts or runs. -/
def Plant.pllLocked (p : Plant) (sd : SideId) (n : Nat) : Plant :=
  if p.pllStarting sd then p.onCore sd (fun c => c.startLock n) else p.liveCore sd (fun c => c.pllLock n)

/-- PLL_LOCK_LOSS (R541): a running PLL loses lock. -/
def Core.pllLockLoss (c : Core) (n : Nat) : Core :=
  if bitOf (c.rd Reg.pll_locked) n then
    ((c.wr Reg.pll_locked (putBit (c.rd Reg.pll_locked) n false)).setPllBad n true).report 465 1 0
  else c

/-- CORE_FREQ_CHANGE (R543, R561): core_pll_mhz from 1,000 to 3,000 in steps of 100, or core_divider. -/
def Core.coreFreq (c : Core) (divider : Bool) (v : Nat) : Core × Reason :=
  if divider then (if v < 65536 then (c.wr Reg.core_divider v, .ok) else (c, .badValue))
  else if v < 1000 ∨ 3000 < v ∨ v % 100 ≠ 0 then (c, .badValue)
  else (c.wr Reg.core_pll_mhz v, .ok)

/-! ### Requests and entry (R545 to R547) -/

/-- Why a side refuses a power request (R545); `ok` for none. -/
def Core.powerCheck (c : Core) (v : Nat) (staged held : Bool) : Reason :=
  let s := c.rd Reg.power_state
  if 2 < v then .badValue
  else if c.rd Reg.side_state ≠ 0 ∨ s = 7 ∨ c.inReset = true ∨ (staged = true ∧ v = 2) then .wrongState
  else if s = 1 ∨ s = 3 ∨ s = 4 ∨ s = 6 ∨ held = true then .busy
  else if (s = 0 ∧ v ≠ 0) ∨ (s = 2 ∧ v ≠ 1) ∨ (s = 5 ∧ v = 0) then .ok
  else .wrongState

/-- An accepted power request (R546 step 1, R548 bit 5). -/
def Core.powerBegin (c : Core) (v : Nat) : Core :=
  let c1 := c.wr Reg.power_request 1
  match v with
  | 0 => c1.wake 5
  | 1 => { (c1.wr Reg.power_state 1) with entryStep := 1, entryAt := c.now }
  | _ => { (c1.wr Reg.power_state 4) with entryStep := if c.rd Reg.power_state = 2 then 4 else 1, entryAt := c.now }

/-- POWER_REQUEST_RUN, _DEN and _BURROW (R545): the reason, which a refusal by either side of a Joined device gives. -/
def Plant.powerRequest (p : Plant) (sd : SideId) (v : Nat) : Plant × Reason :=
  let staged := decide (p.dev.rd Reg.boot_slot = 2)
  let held (s : SideId) : Bool := decide ((p.side s).r.rd Reg.field_test_request = 2)
  let r := (p.side sd).r.powerCheck v staged (held sd)
  if p.dev.owlDown then (p.onCore sd (fun c => c.wr Reg.power_request 3), .owlUnavailable)
  else if p.dev.joined && decide (sd = .b) then (p, .mirrored)
  else if r ≠ .ok then (p.onCore sd (fun c => c.wr Reg.power_request 3), r)
  else if p.dev.joined then
    let r2 := p.b.r.powerCheck v staged (held .b)
    if r2 ≠ .ok then (p.onCore sd (fun c => c.wr Reg.power_request 3), r2)
    else ((p.onCore .a (fun c => c.powerBegin v)).onCore .b (fun c => c.powerBegin v), .ok)
  else (p.onCore sd (fun c => c.powerBegin v), .ok)

/-- The drain has ended: outstanding XOFF requests are answered with quanta 0 (R546 step 4). -/
def Core.entryDrained (c : Core) : Core :=
  let c1 := c.xoffs.foldl (fun (a : Core) x => a.sendPause (x.1 / 16) (x.1 % 16) false) c
  { c1 with xoffs := [], entryStep := 2 }

/-- ENTRY_DRAIN_DONE (R546): nothing is inside and no flip is open. -/
def Core.entryDrainDone (c : Core) : Core :=
  if c.entryStep = 1 ∧ (c.rd Reg.power_state = 1 ∨ c.rd Reg.power_state = 4) ∧ c.framesQueued = 0 ∧ c.framesInFlight = 0 ∧
    c.rx.all (fun f => decide (f.dropAs ≠ 0)) = true ∧ c.rd Reg.epoch_flip = 0 then c.entryDrained else c

/-- The fabric emptied of the cells of discarded copies, on their way or still to come: every cell and credit is free, and the streams
start again (R546 steps 3 and 4). -/
def Core.emptyFabric (c : Core) : Core :=
  { (c.moveCells .inFabric .free (c.sumCopies (fun _ => true) (fun x => x.reserved))) with
    copies := [], middles := [], arriving := [], returning := [], spent := [], streams := [] }

/-- Every frame inside discarded and counted once in pm_drop_entry (R546 step 3): of one accepted before its last octet what is in
flight, the frames that wait to be originated, and those whose head cell waits at the crossing's receiver. One that has begun to cross
counts on the far side. One dropped at its start has been counted. -/
def Core.discardAll (c : Core) : Core :=
  let c1 := c.rxJobs.foldl (fun (a : Core) j => a.abandon j Reg.pm_drop_entry) c
  let c2 := c1.dropWhere (fun _ => true) Reg.pm_drop_entry
  let c3 := c2.recirc.foldl (fun (a : Core) r => (a.inc Reg.pm_drop_entry).leaveFor r.frameNo r.epoch) { c2 with recirc := [] }
  let r4 := c3.stopCrossing (fun _ => true) Reg.pm_drop_entry
  let heads := (c3.crossIn.filter (fun x => x.head.isSome)).length
  let c4 : Core := { (((r4.1.add Reg.crossing_frames_in heads).add Reg.pm_drop_entry (r4.2 + heads)).emptyFabric) with
    crossOut := [], crossIn := [], crossMap := [] }
  let c5 := (c4.rx.filter (fun f => decide (f.dropAs = 0))).foldl (fun (a : Core) f =>
    if f.accepted then a.add Reg.pm_drop_entry f.lateDrops.length
    else ((a.inc (Reg.rx_frames f.port)).add (Reg.rx_octets f.port) f.octets.length).inc Reg.pm_drop_entry) c4
  let n := c5.mgmtWait.length
  let c6 : Core := { ((c5.add Reg.mgmt_originated n).add Reg.pm_drop_entry n) with
    rx := c5.rx.filter (fun f => decide (f.dropAs ≠ 0)), mgmtWait := [] }
  c6.ports.foldl (fun (a : Core) x => a.modPort x.1 (fun y => { y with tx := none, ctl := [] })) c6

/-- ENTRY_DRAIN_TIMEOUT (R546 step 3): den_drain_us has passed; a draining flip completes (`others` is the other side's
count). -/
def Core.entryDrainTimeout (c : Core) (others : Nat) : Core :=
  if c.entryStep = 1 ∧ (c.rd Reg.power_state = 1 ∨ c.rd Reg.power_state = 4) then
    let c1 := (c.advanceTo (c.entryAt + usTicks (c.rd Reg.den_drain_us))).discardAll
    (c1.flipComplete others).entryDrained
  else c

/-- The ports at the end of an entry (R546 step 4): a held port retrains to den_rate, the others are idle. -/
def Core.idlePorts (c : Core) (den : Bool) : Core :=
  (List.range 64).foldl (fun (a : Core) p =>
    if den && a.flag (Reg.den_hold p) && a.mayRun p then
      let b := if a.linkUp p then a.linkChange p else a
      b.retrain p
    else if (SMap.find? a.ports p).isSome then a.portDown p else a) c

/-- Wakes that came while the side entered (R549). -/
def Core.lateWakes (c : Core) : Core :=
  (setBits 6 c.wakePend).foldl (fun (a : Core) b => a.wake b) { c with wakePend := 0 }

/-- DEN_ENTERED (R546 step 5). -/
def Core.denEntered (c : Core) : Core :=
  if c.rd Reg.power_state = 1 ∧ c.entryStep = 2 then
    let c1 := c.idlePorts true
    let c2 := (((c1.wr Reg.power_state 2).wr Reg.power_request 2).inc Reg.den_entries).wr Reg.pll_locked
      (putBits (c1.rd Reg.pll_locked) 1 0 0)
    (({ c2 with entryStep := 0, entryAt := c2.now } : Core).powerReport 1).lateWakes
  else c

/-- BURROW_ENTERED (R552, R555): cores reset, DRAM retained or off, outputs released, switches open, the scratchpad unpowered. -/
def Side.burrowEntered (d : Side) : Side :=
  let c := d.r
  if c.rd Reg.power_state = 4 ∧ (c.entryStep = 2 ∨ c.entryStep = 4) then
    let c1 := (c.idlePorts false).coreRun 0 |>.1
    let keep := c1.flag Reg.burrow_dram
    let c2 := (((c1.wr Reg.power_state 5).wr Reg.power_request 2).inc Reg.burrow_entries).wr Reg.pll_locked 0
    let c3 := c2.wr Reg.dram_state (if keep && decide (c2.rd Reg.dram_state = 2) then 3 else if keep then c2.rd Reg.dram_state else 0)
    { d with
      spm := []
      r := (({ c3 with
        entryStep := 0, released := false, spmBad := [], pllBad := 0, pllTry := 0, ppsOut := false, fieldWakeId := c3.rd Reg.field_node_id } : Core).powerReport 1).lateWakes
      dram := if keep then d.dram else [] }
  else d

/-- BURROW_ENTERED for the device: with both sides in Burrow and burrow_rail_off the Owl drives VDD_CORE_EN low, and the
host port loses its link (R552 step 5). -/
def Plant.railOff (p : Plant) : Plant :=
  if p.a.r.rd Reg.power_state = 5 ∧ p.b.r.rd Reg.power_state = 5 ∧ p.dev.flag Reg.burrow_rail_off = true ∧ p.dev.vddOff = false then
    p.onDev (fun d => (({ d with vddOff := true, linkUp := false } : Dev).wr Reg.link_speed 0).wr Reg.link_width 0)
  else p

/-! ### Wake (R548 to R553) -/

/-- WAKE_IN_EDGE (R550): line `n` goes to a level; `held` when it stays there for 100 µs. -/
def Plant.wakeInEdge (p : Plant) (n : Nat) (high held : Bool) : Plant :=
  let cfg := bits (p.dev.rd Reg.wake_in_config) (2 * n + 1) (2 * n)
  if !held then (if cfg = 0 then p else p.onDev (fun d => d.inc Reg.wake_in_glitches))
  else if bitOf p.dev.wakeLevel n = high then p
  else
    let q := p.onDev (fun d => { d with wakeLevel := putBit d.wakeLevel n high })
    if bitOf cfg (if high then 0 else 1) then
      let one (x : Plant) (sd : SideId) : Plant :=
        x.onCore sd (fun c => if bitOf (c.rd Reg.wake_in_mask) n &&
          (decide (c.rd Reg.power_state = 1) || decide (c.rd Reg.power_state = 2) || decide (c.rd Reg.power_state = 4) ||
            decide (c.rd Reg.power_state = 5)) then c.wake 2 else c)
      one (one q .a) .b
    else q

/-- WAKE_TIMER_EXPIRY (R548 bit 4): wake_timer_ms after entry. -/
def Core.wakeTimer (c : Core) : Core :=
  let ms := c.rd Reg.wake_timer_ms
  if ms ≠ 0 ∧ (c.rd Reg.power_state = 2 ∨ c.rd Reg.power_state = 5) then (c.advanceTo (c.entryAt + msTicks ms)).wake 4 else c

/-- FIELD_WAKE_FRAME (R553): a valid CAN FD or CAN XL frame on an identifier, in Burrow. -/
def Core.fieldWakeFrame (c : Core) (ident : Nat) : Core :=
  if c.rd Reg.power_state = 5 ∧ c.flag Reg.field_wake = true ∧ ident = 0x2C0 + c.fieldWakeId then c.wake 3 else c

/-! ### Leaving Den (R551) -/

/-- DEN_EXIT (R551, R541): the pipeline and fabric PLLs run that have not failed to lock; the fabric's numbering and every stream restart, unheld ports start, held ports go to full rate. -/
def Core.denExit (c : Core) : Core :=
  if c.rd Reg.power_state ≠ 3 then c
  else
    let c1 := ((c.wr Reg.power_state 0).wr Reg.pll_locked (c.rd Reg.pll_locked ||| (3 ^^^ c.pllBad % 4))).powerReport 2
    let c2 := if c1.rd Reg.power_request = 1 then c1.wr Reg.power_request 2 else c1
    let c3 : Core := { c2 with slotBase := c2.now, middleSlot := 0, groupSlot := [], streams := [] }
    (List.range 64).foldl (fun (a : Core) p =>
      if a.flag (Reg.den_hold p) && a.mayRun p then
        a.modPort p (fun x => { x with
          signal := false, locked := false, up := false, shown := 0, holdoff := none, denSince := none
          fallbackAt := some (a.now + msTicks 100) })
      else a) c3

/-- DEN_EXIT of a running side: the Owl starts its PLLs. -/
def Plant.leaveDen (p : Plant) (sd : SideId) : Plant :=
  if (p.side sd).r.alive && decide ((p.side sd).r.rd Reg.power_state = 3) && !p.dev.owlDown then
    (p.onCore sd Core.denExit).onDev Dev.pllStart
  else p

/-- HELD_PORT_FULL_RATE (R551 step 4): a held port has locked at its port_mode. -/
def Core.heldFullRate (c : Core) (p : Nat) : Core :=
  if (c.port p).fallbackAt.isSome && decide (c.rd Reg.power_state = 0) && c.mayRun p then
    (c.modPort p (fun x => { x with signal := true, locked := true, lfault := false, rfault := false })).goUp p
  else c

/-- HELD_PORT_FALLBACK (R551): not up 100 ms after step 3. -/
def Core.heldFallback (c : Core) (p : Nat) : Core :=
  match (c.port p).fallbackAt with
  | none => c
  | some t =>
    if (c.port p).up then c
    else (((c.advanceTo t).modPort p (fun x => { x with fallbackAt := none })).report (4 * p) 1 p).settle p

/-- BURROW_EXIT (R554 steps 1 to 4): VDD_CORE_EN is released, the switches close, the side is held in reset. -/
def Plant.burrowExit (p : Plant) (sd : SideId) : Plant :=
  if (p.side sd).r.rd Reg.power_state = 6 ∧ p.dev.owlDown = false then
    (p.onDev (fun d => ({ d with vddOff := false } : Dev).pllStart)).onCore sd (fun c => { c with entryStep := 3 })
  else p

/-! ### Adaptive voltage (R556, R557) -/


/-- The lowest margin and the number of its monitor, from 0. -/
def lowestMargin (l : List Nat) : Nat × Nat :=
  (l.foldl (fun (a : (Nat × Nat) × Nat) m => (if m < a.1.1 then (m, a.2) else a.1, a.2 + 1)) ((2 ^ 16, 0), 0)).1

/-- A raise that is over. -/
def Dev.raiseOver (d : Dev) : Bool := decide (d.avsRaise ≠ 0) && decide (d.avsRaise ≤ d.aon + 1)

/-- What a raise adds to the voltage from a reading on, in mV: 20 and at most to 850 mV while it is in force, nothing once it is over
(R556). `avsGain` is what the regulator has confirmed of it. -/
def Dev.raiseGain (d : Dev) : Nat :=
  if d.avsRaise = 0 || d.raiseOver then 0
  else if d.avsGain = 0 then min 850 (d.rd Reg.vdd_core_mv + 20) - d.rd Reg.vdd_core_mv
  else d.avsGain

/-- The voltage the Owl asks for after a reading, from the confirmed one with the raise that begins or ends: the request, the core
clock to be lowered, readings in a row that were high. -/
def Dev.avsTarget (d : Dev) (l : List Nat) : Nat × Bool × Nat :=
  let v := max 650 (d.rd Reg.vdd_core_mv - d.avsGain + d.raiseGain)
  let m := (lowestMargin l).1
  if !d.flag Reg.avs_enable then (d.rd Reg.avs_fixed_mv, false, 0)
  else if m < d.rd Reg.avs_margin_low then (min 850 (v + 5), decide (850 ≤ v), 0)
  else if d.rd Reg.avs_margin_high < m then
    (if 99 ≤ d.avsHigh then (max 650 (v - 5), false, 0) else (v, false, d.avsHigh + 1))
  else (v, false, 0)

/-- AVS_MONITOR_READ (R556, R557): the 32 margins in ps, and whether the regulator confirms the request; without that the last confirmed
voltage stays, and the next reading asks again. -/
def Plant.avsRead (p : Plant) (l : List Nat) (ack : Bool) : Plant :=
  let d0 := p.dev.runTo (p.dev.aon + 1000000)
  let t := d0.avsTarget l
  let kept := t.1 = d0.rd Reg.vdd_core_mv
  let d1 : Dev := { d0 with avsHigh := t.2.2 }
  let d3 : Dev := if kept ∨ ack = true then
      { (d1.wr Reg.vdd_core_mv t.1) with
        avsGain := if d1.flag Reg.avs_enable then d0.raiseGain else 0
        avsRaise := if d0.raiseOver || !d1.flag Reg.avs_enable then 0 else d1.avsRaise }
    else (d1.inc Reg.avs_errors).report 23 4 (2 * p.a.r.rd Reg.power_state)
  let d4 : Dev := if t.2.1 && !d3.avsLowered then ({ d3 with avsLowered := true } : Dev).report 14 1 (lowestMargin l).2 else d3
  let lower (c : Core) : Core := if 1000 < c.rd Reg.core_pll_mhz then c.wr Reg.core_pll_mhz (c.rd Reg.core_pll_mhz - 100) else c
  let p1 : Plant := { p with dev := d4 }
  if t.2.1 then (p1.onCore .a lower).onCore .b lower else p1

/-! ### Ageing and life (R558, R647 to R651) -/

/-- The least n with n^5 T at least 2500^5 t: expected(t) of R649 in 0.001 %, rounded up as the worked example is. -/
def expectedShift (t total : Nat) : Nat :=
  ((List.range 3001).find? (fun n => decide (2500 ^ 5 * t ≤ n ^ 5 * max 1 total))).getD 3001

/-- projected_hours (R649). -/
def projectedHours (t s : Nat) : Nat := min (2 ^ 32 - 1) (t * 3000 ^ 5 / s ^ 5)

/-- The largest shift and its monitor, from 0. -/
def largestShift (l : List Int) : Int × Nat :=
  (l.foldl (fun (a : (Int × Nat) × Nat) x => (if a.2 = 0 ∨ a.1.1 < x then (x, a.2) else a.1, a.2 + 1)) ((0, 0), 0)).1

/-- The life objects and the reports of a powered hour (R649, R651). -/
def Dev.lifeUpdate (d : Dev) (l : List Int) : Dev :=
  let t := d.rd Reg.powered_hours
  let total := d.rd Reg.life_profile_hours
  let s := largestShift l
  let n := s.1.toNat
  let exp := expectedShift t total
  let proj := if 1000 ≤ t ∧ 50 ≤ s.1 then projectedHours t n else 2 ^ 32 - 1
  let d1 := ((d.wr Reg.life_shift_max (unsignedOf 64 s.1)).wr Reg.life_shift_expected exp).wr Reg.life_projected_hours proj
  let d2 : Dev := if exp * 11 < n * 10 ∧ (d1.lifeSaid2 = 0 ∨ d1.lifeSaid2 - 1 + 1000 ≤ t) then
      ({ d1 with lifeSaid2 := t + 1 } : Dev).report 14 2 proj else d1
  let d3 : Dev := if proj < total ∧ (d2.lifeSaid3 = 0 ∨ d2.lifeSaid3 - 1 + 1000 ≤ t) then
      ({ d2 with lifeSaid3 := t + 1 } : Dev).report 14 3 proj else d2
  if 3000 ≤ s.1 then d3.report 14 4 s.2 else d3

/-- POWERED_HOUR (R558) up to the snapshot that persists it. -/
def Dev.poweredHour (d : Dev) (l : List Int) : Dev :=
  let d1 := d.wr Reg.powered_hours (min (2 ^ 32 - 1) (d.rd Reg.powered_hours + 1))
  let d2 := (l.foldl (fun (a : Dev × Nat) x => ((a.1.wr (Reg.age_shift a.2) (unsignedOf 64 x)), a.2 + 1)) (d1, 0)).1
  d2.lifeUpdate l

/-! ### Rails, always-on clocks, temperature (R561, R624, R636, R643) -/

/-- RAIL_OUT_OF_RANGE (R636): rail `k` of R511. VDD_FUSE is watched only while fuses are programmed (R624), and the core rail
not while VDD_CORE_EN is low (R552). -/
def Dev.railOut (d : Dev) (k : Nat) : Dev :=
  let d1 := d.wr Reg.rail_status (putBit (d.rd Reg.rail_status) k false)
  if k = 8 ∨ (k = 0 ∧ d.vddOff = true) then d1 else d1.report k 1 0

/-- RAIL_IN_RANGE (R636). -/
def Dev.railIn (d : Dev) (k : Nat) : Dev := d.wr Reg.rail_status (putBit (d.rd Reg.rail_status) k true)

/-- AON_CLOCK_LOSS (R511): 0 the 32.768 kHz clock, 1 the 25 MHz oscillator. -/
def Dev.aonLoss (d : Dev) (k : Nat) : Dev :=
  (d.wr Reg.aon_status (putBit (d.rd Reg.aon_status) k false)).report 15 (k + 1) 0

/-- AON_CLOCK_RETURN (R561). -/
def Dev.aonReturn (d : Dev) (k : Nat) : Dev := d.wr Reg.aon_status (putBit (d.rd Reg.aon_status) k true)

/-- TJ_SAMPLE (R643): the highest sensor in 1/16 °C. -/
def Core.tjSample (c : Core) (t : Int) : Core :=
  let before := signedOf 64 (c.rd Reg.side_tj)
  let c1 := c.wr Reg.side_tj (unsignedOf 64 t)
  let c2 := if signedOf 64 (c1.rd Reg.side_tj_max) < t then c1.wr Reg.side_tj_max (unsignedOf 64 t) else c1
  let w : Int := 16 * (c2.rd Reg.tj_warning_c : Nat)
  let c3 : Core := if w ≤ t ∧ bitOf c2.conds 2 = false then ({ c2 with conds := putBit c2.conds 2 true } : Core).report 466 1 (unsignedOf 16 t)
    else if t ≤ w - 48 then { c2 with conds := putBit c2.conds 2 false } else c2
  if 2160 ≤ t ∧ 2160 ≤ before ∧ bitOf c3.conds 3 = false then
    ({ c3 with conds := putBit c3.conds 3 true } : Core).report 466 2 (unsignedOf 16 t)
  else if t < 2160 then { c3 with conds := putBit c3.conds 3 false } else c3

end Sys2Proof.Machine
end

