-- ==== Sys2Proof/Machine/Test.lean ====
section
/-! DEFINITION. Test.lean: lane and port tests, memory BIST and repair, and the field test (R593 to R612). -/

namespace Sys2Proof.Machine

/-! ### Lane and port tests (R593 to R600) -/

/-- The tests of lane `p`. -/
def Core.testOf (c : Core) (p : Nat) : TestDyn := SMap.getD c.test p TestDyn.zero
def Core.modTest (c : Core) (p : Nat) (f : TestDyn → TestDyn) : Core :=
  { c with test := SMap.put c.test p TestDyn.zero (f (c.testOf p)) }

/-- The port whose test governs a lane: port 4j for a member of a 100 Gb/s group (R593). -/
def Core.testPort (c : Core) (p : Nat) : Nat := if c.member p then p / 4 * 4 else p

/-- A lane's rate in kbaud under its port_mode (R92). -/
def modeKbd (mode : Nat) : Nat :=
  match mode with
  | 1 => 1250000
  | 2 => 1250000
  | 3 => 3125000
  | 4 => 5156250
  | 5 => 10312500
  | 6 => 25781250
  | 7 => 25781250
  | _ => 0

/-- The rate of a lane in test, in kbaud (R595, R596). -/
def Core.testKbd (c : Core) (p : Nat) : Nat :=
  if c.rd (Reg.test_rate_mbd p) = 0 then modeKbd (c.rd (Reg.port_mode (c.testPort p))) else c.rd (Reg.test_rate_mbd p) * 1000

/-- Bits the PRBS checker has compared since it locked (R597): a pipeline clock is 1/3 ns. -/
def Core.lockedBits (c : Core) (p : Nat) : Nat :=
  match (c.testOf p).lockAt with
  | none => 0
  | some t => (c.now - t) * c.testKbd p / 3000000

/-- prbs_bits as it reads. -/
def Core.prbsBits (c : Core) (p : Nat) : Nat := min allOnes64 (c.rd (Reg.prbs_bits p) + c.lockedBits p)

/-- The checker leaves lock: what it has compared is counted. -/
def Core.prbsUnlock (c : Core) (p : Nat) : Core :=
  (c.add (Reg.prbs_bits p) (c.lockedBits p)).modTest p (fun x => { x with lockAt := none })

/-- The checker of a lane compares a pattern (R593, R595). -/
def Core.prbsRuns (c : Core) (p : Nat) : Bool :=
  c.flag (Reg.port_test (c.testPort p)) && c.flag (Reg.prbs_rx p) && decide (c.rd (Reg.prbs_pattern p) ≠ 0)

/-- PRBS_LOCK (R597): 64 consecutive bits have been predicted. -/
def Core.prbsLock (c : Core) (p : Nat) : Core :=
  if c.prbsRuns p && (c.testOf p).lockAt.isNone then c.modTest p (fun x => { x with lockAt := some c.now }) else c

/-- PRBS_LOCK_LOSS (R597): `errors` bits have differed while it was locked; the loss adds 1,024. -/
def Core.prbsLockLoss (c : Core) (p errors : Nat) : Core :=
  if (c.testOf p).lockAt.isSome then (c.prbsUnlock p).add (Reg.prbs_errors p) (errors + 1024) else c

/-- Bits of PRBS31 (R596), x^31 + x^28 + 1 from all ones: `n` bits, least significant first, and the state. -/
def prbs31 : Nat → Nat → Nat × Nat
  | 0, st => (0, st)
  | n + 1, st =>
    let b := Nat.xor (st / 2 ^ 30 % 2) (st / 2 ^ 27 % 2)
    let r := prbs31 n (st % 2 ^ 30 * 2 + b)
    (b + 2 * r.1, r.2)

/-- Octets of PRBS31. -/
def prbsOctets : Nat → Nat → Octets
  | 0, _ => []
  | n + 1, st => let r := prbs31 8 st; BitVec.ofNat 8 r.1 :: prbsOctets n r.2

/-- The payload of a generated frame, `n` octets (R595, R599). -/
def Core.genPayload (c : Core) (p n : Nat) : Octets :=
  match c.rd (Reg.gen_payload p) with
  | 0 => (List.range n).map (fun i => BitVec.ofNat 8 i)
  | 1 => prbsOctets n (2 ^ 31 - 1)
  | _ => List.replicate n (BitVec.ofNat 8 (c.rd (Reg.gen_fill p)))

/-- The length of the generator's frame `k` (R599). -/
def Core.genLength (c : Core) (p k : Nat) : Nat :=
  let lo := c.rd (Reg.gen_length_min p)
  lo + k % (c.rd (Reg.gen_length_max p) - lo + 1)

/-- The generator's frame `k`, FCS included (R599); `p` counts ports of the side. -/
def Core.genFrame (c : Core) (p k : Nat) : Octets :=
  let a := 0x02494C000000 + 64 * c.num + p
  let o := toBe 6 a ++ toBe 6 a ++ toBe 2 0x88B7 ++ toBe 4 (k % 2 ^ 32) ++ c.genPayload p (c.genLength p k - 22)
  o ++ toLe 4 (crc32 o)

/-- How many of a cycle of lengths fit in `octets`: the first of length `len`, `n` at most; a frame is sent when its last
octet has gone. -/
def genFit (idle : Nat) : Nat → Nat → Nat → Nat
  | 0, _, _ => 0
  | n + 1, len, octets =>
    if octets < 8 + len then 0 else 1 + genFit idle n (len + 1) (octets - (8 + len + idle))

/-- Octets of one whole cycle of lengths. -/
def Core.genCycle (c : Core) (p : Nat) : Nat × Nat :=
  let lo := c.rd (Reg.gen_length_min p)
  let n := c.rd (Reg.gen_length_max p) - lo + 1
  (n, n * (8 + lo + c.rd (Reg.gen_idle p)) + n * (n - 1) / 2)

/-- Frames the generator has sent since its start. -/
def Core.genSent (c : Core) (p : Nat) : Nat :=
  match (c.testOf p).genAt with
  | none => 0
  | some t =>
    let y := c.genCycle p
    let o := (c.now - t) * c.modeMbps p / 24000
    let k := o / y.2 * y.1 + genFit (c.rd (Reg.gen_idle p)) y.1 (c.rd (Reg.gen_length_min p)) (o % y.2)
    if c.rd (Reg.gen_count p) = 0 then k else min k (c.rd (Reg.gen_count p))

/-- gen_frames as it reads. -/
def Core.genFrames (c : Core) (p : Nat) : Nat := min allOnes64 (c.rd (Reg.gen_frames p) + (c.genSent p - (c.testOf p).genClear))

/-- The generator stops: what it sent is counted and put out. -/
def Core.genEnd (c : Core) (p n : Nat) : Core :=
  ((((c.add (Reg.gen_frames p) (n - (c.testOf p).genClear)).wr (Reg.gen_cmd p) 2).modTest p (fun x => { x with genAt := none })).emit (.generated p n))

/-- gen_cmd written (R599): 1 starts the generator, 2 stops it. Far-end loopback ignores the generator (R598). -/
def Core.genCmd (c : Core) (p v : Nat) : Core × Reason :=
  if v = 0 ∨ 2 < v then (c, .badValue)
  else if !c.flag (Reg.port_test p) then (c, .wrongState)
  else if v = 2 then (if (c.testOf p).genAt.isSome then c.genEnd p (c.genSent p) else c, .ok)
  else if (c.testOf p).genAt.isSome then (c, .busy)
  else if c.rd (Reg.loopback p) = 2 then (c, .ok)
  else ((c.wr (Reg.gen_cmd p) 1).modTest p (fun x => { x with genAt := some c.now, genClear := 0 }), .ok)

/-- The time at which the generator's frame number gen_count has gone, in pipeline clocks from its start. -/
def Core.genTicks (c : Core) (p : Nat) : Nat :=
  let y := c.genCycle p
  let n := c.rd (Reg.gen_count p)
  let lo := c.rd (Reg.gen_length_min p)
  let idle := c.rd (Reg.gen_idle p)
  let r := n % y.1
  let o := n / y.1 * y.2 + r * (8 + lo + idle) + r * (r - 1) / 2 - idle
  ceilDiv (o * 24000) (max 1 (c.modeMbps p))

/-- GEN_COUNT_REACHED (R599). -/
def Core.genCountReached (c : Core) (p : Nat) : Core :=
  match (c.testOf p).genAt with
  | none => c
  | some t =>
    if c.rd (Reg.gen_count p) = 0 ∨ c.modeMbps p = 0 then c
    else (c.advanceTo (t + c.genTicks p)).genEnd p (c.rd (Reg.gen_count p))

/-- CHECKER_FRAME (R594, R599): a frame received in port test, FCS included. -/
def Core.checkerFrame (c : Core) (p : Nat) (o : Octets) (codeError : Bool) : Core :=
  if !c.flag (Reg.port_test p) || c.member p then c
  else
    let c1 := c.inc (Reg.chk_frames p)
    let body := o.take (o.length - 4)
    if codeError || o.length < 4 || crc32 body != leNat (o.drop (o.length - 4)) then c1.inc (Reg.chk_fcs_errors p)
    else if o.length < 22 || be16 o 12 != 0x88B7 then c1
    else
      let seq := be32 o 14
      let c2 := if body.drop 18 != c.genPayload p (body.length - 18) then c1.inc (Reg.chk_payload_errors p) else c1
      let c3 := match (c.testOf p).expect with
        | none => c2
        | some e => if seq = e then c2 else c2.inc (Reg.chk_seq_errors p)
      c3.modTest p (fun x => { x with expect := some ((seq + 1) % 2 ^ 32) })

/-- port_test written (R593). -/
def Core.portTest (c : Core) (p v : Nat) : Core × Reason :=
  if c.member p then (c, .groupMember)
  else if v ≠ 0 then
    if c.flag (Reg.admin_up p) then (c, .wrongState)
    else if c.rd Reg.field_test_request = 2 then (c, .busy)
    else if c.flag (Reg.port_test p) then (c, .ok)
    else ((c.wr (Reg.port_test p) 1).modTest p (fun x => { x with expect := none }), .ok)
  else
    let c1 := if (c.testOf p).genAt.isSome then c.genEnd p (c.genSent p) else c
    let lanes := if c.rd (Reg.port_mode p) = 7 then [p, p + 1, p + 2, p + 3] else [p]
    ((lanes.foldl (fun (a : Core) l => a.prbsUnlock l) c1).wr (Reg.port_test p) 0, .ok)

/-- A lane's transmitter is not electrically idle for R600: its port may run, or is in port test. -/
def Core.laneRuns (c : Core) (p : Nat) : Bool :=
  let q := c.testPort p
  c.flag (Reg.port_test q) || (c.mayRun q && (!c.inDen || c.flag (Reg.den_hold q)))

/-- eye_cmd written (R600); of a group's member only in port test (R593). -/
def Core.eyeCmd (c : Core) (p v : Nat) : Core × Reason :=
  if v ≠ 1 then (c, .badValue)
  else if c.member p && !c.flag (Reg.port_test (c.testPort p)) then (c.wr (Reg.eye_cmd p) 3, .wrongState)
  else if (c.testOf p).scanning then (c, .busy)
  else if !c.laneRuns p then (c.wr (Reg.eye_cmd p) 3, .wrongState)
  else ((c.wr (Reg.eye_cmd p) 1).modTest p (fun x => { x with scanning := true }), .ok)

/-- The window of a lane's eye image, in the tables of its side: entry 2,048 p + 32 phase + voltage. -/
abbrev wEye : Nat := 0x1F00

/-- EYE_SCAN_DONE (R600): the counts of the 2,048 points, in entry order, each staying at 0xFFFF. -/
def Core.eyeScanDone (c : Core) (p : Nat) (counts : List Nat) : Core :=
  if !(c.testOf p).scanning then c
  else
    ((((List.range 2048).zip counts).foldl (fun (a : Core) x => a.setTab wEye (2048 * p + x.1) (min 0xFFFF x.2)) c).wr
      (Reg.eye_cmd p) 2).modTest p (fun x => { x with scanning := false })

/-- A test object of a lane other than the triggers and counters written (R593, R595): subindex `s`. -/
def Core.writeTest (c : Core) (p s v : Nat) : Core × Reason :=
  let key := Reg.port_test p - 1 + s
  if c.member p ∧ ¬ (2 ≤ s ∧ s ≤ 12) then (c, .groupMember)
  else if (s ≤ 10 ∨ (16 ≤ s ∧ s ≤ 21) ∨ c.member p = true) ∧ !c.flag (Reg.port_test (c.testPort p)) then (c, .wrongState)
  else if s = 17 ∧ c.rd (Reg.gen_length_max p) < v then (c, .badValue)
  else if s = 18 ∧ v < c.rd (Reg.gen_length_min p) then (c, .badValue)
  else
    -- a change of what the checker compares makes it seed itself again (R597)
    let c1 := if s = 2 ∨ s = 3 ∨ s = 4 ∨ s = 6 ∨ s = 10 then c.prbsUnlock p else c
    (c1.wr key v, .ok)

/-! ### MBIST and repair (R603 to R607) -/

/-- The side of a macro (R603): 0, 1, or 2 for the Owl's; none for a reserved one. -/
def macroSide (m : Nat) : Option Nat :=
  if m < 128 then some (m / 64)
  else if m < 512 then some ((m - 128) / 192)
  else if m < 768 then some ((m - 512) / 128)
  else if m < 1024 then some ((m - 768) / 128)
  else if m < 1280 then some ((m - 1024) / 128)
  else if m < 1536 then some ((m - 1280) / 128)
  else if m < 1792 then some ((m - 1536) / 128)
  else if m < 1824 then some 2
  else none

/-- The side has not yet been released since its reset; in Burrow it is not (R574, R628). -/
def Core.unreleased (c : Core) : Bool := !c.released && decide (c.rd Reg.power_state ≠ 5) && decide (c.rd Reg.power_state ≠ 6)

/-- Whether a side's macros may be tested (R606). -/
def Core.bistOpen (c : Core) : Bool := c.unreleased || c.inReset

/-- Whether a macro qualifies (R606); `owl`: the run comes from JTAG. -/
def Plant.bistMacro (p : Plant) (owl : Bool) (m : Nat) : Bool :=
  match macroSide m with
  | some 0 => p.a.r.bistOpen
  | some 1 => p.b.r.bistOpen
  | some _ => owl
  | none => false

/-- Fields of the fuse array (R584). -/
def Dev.fuse (d : Dev) (hi lo : Nat) : Nat := bits d.fuses hi lo
def Dev.lifecycle (d : Dev) : Nat := d.fuse 631 624

/-- mbist_cmd (R605, R606): 1 with the fused repairs, 2 with repair_stage. -/
def Plant.mbistCmd (p : Plant) (jtag : Bool) (v : Nat) : Plant × Reason :=
  if v ≠ 1 ∧ v ≠ 2 then (p, .badValue)
  else if p.dev.mbistRun ≠ 0 then (p, .busy)
  else if (!p.a.r.bistOpen && !p.b.r.bistOpen && !jtag) || (decide (p.dev.lifecycle = 2) && !p.dev.flag Reg.test_unlock) then
    (p.onDev (fun d => d.wr Reg.mbist_cmd 5), .wrongState)
  else (p.onDev (fun d => { (d.wr Reg.mbist_cmd 1) with mbistRun := if jtag then 2 else 1 }), .ok)

/-- A macro's result as mbist_result holds it (R605). -/
def mbistWord (f : MbistFail) : Nat := (if f.repairable then 1 else 2) * 2 ^ 30 + f.second % 256 * 2 ^ 22 + f.first % 256 * 2 ^ 14

/-- What a macro that was not tested reads as. -/
def mbistNone : Nat := 3 * 2 ^ 30

/-- MBIST_DONE (R606): the macros that did not pass; the scratchpads of the sides tested are destroyed. -/
def Plant.mbistDone (p : Plant) (fails : List MbistFail) : Plant :=
  if p.dev.mbistRun = 0 then p
  else
    let tested (m : Nat) : Bool := p.bistMacro (decide (p.dev.mbistRun = 2)) m
    let bad := fails.filter (fun f => tested f.num)
    let res := (List.range 2048).foldl (fun (a : SMap Nat) m =>
      SMap.put a m mbistNone (if tested m then ((bad.find? (fun f => decide (f.num = m))).map mbistWord).getD 0 else mbistNone)) []
    let n := ((List.range 2048).filter (fun m => bad.any (fun f => decide (f.num = m)))).length
    let worst := if bad.any (fun f => !f.repairable) then 4 else if bad.isEmpty then 2 else 3
    let q := p.onDev (fun d => { ((d.wr Reg.mbist_cmd worst).wr Reg.mbist_fail_count n) with mbistRun := 0, mbistRes := res })
    let wipe (x : Plant) (sd : SideId) : Plant :=
      if (x.side sd).r.bistOpen then x.onSide sd (fun d => { d with spm := [], r := { d.r with spmBad := [] } }) else x
    wipe (wipe q .a) .b

/-- The record of position `i` of the repair field (R604). -/
def repairRecord (f i : Nat) : Nat := bits f (21 * i + 20) (21 * i)

/-- repair_stage as the 420 record bits (R605). -/
def Dev.repairStage (d : Dev) : Nat := beNat (d.rdOctets Reg.repair_stage 56) / 2 ^ 28

/-- Two valid records name one macro and spare (R607). -/
def repairClash (f : Nat) : Bool :=
  (List.range 20).any (fun i => (List.range i).any (fun j =>
    bitOf (repairRecord f i) 20 && bitOf (repairRecord f j) 20 &&
    decide (bits (repairRecord f i) 19 8 = bits (repairRecord f j) 19 8)))

/-- Fuse bits programmed lowest first, `n` of those of `mask` that are not programmed yet; all of them for none (R624). -/
def programBits (fuses mask : Nat) (n : Option Nat) : Nat :=
  let new := (setBits 2048 mask).filter (fun i => !bitOf fuses i)
  ((match n with | none => new | some k => new.take k)).foldl (fun a i => putBit a i true) fuses

/-- REPAIR_PROGRAM (R607, R624): `part` is how many fuses were programmed when VDD_FUSE left its range; `misread`, that the
read-back differs. -/
def Dev.repairProgram (d : Dev) (v : Nat) (part : Option Nat) (misread : Bool) : Dev × Reason :=
  let st := d.repairStage
  let now := bits d.fuses 419 0
  let next := now ||| st
  let refuse (r : Reason) : Dev × Reason := (d.wr Reg.repair_program 3, r)
  if v ≠ 1 then (d, .badValue)
  else if !bitOf (d.rd Reg.rail_status) 8 ∨ d.lifecycle ≠ 1 then refuse .wrongState
  else if (List.range 20).any (fun i =>
      bitOf (repairRecord now i) 20 && decide (repairRecord st i ≠ 0) && decide (repairRecord st i ≠ repairRecord now i)) ∨
    repairClash next = true then refuse .badValue
  else
    let d1 : Dev := { d with fuses := programBits d.fuses st part }
    match part with
    | some _ => ((d1.wr Reg.repair_program 3).report 8 1 0, .ok)
    | none => (d1.wr Reg.repair_program (if misread then 3 else 2), .ok)

/-! ### Field test (R608 to R612) -/

/-- A side is quiet (R608). -/
def Core.quiet (c : Core) : Bool :=
  c.unreleased ||
  (decide (c.rd Reg.power_state = 0) && decide (c.rd Reg.side_state = 0) &&
   (List.range 64).all (fun p => !c.flag (Reg.admin_up p) && !c.flag (Reg.port_test p)) &&
   (List.range 63).all (fun v => decide (c.rd (Reg.vport_state (v + 1)) = 0)) &&
   decide (c.framesQueued = 0) && decide (c.framesInFlight = 0) && decide (c.rd Reg.epoch_flip = 0))

/-- The address field of the field test's reports (R612). -/
def Core.fieldReport (c : Core) (kind : Nat) : Core :=
  c.deviceReport 22 kind (c.num + 2 * c.rd Reg.field_test_result + 2 ^ 17 * c.rd Reg.field_test_fail_unit)

/-- A field test is asked for (R610): it waits, and reports so once, until the side is quiet. -/
def Core.fieldAsk (c : Core) : Core :=
  let c1 := c.wr Reg.field_test_request 1
  if c.quiet then c1 else c1.fieldReport 1

/-- field_test_request written (R610, R611). -/
def Core.fieldRequest (c : Core) (v : Nat) : Core × Reason :=
  let st := c.rd Reg.field_test_request
  if 1 < v then (c, .badValue)
  else if v = 0 then (if st = 1 then c.wr Reg.field_test_request 0 else c, .ok)
  else if st = 1 ∨ st = 2 then (c, .ok)
  else (c.fieldAsk, .ok)

/-- FIELD_TEST_DUE (R610): field_test_period_h powered hours have passed. -/
def Core.fieldDue (c : Core) : Core :=
  let st := c.rd Reg.field_test_request
  if c.rd Reg.field_test_period_h = 0 ∨ st = 1 ∨ st = 2 then c else c.fieldAsk

/-- FIELD_TEST_START (R608): the Owl starts a waiting test on a quiet side. -/
def Core.fieldStart (c : Core) : Core :=
  if c.rd Reg.field_test_request = 1 ∧ c.quiet = true then c.wr Reg.field_test_request 2 else c

/-- Part 4's march (R609): every free buffer of pools 1 to 7 is allocated as owner 72 and freed. -/
def Core.fieldPools (c : Core) : Core :=
  ((List.range 7).filter (fun q => c.flag (Reg.pool_enable (q + 1)))).foldl (fun (a : Core) q =>
    (a.add (Reg.pool_allocs (q + 1)) (a.rd (Reg.pool_free (q + 1)))).add (Reg.pool_frees (q + 1)) (a.rd (Reg.pool_free (q + 1)))) c

/-- FIELD_TEST_DONE (R608 to R612): which of the parts failed and the first failing unit; `aon` is the always-on count. -/
def Core.fieldDone (c : Core) (aon failed unit : Nat) : Core :=
  if c.rd Reg.field_test_request ≠ 2 then c
  else
    let part (k : Nat) : Nat :=
      if !bitOf (c.rd Reg.field_test_scope) k then 0
      else if k = 4 ∧ c.rd Reg.core_run ≠ 0 then 3
      else if bitOf failed k then 2 else 1
    let bad := (List.range 5).any (fun k => decide (part k = 2))
    let c1 := if part 4 = 1 ∨ part 4 = 2 then c.fieldPools else c
    let c2 := (((c1.wr Reg.field_test_result ((List.range 5).foldl (fun a k => a + part k * 4 ^ k) 0)).wr
      Reg.field_test_fail_unit (if bad then unit % 2 ^ 16 else 0)).wr Reg.field_test_last aon).inc Reg.field_test_runs
    (c2.wr Reg.field_test_request (if bad then 4 else 3)).fieldReport (if bad then 2 else 3)

/-- A running field test holds a write off (R608). -/
def Core.fieldHolds (c : Core) : Bool := decide (c.rd Reg.field_test_request = 2)

end Sys2Proof.Machine
end

