-- ==== Sys2Proof/Machine/Windows.lean ====
section
/-! DEFINITION. Windows.lean: the table windows as requesters see them: how many entries, the octets of an entry, reading and
writing one entry under the checks of its table (R60, R61, R63, R653). -/

namespace Sys2Proof.Machine

/-- Whether an offset from S is a table window of a side. -/
def isWindow (w : Nat) : Bool :=
  decide (w = wShape) || (decide (0x1100 ≤ w) && decide (w < 0x1120)) || decide (w = wProfile) || decide (w = wStation) ||
  decide (w = wVidMap) || (decide (0x1300 ≤ w) && decide (w ≤ 0x1306)) || (decide (0x1400 ≤ w) && decide (w ≤ 0x1408)) ||
  (decide (0x1500 ≤ w) && decide (w ≤ 0x1502)) || (decide (0x1600 ≤ w) && decide (w < 0x1640)) || decide (w = wCounters) ||
  (decide (0x1800 ≤ w) && decide (w ≤ 0x1802))

/-- The width of the entries of bank `b`'s window, in units. -/
def Core.winUnits (c : Core) (w : Nat) : Nat := c.bankWidth (w - 0x1100)

/-- window_entries (R60). -/
def Core.winEntries (c : Core) (w : Nat) : Nat :=
  if w = wShape ∨ w = wProfile then 256
  else if 0x1100 ≤ w ∧ w < 0x1120 then (if c.rd (Reg.bank_mode (w - 0x1100)) = 0 then 0 else 2048 / c.winUnits w)
  else if w = wStation then stationSlots
  else if w = wVidMap ∨ w = wFilter ∨ w = wFilterCnt ∨ w = wTrain then 4096
  else if w = wAction then 131072
  else if w = wRewrite ∨ w = wGclAdmin ∨ w = wGclOper then 16384
  else if w = wRepl ∨ w = wSgclAdmin ∨ w = wSgclOper then 8192
  else if w = wGroup ∨ w = wSgate ∨ w = wFaultLog then 256
  else if w = wFrer ∨ w = wFrerCnt then 1024
  else if w = wMirror then 16
  else if w = wMeter ∨ w = wMeterState then 2048
  else if w = wSpm then 2097152
  else if w = wDram then c.dramUsable / 8
  else if w = wCounters then snapKeys.length
  else if w = wFaultCfg ∨ w = wFaultStat then 480
  else 1

/-- entry_bytes (R60). -/
def Core.winBytes (c : Core) (w : Nat) : Nat :=
  if w = wShape then 128
  else if w = wProfile then 512
  else if 0x1100 ≤ w ∧ w < 0x1120 then searchEntryBytes (c.winUnits w)
  else if w = wStation ∨ w = wAction ∨ w = wFrer ∨ w = wMeter then 24
  else if w = wVidMap ∨ w = wGclAdmin ∨ w = wGclOper ∨ w = wSgclAdmin ∨ w = wSgclOper ∨ w = wSpm ∨ w = wDram ∨ w = wTrain then 8
  else if w = wRewrite ∨ w = wGroup ∨ w = wSgate ∨ w = wFaultCfg ∨ w = wFaultLog then 32
  else if w = wRepl ∨ w = wFilterCnt then 40
  else if w = wFrerCnt ∨ w = wMeterState ∨ w = wFaultStat then 48
  else if w = wMirror ∨ w = wFilter ∨ w = wCounters then 16
  else 512

/-- The aperture stride: entry_bytes rounded up to a power of two, at least 8 (R62). -/
def strideOf (n : Nat) : Nat := max 8 (pow2Up n 20 1)

/-- The epoch_target of a window. -/
def Core.winTarget (c : Core) (w : Nat) : Nat := c.rd (256 * w + 3)

/-- Tables with one bank for each epoch (R166, R181, R212). -/
def bankedWindow (w : Nat) : Bool := decide (w = wShape) || decide (w = wProfile) || decide (w = wVidMap)

/-- The entry of dram_train_image: what was written since the last full training, or that training's result (R423). -/
def Core.trainEntry (c : Core) (e : Nat) : Nat :=
  match SMap.find? c.tabs (tabKey wTrain e) with
  | some v => v
  | none => if c.dm.trainings = 0 then 0 else (Config.trainResult c.num c.dm.trainings e).toNat

/-- The record of an entry as a read gives it, most significant byte first. -/
def Core.readRecord (c : Core) (w e : Nat) : Nat :=
  if bankedWindow w then c.tab w (bankEntry (c.winTarget w % 4 / 2) e)
  else if 0x1100 ≤ w ∧ w < 0x1120 then c.badgerNow.tab wSearch (2048 * (w - 0x1100) + e * c.winUnits w)
  else if w = wFrer then c.frerRecord e
  else if w = wMeterState then c.meterRecord e
  else if w = wSgate then c.sgateRecord e
  else if w = wTrain then c.trainEntry e
  else if 0x1600 ≤ w ∧ w < 0x1640 then c.tab wVport (w - 0x1600)
  else if w = wFaultStat then c.faultStatus e
  else if w = wGclAdmin ∨ w = wGclOper ∨ w = wSgclAdmin ∨ w = wSgclOper then gateEntry (decide (w = wSgclAdmin ∨ w = wSgclOper)) (c.tab w e)
  else c.tab w e

/-- One entry read from a window, or the reason of its refusal (R166, R416, R446). -/
def Side.readEntry (d : Side) (w e : Nat) : Side × Except Reason Octets :=
  let c := d.r
  if bankedWindow w ∧ c.winTarget w % 4 ≠ 1 ∧ c.winTarget w % 4 ≠ 2 then (d, .error .badValue)
  else if w = wSpm then
    let r := d.spmFetch 11 (8 * e) 8
    match r.2 with
    | some o => (r.1, .ok o)
    | none => (r.1, .error (if c.spmFenced (8 * e) 8 then .bankFenced else .uncorrectable))
  else if w = wDram then
    let r := d.dramGet 5 (8 * e) 8
    match r.2 with
    | some o => (r.1, .ok o)
    | none => (r.1, .error (if !c.dramServes then .wrongState
        else if bitOf (c.rd Reg.dram_ranks_fenced) (c.dramRank (8 * e)) then .bankFenced else .uncorrectable))
  else if w = wCounters then (d, .ok (c.snapEntry e))
  else (d, .ok (toBe (c.winBytes w) (c.readRecord w e)))

/-- What a window write takes from the device: whether it is Joined, and which device ports are members of a group (R94). -/
structure WinEnv where
  joined : Bool
  member : Nat → Bool

/-- A record written to a table of the side's part without its memories. -/
def Core.writeRecord (c : Core) (env : WinEnv) (w e x : Nat) : Core × Reason :=
  let t := c.winTarget w
  if w = wShape then c.writeShape e x t
  else if 0x1100 ≤ w ∧ w < 0x1120 then c.writeSearchEntry (2048 * (w - 0x1100) + e * c.winUnits w) x t
  else if w = wProfile then c.writeProfile e x t
  else if w = wStation then c.writeStation env.joined e x t
  else if w = wVidMap then c.writeVidMap e x t
  else if w = wFilter then c.writeFilter e x
  else if w = wMeter then c.writeMeter e x
  else if w = wSgate then c.writeSgate e x
  else if w = wGclAdmin ∨ w = wSgclAdmin then
    if w = wGclAdmin ∧ c.member (e / 256) = true then (c, .groupMember)
    else if w = wGclAdmin ∧ c.absent (e / 256) = true then (c, .absentUnit) else c.writeGcl w e x
  else if w = wTrain then ({ c with tabs := SMap.insert c.tabs (tabKey wTrain e) x }, .ok)
  else if 0x1600 ≤ w ∧ w < 0x1640 then (c.setTab wVport (w - 0x1600) x, .ok)
  else if w = wFaultCfg then c.writeFaultCfg e x
  else c.writeAction env.joined env.member w e x

/-- One entry written to a window under the checks of its table; a running field test holds it off (R608). -/
def Side.writeEntry (d : Side) (env : WinEnv) (w e : Nat) (o : Octets) : Side × Reason :=
  if d.r.fieldHolds then (d, .busy)
  else if w = wSpm then
    let r := d.spmBurst 11 (8 * e) o
    (r.1, if r.2 then .ok else .bankFenced)
  else if w = wDram then
    let r := d.dramPut 5 (8 * e) o
    (r.1, if r.2 then .ok else if !d.r.dramServes then .wrongState else .bankFenced)
  else
    let r := d.r.writeRecord env w e (beNat o)
    ({ d with r := r.1 }, r.2)

/-! ### Joined mode (R25, R167, R210, R374) -/

/-- Objects and windows that Joined mode mirrors, by offset from S: the parser, associative search, actions and epochs and
policing control but for what R26, R204 and R210 keep per side. -/
def mirrored (off sub : Nat) : Bool :=
  decide (off = 0x200) || decide (off = 0x300) || decide (off = 0x302) || decide (off = 0x303) ||
  (decide (0x308 ≤ off) && decide (off < 0x30C)) ||
  (decide (0x320 ≤ off) && decide (off < 0x340) && decide (sub ≤ 4)) ||
  decide (off = 0x500) || decide (off = 0x902) || decide (off = wShape) ||
  (decide (0x1100 ≤ off) && decide (off ≤ wProfile)) || (decide (0x1300 ≤ off) && decide (off ≤ 0x1306)) ||
  decide (off = wFilter) || decide (off = wMeter) || decide (off = wSgate) || decide (off = wSgclAdmin)

/-- The device as a window write sees it. -/
def Plant.winEnv (p : Plant) : WinEnv :=
  { joined := p.dev.joined, member := fun n => (p.side (if n < 64 then .a else .b)).r.member (n % 64) }

/-- A write to one entry of a side's window, and the same on the other side where Joined mode mirrors it: then it takes only when both
sides take it (R25; DEDUCED, log entry 57). -/
def Plant.writeEntry (p : Plant) (sd : SideId) (w e : Nat) (o : Octets) : Plant × Reason :=
  let env := p.winEnv
  let r := (p.side sd).writeEntry env w e o
  let q := p.handOn sd r.1
  if p.dev.joined && mirrored w 0x10 && decide (r.2 = .ok) then
    let r2 := (p.side sd.other).writeEntry env w e o
    if r2.2 = .ok then (q.onSide sd.other (fun d => (d.writeEntry env w e o).1), .ok) else (p, r2.2)
  else (q, r.2)

/-- One entry read from a side's window. -/
def Plant.readEntry (p : Plant) (sd : SideId) (w e : Nat) : Plant × Except Reason Octets :=
  let r := (p.side sd).readEntry w e
  (p.handOn sd r.1, r.2)

/-- Device-level windows (R539). -/
def devWindow (w : Nat) : Bool := decide (0x1480 ≤ w) && decide (w ≤ 0x1482)
def devWinBytes (w : Nat) : Nat := if w = wDevStat then 48 else 32

/-- An entry of a device-level window. -/
def Dev.readEntry (d : Dev) (w e : Nat) : Octets :=
  toBe (devWinBytes w) (if w = wDevStat then d.faultStatus e else d.tab w e)
def Dev.writeEntry (d : Dev) (e : Nat) (o : Octets) : Dev × Reason := d.writeFaultCfg e (beNat o)

end Sys2Proof.Machine
end

