-- ==== Sys2Proof/Machine/Objects.lean ====
section
/-! DEFINITION. Objects.lean: the object dictionary as requesters see it: where an object lies (R50, R51), what a read of it
returns (R45, R47), who may read and write it (R10, R11, R55, R392, R652), and what a written value must be (R12, R49). -/

namespace Sys2Proof.Machine

/-! ### Where an object lies (R50, R51) -/

/-- The place of a slot: in a side's store, or in the device-level part's. -/
inductive Place where
  | side (s : SideId) (k : Nat)
  | dev (k : Nat)
  deriving DecidableEq, Repr

/-- The side that a number below 2 names. -/
def sideOf (n : Nat) : SideId := if n = 0 then .a else .b

/-- Device-level objects that exist once for each side: the indexes of side A's. -/
def perSide : List Nat := [0x1210, 0x1220, 0x1241, 0x1310, 0x1410, 0x1510]

/-- The place of subindex `sub` of an index. An index of the vendor diagnostics, 0x7000 to 0x7FFF, has none: the spec lists the range
and describes no object of it, so every access there answers that nothing is assigned (R50; DESIGN CHOICE, log entry 59). -/
def placeOf (index sub : Nat) : Option Place :=
  let at' (s : SideId) (i : Nat) : Option Place := some (.side s (256 * i + sub))
  if 0x2000 ≤ index ∧ index < 0x4000 then at' .a (index - 0x2000)
  else if 0x4000 ≤ index ∧ index < 0x6000 then at' .b (index - 0x4000)
  else if 0x6000 ≤ index ∧ index < 0x6080 then at' (sideOf ((index - 0x6000) / 64)) (0x2000 + index % 64)
  else if 0x6080 ≤ index ∧ index < 0x6100 then at' (sideOf ((index - 0x6080) / 64)) (0x2080 + index % 64)
  else if perSide.any (fun i => decide (index = i)) then at' .a (0x2000 + index)
  else if perSide.any (fun i => decide (index = i + 1)) then at' .b (0x2000 + (index - 1))
  else if 0x1580 ≤ index ∧ index < 0x1600 then at' (sideOf ((index - 0x1580) / 64)) (0x3580 + index % 64)
  else if 0x1000 ≤ index ∧ index < 0x1700 then some (.dev (256 * index + sub))
  else none

/-- The key of a place in its store. -/
def Place.key : Place → Nat
  | .side _ k => k
  | .dev k => k

/-- The side whose object a place is; a device-level object has none. -/
def Place.owner : Place → Option SideId
  | .side s k => if k < 0x300000 then some s else none
  | .dev _ => none

/-- The row that assigns a place. -/
def Place.row : Place → Option ObjRow
  | .side _ k => findRow sideRows k
  | .dev k => findRow devRows k

/-- The first slot of the object that a slot belongs to. -/
def Place.first (x : Place) (r : ObjRow) : Place :=
  match x with
  | .side s k => .side s (k - r.slotOf k)
  | .dev k => .dev (k - r.slotOf k)

/-- The dictionary index and subindex of a place. -/
def Place.index : Place → Nat
  | .side s k => keyIndex s k
  | .dev k => k / 256
def Place.sub (x : Place) : Nat := x.key % 256

/-- One object: its first slot and its row; none where no chapter assigns one. -/
structure Obj where
  at' : Place
  row : ObjRow
  deriving DecidableEq, Repr

/-- The object that an index and a subindex name. -/
def findObj (index sub : Nat) : Option Obj :=
  match placeOf index sub with
  | none => none
  | some x =>
    match x.row with
    | none => none
    | some r => some ⟨x.first r, r⟩

/-! ### Values that are computed when they are read (R47) -/

/-- Bit 0 for 802.3 pause and bits 15 to 8 for the PFC priorities (R105). -/
def stateBits (f : Nat → Bool) : Nat := (List.range 8).foldl (fun a q => a + b2n (f q) * 2 ^ (8 + q)) (b2n (f 8))

/-- The port status objects (R105). -/
def Core.livePort (c : Core) (p s : Nat) : Option Nat :=
  match s with
  | 1 => some (c.linkState p)
  | 2 => some (c.mbps p)
  | 3 => some (stateBits (fun st => c.pauseHolds p st))
  | 4 => some (stateBits (fun st => c.heldOff p st))
  | 5 => some (c.expansion p)
  | 6 => some (c.fecAllowance p)
  | 7 => some (c.startAlign p)
  | 11 => some (c.saState p)
  | _ => none

/-- The bank objects (R174). -/
def Core.liveBank (c : Core) (b s : Nat) : Option Nat :=
  let off := decide (c.rd (Reg.bank_mode b) = 0)
  match s with
  | 4 => some (if off then 0 else 2048 / c.bankWidth b)
  | 5 => some (c.badgerNow.bankValid b 0)
  | 6 => some (c.badgerNow.bankValid b 1)
  | 7 => some (if off then 0 else if bitOf c.banksFenced b then 2 else 1)
  | _ => none

/-- Switch-core objects of the side (R320): budgets and the cell ledger's gauges. -/
def Core.liveSwitch (c : Core) (s : Nat) : Option Nat :=
  match s with
  | 2 => some c.sharedCells
  | 3 => some (c.budgetUsed .shared)
  | 13 => some c.creditsAtGroups
  | _ => none

/-- Pool 0 is the output buffer, whose objects follow the cell ledger (R325); a pool's others are stored. -/
def Core.livePool (c : Core) (q s : Nat) : Option Nat :=
  if q ≠ 0 then none
  else match s with
    | 8 => some 0x3F
    | 9 => some (c.poolFreeNow 0)
    | 10 => some (c.poolAllocatedNow 0)
    | _ => none

/-- The scheduling objects of a port (R378). -/
def Core.liveSched (c : Core) (p s : Nat) : Option Nat :=
  if s = 13 then some (c.portGates p)
  else if s = 14 then some (c.portEntry p)
  else if 0x30 ≤ s ∧ s < 0x38 then some (unsignedOf 64 (c.shownCredit false p (s - 0x30)))
  else if 0x38 ≤ s ∧ s < 0x40 then some ((c.portLongest p (s - 0x38)).getD 0xFFFFFFFF)
  else none

/-- A capacity of R420: four channels, the ranks, the density in bits. -/
def Core.dramRaw (c : Core) : Nat := 4 * c.rd Reg.dram_ranks * (2 ^ 29 * 2 ^ c.rd Reg.dram_density)

/-- The highest channel estimate (R445). -/
def Core.dramHottest (c : Core) : Int :=
  [1, 2, 3].foldl (fun m ch => max m (SMap.getD c.dm.est ch 0)) (SMap.getD c.dm.est 0 0)

/-- The DRAM objects (R445). -/
def Core.liveDram (c : Core) (s : Nat) : Option Nat :=
  match s with
  | 5 => some c.dramRaw
  | 6 => some c.dramUsable
  | 18 => some (unsignedOf 64 c.dramHottest)
  | 19 => some ((List.range 8).foldl (fun a k => a + SMap.getD c.dm.mult k 0 * 4 ^ k) 0)
  | _ => none

/-- The vport status objects (R461). -/
def Core.liveVport (c : Core) (v s : Nat) : Option Nat :=
  match s with
  | 3 => some (b2n (c.overShare v))
  | 4 => some (c.vportCells v)
  | 5 => some (c.creditsFree v)
  | _ => none

/-- Every unit of a mask whose slice is fenced (R311, R535). -/
def Core.sliceMask (c : Core) : Nat :=
  (List.range 64).foldl (fun a p => a + b2n (bitOf (c.rd Reg.slices_fenced) (p / 8)) * 2 ^ p) 0

/-- The collector's objects (R535). -/
def Core.liveFault (c : Core) (s : Nat) : Option Nat :=
  match s with
  | 3 => some c.pairState
  | 9 => some (c.rd Reg.ports_fenced ||| c.sliceMask)
  | 10 => some (c.rd Reg.vports_fenced ||| c.sliceMask)
  | 11 => some ((List.range 4).foldl (fun a k => a + b2n (bitOf c.coresFenced (2 * k)) * 2 ^ k) 0)
  | _ => none

/-- The slot objects of a window: its entries, the bytes of one, the length of its content (R45, R60). -/
def Core.liveWindow (c : Core) (w s : Nat) : Option Nat :=
  match s with
  | 1 => some (c.winEntries w)
  | 2 => some (c.winBytes w)
  | 16 => some (c.winEntries w * c.winBytes w)
  | _ => none

/-- What a slot of a side reads as, where that is computed; the others hold what was stored. -/
def Core.liveSlot (c : Core) (k : Nat) : Option Nat :=
  let i := k / 256
  let s := k % 256
  if 0x140 ≤ i ∧ i < 0x180 then c.livePort (i - 0x140) s
  else if 0x180 ≤ i ∧ i < 0x1C0 then (if c.member (i - 0x180) then some 0 else none)
  else if k = Reg.badger_moves then some (c.badgerNow.rd k)
  else if i = 0x302 then (if s = 0x20 then some (c.badgerQ.length + b2n c.badgerRun.isSome) else none)
  else if 0x320 ≤ i ∧ i < 0x340 then c.liveBank (i - 0x320) s
  else if i = 0x400 then
    (if s = 15 then some (c.stationUsed 0 stationSlots) else if s = 16 then some (c.stationUsed 262144 stationSlots) else none)
  else if 0x440 ≤ i ∧ i < 0x480 then (if s = 8 then some (c.dynamicCount 0 (c.devPort (i - 0x440))) else none)
  else if i = 0x600 then c.liveSwitch s
  else if 0x640 ≤ i ∧ i < 0x680 then
    (if s = 5 then some (c.ingressCells (i - 0x640))
     else if 0x30 ≤ s ∧ s < 0x38 then some (c.queueCells (.port (i - 0x640)) (s - 0x30)) else none)
  else if 0x680 ≤ i ∧ i < 0x6C0 then
    (if 0x30 ≤ s ∧ s < 0x38 then some (c.queueCells (.vport (i - 0x680)) (s - 0x30)) else none)
  else if i = 0x700 then (if s = 1 then some (64 - popCount 64 c.granulesHeld) else none)
  else if 0x710 ≤ i ∧ i < 0x718 then c.livePool (i - 0x710) s
  else if 0x800 ≤ i ∧ i < 0x840 then c.liveSched (i - 0x800) s
  else if 0x840 ≤ i ∧ i < 0x880 then
    (if 0x30 ≤ s ∧ s < 0x38 then some (unsignedOf 64 (c.shownCredit true (i - 0x840) (s - 0x30))) else none)
  else if i = 0x900 then (if s = 4 then some c.sideTime else if s = 5 then some c.localNs else none)
  else if 0x904 ≤ i ∧ i < 0x908 then
    (if s = 1 then some (time96Of (c.dom (i - 0x904)).value % 2 ^ 64)
     else if s = 2 then some (time96Of (c.dom (i - 0x904)).value / 2 ^ 64)
     else if s = 8 then some (unsignedOf 64 (c.slewRemaining (i - 0x904))) else none)
  else if 0xA08 ≤ i ∧ i < 0xA10 then (if s = 1 then some (c.coreStatus (i - 0xA08)) else none)
  else if i = 0xC00 then c.liveDram s
  else if 0xC0A ≤ i ∧ i < 0xC10 then (if s = 1 then some 0 else none)
  else if i = 0xD00 then (if s = 4 then some snapKeys.length else none)
  else if i = 0xD02 then
    (if s = 5 then some (c.framesQueued % 2 ^ 32) else if s = 6 then some (c.framesInFlight % 2 ^ 32) else none)
  else if i = 0xE00 then c.liveFault s
  else if 0x1000 ≤ i ∧ i < 0x2000 then c.liveWindow i s
  else if 0x2080 ≤ i ∧ i < 0x20C0 then c.liveVport (i - 0x2080) s
  else if i = 0x3310 then
    (if s = 2 then some c.created.length
     else if s = 3 then some (c.created.foldl (fun a v => a + c.rd (Reg.dma_credits v)) 0) else none)
  else if i = 0x3410 then (if s = 1 then some (c.rd Reg.side_state) else none)
  else if 0x3580 ≤ i ∧ i < 0x35C0 then
    (if s = 7 then some (b2n (c.testOf (i - 0x3580)).lockAt.isSome)
     else if s = 8 then some (c.prbsBits (i - 0x3580))
     else if s = 0x17 then some (c.genFrames (i - 0x3580))
     else if s = 0x20 then some 4096 else none)
  else none

/-- A slot of a side as it reads. -/
def Core.shown (c : Core) (k : Nat) : Nat := (c.liveSlot k).getD (c.rd k)

/-! ### The device-level objects that are computed -/

/-- rollback_floor (R572): the highest programmed bit of the rollback fuse plus 1. -/
def Dev.rollbackFloor (d : Dev) : Nat := let f := d.fuse 1279 1152; if f = 0 then 0 else f.log2 + 1

/-- The length of a device-level DOMAIN in bytes (R45): what is staged, the public key, the certificate, the report, the MBIST results. -/
def Dev.domainOctets (d : Dev) (k : Nat) : Nat :=
  if k = Reg.bundle_stage then d.stage.length
  else if k = Reg.recovery_stage then d.stagedLen
  else if k = Reg.identity_pubkey then d.pubkey.length
  else if k = Reg.identity_cert then d.cert.length
  else if k = Reg.attest_report then d.attestReport.length
  else if k = Reg.mbist_result then 8192
  else 0

/-- The slot of a device-level window (R60, R539). -/
def devLiveWindow (w s : Nat) : Option Nat :=
  match s with
  | 1 => some 64
  | 2 => some (devWinBytes w)
  | 16 => some (64 * devWinBytes w)
  | _ => none

/-- The DOMAIN and the bytes of an entry that aperture `a` is bound to: its object and the unit it moves (R62, R63). -/
def Plant.apertureUnit (p : Plant) (index sub : Nat) : Option Nat :=
  match findObj index sub with
  | none => none
  | some o =>
    if o.row.ty ≠ .domain then none
    else match o.at' with
      | .side s k => if 0x1000 ≤ k / 256 ∧ k / 256 < 0x2000 then some ((p.side s).r.winBytes (k / 256)) else some 8
      | .dev k => if devWindow (k / 256) then some (devWinBytes (k / 256)) else some 8

/-- In Joined mode a side stands stopped by a fault: mode_status reads 3 while it does (R20, R24). -/
def Plant.modeStopped (p : Plant) : Bool :=
  p.dev.joined && (decide (p.a.r.rd Reg.side_state = 2) || decide (p.b.r.rd Reg.side_state = 2))

/-- A slot of the device-level part as it reads. -/
def Plant.devShown (p : Plant) (k : Nat) : Nat :=
  let d := p.dev
  let i := k / 256
  if k = Reg.crossing_bandwidth then (if d.joined then d.rd k else 0)
  else if k = Reg.mode_status ∧ p.modeStopped = true then 3
  else if k = Reg.device_fault_state then d.faultState
  else if k = Reg.rollback_floor then d.rollbackFloor
  else if k = Reg.lifecycle then d.lifecycle
  else if devWindow i then (devLiveWindow i (k % 256)).getD (d.rd k)
  else if 0x1320 ≤ i ∧ i < 0x1340 ∧ k % 256 = 3 then
    (let o := d.rd (k - 2)
     match p.apertureUnit (bits o 31 16) (bits o 15 8) with
     | some n => strideOf n
     | none => 0)
  else match findRow devRows k with
    | some r => if r.ty = .domain then d.domainOctets k else d.rd k
    | none => d.rd k

/-- A slot as it reads, before its type's shape. -/
def Plant.slotShown (p : Plant) : Place → Nat
  | .side s k => (p.side s).r.shown k
  | .dev k => p.devShown k

/-- The next slot. -/
def Place.plus (x : Place) (n : Nat) : Place :=
  match x with
  | .side s k => .side s (k + n)
  | .dev k => .dev (k + n)

/-- The slots of an object as they read, slot 0 least significant; an I32 is sign-extended (R45). -/
def Plant.objShown (p : Plant) (o : Obj) : Nat :=
  if o.row.ty = .i32 then unsignedOf 64 (signedOf 32 (p.slotShown o.at'))
  else (List.range o.row.ty.slots).foldl (fun a n => a + p.slotShown (o.at'.plus n) * 2 ^ (64 * n)) 0

/-! ### Requesters (R10, R11, R55, R392, R652) -/

/-- The side of a requester, for R55 and R652; bundles and the Owl have none. -/
def reqSide : Requester → Option SideId
  | .pf s => some s
  | .vf s _ => some s
  | .core s _ _ => some s
  | .field s => some s
  | .inband s => some s
  | .bundle => none
  | .owl => none

/-- The vport through which a guest acts (R652): of its virtual function, or the one vport_bind names while valid (R392). -/
def Plant.guestVport (p : Plant) : Requester → Option Nat
  | .vf _ n => some n.val
  | .core s k true =>
    let b := SMap.getD (p.side s).r.vportBind k.val 0
    if bitOf b 63 then some (b % 64) else none
  | _ => none

/-- The vport that an object of a side describes or that owns it (R652): its configuration, status, scheduling and queue
objects, its pool owner's entry, the sampling buffer that names it. -/
def Core.describes (c : Core) (k : Nat) : Option Nat :=
  let i := k / 256
  if 0x2000 ≤ i ∧ i < 0x2040 then some (i - 0x2000)
  else if 0x2080 ≤ i ∧ i < 0x20C0 then some (i - 0x2080)
  else if 0x840 ≤ i ∧ i < 0x880 then some (i - 0x840)
  else if 0x680 ≤ i ∧ i < 0x6C0 then some (i - 0x680)
  else if 0x740 ≤ i ∧ i < 0x780 then some (i - 0x740)
  else if 0x1600 ≤ i ∧ i < 0x1640 then some (i - 0x1600)
  else if 0xD10 ≤ i ∧ i < 0xD18 then some (c.rd (Reg.samp_guest (i - 0xD10)))
  else none

/-- Whether a guest is G for an object (R652): one that describes one vport, only for its guest; any other of a side, the entries of
pool owners 64 to 72 among them, for every guest of that side. -/
def Plant.guestFor (p : Plant) (q : Requester) (x : Place) : Bool :=
  match p.guestVport q, reqSide q with
  | some v, some s =>
    (match x.owner with
     | none => true
     | some t =>
       decide (s = t) &&
       (match (p.side t).r.describes x.key with
        | none => true
        | some u => decide (u = v)))
  | _, _ => false

/-- The letter that a requester is for an object, as a bit: H 1, F 2, B 4, G 8, O 16; 0 for a guest that is not G for it. -/
def Plant.letter (p : Plant) (q : Requester) (x : Place) : Nat :=
  match q with
  | .pf _ => 1
  | .vf _ _ => if p.guestFor q x then 8 else 0
  | .core _ _ virt => if virt then (if p.guestFor q x then 8 else 0) else 1
  | .field _ => 2
  | .inband _ => 2
  | .bundle => 4
  | .owl => 16

/-- Whether a letter is in a set. -/
def inSet (letter set : Nat) : Bool := decide (letter &&& set ≠ 0)

/-! ### Values (R12, R45, R49) -/

/-- The bits of a value that its type defines; the others are reserved and ignored (R12, R45). -/
def ObjType.clip (t : ObjType) (v : Nat) : Nat :=
  match t with
  | .bool => v % 2
  | .u8 | .enum8 => v % 2 ^ 8
  | .u16 => v % 2 ^ 16
  | .u32 | .i32 => v % 2 ^ 32
  | .u64 | .i64 => v % 2 ^ 64
  | .mac48 => v % 2 ^ 48
  | .time96 => v % 2 ^ 48 + v / 2 ^ 64 % 2 ^ 48 * 2 ^ 64
  | .octets n => v % 2 ^ (8 * n)
  | .domain => v

/-- A value against the range of its object: what is stored, or none where it is refused with 0x04 (R12, R49). -/
def Check.accept (k : Check) (v : Nat) : Option Nat :=
  match k with
  | .any => some v
  | .upto n => if v ≤ n then some v else none
  | .range lo hi => if lo ≤ v ∧ v ≤ hi then some v else none
  | .zeroOr lo hi => if v = 0 ∨ (lo ≤ v ∧ v ≤ hi) then some v else none
  | .signed lim => if (signedOf 32 v).natAbs ≤ lim then some v else none
  | .signed64 lim => if (signedOf 64 v).natAbs ≤ lim then some v else none
  | .mask m => some (v &&& m)
  | .counter => if v = 0 then some 0 else none
  | .upTo63or255 => if v ≤ 63 ∨ v = 255 then some v else none
  | .upto2047orNone => if v ≤ 2047 ∨ v = 0xFFFF then some v else none

/-- The value to store, or none. -/
def ObjRow.accept (r : ObjRow) (v : Nat) : Option Nat := r.chk.accept (r.ty.clip v)

end Sys2Proof.Machine
end

