-- ==== Sys2Proof/Machine/Hooks.lean ====
section
/-! DEFINITION. Hooks.lean: what a write does to a side's object beyond storing its value: the checks and the effects that the
chapter of each object gives it. Every function answers the side and the reason, `ok` when the write has taken. -/

namespace Sys2Proof.Machine

/-- What a write needs to know of the rest of the device: the vectors pending from the device collector, the learning engines'
shared time, and the crossing counter of the side. -/
structure HookEnv where
  dp : Nat → Bool
  learn : LearnEnv
  cross : Nat
  pairLive : Bool

/-- A plain value stored. -/
def Core.store (c : Core) (k v : Nat) : Core × Reason := (c.wr k v, .ok)

/-- A change kept unless it would leave shared_cells below 16,384 (R301). -/
def Core.keepShared (c new : Core) : Core × Reason := if new.sharedInt < 16384 then (c, .overCommitted) else (new, .ok)

/-! ### Ports (R94, R97, R98, R127 to R133) -/

/-- An object of port `p` that waits for admin_up 0 (R97). -/
def Core.whenDown (c : Core) (p : Nat) (r : Core × Reason) : Core × Reason := if c.flag (Reg.admin_up p) then (c, .wrongState) else r

/-- PORT_MODE_WRITE (R94): mode 7 takes ports 4j + 1 to 4j + 3 as members; another mode gives them back with port_mode 0 and
admin_up 0. fec_mode returns to 0 when port_mode changes, theirs too (R98). -/
def Core.portMode (c : Core) (p v : Nat) : Core × Reason :=
  let old := c.rd (Reg.port_mode p)
  let members := [p + 1, p + 2, p + 3]
  if 7 < v ∨ (v = 7 ∧ p % 4 ≠ 0) then (c, .badValue)
  else if v = 7 ∧ members.any c.absent = true then (c, .absentUnit)
  else if v = old then (c, .ok)
  else
    let c1 := (c.portDown p).wr (Reg.fec_mode p) 0
    let c2 := if v = 7 then members.foldl (fun (a : Core) m => (a.portDown m).cutOff m) c1
      else if old = 7 then members.foldl (fun (a : Core) m => ((a.wr (Reg.port_mode m) 0).wr (Reg.fec_mode m) 0).wr (Reg.admin_up m) 0) c1
      else c1
    (c2.wr (Reg.port_mode p) v, .ok)

/-- ADMIN_UP_WRITE (R102, R593, R608): a port in port test refuses a 1, and so does one of a side in a field test. -/
def Core.adminUpWrite (c : Core) (p v : Nat) : Core × Reason :=
  if v ≠ 0 ∧ c.flag (Reg.port_test p) = true then (c, .wrongState)
  else if v ≠ 0 ∧ c.fieldHolds = true then (c, .busy)
  else (c.adminUp p v, .ok)

/-- Whether an SA slot of port `p` is in use for R129: the enabled transmit slot that tx_active_sa names, or an enabled receive
slot; slots 0 and 1 transmit. -/
def Core.saActive (c : Core) (p a : Nat) : Bool :=
  c.flag (Reg.sa_enable p a) && (decide (2 ≤ a) || decide (c.rd (Reg.tx_active_sa p) = a))

/-- TX_ACTIVE_SA_WRITE (R130): the next frame start takes the slot. -/
def Core.txActiveSa (c : Core) (p v : Nat) : Core × Reason := if 1 < v then (c, .badValue) else c.store (Reg.tx_active_sa p) v

/-- An SA or SC object of port `p`: subindex `s` (R127 to R130). A slot whose PN is written may warn again (R131). -/
def Core.writeSa (c : Core) (p s : Nat) (put : Core) : Core × Reason :=
  let a := (s - 0x40) / 16
  let f := s % 16
  if s < 0x40 then
    let ch := (s - 0x20) / 4
    if (s - 0x20) % 4 = 1 ∧ (c.saActive p (2 * ch) || c.saActive p (2 * ch + 1)) = true then (c, .saActive) else (put, .ok)
  else if (f = 1 ∨ (3 ≤ f ∧ f ≤ 9)) ∧ c.saActive p a = true then (c, .saActive)
  else if f = 2 then (put.modPort p (fun x => { x with pnWarned := SMap.erase x.pnWarned a }), .ok)
  else (put, .ok)

/-- A port configuration object (R98): `put` is the side with the value stored. -/
def Core.hookPort (c : Core) (p s v : Nat) (put : Core) : Core × Reason :=
  match s with
  | 1 => if v = 7 ∧ p % 4 ≠ 0 then (c, .badValue) else c.whenDown p (c.portMode p v)
  | 2 => if v ≠ 0 ∧ c.rd (Reg.port_mode p) ≠ 6 then (c, .badValue) else c.whenDown p (put, .ok)
  | 3 => c.adminUpWrite p v
  | 4 => c.whenDown p (put, .ok)
  | 5 => c.whenDown p (put, .ok)
  | 9 => c.keepShared put
  | 10 => c.keepShared put
  | 16 => if 60 < v % 64 then (c, .badValue) else (put, .ok)
  | 28 => c.txActiveSa p v
  | _ => if 0x20 ≤ s then c.writeSa p s put else (put, .ok)

/-! ### Parser, search, station (R165, R166, R175, R215, R245) -/

/-- Whether a TPID or the redundancy tag's EtherType would equal another EtherType of its epoch (R165): a VLAN TPID,
0x8100 and 0x88A8 among them, or the redundancy tag's. -/
def Core.parserClash (c : Core) (e f v : Nat) : Bool :=
  let x0 := c.rd (Reg.tpid_extra_0 e)
  let x1 := c.rd (Reg.tpid_extra_1 e)
  let rt := c.rd (Reg.rtag_ethertype e)
  decide (v ≠ 0) && (match f with
    | 1 => decide (v = 0x8100 ∨ v = 0x88A8 ∨ v = x1 ∨ v = rt)
    | 2 => decide (v = 0x8100 ∨ v = 0x88A8 ∨ v = x0 ∨ v = rt)
    | 3 => decide (v = 0x8100 ∨ v = 0x88A8 ∨ v = x0 ∨ v = x1)
    | _ => false)

/-- A parser scalar of an epoch (R165, R166): the ranges are the object table's. -/
def Core.hookParser (c : Core) (s v : Nat) (put : Core) : Core × Reason :=
  if s = 0x20 then c.startCopy Reg.shape_copy v
  else if c.parserClash (s / 16) (s % 16) v then (c, .badValue)
  else if c.epochInUse (s / 16) then (c, .epochInUse)
  else if c.syncing then (c, .busy)
  else (put, .ok)

/-- Whether bank `b` and its predecessor agree for a run that `b` continues (R173). -/
def Core.chains (c : Core) (b : Nat) : Bool :=
  !c.inRun b || c.flag (Reg.run_start b) ||
  (decide (c.rd (Reg.bank_mode b) = c.rd (Reg.bank_mode (b - 1))) && decide (c.rd (Reg.bank_width b) = c.rd (Reg.bank_width (b - 1))))

/-- A bank whose width has changed: its slots hold nothing, so none of its old bits reads as a validity bit (R174, R175, R178; what
else its free slots hold the spec leaves open: DESIGN CHOICE, log entry 63). -/
def Core.bankWiden (c put : Core) (b : Nat) : Core :=
  if put.rd (Reg.bank_width b) = c.rd (Reg.bank_width b) then put
  else (c.bankEntries b).foldl (fun (a : Core) x => a.setTab wSearch x.1 0) put

/-- bank_mode, bank_width and run_start written (R175). -/
def Core.bankWrite (c : Core) (b : Nat) (put : Core) : Core × Reason :=
  if c.badgerNow.bankValid b 0 ≠ 0 ∨ c.badgerNow.bankValid b 1 ≠ 0 ∨ c.bankNamed b = true then (c, .wrongState)
  else if (b = 0 ∧ put.flag (Reg.run_start 0) = false) ∨ (put.rd (Reg.bank_mode b) = 3 ∧ put.rd (Reg.bank_width b) ≠ 0) ∨
      put.chains b = false ∨ (b < 31 ∧ put.chains (b + 1) = false) then (c, .badValue)
  else (c.bankWiden put b, .ok)

/-- A seed of the station table written (R215). -/
def Core.seedWrite (c : Core) (k v : Nat) : Core × Reason :=
  let other := if k = Reg.station_seed_0 then Reg.station_seed_1 else Reg.station_seed_0
  if c.stationUsed 0 stationSlots ≠ 0 then (c, .wrongState)
  else if v = c.rd other then (c, .badValue)
  else c.store k v

/-- A station object of the side (R244, R245). -/
def Core.hookStation (c : Core) (e : HookEnv) (i s v : Nat) (put : Core) : Core × Reason :=
  if i = 0x400 then
    (match s with
     | 3 => c.seedWrite Reg.station_seed_0 v
     | 4 => c.seedWrite Reg.station_seed_1 v
     | 14 => c.announceAll e.learn v
     | 17 => c.startCopy Reg.vid_map_copy v
     | _ => (put, .ok))
  else if i = 0x402 then (if s = 1 then c.stationCommand v
    else if 2 ≤ s ∧ s ≤ 6 ∧ c.rd Reg.station_cmd = 1 then (c, .busy) else (put, .ok))
  else if i = 0x404 then (if s = 3 then c.rehashPop v else (put, .ok))
  else if s = 7 ∧ v ≠ 0 ∧ bitOf (c.rd (Reg.port_flags (i - 0x440))) 4 = false then (c, .badValue)
  else (put, .ok)

/-- The objects of associative search (R174, R194, R201, R207). A field test holds off the Badger (R608). -/
def Core.hookSearch (c : Core) (i s v : Nat) (put : Core) : Core × Reason :=
  if i = 0x300 then (if s = 2 then c.startCopy Reg.profile_copy v else (put, .ok))
  else if i = 0x302 then (if s ≠ 0x20 then (put, .ok) else if c.fieldHolds then (c, .busy) else c.badgerEnqueue v)
  else if 0x308 ≤ i ∧ i < 0x30C then (if s = 14 then c.probeCommand (i - 0x308) v else (put.setProbe (i - 0x308) ⟨0, 0, 0, 0, 0⟩, .ok))
  else if 0x320 ≤ i ∧ i < 0x340 then c.bankWrite (i - 0x320) put
  else (put, .ok)

/-! ### Epochs, switch core, pools (R277, R301, R321, R339) -/

/-- flip_time written (R277, R282). -/
def Core.flipTimeWrite (c : Core) (v : Nat) : Core × Reason :=
  if c.rd Reg.epoch_flip = 1 then (c, .busy) else c.store Reg.flip_time v

/-- The objects of actions and epochs (R282). -/
def Core.hookEpoch (c : Core) (s v : Nat) (put : Core) : Core × Reason :=
  match s with
  | 2 => c.epochFlip v
  | 3 => c.flipTimeWrite v
  | 8 => c.epochSync v
  | _ => (put, .ok)

/-- The admission objects of a port (R301, R321). -/
def Core.hookAdmission (c : Core) (p s v : Nat) (put : Core) : Core × Reason :=
  if s = 2 then (put, .ok)
  else if s = 3 then (if c.rd (Reg.xoff_cells p) ≤ v then (c, .badValue) else (put, .ok))
  else if s = 4 ∨ (0x10 ≤ s ∧ s % 4 = 0) then c.keepShared put
  else (put, .ok)

/-- A pool's objects (R327, R339). -/
def Core.hookPool (c : Core) (q s v : Nat) (put : Core) : Core × Reason :=
  if q = 0 ∧ s ≤ 6 then (c, .noWrite)
  else if s = 6 then (if v ≠ 0 then c.poolEnable q else c.poolDisable q)
  else if 6 < s then (put, .ok)
  else if c.flag (Reg.pool_enable q) = true ∨ c.rd (Reg.pool_allocated q) ≠ 0 then (c, .wrongState)
  else if s = 1 ∧ v = 0 then (c, .badValue)
  else if s = 5 ∧ v ≠ 0 ∧ c.rd (Reg.buffer_size v) ≤ c.rd (Reg.buffer_size q) then (c, .badValue)
  else (put, .ok)

/-! ### Scheduling and time (R353, R359, R360, R378 to R382) -/

/-- A port's scheduling objects: the administrative set waits for a pending change (R353). -/
def Core.hookSched (c : Core) (p s v : Nat) (put : Core) : Core × Reason :=
  if s = 6 then c.configChange p (c.planMbps p) v
  else if s < 0x40 ∧ (c.port p).gclPending = true then (c, .busy)
  else (put, .ok)

/-- A vport's scheduling objects (R379), which act from its next selection on (R350). -/
def Core.hookVportSched (c : Core) (v s x : Nat) (put : Core) : Core × Reason :=
  let sum := ((List.range 8).map (fun q => put.rd (Reg.idle_slope v q))).foldl (· + ·) 0
  if s = 1 then (if v = 0 ∧ x = 0 then (c, .badValue) else (put, .ok))
  else if (s = 2 ∨ 0x18 ≤ s) ∧ put.rd (Reg.vport_rate v) < sum then (c, .badValue)
  else (put, .ok)

/-- The time objects (R359, R360, R364, R365, R376, R380 to R382): a clock whose rate changes is settled first. -/
def Core.hookTime (c : Core) (i s v : Nat) (put : Core) : Core × Reason :=
  if i = 0x900 then (match s with
    | 1 => c.timeSource v
    | 3 => c.touchAllShapers.store Reg.slew_rate_ppm v
    | 6 => c.timeSnapshot v
    | _ => (put, .ok))
  else if 0x904 ≤ i ∧ i < 0x908 then (match s with
    | 3 => c.touchAllShapers.store (Reg.domain_rate (i - 0x904)) v
    | 4 => c.domainAdjust (i - 0x904) v
    | 5 => c.domainSet (i - 0x904) v
    | _ => (put, .ok))
  else if i = 0x908 then (match s with
    | 1 => (c.ppsOutEnable v, .ok)
    | 5 => (c.ppsInEnable v, .ok)
    | _ => (put, .ok))
  else if i = 0x902 ∧ s = 2 then c.polCmd v
  else (put, .ok)

/-! ### Compute, DRAM, counters (R389, R393, R414, R445 to R447, R506, R507) -/

/-- core_reset_vector: 4-byte aligned, an address of the scratchpad or of the configured DRAM in the cores' map (R390, R414). -/
def Core.vectorOk (c : Core) (v : Nat) : Bool :=
  decide (v % 4 = 0) && ((decide (0x10000000 ≤ v) && decide (v + 4 ≤ 0x11000000)) ||
    (decide (0x800000000 ≤ v) && decide (v + 4 ≤ 0x800000000 + c.dramUsable)))

/-- lockstep_pairs (R393): written once, before the side's release; a bit for an absent core is refused. -/
def Core.lockstepWrite (c : Core) (v : Nat) : Core × Reason :=
  if c.pairsWritten then (c, .onceWritten)
  else if c.released then (c, .wrongState)
  else if (List.range 4).any (fun k => bitOf v k && c.coreAbsent (2 * k)) then (c, .absentUnit)
  else ({ (c.wr Reg.lockstep_pairs v) with pairsWritten := true }, .ok)

/-- The compute objects of the side (R414). -/
def Core.hookCompute (c : Core) (s v : Nat) (put : Core) : Core × Reason :=
  match s with
  | 1 => if c.vectorOk v then (put, .ok) else (c, .badValue)
  | 2 => c.lockstepWrite v
  | 3 => c.coreRun v
  | _ => (put, .ok)

/-- The DRAM objects of the side (R445). -/
def Core.hookDram (c : Core) (s : Nat) (put : Core) : Core × Reason :=
  if s ≤ 4 ∧ c.rd Reg.dram_state ≠ 0 then (c, .wrongState)
  else if (s = 1 ∨ s = 2) ∧ put.rd Reg.dram_ranks = 2 ∧ put.rd Reg.dram_density = 3 then (c, .badValue)
  else (put, .ok)

/-- The set-point objects (R423, R425, R446): a new rate needs training again. -/
def Core.hookFsp (c : Core) (s v : Nat) (put : Core) : Core × Reason :=
  if 1 ≤ s ∧ s ≤ 3 then
    (if c.rd Reg.dram_state = 1 ∨ c.rd Reg.fsp_active = s - 1 then (c, .wrongState)
     else (put.wr Reg.fsp_trained (putBit (c.rd Reg.fsp_trained) (s - 1) false), .ok))
  else if s = 5 then c.dramTrain v
  else if s = 8 then c.fspRequest v
  else (put, .ok)

/-- The counter objects of the side (R491, R506). -/
def Core.hookCounters (c : Core) (e : HookEnv) (s v : Nat) (put : Core) : Core × Reason :=
  match s with
  | 1 => c.counterSnapshot v e.cross
  | 5 => if v = 1 then (c.countersClear, .ok) else if v = 2 then (c.windowCountersClear, .ok) else (c, .badValue)
  | _ => (put, .ok)

/-- The sampling objects of core `k` (R507). -/
def Core.hookSampling (c : Core) (k s v : Nat) (put : Core) : Core × Reason :=
  let bytes := 4096 * 2 ^ put.rd (Reg.samp_ring_size k)
  if (s ≤ 3 ∨ s = 8) ∧ c.rd (Reg.samp_enable k) ≠ 0 then (c, .wrongState)
  else if s = 1 ∧ (v % bytes ≠ 0 ∨ 2 ^ 24 < v + bytes) then (c, .badValue)
  else if s = 7 then (c.sampHead k v, .ok)
  else if s = 9 ∧ (v = 0 ∨ c.sampEntries k < v) then (c, .badValue)
  else (put, .ok)

/-! ### The collector (R518, R519, R524, R525, R531, R532, R644) -/

/-- The collector's objects (R535); the reserved bits of unfence are ignored (R12), those of fault_clear and event_ack refused (R518, R532). -/
def Core.hookFault (c : Core) (e : HookEnv) (i s v : Nat) (put : Core) : Core × Reason :=
  if i = 0xE00 then (match s with
    | 4 => c.pairRelease e.pairLive v
    | 5 => c.degradeRelease v
    | 6 => c.faultClear v
    | 7 => c.unfence (bits v 31 28) (bits v 15 0)
    | 8 => c.eventAck e.dp v
    | _ => (put, .ok))
  else if i = 0xE01 then (if s = 6 then c.ffrClear v else (put, .ok))
  else if i = 0xE03 ∧ s = 3 then c.store Reg.side_tj_max (c.rd Reg.side_tj)
  else (put, .ok)

/-! ### Vports (R459 to R462, R475 to R482) -/

/-- A write to vport_ctl (R459, R476, R479 to R482). A running field test holds off creation and restore (R608). -/
def Core.vportCtl (c : Core) (v x rev : Nat) : Core × Reason :=
  if (x = 1 ∨ x = 7) ∧ c.fieldHolds = true then (c, .busy)
  else match x with
    | 1 => c.vportCreate v
    | 2 => c.vportResetWrite v false
    | 3 => c.vportResetWrite v true
    | 4 => c.vportFreeze v
    | 5 => c.vportThaw v
    | 6 => c.vportSave v rev
    | 7 => c.vportRestore v rev
    | _ => (c, .badValue)

/-- Subindexes that are fixed while a vport is active, resetting or fenced (R460). -/
def vportLocked (s : Nat) : Bool :=
  (decide (1 ≤ s) && decide (s ≤ 15)) || decide (s = 0x11) || decide (s = 0x12) || (decide (0x1A ≤ s) && decide (s ≤ 0x1C))

/-- A vport configuration object (R460), `rev` silicon_revision: a change of placement or rings while freezing or frozen makes a new generation (R477).
The creation checks the ring sizes (R459); a frozen vport's are checked as they are written. An armed ring is looked at again under new
irq objects (R465). -/
def Core.hookVport (c : Core) (v s x rev : Nat) (put : Core) : Core × Reason :=
  let st := c.rd (Reg.vport_state v)
  if s = 0x18 then c.vportCtl v x (rev / 256 % 256)
  else if vportLocked s && (decide (st = 1) || decide (st = 2) || decide (st = 5)) then (c, .wrongState)
  else if s = 10 ∧ (st = 3 ∨ st = 4) ∧ [24, 20, 16, 12, 8].any (fun sh => decide (10 < bits x (sh + 3) sh)) = true then (c, .badValue)
  else if s = 0x10 then (put.enteredShare c v, .ok)
  else if s = 0x15 ∨ s = 0x16 then (((put.ringIrq v .rx).ringIrq v .txc).ringIrq v .stale, .ok)
  else if 0x20 ≤ s ∧ s < 0x28 ∧ st ≠ 0 then c.keepShared put
  else if 1 ≤ s ∧ s ≤ 10 ∧ (st = 3 ∨ st = 4) ∧ put.regs ≠ c.regs then (put.modVp v (fun y => { y with changed := true }), .ok)
  else (put, .ok)

/-- A ring index written by its owner (R462, R472). -/
def Core.hookRing (c : Core) (v s x : Nat) (put : Core) : Core × Reason :=
  match s with
  | 0x10 => (c.txTailWrite v x, .ok)
  | 0x12 => (c.fillTailWrite v x, .ok)
  | 0x15 => (c.consumerWrite v .rx x, .ok)
  | 0x17 => (c.consumerWrite v .txc x, .ok)
  | 0x19 => (c.consumerWrite v .stale x, .ok)
  | _ => (put, .ok)

/-! ### Objects of the device level that lie with a side (R543, R561, R593 to R600, R610) -/

/-- Power, clock and test objects of a side, but for the requests that concern the whole device. -/
def Core.hookDevice (c : Core) (i s v : Nat) (put : Core) : Core × Reason :=
  if i = 0x3220 then (match s with
    | 2 => c.coreFreq false v
    | 3 => c.coreFreq true v
    | _ => (put, .ok))
  else if i = 0x3510 ∧ s = 4 then c.fieldRequest v
  else if 0x3580 ≤ i ∧ i < 0x35C0 then
    let p := i - 0x3580
    (match s with
     | 1 => c.portTest p v
     | 11 => c.eyeCmd p v
     | 0x16 => if c.member p then (c, .groupMember) else c.genCmd p v
     | _ => c.writeTest p s v)
  else (put, .ok)

/-! ### The write -/

/-- Whether an object belongs to a member of a 100 Gb/s group whose writes R94 refuses: its configuration, wake, learning,
admission and scheduling objects. -/
def Core.memberObject (c : Core) (i : Nat) : Bool :=
  [0x100, 0x1C0, 0x440, 0x640, 0x800].any (fun b => decide (b ≤ i) && decide (i < b + 64) && c.member (i - b))

/-- Whether an object belongs to an absent port or an absent core (R4, R52). -/
def Core.absentObject (c : Core) (i : Nat) : Bool :=
  [0x100, 0x140, 0x180, 0x1C0, 0x440, 0x640, 0x800, 0x3580].any (fun b => decide (b ≤ i) && decide (i < b + 64) && c.absent (i - b)) ||
  [0xA08, 0xD10].any (fun b => decide (b ≤ i) && decide (i < b + 8) && c.coreAbsent (i - b))

/-- A counter cleared; what a running test has counted starts again from 0 (R597, R599). -/
def Core.clearCounter (c : Core) (i s : Nat) (put : Core) : Core :=
  let p := i - 0x3580
  if 0x3580 ≤ i ∧ s = 8 then put.modTest p (fun x => { x with lockAt := x.lockAt.map (fun _ => c.now) })
  else if 0x3580 ≤ i ∧ s = 0x17 then put.modTest p (fun x => { x with genClear := c.genSent p })
  else put

/-- A value that its row admits, written to the object of `n` slots at key `k` under its qualifier and its chapter's rules;
`rev` is silicon_revision. -/
def Core.hook (c : Core) (e : HookEnv) (r : ObjRow) (rev k v : Nat) : Core × Reason :=
  let i := k / 256
  let s := k % 256
  let put := c.wrWide k r.ty.slots v
  if r.qual = .w1c then c.store k (c.rd k &&& ((2 ^ 64 - 1) ^^^ v))
  else if r.chk = .counter then (c.clearCounter i s put, .ok)
  else if 0x100 ≤ i ∧ i < 0x140 then c.hookPort (i - 0x100) s v put
  else if 0x1C0 ≤ i ∧ i < 0x200 then 
    (if s = 1 then (c.denHold (i - 0x1C0) v, .ok) else if s = 2 then (c.denRate (i - 0x1C0) v, .ok) else (put, .ok))
  else if i = 0x200 then c.hookParser s v put
  else if 0x300 ≤ i ∧ i < 0x400 then c.hookSearch i s v put
  else if 0x400 ≤ i ∧ i < 0x500 then c.hookStation e i s v put
  else if i = 0x500 then c.hookEpoch s v put
  else if i = 0x600 then (if s = 1 then c.keepShared put else (put, .ok))
  else if 0x640 ≤ i ∧ i < 0x680 then c.hookAdmission (i - 0x640) s v put
  else if i = 0x701 then (if s = 2 then c.reclaimWrite v else (put, .ok))
  else if 0x710 ≤ i ∧ i < 0x718 then c.hookPool (i - 0x710) s v put
  else if 0x800 ≤ i ∧ i < 0x840 then c.hookSched (i - 0x800) s v put
  else if 0x840 ≤ i ∧ i < 0x880 then c.hookVportSched (i - 0x840) s v put
  else if 0x900 ≤ i ∧ i < 0xA00 then c.hookTime i s v put
  else if i = 0xA00 then c.hookCompute s v put
  else if i = 0xC00 then c.hookDram s put
  else if i = 0xC04 then c.hookFsp s v put
  else if 0xC0A ≤ i ∧ i < 0xC10 ∧ s = 1 then (c, .badValue)
  else if i = 0xD00 then c.hookCounters e s v put
  else if 0xD10 ≤ i ∧ i < 0xD18 then c.hookSampling (i - 0xD10) s v put
  else if 0xE00 ≤ i ∧ i < 0xF00 then c.hookFault e i s v put
  else if 0x2000 ≤ i ∧ i < 0x2040 then c.hookVport (i - 0x2000) s v rev put
  else if 0x2080 ≤ i ∧ i < 0x20C0 then c.hookRing (i - 0x2080) s v put
  else if 0x3000 ≤ i then c.hookDevice i s v put
  else (put, .ok)

end Sys2Proof.Machine
end

