-- ==== Sys2Proof/Machine/Owl.lean ====
section
/-! DEFINITION. Owl.lean: the Owl's part but for the records it applies: who owns the staging buffers (R82, R588), attestation
(R588 to R590), version_commit (R572), the boot flash, its headers and manifests (R564 to R571) and the persistent state (R567). -/

namespace Sys2Proof.Machine

/-! ### Owners (R81, R588) -/

/-- The code of a requester as an owner: 1 PF0, 2 PF1, 3 and 4 the field ports, 5 and 6 in-band. A core's window is its side's
physical function (R392). -/
def ownerCode : Requester → Nat
  | .pf s => 1 + s.num
  | .core s _ _ => 1 + s.num
  | .field s => 3 + s.num
  | .inband s => 5 + s.num
  | _ => 0

/-- 1 s of the always-on count. -/
def second : Nat := 1000000000

/-! ### Bundle staging (R82) -/

/-- Whether a requester may write the staging buffer or bundle_apply; a running verification or application holds both. -/
def Dev.stageFree (d : Dev) (q : Requester) : Bool :=
  (decide (d.rd Reg.bundle_owner = 0) || decide (d.rd Reg.bundle_owner = ownerCode q)) &&
  decide (d.rd Reg.bundle_apply ≠ 2) && decide (d.rd Reg.bundle_apply ≠ 3)

/-- A write to bundle_stage begins: its writer is the owner. -/
def Dev.stageTake (d : Dev) (q : Requester) : Dev := { d.wr Reg.bundle_owner (ownerCode q) with bundleAt := d.aon }

/-- Octets at an offset of the staging buffer; gaps hold 0. -/
def Dev.stagePut (d : Dev) (q : Requester) (off : Nat) (o : Octets) : Dev :=
  let x := padTo (max d.stage.length (off + o.length)) d.stage
  { ((d.stageTake q).wr Reg.bundle_apply 1) with stage := x.take off ++ o ++ x.drop (off + o.length) }

/-- Ownership returns to none and the staged content is discarded. -/
def Dev.stageDrop (d : Dev) : Dev := { (d.wr Reg.bundle_owner 0) with stage := [] }

/-- BUNDLE_OWNER_TIMEOUT (R82): 1 s without a write of the owner. -/
def Dev.bundleOwnerTimeout (d : Dev) : Dev :=
  if d.rd Reg.bundle_owner = 0 ∨ d.rd Reg.bundle_apply = 2 ∨ d.rd Reg.bundle_apply = 3 then d
  else (d.runTo (d.bundleAt + second)).stageDrop.wr Reg.bundle_apply 0

/-! ### Attestation (R588 to R590) -/

/-- Whether the attestation objects are the requester's or nobody's. -/
def Dev.attestFree (d : Dev) (q : Requester) : Bool :=
  decide (d.rd Reg.attest_owner = 0) || decide (d.rd Reg.attest_owner = ownerCode q)

/-- ATTEST_NONCE_WRITE: `v` is the nonce as an OCTETS(32) value. -/
def Dev.attestNonce (d : Dev) (q : Requester) (v : Nat) : Dev × Reason :=
  if !d.attestFree q then (d, .busy)
  else ({ ((d.wrWide Reg.attest_nonce 4 v).wr Reg.attest_owner (ownerCode q)) with attestAt := d.aon }, .ok)

/-- Side time for a report: 0 when the side is not running. -/
def Core.reportTime (c : Core) : Nat := if c.alive && decide (c.rd Reg.power_state = 0) then c.sideTime else 0

/-- Octets 0 to 191 of a report over the present state (R589). -/
def Plant.reportBody (p : Plant) : Octets :=
  let d := p.dev
  toBe 4 0x49415431 ++ toBe 2 1 ++ toBe 2 2612 ++ d.rdOctets Reg.attest_nonce 32 ++
  toBe 8 (d.rd Reg.device_serial) ++ toBe 2 (d.rd Reg.part_number) ++ toBe 2 (d.rd Reg.silicon_revision) ++
  toBe 1 (d.rd Reg.grade) ++ toBe 1 (d.rd Reg.device_mode) ++ toBe 1 (d.rd Reg.boot_slot) ++ toBe 1 (d.rd Reg.security_version) ++
  toBe 1 d.rollbackFloor ++ toBe 1 d.lifecycle ++
  toBe 1 (d.fuse 633 632 + 4 * b2n (decide (d.rd Reg.identity_status = 2)) + 8 * b2n (d.flag Reg.persist_lost)) ++
  toBe 1 (p.a.r.rd Reg.power_state) ++ toBe 1 (p.b.r.rd Reg.power_state) ++ toBe 3 0 ++
  d.rdOctets Reg.fw_measure 32 ++ d.rdOctets Reg.config_measure 32 ++
  toBe 8 (d.rd Reg.last_sequence) ++ toBe 8 (d.rd Reg.host_config_writes) ++ toBe 16 (d.fuse 1279 1152) ++
  toBe 8 d.aon ++ toBe 4 (d.rd Reg.powered_hours) ++ toBe 4 0 ++ toBe 8 p.a.r.reportTime ++ toBe 8 p.b.r.reportTime

/-- ATTEST_REQUEST: a new report over the present state is signed. -/
def Plant.attestRequest (p : Plant) (q : Requester) (v : Nat) : Plant × Reason :=
  let d := p.dev
  if v ≠ 1 then (p, .badValue)
  else if d.owlDown then (p, .owlUnavailable)
  else if !d.attestFree q ∨ d.rd Reg.attest_request = 1 then (p, .busy)
  else if d.rd Reg.boot_status < 3 ∨ 4 < d.rd Reg.boot_status ∨ d.lifecycle = 3 ∨ d.rd Reg.attest_owner = 0 then (p, .wrongState)
  else ({ p with dev := { (d.wr Reg.attest_request 1) with attestFrom := p.reportBody, attestAt := d.aon } }, .ok)

/-- ATTEST_REPORT_READY: the report is signed with the identity key, which is derived in lifecycles 1 and 2 alone (R586); a request
waits for it (R588). -/
def Dev.attestReady (d : Dev) : Dev :=
  if d.rd Reg.attest_request ≠ 1 ∨ (d.lifecycle ≠ 1 ∧ d.lifecycle ≠ 2) then d
  else
    let sig := mldsaSign (toBe 32 (d.fuse 1535 1280)) (sha3_256 d.attestFrom) (toBe 32 (Config.signRandom d.free).toNat)
    { (d.wr Reg.attest_request 2) with
      attestReport := d.attestFrom ++ sig, attestFrom := [], attestDone := d.aon, attestSeen := 0, free := d.free + 1 }

/-- ATTEST_TIMEOUT (R590): a report not ready 20 ms after its request is abandoned. -/
def Dev.attestTimeout (d : Dev) : Dev :=
  if d.rd Reg.attest_request ≠ 1 then d
  else
    let d1 := d.runTo (d.attestAt + 20000000)
    ({ ((d1.wr Reg.attest_request 3).inc Reg.attest_failures) with attestFrom := [] } : Dev).report 18 2 (d.rd Reg.attest_owner)

/-- Ownership lapses. -/
def Dev.attestLapse (d : Dev) : Dev := d.wr Reg.attest_owner 0

/-- ATTEST_OWNER_TIMEOUT (R588): 1 s after the report was completed, or without a write of the owner before its request. -/
def Dev.attestOwnerTimeout (d : Dev) : Dev :=
  if d.rd Reg.attest_owner = 0 ∨ d.rd Reg.attest_request = 1 then d
  else (d.runTo ((if d.rd Reg.attest_request = 2 then d.attestDone else d.attestAt) + second)).attestLapse

/-- 8-octet units of the report that a requester has read: when its owner has read it whole, ownership lapses. -/
def Dev.attestRead (d : Dev) (q : Requester) (first n : Nat) : Dev :=
  if d.rd Reg.attest_owner = 0 ∨ d.rd Reg.attest_owner ≠ ownerCode q ∨ d.rd Reg.attest_request ≠ 2 then d
  else
    let seen := (List.range n).foldl (fun a i => putBit a (first + i) true) d.attestSeen
    let d1 : Dev := { d with attestSeen := seen }
    if seen % 2 ^ 327 = 2 ^ 327 - 1 then d1.attestLapse else d1

/-! ### version_commit (R572, R624) -/

/-- A write to version_commit; `part` is how many fuses were programmed when VDD_FUSE left its range. -/
def Dev.versionCommit (d : Dev) (v : Nat) (part : Option Nat) : Dev × Reason :=
  let mask := (2 ^ d.rd Reg.security_version - 1) * 2 ^ 1152
  let refuse (r : Reason) : Dev × Reason := (d.wr Reg.version_commit 3, r)
  if v ≠ 1 then (d, .badValue)
  else if bitOf (d.rd Reg.rail_status) 8 = false ∨ d.lifecycle ≠ 2 then refuse .wrongState
  else if d.fuses ||| mask = d.fuses then refuse .badValue
  else
    let d1 : Dev := { d with fuses := programBits d.fuses mask part }
    match part with
    | some _ => ((d1.wr Reg.version_commit 3).report 8 1 0, .ok)
    | none => (d1.wr Reg.version_commit 2, .ok)

/-! ### The flash (R565 to R567, R583) -/

/-- Octets of the flash; the memory holds their complement, so that an erased flash is empty. -/
def Dev.flashRead (d : Dev) (a n : Nat) : Octets := (d.flash.readBytes a n).map (fun b => ~~~b)
def Dev.flashWrite (d : Dev) (a : Nat) (o : Octets) : Dev := { d with flash := d.flash.writeBytes a (o.map (fun b => ~~~b)) }

/-- A region erased. -/
def Dev.flashErase (d : Dev) (a n : Nat) : Dev :=
  { d with flash := d.flash.filter (fun c => decide (c.1 < a) || decide (a + n ≤ c.1)) }

/-- FLASH_BUSY_TIMEOUT (R583): the flash is reset by command and counted once. -/
def Dev.flashBusy (d : Dev) : Dev := (d.inc Reg.flash_errors).reportRate 16 6 0

/-- The boot header in use (R566): the first copy whose check matches. -/
def Dev.bootHeader (d : Dev) : Option Octets :=
  [0, 0x1000].findSome? (fun a =>
    let h := d.flashRead a 64
    if sha3_256 (h.take 32) = h.drop 32 then some (h.take 32) else none)

/-- The flash offset of a slot under a header. -/
def slotOffset (h : Octets) (slot : Nat) : Nat := be32 h (12 + 4 * slot)

/-- A log entry's sequence, when the entry is valid (R567). -/
def logSequence (o : Octets) : Option Nat :=
  if be32 o 0 = 0x49535131 ∧ be32 o 12 = crc32cRaw 0xFFFFFFFF (o.take 12) ^^^ 0xFFFFFFFF then some (beNat (slice o 4 8)) else none

/-- A log entry. -/
def logEntry (seq : Nat) : Octets :=
  let x := toBe 4 0x49535131 ++ toBe 8 seq
  x ++ toBe 4 (crc32cRaw 0xFFFFFFFF x ^^^ 0xFFFFFFFF)

/-- Where a sequence log and a snapshot half lie. -/
def logBase (l : Nat) : Nat := 0x60000 + l * 0x10000
def snapBase (h : Nat) : Nat := 0x20000 + h * 0x20000

/-- Entry `i` of log `l`, and whether it is erased. -/
def Dev.logAt (d : Dev) (l i : Nat) : Octets := d.flashRead (logBase l + 16 * i) 16
def Dev.logErased (d : Dev) (l i : Nat) : Bool := (d.logAt l i).all (fun b => decide (b = 0xFF))

/-- The next erased entry of a log. -/
def Dev.logNext (d : Dev) (l : Nat) : Option Nat := (List.range 4096).find? (fun i => d.logErased l i)

/-- Step 1 of R84: a sequence persisted in the active log, or in the other when that has no erased entry; none when neither has. -/
def Dev.persistSequence (d : Dev) (seq : Nat) : Option Dev :=
  match d.logNext d.logActive with
  | some i => some (d.flashWrite (logBase d.logActive + 16 * i) (logEntry seq))
  | none =>
    match d.logNext (1 - d.logActive) with
    | some i => some ({ (d.flashWrite (logBase (1 - d.logActive) + 16 * i) (logEntry seq)) with logActive := 1 - d.logActive })
    | none => none

/-- A snapshot half, when its check matches. -/
def Dev.snapHalf (d : Dev) (h : Nat) : Option Octets :=
  let o := d.flashRead (snapBase h) 65824
  if sha3_256 (o.take 65792) = o.drop 65792 then some o else none

/-- The valid snapshot with the higher generation, and its half. -/
def Dev.snapshotInUse (d : Dev) : Option (Nat × Octets) :=
  match d.snapHalf 0, d.snapHalf 1 with
  | some a, some b => if be32 a 4 < be32 b 4 then some (1, b) else some (0, a)
  | some a, none => some (0, a)
  | none, some b => some (1, b)
  | none, none => none

/-- dram_train_image of a side as a snapshot carries it. -/
def Core.trainOctets (c : Core) : Octets := (List.range 4096).flatMap (fun e => toBe 8 (c.trainEntry e))

/-- A snapshot of the persistent state (R567). -/
def Plant.snapshotOctets (p : Plant) (gen : Nat) : Octets :=
  let d := p.dev
  let x := toBe 4 0x49505231 ++ toBe 4 gen ++ toBe 8 (d.rd Reg.last_sequence) ++ toBe 4 (d.rd Reg.powered_hours) ++ toBe 4 0 ++
    (List.range 32).flatMap (fun k => toBe 4 (d.rd (Reg.age_shift k) % 2 ^ 32)) ++ toBe 104 0 ++ p.a.r.trainOctets ++ p.b.r.trainOctets
  x ++ sha3_256 x

/-- A new snapshot written into the half that is not in use. -/
def Plant.writeSnapshot (p : Plant) : Plant :=
  let now := p.dev.snapshotInUse
  let half := match now with | some x => 1 - x.1 | none => 0
  let gen := match now with | some x => (be32 x.2 4 + 1) % 2 ^ 32 | none => 1
  { p with dev := (((p.dev.flashErase (snapBase half) 0x20000).flashWrite (snapBase half) (p.snapshotOctets gen)).wr Reg.persist_lost 0) }

/-- PERSIST_SNAPSHOT (R567): with the active log three-quarters full, a new snapshot is written and the log erased; the other
log is active. -/
def Plant.persistSnapshot (p : Plant) : Plant :=
  let l := p.dev.logActive
  if (List.range 4096).all (fun i => decide (3072 ≤ i) || !p.dev.logErased l i) then
    let q := p.writeSnapshot
    { q with dev := { (q.dev.flashErase (logBase l) 0x10000) with logActive := 1 - l } }
  else p

/-- POWERED_HOUR (R558): the shifts are recorded and persisted. -/
def Plant.poweredHour (p : Plant) (l : List Int) : Plant := (p.onDev (fun d => d.poweredHour l)).writeSnapshot

/-- The persistent state read at step 6 of R574. -/
def Dev.readPersistent (d : Dev) : Dev :=
  let seqs := [0, 1].flatMap (fun l => (List.range 4096).filterMap (fun i => logSequence (d.logAt l i)))
  let top := seqs.foldl max 0
  let active := if (d.logNext 0).isSome && ((d.logNext 1).isNone || !d.logErased 0 0 || d.logErased 1 0) then 0 else 1
  let d1 : Dev := { d with logActive := active }
  match d.snapshotInUse with
  | some (_, o) =>
    let d2 := (d1.wr Reg.last_sequence (max top (beNat (slice o 8 8)))).wr Reg.powered_hours (be32 o 16)
    (List.range 32).foldl (fun (a : Dev) k => a.wr (Reg.age_shift k) (unsignedOf 64 (signedOf 32 (be32 o (24 + 4 * k))))) d2
  | none =>
    if seqs.isEmpty then ((d1.wr Reg.last_sequence 0).wr Reg.persist_lost 1).report 16 4 0 else d1.wr Reg.last_sequence top

/-! ### Manifests (R568 to R571) -/

/-- Where the Owl reads a slot from: an offset into the flash, or side A's scratchpad for a staged image. -/
def Plant.slotRead (p : Plant) (a n : Nat) : Octets :=
  if p.dev.bootSource = 2 then p.a.spm.readBytes a n else p.dev.flashRead (p.dev.bootBase + a) n

/-- A segment entry (R569). -/
structure Segment where
  type : Nat
  deferred : Bool
  offset : Nat
  length : Nat
  load : Nat
  hash : Octets
  deriving DecidableEq, Repr

/-- The segments of a manifest, in table order. -/
def segmentsOf (m : Octets) : List Segment :=
  (List.range (be16 m 12)).map (fun i =>
    let e := slice m (192 + 64 * i) 64
    ⟨octetAt e 0, bitOf (octetAt e 1) 0, be32 e 4, be32 e 8, beNat (slice e 16 8), slice e 32 32⟩)

/-- Where a segment loads: a target and its first octet; none for a default configuration. -/
def Segment.target (x : Segment) : Option (Nat × Nat) :=
  if x.type = 2 then none else some (if x.type = 1 then 0 else 2 * (x.type - 2) + x.load / 2 ^ 63, x.load % 2 ^ 40)

/-- Two ranges have an octet in common. -/
def overlap (a n b m : Nat) : Bool := decide (a < b + m) && decide (b < a + n)

/-- A segment table that keeps R569, in a slot of `room` octets. -/
def segmentsOk (l : List Segment) (room : Nat) : Bool :=
  let count (f : Segment → Bool) : Nat := (l.filter f).length
  decide (count (fun x => decide (x.type = 1)) = 1) && decide (count (fun x => decide (x.type = 2)) = 1) &&
  decide (count (fun x => decide (x.type = 3) || decide (x.type = 4)) ≤ 16) &&
  l.all (fun x =>
    decide (1 ≤ x.type) && decide (x.type ≤ 4) && decide (x.offset % 4096 = 0) && decide (x.offset + x.length ≤ room) &&
    !(x.deferred && decide (x.type ≤ 2)) &&
    (decide (x.type ≠ 1) || (decide (x.length ≤ 393216) && decide (x.load + x.length ≤ 524288)))) &&
  (List.range l.length).all (fun i => (List.range i).all (fun j =>
    match l[i]?, l[j]? with
    | some x, some y =>
      !overlap x.offset x.length y.offset y.length &&
      (match x.target, y.target with
       | some s, some t => decide (s.1 ≠ t.1) || !overlap s.2 x.length t.2 y.length
       | _, _ => true)
    | _, _ => true))

/-- Octets 0 to 1,503 + 64n of a manifest: what its signature covers. -/
def signedPart (m : Octets) : Octets := m.take (1504 + 64 * be16 m 12)

/-- verify_slot (R571): 0, or the detail code of the first failing check. -/
def Plant.verifySlot (p : Plant) : Nat :=
  let d := p.dev
  let m := p.slotRead 0 (3924 + 64 * 32)
  let n := be16 m 12
  let key := slice m (192 + 64 * n) 1312
  let k := beNat (sha3_256 key)
  let known (j : Nat) : Bool := decide (d.fuse (895 + 256 * j) (640 + 256 * j) = k) && decide (k ≠ 0) && !bitOf (d.fuse 633 632) j
  if be32 m 0 ≠ 0x494D4631 ∨ be16 m 4 ≠ 1 ∨ be16 m 6 ≠ 192 ∨ n = 0 ∨ 32 < n ∨ be32 m 8 ≠ 3924 + 64 * n then 3
  else if (be16 m 16 ≠ 0 ∧ be16 m 16 ≠ d.rd Reg.part_number) ∨
      (octetAt m 18 ≠ 0 ∧ octetAt m 18 ≠ d.rd Reg.silicon_revision / 256) then 4
  else if !known 0 && !known 1 then 5
  else if !mldsaVerify key (sha3_256 (signedPart m)) (slice m (1504 + 64 * n) 2420) then 6
  else if octetAt m 14 < d.rollbackFloor then 7
  else if !segmentsOk (segmentsOf m) (if d.bootSource = 2 then 2 ^ 24 else 2 ^ 25) then 8
  else 0

/-- The octets of a segment, when they match its hash (R571). -/
def Plant.readSegment (p : Plant) (x : Segment) : Option Octets :=
  let o := p.slotRead x.offset x.length
  if sha3_256 o = x.hash then some o else none

/-- fw_measure (R573). -/
def fwMeasure (m : Octets) : Octets :=
  let l := segmentsOf m
  sha3_256 (sha3_256 (signedPart m) ++ (l.filter (fun x => decide (x.type = 1))).flatMap Segment.hash ++
    (l.filter (fun x => decide (3 ≤ x.type))).flatMap Segment.hash)

end Sys2Proof.Machine
end

