-- ==== Sys2Proof/Machine/Reset.lean ====
section
/-! DEFINITION. Reset.lean: what a side's reset and its release do to the side's state (R48, R358, R458, R526, R552, R574, R618 to
R632), and the resets of the host port (R455). -/

namespace Sys2Proof.Machine

/-! ### A side's reset (R628) -/

/-- The objects that lie with a side and belong to the device level, which a side's reset leaves (R48). -/
def deviceLevelKeys (m : SMap Slot) : SMap Slot := m.filter (fun x => decide (0x300000 ≤ x.1))

/-- The tests of a side's lanes end with its clocks; what they counted stays in their objects, which are device-level. -/
def Core.endTests (c : Core) : Core :=
  { (c.test.foldl (fun (a : Core) x =>
      let b := if x.2.genAt.isSome then a.genEnd x.1 (a.genSent x.1) else a
      b.prbsUnlock x.1) c) with test := [] }

/-- A side without its frames, tables, units in work and written objects (R48, R458, R628). Pair state 5 ends only with PORST_N
(R531); the PCIe functions stay enumerated (R458). -/
def Core.emptied (c : Core) : Core :=
  let d := c.fieldAbort.endTests
  { Core.blank c.id with
    regs := deviceLevelKeys d.regs
    free := d.free
    fns := d.fns
    out := d.out
    toDev := d.toDev
    tapStop := d.tapStop
    absentPorts := d.absentPorts
    inReset := d.inReset
    deaf := d.deaf
    spmBad := d.spmBad
    pairCauses := if bitOf d.pairCauses 5 then 32 else 0 }

/-- The side's reset asserted (R628, R629): its DRAM contents are lost. In Burrow the side stays there until the reset ends. -/
def Side.resetAssert (d : Side) (cause : Nat) : Side :=
  let c := d.r
  if c.inReset then d
  else
    let burrow := decide (c.rd Reg.power_state = 5)
    let e := if burrow then c else ((c.emptied.wr Reg.power_state 7).wr Reg.pll_locked 0)
    let r := ((({ e with inReset := true, released := false } : Core).wr Reg.side_reset_cause cause).inc Reg.side_resets)
    { d with r := r, dram := [] }

/-- SIDE_RESET_ASSERT (R22, R628, R629): in Joined mode both sides. -/
def Plant.sideReset (p : Plant) (sd : SideId) (cause : Nat) : Plant :=
  if p.dev.porst then p
  else
    -- the side's Tyist transactions end with its object server, and the device's stop and pair drive with the reset (R516)
    let drop (x : Plant) (s : SideId) : Plant :=
      x.onDev (fun d => { d.endHolds s.num true with xfers := d.xfers.filter (fun t => decide (t.via.side ≠ s)) })
    let q := drop (p.onSide sd (fun d => d.resetAssert cause)) sd
    if p.dev.joined then drop (q.onSide sd.other (fun d => d.resetAssert 3)) sd.other else q

/-- SIDE_RESET_WRITE (R560, R628). -/
def Plant.sideResetWrite (p : Plant) (sd : SideId) (v : Nat) : Plant × Reason :=
  if v ≠ 1 then (p, .badValue) else (p.sideReset sd 2, .ok)

/-! ### Defaults and release (R48, R574 step 10, R554 step 6) -/

/-- The default of field_node_id (R75, R619). -/
def Dev.nodeStrap (d : Dev) (s : Nat) : Nat :=
  let n := bits (d.rd Reg.straps_sampled) (7 * s + 6) (7 * s)
  if n = 0 then 127 else n

/-- The defaults that come from straps and fuses (R47, R75). -/
def Core.strapDefaults (c : Core) (d : Dev) : Core :=
  (c.wr Reg.field_node_id (d.nodeStrap c.num)).wr Reg.mgmt_mac ((d.fuse 559 512 + c.num) % 2 ^ 48)

/-- The side's objects at their defaults before a release. What its PLLs have done since they were started stays. -/
def Plant.sideDefaults (p : Plant) (sd : SideId) : Plant :=
  p.onCore sd (fun c => { c.emptied.strapDefaults p.dev with pllBad := c.pllBad })

/-- The side's PLLs at its release (R541): each runs that has not failed, and the failures are reported. -/
def Core.startPlls (c : Core) : Core :=
  let lock := c.pllBad % 64
  let ref := c.pllBad / 256 % 64
  let c1 : Core := { (c.wr Reg.pll_locked (0x3F ^^^ (lock ||| ref))) with
    pllBad := lock, pllTry := 0, conds := putBit (putBit c.conds 0 (decide (lock ≠ 0))) 1 (decide (ref ≠ 0)) }
  let c2 := if lock = 0 then c1 else c1.report 465 1 0
  if ref = 0 then c2 else c2.report 465 2 0

/-- The release of a side: its clocks start at 0, vport 0 exists, every meter's bucket is full, its PLLs run, the pair
is healthy, and the pairs are bound, whose checkers' bits of core_run follow (R358, R371, R393, R394, R457, R529, R541). -/
def Core.release (c : Core) : Core :=
  let c1 : Core := { c with released := true, inReset := false, now := 0, entryStep := 0, pairs := c.rd Reg.lockstep_pairs }
  (((c1.openVport 0).fillBuckets.wr Reg.power_state 0).startPlls).wr Reg.core_run (c1.runBits (c.rd Reg.core_run))

/-! ### The host port (R455, R450) -/

/-- The pending writes, snapshots, refusal records and aperture bindings of a side's functions at their defaults (R455). -/
def Plant.functionBuffers (p : Plant) (sd : SideId) (fn : Nat) : Plant :=
  let s := sd.num
  let mine (who : Nat) : Bool :=
    if fn = 0 then decide (who = s) else decide (who = 2 + 64 * s + fn)
  let d := p.dev
  let d1 : Dev := { d with pend := d.pend.filter (fun x => !mine x.1), snaps := d.snaps.filter (fun x => !mine x.1) }
  if fn = 0 then
    { p with dev := (List.range 16).foldl (fun (a : Dev) k => ((a.wr (Reg.aperture_object (16 * s + k)) 0).wr
        (Reg.aperture_base (16 * s + k)) 0)) (d1.wr (if s = 0 then Reg.refusal_record_pf0 else Reg.refusal_record_pf1) 0) }
  else ({ p with dev := d1 } : Plant).onCore sd (fun c => c.wr (Reg.vf_refusal_record fn) 0)

/-- FLR (R455): the function's buffers and bindings, and the vports it resets. A PF's FLR takes its virtual functions' along. -/
def Plant.flr (p : Plant) (sd : SideId) (fn : Nat) : Plant :=
  let fs := if fn = 0 then List.range 64 else [fn]
  let q := fs.foldl (fun (a : Plant) n => a.functionBuffers sd n) p
  q.onCore sd (fun c => if c.alive then c.flr fn else { c with fns := if fn = 0 then [] else SMap.erase c.fns fn })

/-- HOST_PORT_RESET (R455, R630): 0 PERST_N, 1 a hot reset, 2 a link-down. Device source 13 reports a link that goes down. -/
def Plant.hostPortReset (p : Plant) (cause : Nat) : Plant :=
  let q := (p.flr .a 0).flr .b 0
  let up := q.dev.linkUp
  q.onDev (fun d =>
    let e := (({ d with linkUp := false, perst := decide (cause = 0) || d.perst } : Dev).wr Reg.link_speed 0).wr Reg.link_width 0
    if up && decide (cause ≠ 1) then e.report 13 2 0 else e)

/-- PCIE_LINK_UP (R450, R485): the speed 1 to 4, the width 1, 2, 4 or 8. -/
def Plant.linkUpAt (p : Plant) (speed width : Nat) : Plant :=
  if p.dev.porst || p.dev.vddOff then p
  else p.onDev (fun d => (({ d with linkUp := true, perst := false } : Dev).wr Reg.link_speed speed).wr Reg.link_width width)

end Sys2Proof.Machine
end

