-- ==== Sys2Proof/Machine/Access.lean ====
section
/-! DEFINITION. Access.lean: accesses to objects: the checks of a write and a read in their order (R11, R18, R25, R49, R52, R55, R78,
R84, R579), what a device-level object does when it is written, window data (R60, R61), bundle records and their verification
(R79, R80, R83). -/

namespace Sys2Proof.Machine

/-! ### Records (R80, R570) -/

/-- A record of a bundle or of the default configuration; `whole` when its data lie inside the record area. -/
structure Record where
  index : Nat
  sub : Nat
  op : Nat
  len : Nat
  data : Octets
  whole : Bool
  deriving DecidableEq, Repr

/-- The records of an area, each 8-byte aligned. The reserved bytes 6 and 7 of a record are not looked at (R80; DESIGN CHOICE, log
entry 60). -/
def recordsFrom : Nat → Octets → List Record
  | 0, _ => []
  | n + 1, o =>
    if o.isEmpty then []
    else
      let len := be16 o 4
      let room := 8 * ceilDiv len 8
      let rest := o.drop 8
      ⟨be16 o 0, octetAt o 2, octetAt o 3, len, rest.take len,
        decide (8 ≤ o.length) && decide (room ≤ rest.length) && ((rest.take room).drop len).all (fun b => decide (b = 0))⟩ ::
      recordsFrom n (rest.drop room)
def recordsOf (o : Octets) : List Record := recordsFrom (o.length / 8 + 1) o

/-- The length of a value in Tyist and bundles (R45); none for a DOMAIN. -/
def ObjType.octetCount : ObjType → Option Nat
  | .bool | .u8 | .enum8 => some 1
  | .u16 => some 2
  | .u32 | .i32 => some 4
  | .u64 | .i64 => some 8
  | .mac48 => some 6
  | .time96 => some 12
  | .octets n => some n
  | .domain => none

/-- A value from its octets on the field or in a bundle (R46): numbers are big-endian, OCTETS in octet order; a TIME96 is seconds,
nanoseconds, fraction. -/
def ObjType.decode (t : ObjType) (o : Octets) : Nat :=
  match t with
  | .octets _ => leNat o
  | .time96 => beNat (o.take 6) + (beNat (slice o 6 4) + beNat (slice o 10 2) * 2 ^ 32) * 2 ^ 64
  | _ => beNat o

/-- The same, the other way. -/
def ObjType.encode (t : ObjType) (v : Nat) : Octets :=
  match t with
  | .octets n => toLe n v
  | .time96 => toBe 6 v ++ toBe 4 (v / 2 ^ 64) ++ toBe 2 (v / 2 ^ 96)
  | _ => toBe (t.octetCount.getD 0) v

/-- The op of a record that an object takes (R80). -/
def ObjRow.recordOp (r : ObjRow) : Nat :=
  if r.ty = .domain then 5 else match r.qual with | .w1c => 2 | .w1s => 3 | .trig => 4 | _ => 1

/-! ### Availability (R18, R579) -/

/-- A side whose objects answer no access: stopped, in reset, not released, or in Burrow. -/
def Core.noAccess (c : Core) : Bool := !c.released || c.inReset || decide (c.rd Reg.side_state = 2)

/-- Before step 6 of R574, device-level objects answer with busy; in recovery they are served (R579, R581). -/
def Dev.early (d : Dev) : Bool :=
  decide (d.bootPhase < 2) && decide (d.rd Reg.boot_status ≠ 5) && decide (d.rd Reg.boot_status ≠ 6)

/-- A window of a side or of the device level: the table behind an index, with the side. -/
def Place.window : Place → Option (Option SideId × Nat)
  | .side s k => if isWindow (k / 256) then some (some s, k / 256) else none
  | .dev k => if devWindow (k / 256) then some (none, k / 256) else none

/-- Entries of a window and the bytes of one (R60). -/
def Plant.winShape (p : Plant) : Option SideId × Nat → Nat × Nat
  | (some s, w) => ((p.side s).r.winEntries w, (p.side s).r.winBytes w)
  | (none, w) => (64, devWinBytes w)

/-! ### A staged bundle (R79, R83) -/

/-- The fields of the staged bundle. -/
def Dev.bundleRecords (d : Dev) : List Record := recordsOf (slice d.stage 64 (be32 d.stage 12))
def Dev.bundleScope (d : Dev) : Nat := octetAt d.stage 20
def Dev.bundleSequence (d : Dev) : Nat := beNat (slice d.stage 24 8)

/-- The hash that a bundle's signature covers. -/
def Dev.bundleHash (d : Dev) : Octets := sha3_256 (d.stage.take (1376 + be32 d.stage 12))

/-- The applying bundle names an object (R84). -/
def Dev.bundleNames (d : Dev) (o : Obj) : Bool :=
  decide (d.rd Reg.bundle_apply = 3) &&
  d.bundleRecords.any (fun r => match findObj r.index r.sub with | some x => decide (x = o) | none => false)

/-- Whether a record's length, value or op does not fit its object (R83). A window's entry_bytes is the one that holds at verification,
before any record is applied (DESIGN CHOICE, log entry 60). -/
def Plant.recordBad (p : Plant) (r : Record) (o : Obj) : Bool :=
  !r.whole || decide (r.op ≠ o.row.recordOp) ||
  (match o.row.ty.octetCount with
   | some n => decide (r.len ≠ n) || (o.row.accept (o.row.ty.decode r.data)).isNone
   | none =>
     match o.at'.window with
     | some w => decide (r.len = 0) || decide (r.len % (p.winShape w).2 ≠ 0)
     | none => false)

/-- Whether a record lies outside a scope: [2] device level, [1] side B, [0] side A. -/
def outsideScope (scope : Nat) (o : Obj) : Bool :=
  match o.at'.owner with
  | some s => !bitOf scope s.num
  | none => !bitOf scope 2

/-- The record checks of R83: a detail code, 0 for none; `boot` leaves out the trig rule and the scope (R570). -/
def Plant.recordFault (p : Plant) (boot : Bool) (scope : Nat) (last : Bool) (r : Record) : Nat :=
  match findObj r.index r.sub with
  | none => 0x09
  | some o =>
    if !boot && outsideScope scope o then 0x09
    else if !inSet Req.B o.row.wr then 0x0A
    else if p.recordBad r o then 0x0B
    else if !boot && decide (r.op = 4) && !last then 0x0C
    else 0

/-- The first failing record, with its code. -/
def Plant.firstFault (p : Plant) (boot : Bool) (scope n : Nat) : List Record → Option (Nat × Nat)
  | [] => none
  | r :: l =>
    match p.recordFault boot scope l.isEmpty r with
    | 0 => p.firstFault boot scope (n + 1) l
    | e => some (e, n)

/-- verify of R83: 0, or the first failing detail code, and the record concerned. -/
def Plant.verifyBundle (p : Plant) : Nat × Nat :=
  let d := p.dev
  let b := d.stage
  let rl := be32 b 12
  let key := slice b (64 + rl) 1312
  let owners := [0, 1, 2, 3].map (fun k => d.rdOctets (Reg.owner_key_hash k) 32)
  let bind := slice b 32 32
  if d.owlDown then (0x0F, 0)
  else if be32 b 0 ≠ 0x49424E31 ∨ be16 b 4 ≠ 1 ∨ be16 b 6 ≠ 64 then (0x01, 0)
  else if be32 b 8 ≠ b.length ∨ be32 b 8 ≠ 64 + rl + 1312 + 2420 then (0x02, 0)
  else if (be16 b 16 ≠ 0 ∧ be16 b 16 ≠ d.rd Reg.part_number) ∨
      (octetAt b 18 ≠ 0 ∧ octetAt b 18 ≠ d.rd Reg.silicon_revision / 256) then (0x03, 0)
  else if (bind.all (fun x => decide (x = 0))) = false ∧ bind ≠ sha3_256 d.pubkey then (0x04, 0)
  else if octetAt b 19 ≠ 0xFF ∧ octetAt b 19 ≠ d.rd Reg.device_mode then (0x05, 0)
  else if (owners.any (fun o => decide (o = sha3_256 key) && o.any (fun x => decide (x ≠ 0)))) = false then (0x06, 0)
  else if mldsaVerify key d.bundleHash (slice b (1376 + rl) 2420) = false then (0x07, 0)
  else if d.bundleSequence ≤ d.rd Reg.last_sequence then (0x08, 0)
  else
    match p.firstFault false d.bundleScope 0 d.bundleRecords with
    | some x => x
    | none =>
      if (bitOf d.bundleScope 0 && p.a.r.noAccess) || (bitOf d.bundleScope 1 && p.b.r.noAccess) then (0x10, 0) else (0, 0)

/-- The end of a bundle: its result, and the buffer back to nobody (R81, R82). Source 17 reports a rejection. -/
def Dev.bundleEnd (d : Dev) (detail record reason : Nat) : Dev :=
  let d1 := ((d.wr Reg.bundle_result (detail * 2 ^ 24 + record % 2 ^ 16 * 256 + reason)).wr Reg.bundle_apply
    (if detail = 0 then 4 else 5)).stageDrop
  if detail = 0 then d1.inc Reg.bundles_applied else (d1.inc Reg.bundles_rejected).report 17 1 0

/-- The reason that bundle_result [7:0] carries for a rejection: that of the Owl for detail 0x0F, that of the side for 0x10, and
bundle_rejected for the others; for 0x0D it is the refused record's own (R81; DESIGN CHOICE, log entry 60). -/
def bundleReason (detail : Nat) : Nat :=
  if detail = 0x0F then Reason.owlUnavailable.code
  else if detail = 0x10 then Reason.sideUnavailable.code
  else Reason.bundleRejected.code

/-- BUNDLE_APPLY (R82, R83, R577): verification; a bundle that passes waits for its application. Verification ends with the command,
so bundle_apply reads 3 from it to BUNDLE_APPLY_COMPLETE and never 2, and a write that is refused does not restart the owner's 1 s
(R81, R82; DESIGN CHOICE, log entry 60). -/
def Plant.bundleApply (p : Plant) (q : Requester) (v : Nat) : Plant × Reason :=
  let d := p.dev
  if v ≠ 1 then (p, .badValue)
  else if !d.stageFree q ∨ d.rd Reg.boot_status ≠ 4 then (p, .busy)
  else if d.rd Reg.bundle_owner = 0 then (p, .wrongState)
  else
    match p.verifyBundle with
    | (0, _) => (p.onDev (fun x => { (x.wr Reg.bundle_apply 3) with bundleSender := ownerCode q, bundleReply := none }), .ok)
    | (e, n) => (p.onDev (fun x => x.bundleEnd e n (bundleReason e)), .bundleRejected)

/-! ### The checks of a write and of a read -/

/-- What the environment adds to a write: the Owl applies the configuration before a release; how far the programming of fuses
came when VDD_FUSE left its range, and whether their read-back differs. -/
structure WriteEnv where
  boot : Bool
  part : Option Nat
  misread : Bool
  deriving DecidableEq, Repr

/-- A plain write. -/
def WriteEnv.plain : WriteEnv := ⟨false, none, false⟩

/-- Whether a requester acts before the release, as the Owl's own configuration does. -/
def Requester.internal : Requester → Bool
  | .bundle | .owl => true
  | _ => false

/-- The checks of a write that do not depend on its value, in their order. With the Owl down a write of bundle_apply still comes to its
verification, which rejects the bundle (R83). -/
def Plant.writeCheck (p : Plant) (q : Requester) (e : WriteEnv) (o : Obj) : Reason :=
  let l := p.letter q o.at'
  let i := match o.at' with | .side _ k => k / 256 | .dev k => k / 256
  if !inSet l o.row.wr then (if l = 2 ∧ inSet Req.B o.row.wr = true then .signedOnly else .noWrite)
  else
    match o.at'.owner with
    | some s =>
      let c := (p.side s).r
      if l = 1 ∧ reqSide q ≠ some s then .foreignSide
      else if !e.boot && (c.noAccess || (p.dev.joined && decide (s = .a) && mirrored i (o.at'.key % 256) && p.b.r.noAccess)) then
        .sideUnavailable
      else if p.dev.joined && decide (s = .b) && mirrored i (o.at'.key % 256) then .mirrored
      else if c.absentObject i then .absentUnit
      else if c.memberObject i then .groupMember
      else if !e.boot && decide (q ≠ .bundle) && p.dev.bundleNames o then .busy
      else .ok
    | none =>
      let absent := match o.at' with | .side s k => (p.side s).r.absentObject (k / 256) | .dev _ => false
      if !q.internal && p.dev.early then .busy
      else if p.dev.owlDown && (decide (l = 2) || decide (l = 4)) && !e.boot && decide (o.at' ≠ .dev Reg.bundle_apply) then .owlUnavailable
      else if absent then .absentUnit
      else if !e.boot && decide (q ≠ .bundle) && p.dev.bundleNames o then .busy
      else .ok

/-- The checks of a read. -/
def Plant.readCheck (p : Plant) (q : Requester) (o : Obj) : Reason :=
  if !inSet (p.letter q o.at') o.row.rd then .noRead
  else
    match o.at'.owner with
    | some s => if (p.side s).r.noAccess then .sideUnavailable else .ok
    | none => if !q.internal && p.dev.early then .busy else .ok

/-! ### Objects of the device level -/

/-- aperture_object (R62, R63): a DOMAIN of the function's write set, or 0. -/
def Plant.bindAperture (p : Plant) (k v : Nat) : Plant × Reason :=
  let put := p.onDev (fun d => d.wr k v)
  if v = 0 then (put, .ok)
  else match findObj (bits v 31 16) (bits v 15 8) with
    | none => (p, .badValue)
    | some o =>
      if o.row.ty ≠ .domain then (p, .badValue)
      else if !inSet Req.H o.row.wr then (p, .noWrite)
      else (put, .ok)

/-- device_mode (R19 to R22): once, before a side is released. -/
def Plant.modeWrite (p : Plant) (v : Nat) : Plant × Reason :=
  if p.dev.modeWritten || p.a.r.released || p.b.r.released then (p, .onceWritten)
  else (p.onDev (fun d => { (d.wr Reg.device_mode v).wr Reg.mode_status (if v = 1 then 2 else 0) with modeWritten := true }), .ok)

/-- recovery_apply (R581): 1 boots from the staged image, 2 also programs it. -/
def Plant.recoveryApply (p : Plant) (v : Nat) : Plant × Reason :=
  if v ≠ 1 ∧ v ≠ 2 then (p, .badValue)
  else if p.dev.rd Reg.boot_status ≠ 5 then (p, .wrongState)
  else (p.onDev (fun d =>
    { ((d.wr Reg.recovery_apply 1).wr Reg.boot_status 6) with bootSource := 2, programming := decide (v = 2), bootPhase := 0 }), .ok)

/-- A device-level change that answers a reason. -/
def Plant.devWrite (p : Plant) (f : Dev → Dev × Reason) : Plant × Reason := (p.onDev (fun d => (f d).1), (f p.dev).2)

/-- A value that its row admits, written to a device-level object. -/
def Plant.writeDev (p : Plant) (q : Requester) (e : WriteEnv) (r : ObjRow) (k v : Nat) : Plant × Reason :=
  let put : Plant × Reason := (p.onDev (fun d => d.wrWide k r.ty.slots v), .ok)
  if k = Reg.device_mode then p.modeWrite v
  else if 0x1320 ≤ k / 256 ∧ k / 256 < 0x1340 ∧ k % 256 = 1 then p.bindAperture k v
  else if k = Reg.bundle_apply then p.bundleApply q v
  else if k = Reg.device_fault_clear then p.devWrite (fun d => d.faultClear v)
  else if k = Reg.device_event_ack then p.deviceEventAck v
  else if k = Reg.device_ffr_clear then p.devWrite (fun d => d.ffrClear v)
  else if k = Reg.avs_margin_low ∧ p.dev.rd Reg.avs_margin_high ≤ v then (p, .badValue)
  else if k = Reg.avs_margin_high ∧ v ≤ p.dev.rd Reg.avs_margin_low then (p, .badValue)
  else if k = Reg.version_commit then p.devWrite (fun d => d.versionCommit v e.part)
  else if k = Reg.attest_nonce then p.devWrite (fun d => d.attestNonce q v)
  else if k = Reg.attest_request then p.attestRequest q v
  else if k = Reg.recovery_apply then p.recoveryApply v
  else if k = Reg.mbist_cmd then p.mbistCmd false v
  else if k = Reg.repair_program then p.devWrite (fun d => d.repairProgram v e.part e.misread)
  else put

/-! ### Objects of a side -/

/-- What the hooks of a side need from the device. -/
def Plant.hookEnv (p : Plant) (s : SideId) : HookEnv :=
  { dp := p.devPending s, learn := p.learnEnv s,
    cross := p.dev.rd (match s with | .a => Reg.crossing_drops_ab | .b => Reg.crossing_drops_ba)
    pairLive := p.dev.pairLive s.num }

/-- The drop counter of a side's crossing is of the side's snapshot set, and clears with it (R506). -/
def Plant.clearCrossing (p : Plant) (s : SideId) : Plant :=
  p.onDev (fun d => d.wr (match s with | .a => Reg.crossing_drops_ab | .b => Reg.crossing_drops_ba) 0)

/-- A value that its row admits, written to an object that lies with a side; in Joined mode a mirrored object of side A is
written on both sides (R25), the probes apart (R204). -/
def Plant.writeSide (p : Plant) (s : SideId) (r : ObjRow) (k v : Nat) : Plant × Reason :=
  let i := k / 256
  if k = Reg.power_request then p.powerRequest s v
  else if k = Reg.side_reset then p.sideResetWrite s v
  else
    let env := p.hookEnv s
    let rev := p.dev.rd Reg.silicon_revision
    let f (c : Core) : Core × Reason := c.hook env r rev k v
    let x : Plant × Reason :=
      if p.dev.joined && decide (s = .a) && mirrored i (k % 256) && !(decide (0x308 ≤ i) && decide (i < 0x30C)) then
        p.both .a f (if k = Reg.epoch_flip then fun a c => (a.followFlip c, .ok) else fun _ c => f c)
      else (p.onCore s (fun c => (f c).1), (f (p.side s).r).2)
    -- a step of side A's time may bring its scheduled flip forward
    if s = .a ∧ 0x900 ≤ i ∧ i < 0xA00 then (x.1.flipFollow, x.2)
    else if k = Reg.counters_clear ∧ v = 1 ∧ x.2 = .ok then (x.1.clearCrossing s, .ok)
    else if k = Reg.pair_release ∧ x.2 = .ok then (x.1.onDev (fun d => d.endHolds s.num false), .ok)
    -- R651: the condition of source 14 holds while the core clock stays lowered
    else if k = Reg.core_pll_mhz ∧ x.2 = .ok ∧ (p.side s).r.rd k < v then (x.1.onDev (fun d => { d with avsLowered := false }), .ok)
    else x

/-- A write of an object answered: R573 counts an accepted H write to an object that B may write, other than a counter clear. -/
def Plant.noteHostWrite (p : Plant) (q : Requester) (o : Obj) (r : Plant × Reason) : Plant × Reason :=
  if r.2 = .ok ∧ p.letter q o.at' = 1 ∧ inSet Req.B o.row.wr = true ∧ o.row.chk ≠ .counter then
    (r.1.onDev (fun d => d.inc Reg.host_config_writes), .ok)
  else r

/-- A write of a whole value to an object (R10 to R12, R49, R52). -/
def Plant.writeObject (p : Plant) (q : Requester) (e : WriteEnv) (o : Obj) (v : Nat) : Plant × Reason :=
  match p.writeCheck q e o with
  | .ok =>
    if o.row.ty = .domain then (p, .badLength)
    else match o.row.accept v with
      | none => (p, .badValue)
      | some x =>
        p.noteHostWrite q o (match o.at' with
          | .side s k => p.writeSide s o.row k x
          | .dev k => p.writeDev q e o.row k x)
  | why => (p, why)

/-! ### Window data (R60, R61) -/

/-- The cursor of a window. -/
def Plant.winCursor (p : Plant) : Option SideId × Nat → Nat
  | (some s, w) => (p.side s).r.rd (256 * w + 4)
  | (none, w) => p.dev.rd (256 * w + 4)
def Plant.setCursor (p : Plant) (x : Option SideId × Nat) (n : Nat) : Plant :=
  match x with
  | (some s, w) => p.onCore s (fun c => c.wr (256 * w + 4) n)
  | (none, w) => p.onDev (fun d => d.wr (256 * w + 4) n)

/-- One entry of a window read and written. -/
def Plant.readWin (p : Plant) (x : Option SideId × Nat) (e : Nat) : Plant × Except Reason Octets :=
  match x with
  | (some s, w) => p.readEntry s w e
  | (none, w) => (p, .ok (p.dev.readEntry w e))
def Plant.writeWin (p : Plant) (x : Option SideId × Nat) (e : Nat) (o : Octets) : Plant × Reason :=
  match x with
  | (some s, w) => p.writeEntry s w e o
  | (none, _) => let r := p.devWrite (fun d => d.writeEntry e o); (r.1.devLevel e, r.2)

/-- Entries written in order, each under the checks of its table; the first refusal ends the transfer. -/
def Plant.writeEntries (p : Plant) (x : Option SideId × Nat) (bytes first : Nat) : Nat → Octets → Plant × Reason
  | 0, _ => (p.setCursor x first, .ok)
  | n + 1, o =>
    let r := p.writeWin x first (o.take bytes)
    if r.2 = .ok then r.1.writeEntries x bytes (first + 1) n (o.drop bytes) else (r.1.setCursor x first, r.2)

/-- A transfer to window data from the cursor on. -/
def Plant.writeData (p : Plant) (x : Option SideId × Nat) (o : Octets) : Plant × Reason :=
  let z := p.winShape x
  let n := o.length / z.2
  let first := p.winCursor x
  if o.isEmpty ∨ o.length % z.2 ≠ 0 ∨ z.1 < first + n then (p, .badLength) else p.writeEntries x z.2 first n o

/-- Entries read in order: the octets of those before the first that is refused, and its reason. -/
def Plant.readEntries (p : Plant) (x : Option SideId × Nat) (first : Nat) : Nat → Plant × Octets × Reason
  | 0 => (p, [], .ok)
  | n + 1 =>
    match p.readWin x first with
    | (q, .error e) => (q, [], e)
    | (q, .ok o) => let r := q.readEntries x (first + 1) n; (r.1, o ++ r.2.1, r.2.2)

/-! ### The other DOMAIN objects -/

/-- How many octets of a DOMAIN can be reached by units: the staging buffers' room, else the content (R63, R81, R581). -/
def Plant.domainRoom (p : Plant) : Place → Nat
  | .side s k => (p.side s).r.shown k
  | .dev k => if k = Reg.bundle_stage then 262144 else if k = Reg.recovery_stage then 16777216 else p.dev.domainOctets k

/-- Octets of a DOMAIN that is no window. -/
def Plant.domainSlice (p : Plant) (x : Place) (off n : Nat) : Octets :=
  let d := p.dev
  padTo n (match x with
    | .side s k =>
      let lane := k / 256 - 0x3580
      slice ((List.range (n / 2 + 1)).flatMap (fun i => toBe 2 ((p.side s).r.tab wEye (2048 * lane + off / 2 + i)))) (off % 2) n
    | .dev k =>
      if k = Reg.bundle_stage then slice d.stage off n
      else if k = Reg.recovery_stage then p.a.spm.readBytes off n
      else if k = Reg.identity_pubkey then slice d.pubkey off n
      else if k = Reg.identity_cert then slice d.cert off n
      else if k = Reg.attest_report then slice d.attestReport off n
      else if k = Reg.mbist_result then
        slice ((List.range (n / 4 + 2)).flatMap (fun i => toBe 4 (SMap.getD d.mbistRes (off / 4 + i) mbistNone))) (off % 4) n
      else [])

/-- Octets written to a DOMAIN that is no window (R82, R581). -/
def Plant.domainPut (p : Plant) (q : Requester) (x : Place) (off : Nat) (o : Octets) : Plant × Reason :=
  match x with
  | .side _ _ => (p, .noWrite)
  | .dev k =>
    if k = Reg.bundle_stage then
      (if 262144 < off + o.length then (p, .badLength)
       else if !p.dev.stageFree q then (p, .busy)
       else (p.onDev (fun d => d.stagePut q off o), .ok))
    else if k = Reg.recovery_stage then
      (if 16777216 < off + o.length then (p, .badLength)
       else if p.dev.rd Reg.boot_status ≠ 5 then (p, .wrongState)
       else
         let r : Plant := p.onSide .a (fun d => (d.spmBurst 12 off o).1)
         (r.onDev (fun d => { d with stagedLen := max d.stagedLen (off + o.length) }), .ok))
    else (p, .noWrite)

end Sys2Proof.Machine
end

