-- ==== Sys2Proof/Machine/Slots.lean ====
section
/-! DEFINITION. Slots.lean: accesses through slots: the pending-write and snapshot buffers of functions and cores, refusal records,
apertures and function pages (R53 to R63, R392, R452, R453). -/

namespace Sys2Proof.Machine

/-- The number of a requester's buffers and record: the physical functions, the virtual functions, the cores; what has none. -/
def Requester.num : Requester → Nat
  | .pf s => s.num
  | .vf s n => 2 + 64 * s.num + n.val
  | .core s c _ => 130 + 8 * s.num + c.val
  | .field s => 146 + s.num
  | .inband s => 148 + s.num
  | .bundle => 150
  | .owl => 151

/-- The side whose outputs carry an answer to a requester. -/
def Requester.outSide (q : Requester) : SideId := (reqSide q).getD .a

/-! ### Refusal records (R59, R392, R452) -/

/-- A record after a refusal: the access, and the count, which stays at 0xFFFFFF. -/
def refusalRecord (old index sub : Nat) (why : Reason) (write : Bool) : Nat :=
  index % 2 ^ 16 * 2 ^ 48 + sub % 2 ^ 8 * 2 ^ 40 + why.code * 2 ^ 32 + b2n write * 2 ^ 31 + min 0xFFFFFF (old % 2 ^ 24 + 1)

/-- Whether a record's count reaches all ones with the next refusal (R488). -/
def lastRefusal (old : Nat) : Bool := decide (old % 2 ^ 24 = 0xFFFFFE)

/-- A refusal recorded in a record of the side's part, and in one of the device-level part. -/
def Core.refusal (c : Core) (k index sub : Nat) (why : Reason) (write : Bool) : Core :=
  let c1 := c.wr k (refusalRecord (c.rd k) index sub why write)
  if lastRefusal (c.rd k) then c1.saturated k else c1
def Dev.refusal (d : Dev) (k index sub : Nat) (why : Reason) (write : Bool) : Dev :=
  let d1 := d.wr k (refusalRecord (d.rd k) index sub why write)
  if lastRefusal (d.rd k) then d1.report 20 3 (k / 256 * 2 ^ 16 + k % 256 * 2 ^ 8) else d1

/-- A refusal recorded for the requester that has a record. -/
def Plant.refuse (p : Plant) (q : Requester) (index sub : Nat) (why : Reason) (write : Bool) : Plant :=
  match q with
  | .pf s => p.onDev (fun d => d.refusal (match s with | .a => Reg.refusal_record_pf0 | .b => Reg.refusal_record_pf1) index sub why write)
  | .vf s n => p.onCore s (fun c => c.refusal (Reg.vf_refusal_record n.val) index sub why write)
  | .core s k _ => p.onCore s (fun c => c.refusal (Reg.refusal_record k.val) index sub why write)
  | _ => p

/-- The outcome of a write: a refusal is recorded. -/
def Plant.settleWrite (q : Requester) (index sub : Nat) (r : Plant × Reason) : Plant :=
  if r.2 = .ok then r.1 else r.1.refuse q index sub r.2 true

/-- The routing ID of a function (R450): the VFs of PF0 start at 2, those of PF1 at 65. -/
def routingId (s : SideId) (fn : Nat) : Nat :=
  if fn = 0 then s.num else match s with | .a => fn + 1 | .b => fn + 64

/-- Whether a function answers requests: in D0, and a virtual one where VF Enable and NumVFs make it (R450; PRESUMED: PCI Express, log
entry 71). -/
def Core.answers (c : Core) (fn : Nat) : Bool :=
  !(c.pfn fn).d3hot && (decide (fn = 0) || ((c.pfn 0).vfEnable && decide (fn ≤ (c.pfn 0).numVfs)))

/-- Whether a requester's accesses come over the PCIe link, and whether they reach the device: with the link up, from a core that runs
(R17, R395, R627). -/
def Requester.overLink : Requester → Bool
  | .pf _ => true
  | .vf _ _ => true
  | _ => false
def Plant.hears (p : Plant) (q : Requester) : Bool :=
  !p.dev.porst && (!q.overLink || p.dev.linkUp) && (match q with
    | .core s k _ => (p.side s).r.coreIssues k
    | .pf s => (p.side s).r.answers 0
    | .vf s n => (p.side s).r.answers n.val
    | _ => true)

/-- The pending write of a requester emptied. -/
def Plant.drop (p : Plant) (q : Requester) : Plant := { p with dev := { p.dev with pend := SMap.erase p.dev.pend q.num } }

/-- A partial write of something else is discarded and recorded; the record names the object's first slot (R57; DESIGN CHOICE, log
entry 59). -/
def Plant.abandoned (p : Plant) (q : Requester) (old : PendWrite) : Plant :=
  p.refuse q (old.obj / 256) (old.obj % 256) .partialAbandoned true

/-- Before a whole write of object `id`: a partial write that the requester still holds gives way (R57). -/
def Plant.giveWay (p : Plant) (q : Requester) (id : Nat) : Plant :=
  match SMap.find? p.dev.pend q.num with
  | none => p
  | some old => (if old.obj = id ∧ old.aperture = 0 then p else p.abandoned q old).drop q

/-- A whole value written by a command that names its object: its refusal is recorded. -/
def Plant.commandWrite (p : Plant) (q : Requester) (e : WriteEnv) (x : Place) (v : Nat) : Plant :=
  if !p.hears q then p
  else match findObj x.index x.sub with
    | none => p
    | some o => Plant.settleWrite q x.index x.sub ((p.giveWay q (256 * o.at'.index + o.at'.sub)).writeObject q e o v)

/-- The same, of a side's object and of a device-level one. -/
def Plant.sideWrite (p : Plant) (q : Requester) (s : SideId) (k v : Nat) : Plant := p.commandWrite q WriteEnv.plain (.side s k) v
def Plant.deviceWrite (p : Plant) (q : Requester) (k v : Nat) : Plant := p.commandWrite q WriteEnv.plain (.dev k) v

/-! ### Pending writes (R56, R57, R63) -/

/-- The halves that an access of a slot covers: part 0 the low half, 1 the high half, 2 the whole slot. -/
def halvesOf (m part v : Nat) : List (Nat × Nat) :=
  match part with
  | 0 => [(2 * m, v % 2 ^ 32)]
  | 1 => [(2 * m + 1, v % 2 ^ 32)]
  | _ => [(2 * m, v % 2 ^ 32), (2 * m + 1, v / 2 ^ 32 % 2 ^ 32)]

/-- A value of `n` slots with the halves written so far in place of the stored ones. -/
def mergeHalves (stored n : Nat) (h : SMap Nat) : Nat :=
  (List.range (2 * n)).foldl (fun a i => a + (SMap.getD h i (stored / 2 ^ (32 * i) % 2 ^ 32)) * 2 ^ (32 * i)) 0

/-- What a pending write stands for: an object, or an aperture's entry. -/
def PendWrite.same (a b : PendWrite) : Bool := decide (a.obj = b.obj) && decide (a.aperture = b.aperture) && decide (a.entry = b.entry)

/-- Halves held in the requester's buffer; a partial write of something else is abandoned and recorded (R57). -/
def Plant.hold (p : Plant) (q : Requester) (w : PendWrite) (h : List (Nat × Nat)) : Plant :=
  let start (r : Plant) (base : SMap Nat) : Plant :=
    { r with dev := { r.dev with
        pend := SMap.insert r.dev.pend q.num { w with halves := h.foldl (fun a x => SMap.insert a x.1 x.2) base } } }
  match SMap.find? p.dev.pend q.num with
  | none => start p []
  | some old =>
    if old.same w then start p old.halves
    else start (p.abandoned q old) []

/-- The buffer's halves, and the buffer empty. -/
def Plant.heldHalves (p : Plant) (q : Requester) : SMap Nat :=
  match SMap.find? p.dev.pend q.num with
  | none => []
  | some w => w.halves

/-- An access reaches an object through a virtual function only in its page: the status and configuration of its vport (R452). -/
def Requester.reaches (q : Requester) (index : Nat) : Bool :=
  match q with
  | .vf s n => decide (index = 0x6080 + 64 * s.num + n.val) || decide (index = 0x6000 + 64 * s.num + n.val)
  | _ => true

/-- Whether a requester writes through slots and so holds partial writes. -/
def Requester.slotted : Requester → Bool
  | .pf _ => true
  | .vf _ _ => true
  | .core _ _ _ => true
  | _ => false

/-- OBJECT_WRITE (R54, R56, R57, R392, R452): a slot written in part 0 (low half), 1 (high half) or 2 (whole); another size or
alignment is refused. A requester without slots writes the whole value. -/
def Plant.objectWrite (p : Plant) (q : Requester) (index sub part v : Nat) : Plant :=
  if p.dev.porst ∨ q.reaches index = false then p
  else if !q.slotted then
    (match findObj index sub with
     | none => p
     | some o => Plant.settleWrite q index sub (p.writeObject q WriteEnv.plain o v))
  else if 2 < part then (match q with | .vf _ _ => p | _ => p.refuse q index sub .badLength true)
  else match placeOf index sub, findObj index sub with
    | some x, some o =>
      let m := o.row.slotOf x.key
      let p1 := p.hold q ⟨256 * o.at'.index + o.at'.sub, 0, 0, []⟩ (halvesOf m part v)
      if m + 1 = o.row.ty.slots ∧ part ≠ 0 then
        let whole := mergeHalves (p1.objShown o) o.row.ty.slots (p1.heldHalves q)
        Plant.settleWrite q index sub ((p1.drop q).writeObject q WriteEnv.plain o whole)
      else p1
    | _, _ => p.refuse q index sub .noObject true

/-! ### Apertures (R62, R63) -/

/-- What entry `k` of an aperture maps: the DOMAIN, its window if it is one, the entry's number and its octets; none when the
aperture is unbound or the access lies beyond the DOMAIN's end or the aperture's 16 MiB, or in the padding between the entry's last
slot and the stride (R63; of the padding DESIGN CHOICE, log entry 59). -/
def Plant.apertureAt (p : Plant) (s : SideId) (a k m : Nat) : Option (Obj × Option (Option SideId × Nat) × Nat × Nat) :=
  let ob := p.dev.rd (Reg.aperture_object (16 * s.num + a))
  let e := p.dev.rd (Reg.aperture_base (16 * s.num + a)) + k
  if ob = 0 then none
  else match findObj (bits ob 31 16) (bits ob 15 8) with
    | none => none
    | some o =>
      let w := o.at'.window
      let n := match w with | some x => (p.winShape x).1 | none => ceilDiv (p.domainRoom o.at') 8
      let z := match w with | some x => (p.winShape x).2 | none => 8
      if n ≤ e ∨ ceilDiv z 8 ≤ m ∨ 2 ^ 24 < k * strideOf z + 8 * m + 8 then none else some (o, w, e, z)

/-- An entry as an aperture reads it. -/
def Plant.apertureRead (p : Plant) (q : Requester) (o : Obj) (w : Option (Option SideId × Nat)) (e : Nat) : Plant × Except Reason Octets :=
  match w with
  | some x => p.readWin x e
  | none =>
    let v := p.domainSlice o.at' (8 * e) 8
    (if o.at' = .dev Reg.attest_report then p.onDev (fun d => d.attestRead q e 1) else p, .ok v)

/-- The buffer of entry `e` of a DOMAIN (R63): with the entry in place of the object, by whatever aperture it is reached. -/
def entryWrite (o : Obj) (e : Nat) : PendWrite := ⟨256 * o.at'.index + o.at'.sub, 1, e, []⟩

/-- APERTURE_ENTRY_WRITE (R63): slot `m` of entry `k` of an aperture of a physical function; the high half of the last slot
writes the entry. -/
def Plant.apertureWrite (p : Plant) (s : SideId) (a k m part v : Nat) : Plant :=
  let q : Requester := .pf s
  let ob := p.dev.rd (Reg.aperture_object (16 * s.num + a))
  let index := bits ob 31 16
  let sub := bits ob 15 8
  if p.dev.porst then p
  else if 2 < part then p.refuse q index sub .badLength true
  else match p.apertureAt s a k m with
    | none => p.refuse q index sub .noObject true
    | some (o, w, e, z) =>
      let n := ceilDiv z 8
      let p1 := p.hold q (entryWrite o e) (halvesOf m part v)
      if m + 1 = n ∧ part ≠ 0 then
        let h := p1.heldHalves q
        let p2 := p1.drop q
        match p2.writeCheck q WriteEnv.plain o with
        | .ok =>
          -- halves that were not written take their stored values
          let all := (List.range (2 * n)).all (fun i => (SMap.find? h i).isSome)
          let old := if all then (p2, Except.ok []) else p2.apertureRead q o w e
          (match old.2 with
           | .error why => old.1.refuse q index sub why true
           | .ok r =>
             let rec' := toLe z (mergeHalves (leNat r) n h)
             Plant.settleWrite q index sub (old.1.noteHostWrite q o (match w with
               | some x => old.1.writeWin x e rec'
               | none => old.1.domainPut q o.at' (8 * e) rec')))
        | why => p2.refuse q index sub why true
      else p1

/-! ### Reads (R54, R58, R453) -/

/-- The part of a slot that a read returns. -/
def partOf (m part v : Nat) : Nat :=
  let x := v / 2 ^ (64 * m) % 2 ^ 64
  match part with
  | 0 => x % 2 ^ 32
  | 1 => x / 2 ^ 32
  | _ => x

/-- The answer to a read: a refusal is recorded and reads as all ones. -/
def Plant.answer (p : Plant) (q : Requester) (v : Option Nat) : Plant := p.onCore q.outSide (fun c => c.emit (.objRead q.num v))
def Plant.refuseRead (p : Plant) (q : Requester) (index sub : Nat) (why : Reason) : Plant :=
  (p.refuse q index sub why false).answer q none

/-- The snapshot that a read reuses (R58): `first` is a read of the low half of the lowest slot, which takes a fresh one. -/
def Plant.kept (p : Plant) (q : Requester) (obj aperture entry : Nat) (first : Bool) : Option SnapBuf :=
  match SMap.find? p.dev.snaps q.num with
  | some x => if !first && decide (x.obj = obj) && decide (x.aperture = aperture) && decide (x.entry = entry) then some x else none
  | none => none

/-- A fresh snapshot, and the answer from it. -/
def Plant.snapRead (p : Plant) (q : Requester) (b : SnapBuf) (m part : Nat) : Plant :=
  ({ p with dev := { p.dev with snaps := SMap.insert p.dev.snaps q.num b } } : Plant).answer q (some (partOf m part b.value))

/-- What a slot read takes as one object: its name, the slot's place in it, its value. The cell terms of R316 are read from one
snapshot (R320). -/
def Plant.readUnit (p : Plant) (o : Obj) (x : Place) : Nat × Nat × Nat :=
  let id := 256 * o.at'.index + o.at'.sub
  match x with
  | .side s k =>
    if Reg.cells_free ≤ k ∧ k ≤ Reg.cells_held then
      (id - (k - Reg.cells_free), k - Reg.cells_free,
        (List.range 4).foldl (fun a n => a + (p.side s).r.shown (Reg.cells_free + n) * 2 ^ (64 * n)) 0)
    else (id, o.row.slotOf k, p.objShown o)
  | .dev k => (id, o.row.slotOf k, p.objShown o)

/-- A slot read. -/
def Plant.slotReadAt (p : Plant) (q : Requester) (index sub part : Nat) : Plant :=
  match placeOf index sub, findObj index sub with
  | some x, some o =>
    (match p.readCheck q o with
     | .ok =>
       let u := p.readUnit o x
       (match p.kept q u.1 0 0 (decide (u.2.1 = 0) && decide (part ≠ 1)) with
        | some b => p.answer q (some (partOf u.2.1 part b.value))
        | none => p.snapRead q ⟨u.1, 0, 0, u.2.2⟩ u.2.1 part)
     | why => p.refuseRead q index sub why)
  | _, _ => p.refuseRead q index sub .noObject

/-- An aperture's slot read. -/
def Plant.apertureReadAt (p : Plant) (s : SideId) (a k m part : Nat) : Plant :=
  let q : Requester := .pf s
  let ob := p.dev.rd (Reg.aperture_object (16 * s.num + a))
  let index := bits ob 31 16
  let sub := bits ob 15 8
  match p.apertureAt s a k m with
  | none => p.refuseRead q index sub .noObject
  | some (o, w, e, _) =>
    match p.readCheck q o with
    | .ok =>
      (match p.kept q (256 * o.at'.index + o.at'.sub) 1 e (decide (m = 0) && decide (part ≠ 1)) with
       | some b => p.answer q (some (partOf m part b.value))
       | none =>
         match p.apertureRead q o w e with
         | (r, .error why) => r.refuseRead q index sub why
         | (r, .ok v) => r.snapRead q ⟨256 * o.at'.index + o.at'.sub, 1, e, leNat v⟩ m part)
    | why => p.refuseRead q index sub why

/-- The function behind a page: the vport it serves, and how many vectors it has. -/
def Requester.pageOf : Requester → Option (SideId × Nat × Nat)
  | .pf s => some (s, 0, 64)
  | .vf s n => some (s, n.val, 4)
  | _ => none

/-- The object of a doorbell (R452). -/
def doorbellSub (off : Nat) : Option Nat :=
  match off with
  | 0x00 => some 0x10
  | 0x08 => some 0x12
  | 0x10 => some 0x15
  | 0x18 => some 0x17
  | 0x20 => some 0x19
  | _ => none

/-- A function page read (R452). A virtual function's MSI-X table and pending bits are refused while the side is unavailable (R458); the
record of that refusal names no object (DESIGN CHOICE, log entry 71). -/
def Plant.pageReadAt (p : Plant) (q : Requester) (off part : Nat) : Plant :=
  match q.pageOf with
  | none => p.answer q none
  | some (s, fn, vecs) =>
    let c := (p.side s).r
    let f := c.pfn fn
    if off < 0x28 then
      (match doorbellSub off, part with
       | some sub, 2 => p.slotReadAt q (0x6080 + 64 * s.num + fn) sub 2
       | _, _ => p.answer q none)
    else if 0x2000 ≤ off ∧ off < 0x4000 ∧ fn ≠ 0 ∧ c.noAccess = true then p.refuseRead q 0 0 .sideUnavailable
    else if 0x2000 ≤ off ∧ off < 0x2000 + 16 * vecs ∧ part ≤ 2 then
      let w := (off - 0x2000) / 4
      let word (i : Nat) : Nat := SMap.getD f.table i (if i % 4 = 3 then 1 else 0)
      p.answer q (some (if part = 2 then word w + word (w + 1) * 2 ^ 32 else word w))
    else if off = 0x3000 ∧ part = 2 then p.answer q (some f.pend)
    else if 0x8000 ≤ off ∧ off < 0x8800 ∧ part ≤ 2 ∧ fn ≠ 0 then
      p.slotReadAt q (0x6080 + 64 * s.num + fn) ((off - 0x8000) / 8) part
    else if 0x8800 ≤ off ∧ off < 0x9000 ∧ part ≤ 2 ∧ fn ≠ 0 then
      p.slotReadAt q (0x6000 + 64 * s.num + fn) ((off - 0x8800) / 8) part
    else p.answer q none

/-- OBJECT_READ (R54, R58, R392, R452, R453). -/
def Plant.objectRead (p : Plant) (q : Requester) (x : ReadAddr) (part : Nat) : Plant :=
  if p.dev.porst then p
  else match x with
    | .slot index sub =>
      if q.reaches index = false then p.answer q none
      else if 2 < part then (match q with | .vf _ _ => p.answer q none | _ => p.refuseRead q index sub .badLength)
      else p.slotReadAt q index sub part
    | .aperture a k m =>
      (match q with
       | .pf s =>
         if 2 < part then
           (let ob := p.dev.rd (Reg.aperture_object (16 * s.num + a))
            p.refuseRead q (bits ob 31 16) (bits ob 15 8) .badLength)
         else p.apertureReadAt s a k m part
       | _ => p.answer q none)
    | .page off => p.pageReadAt q off part

end Sys2Proof.Machine
end

