-- ==== Sys2Proof/Machine/Boot.lean ====
section
/-! DEFINITION. Boot.lean: applying records (R84, R570, R576), PORST_N, the boot from it to the released sides and the deferred work
(R574 to R587, R622, R627), and the release after a side's reset or Burrow (R554, R578, R582, R628). -/

namespace Sys2Proof.Machine

/-! ### Records applied (R84, R576) -/

/-- A record applied by the Owl, as requester B; `boot` before the release. -/
def Plant.applyRecord (p : Plant) (boot : Bool) (r : Record) : Plant × Reason :=
  let e : WriteEnv := ⟨boot, none, false⟩
  match findObj r.index r.sub with
  | none => (p, .noObject)
  | some o =>
    match o.row.ty.octetCount with
    | some _ => p.writeObject .bundle e o (o.row.ty.decode r.data)
    | none =>
      match p.writeCheck .bundle e o, o.at'.window with
      | .ok, some w =>
        -- a refused entry refuses the record as a whole (R61)
        let x := p.writeData w r.data
        if x.2 = .ok then x else (p, x.2)
      | .ok, none => (p, .badLength)
      | why, _ => (p, why)

/-- Records applied in order, up to the first that is refused: its number and reason. -/
def Plant.applyRecords (p : Plant) (boot : Bool) (n : Nat) : List Record → Plant × Option (Nat × Reason)
  | [] => (p, none)
  | r :: l =>
    let x := p.applyRecord boot r
    if x.2 = .ok then x.1.applyRecords boot (n + 1) l else (x.1, some (n, x.2))

/-- Records applied in order, the refused ones left out: the deferred part (R577); `boot` where they need no released side. -/
def Plant.applyEach (p : Plant) (boot : Bool) (l : List Record) : Plant := l.foldl (fun (a : Plant) r => (a.applyRecord boot r).1) p

/-- A bundle applied: its sequence persisted, its records in order, or rolled back (R84). An Owl that fails before leaves bundle_apply at
3, without an answer (DESIGN CHOICE, log entry 60). -/
def Plant.bundleComplete (p : Plant) : Plant :=
  if p.dev.rd Reg.bundle_apply ≠ 3 ∨ p.dev.owlDown = true then p
  else
    let seq := p.dev.bundleSequence
    let h := p.dev.bundleHash
    match p.dev.persistSequence seq with
    | none => p.onDev (fun d => d.bundleEnd 0x11 0 Reason.bundleRejected.code)
    | some d1 =>
      let q : Plant := { p with dev := d1 }
      match q.applyRecords false 0 d1.bundleRecords with
      | (_, some (n, why)) => q.onDev (fun d => d.bundleEnd 0x0D n why.code)
      | (x, none) =>
        x.onDev (fun d => ((d.wr Reg.last_sequence seq).wrOctets Reg.config_measure
          (sha3_256 (d.rdOctets Reg.config_measure 32 ++ h))).bundleEnd 0 0 0)

/-! ### PORST_N (R619, R622, R627) -/

/-- PORST_ASSERT (R627): the whole device resets. The fuses and the flash keep their contents; what the board drives stays. -/
def Plant.porstAssert (p : Plant) : Plant :=
  let d := p.dev
  let keep (a : Dev) (k : Nat) : Dev := a.wr k (d.rd k)
  let d1 : Dev := { Dev.porst0 with
    fuses := d.fuses
    flash := d.flash
    free := d.free
    wakeLevel := d.wakeLevel
    perst := d.perst }
  let side (s : SideId) (x : Side) : Side :=
    let y := Side.porst s
    { y with r := { y.r with free := x.r.free, out := x.r.out } }
  { dev := keep (keep d1 Reg.aon_status) Reg.rail_status, a := side .a p.a, b := side .b p.b }

/-- The code that an uncorrectable fuse word fails both slots with (R585): identity_seed and the vendor keys, part_number and
silicon_revision; 0 for the others. -/
def fuseWordCode (w : Nat) : Nat :=
  if 10 ≤ w ∧ w ≤ 17 then 5 else if 20 ≤ w ∧ w ≤ 23 then 5 else if w = 7 then 4 else 0

/-- The objects that come from fuses (R47, R584). -/
def Dev.fuseObjects (d : Dev) : Dev :=
  let life := if d.fuse 479 472 = 2 then 219000 else 40000
  [(Reg.part_number, d.fuse 511 496), (Reg.silicon_revision, d.fuse 495 480), (Reg.grade, d.fuse 479 472),
   (Reg.ports_per_side, d.fuse 471 464), (Reg.cores_per_side, d.fuse 463 456), (Reg.pcie_vendor_id, d.fuse 455 440),
   (Reg.avs_fixed_mv, d.fuse 439 430), (Reg.vdd_core_mv, d.fuse 439 430),
   (Reg.device_serial, if d.lifecycle = 3 then 0 else d.fuse 623 560),
   (Reg.life_profile_hours, life), (Reg.life_projected_hours, 2 ^ 32 - 1)].foldl (fun (a : Dev) x => a.wr x.1 x.2) d

/-- PORST_RELEASE (R574 steps 1 and 2, R585, R619): the straps; fuses programmed and flash octets written before, in manufacture;
the fuse words in error, each with whether it is uncorrectable. -/
def Plant.porstRelease (p : Plant) (straps fuses : Nat) (flash : List (Nat × Octets)) (bad : List (Nat × Bool)) : Plant :=
  if !p.dev.porst then p
  else
    let d0 : Dev := flash.foldl (fun (a : Dev) x => a.flashWrite (x.1 % 2 ^ 27) x.2)
      { p.dev with porst := false, testMode := bitOf straps 14, fuses := p.dev.fuses ||| fuses % 2 ^ 2048 }
    let d1 := (d0.wr Reg.straps_sampled (straps % 2 ^ 15)).fuseObjects
    let d2 := bad.foldl (fun (a : Dev) x => a.report 19 (if x.2 then 2 else 1) x.1) d1
    let fail := bad.foldl (fun m x => if x.2 then max m (fuseWordCode x.1) else m) 0
    let d3 : Dev := { d2 with fuseFail := fail }
    let lanes := if d3.rd Reg.ports_per_side = 32 then 0xFFFFFFFF00000000 else 0
    let side (q : Plant) (s : SideId) : Plant := q.onCore s (fun c => ({ c with absentPorts := lanes } : Core).strapDefaults d3)
    side (side { p with dev := d3 } .a) .b

/-- RAIL_OUT_OF_RANGE (R622, R636): before the release the device only starts again with PORST_N. -/
def Plant.railOut (p : Plant) (k : Nat) : Plant :=
  p.onDev (fun d =>
    let e := d.railOut k
    { e with bootDead := e.bootDead || (!d.porst && decide (k < 8) && decide (d.bootPhase < 3)) })

/-- The Owl boots (R619, R622): PORST_N is high, TEST_MODE low, rails 0 to 7 in range. -/
def Dev.boots (d : Dev) : Bool :=
  !d.porst && !d.testMode && !d.bootDead && !d.owlDown && decide (d.rd Reg.rail_status % 256 = 255)

/-! ### A slot that fails (R580, R581) -/

/-- The slot in use fails with a code; both sides are reset, and the other slot, the recovery image or recovery follows. -/
def Plant.bootFail (p : Plant) (code : Nat) : Plant :=
  let d := p.dev
  let sides (q : Plant) (s : SideId) : Plant := q.onCore s (fun c => (c.emptied.wr Reg.power_state 7).strapDefaults d)
  let q := sides (sides p .a) .b
  let detail (lo : Nat) (x : Dev) : Dev :=
    ((x.wr Reg.boot_detail (putBits (x.rd Reg.boot_detail) (lo + 7) lo code)).wr Reg.device_mode 0).wr Reg.mode_status 0
  if d.bootSource = 2 then
    q.onDev (fun x => { ((detail 16 x).wr Reg.boot_status 5).wr Reg.recovery_apply 3 with bootPhase := 0, modeWritten := false })
  else
    let tried := d.bootTried ||| 2 ^ d.bootSource
    q.onDev (fun x =>
      let y : Dev := { detail (8 * d.bootSource) x with bootTried := tried, bootPhase := 0, modeWritten := false }
      if tried = 3 then (y.wr Reg.boot_status 5).report 16 2 (y.rd Reg.boot_detail % 2 ^ 16) else y)

/-- BOOT_SLOT_VERIFY (R574 steps 3 to 5, R571, R580): `flash` 1 when no header can be read, 2 when the slot cannot. -/
def Plant.bootVerify (p : Plant) (flash : Nat) : Plant :=
  let d := p.dev
  if !d.boots ∨ d.bootPhase ≠ 0 ∨ d.rd Reg.boot_status = 5 then p
  else
    let h := if flash = 1 then none else d.bootHeader
    let first := match h with | some x => octetAt x 11 % 2 | none => 0
    let slot := if d.bootSource = 2 then 2 else if d.bootTried = 0 then first else if bitOf d.bootTried 0 then 1 else 0
    let base := match h with | some x => slotOffset x slot | none => 0
    let q : Plant := p.onDev (fun x => { x.wr Reg.boot_status (if slot = 2 then 6 else 1) with bootSource := slot, bootBase := base })
    let code := if d.fuseFail ≠ 0 then d.fuseFail
      else if slot ≠ 2 ∧ h.isNone = true then 1
      else if slot ≠ 2 ∧ flash = 2 then 2
      else q.verifySlot
    if code ≠ 0 then q.bootFail code
    else
      let m := q.slotRead 0 (3924 + 64 * 32)
      q.onDev (fun x =>
        let y := (((x.wr Reg.boot_slot slot).wr Reg.security_version (octetAt m 14)).wrOctets Reg.fw_measure (fwMeasure m))
        let z : Dev := { [0, 1, 2, 3].foldl (fun (a : Dev) k => a.wrOctets (Reg.owner_key_hash k) (slice m (32 + 32 * k) 32)) y with
          manifest := m, bootPhase := 1 }
        if slot ≠ 2 ∧ d.bootTried ≠ 0 then z.report 16 1 (bits (z.rd Reg.boot_detail) (8 * (1 - slot) + 7) (8 * (1 - slot))) else z)

/-- FIRMWARE_START (R574 step 6): the Owl firmware is read, checked and run; the persistent state is read. -/
def Plant.firmwareStart (p : Plant) : Plant :=
  let d := p.dev
  if !d.boots ∨ d.bootPhase ≠ 1 then p
  else match (segmentsOf d.manifest).find? (fun x => decide (x.type = 1)) with
    | none => p
    | some x =>
      match p.readSegment x with
      | none => p.bootFail 9
      | some _ => p.onDev (fun y => { y.readPersistent with bootPhase := 2 })

/-- BOOT_FIRMWARE_TIMEOUT (R580): step 7 was not reached within 50 ms. -/
def Plant.firmwareTimeout (p : Plant) : Plant := if p.dev.boots && decide (p.dev.bootPhase = 2) then p.bootFail 11 else p

/-! ### The default configuration (R570, R575 to R577) -/

/-- The default configuration segment of the running manifest, when it matches its hash. -/
def Plant.configSegment (p : Plant) : Option Octets :=
  match (segmentsOf p.dev.manifest).find? (fun x => decide (x.type = 2)) with
  | none => none
  | some x => p.readSegment x

/-- Its early and deferred records; none when its header is not valid. -/
def configParts (o : Octets) : Option (List Record × List Record) :=
  let a := be32 o 4
  let b := be32 o 8
  if be32 o 0 = 0x49444331 ∧ a + b + 16 = o.length then some (recordsOf (slice o 16 a), recordsOf (slice o (16 + a) b)) else none

/-- The boot is a fast-start boot (R575). -/
def Dev.fastStart (d : Dev) : Bool := bitOf (octetAt d.manifest 15) 0

/-- An object that the early part of a fast-start boot must not name (R575): DRAM objects, dram_image, a pool in DRAM, core_run. -/
def fastExcluded (r : Record) : Bool :=
  match placeOf r.index r.sub with
  | some (.side _ k) =>
    let i := k / 256
    decide (0xC00 ≤ i ∧ i < 0xC10) || decide (i = wDram) || decide (k = Reg.core_run) ||
    (decide (0x711 ≤ i ∧ i < 0x718) && decide (k % 256 = 1) && decide (beNat r.data = 2))
  | _ => false

/-- A core_run record. -/
def coreRunRecord (r : Record) : Bool :=
  match placeOf r.index r.sub with
  | some (.side _ k) => decide (k = Reg.core_run)
  | _ => false

/-- A record for a side's own objects. -/
def recordOfSide (s : SideId) (r : Record) : Bool :=
  match placeOf r.index r.sub with
  | some x => decide (x.owner = some s)
  | none => false

/-- How a side's DRAM training ends (R577): no DRAM, a full training or a restored one, with the set points that fail. -/
def Core.bootTrain (c : Core) (restore : Bool) (fails : List (Nat × Nat × Nat)) : Core :=
  (((c.wr Reg.dram_train 1).wr Reg.dram_state 1).modDram (fun d => { d with trainKind := if restore then 2 else 1 })).trainDone fails

/-- dram_train_image of a side from the snapshot in use (R567, R577). -/
def Plant.snapImage (p : Plant) (s : SideId) : Option Octets :=
  match p.dev.snapshotInUse with
  | some (_, o) => some (slice o (256 + 32768 * s.num) 32768)
  | none => none

/-- A side's training by the Owl: it restores where the snapshot holds an image (R577, R628). -/
def Plant.trainSide (p : Plant) (s : SideId) (t : Option (Bool × List (Nat × Nat × Nat))) : Plant :=
  match t with
  | none => p
  | some (restore, fails) =>
    match restore, p.snapImage s with
    | true, some o =>
      p.onCore s (fun c =>
        let put : Core := (List.range 4096).foldl (fun (a : Core) e =>
          let x := beNat (slice o (8 * e) 8)
          if x = 0 then a else { a with tabs := SMap.insert a.tabs (tabKey wTrain e) x }) c
        put.bootTrain true fails)
    | _, _ => p.onCore s (fun c => c.bootTrain false fails)

/-- A core image written to its target (R569), in the scratchpad as master 12 (R407), none when its octets do not match its hash or do
not fit. -/
def Plant.loadImage (p : Plant) (x : Segment) : Option Plant :=
  match p.readSegment x with
  | none => none
  | some o =>
    let s := sideOf (x.type - 3)
    let a := x.load % 2 ^ 40
    let dram := decide (2 ^ 63 ≤ x.load)
    if (if dram then (p.side s).r.dramUsable else 2 ^ 24) < a + o.length then none
    else some (p.onSide s (fun d => if dram then { d with dram := d.dram.writeBytes a o } else (d.spmBurst 12 a o).1))

/-- The core images that `who` picks by their side and whether they are deferred, in table order: the device, and those that fail.
Each that fails keeps its side's cores from starting. -/
def Plant.loadImages (p : Plant) (who : SideId → Bool → Bool) : Plant × List (Nat × SideId) :=
  let l := segmentsOf p.dev.manifest
  (List.range l.length).foldl (fun (a : Plant × List (Nat × SideId)) i =>
    match l[i]? with
    | none => a
    | some x =>
      let s := sideOf (x.type - 3)
      if x.type < 3 ∨ who s x.deferred = false then a
      else match a.1.loadImage x with
        | some q => (q, a.2)
        | none => (a.1, a.2 ++ [(i, s)])) (p, [])

/-- core_run records, with the bits of a side whose image failed left at 0. -/
def Plant.startCores (p : Plant) (boot : Bool) (bad : List (Nat × SideId)) (l : List Record) : Plant :=
  l.foldl (fun (a : Plant) r =>
    if bad.any (fun x => recordOfSide x.2 r) then (a.applyRecord boot { r with data := [0] }).1 else (a.applyRecord boot r).1) p

/-! ### The release (R574 steps 7 to 10, R610) -/

/-- The identity key and its certificate (R585 to R587). -/
def Dev.identity (d : Dev) : Dev :=
  if d.lifecycle ≠ 1 ∧ d.lifecycle ≠ 2 then d
  else
    let pk := mldsaPublic (toBe 32 (d.fuse 1535 1280))
    let n := be32 (d.flashRead 0x10000 4) 0
    let cert := d.flashRead 0x10004 (min n 65532)
    let ok := decide (n ≤ 65532) && decide (Config.certKey cert = some pk)
    let d1 : Dev := { (d.wrOctets Reg.identity_key_hash (sha3_256 pk)).wr Reg.identity_status (if ok then 1 else 2) with pubkey := pk, cert := cert }
    if ok then d1 else d1.report 18 1 0

/-- A boot-time field test (R610): the parts that fail and the first failing unit. -/
def Core.bootTest (c : Core) (aon : Nat) (t : Nat × Nat) : Core :=
  if c.flag Reg.field_test_boot then (c.wr Reg.field_test_request 2).fieldDone aon t.1 t.2 else c

/-- The staged image programmed into slot 1, and first_slot 1 in both header copies (R581). -/
def Plant.programStaged (p : Plant) : Plant :=
  let d := p.dev
  let old := d.bootHeader.getD ([0x49, 0x42, 0x48, 0x31, 0, 1] ++ List.replicate 6 0 ++ toBe 4 0x80000 ++ toBe 4 0x02080000 ++
    List.replicate 12 0)
  let h := old.take 11 ++ [1] ++ old.drop 12
  let copy := h ++ sha3_256 h
  let image := p.a.spm.readBytes 0 d.stagedLen
  p.onDev (fun x => { ((((x.flashErase (slotOffset h 1) d.stagedLen).flashWrite (slotOffset h 1) image).flashWrite 0 copy).flashWrite
      0x1000 copy).wr Reg.boot_slot 1 with bootSource := 1, bootBase := slotOffset h 1 })

/-- SIDE_RELEASE (R574 steps 7 to 10, R575, R576, R580): how each side's training ends (without fast_start it runs before the
release), and what each side's boot-time field test finds. -/
def Plant.sideRelease (p : Plant) (ta tb : Option (Bool × List (Nat × Nat × Nat))) (fa fb : Nat × Nat) : Plant :=
  let d := p.dev
  if !d.boots ∨ d.bootPhase ≠ 2 then p
  else match p.configSegment with
    | none => p.bootFail 9
    | some o =>
      match configParts o with
      | none => p.bootFail 10
      | some (early, deferred) =>
        let fast := d.fastStart
        let list := if fast then early else early ++ deferred
        if (p.firstFault true 7 0 list).isSome || (fast && early.any fastExcluded) then p.bootFail 10
        else
          let p1 := p.onDev (fun x => ((x.wr Reg.boot_status 2).identity).wrOctets Reg.config_measure (sha3_256 o))
          let cores := list.filter coreRunRecord
          let step (q : Plant) (l : List Record) : Plant × Option (Nat × Reason) := q.applyRecords true 0 l
          let r1 := step p1 (early.filter (fun r => !coreRunRecord r))
          if r1.2.isSome then p1.bootFail 10
          else
            let q2 := if fast then r1.1 else (r1.1.trainSide .a ta).trainSide .b tb
            let r3 := if fast then (q2, none) else step q2 (deferred.filter (fun r => !coreRunRecord r))
            -- a fast-start boot leaves the deferred images for later (R569, R575)
            let imgs := r3.1.loadImages (fun _ later => !(fast && later))
            if r3.2.isSome then p1.bootFail 10
            else if !imgs.2.isEmpty then p1.bootFail 9
            else
              let r4 := step imgs.1 cores
              if r4.2.isSome then p1.bootFail 10
              else
                let q5 := if d.programming then r4.1.programStaged else r4.1
                let one (q : Plant) (s : SideId) (t : Nat × Nat) : Plant :=
                  q.onCore s (fun c =>
                    let c1 := if fast then c else c.bootTest q.dev.aon t
                    if c1.rd Reg.field_test_request = 4 then c1 else c1.release)
                let q6 := ((one (one q5 .a fa) .b fb).devLevels .a).devLevels .b
                q6.onDev (fun x =>
                  let y : Dev := { (x.pllStart.wr Reg.boot_status (if fast then 3 else 4)).wr Reg.release_time x.aon with bootPhase := 3, modeWritten := true }
                  if d.bootSource = 2 then y.wr Reg.recovery_apply 2 else y)

/-- DEFERRED_BOOT_COMPLETE (R577): training, the deferred records, the core images, core_run. -/
def Plant.deferredComplete (p : Plant) (ta tb : Option (Bool × List (Nat × Nat × Nat))) : Plant :=
  if p.dev.rd Reg.boot_status ≠ 3 ∨ p.dev.owlDown = true then p
  else
    let recs := match p.configSegment with
      | some o => (match configParts o with | some x => x.2 | none => [])
      | none => []
    let q := ((p.trainSide .a ta).trainSide .b tb).applyEach false (recs.filter (fun r => !coreRunRecord r))
    let imgs := q.loadImages (fun _ later => later)
    let q2 := imgs.1.onDev (fun d => imgs.2.foldl (fun (a : Dev) x => a.report 16 3 x.1) d)
    (q2.startCores false imgs.2 (recs.filter coreRunRecord)).onDev (fun d => d.wr Reg.boot_status 4)

/-! ### After a side's reset or Burrow (R554, R578, R582, R628) -/

/-- The sides at their defaults before the Owl re-applies side `s`'s part of the configuration. In Joined mode both are, as at a boot:
what the other side's records write on side `s` too reaches it, and the other side is put back with `Plant.keepOther` (R25, R578). -/
def Plant.reapplyBase (p : Plant) (s : SideId) : Plant :=
  if p.dev.joined then (p.sideDefaults s).sideDefaults s.other else p.sideDefaults s

/-- The records that belong to the configuration of side `s`: its own, and in Joined mode those that may be mirrored to it. -/
def Plant.reapplied (p : Plant) (s : SideId) (l : List Record) : List Record :=
  l.filter (fun r => !coreRunRecord r && (recordOfSide s r || (p.dev.joined && recordOfSide s.other r)))

/-- `q` with the other side as it is in `p`. -/
def Plant.keepOther (q p : Plant) (s : SideId) : Plant := q.setSide s.other (p.side s.other)

/-- The training of a side that the Owl re-applies: out of Burrow with burrow_dram it is restored (R554 step 5). -/
def Plant.reapplyTraining (p : Plant) (s : SideId) (t : Option (Bool × List (Nat × Nat × Nat))) : Option (Bool × List (Nat × Nat × Nat)) :=
  let c := (p.side s).r
  if c.rd Reg.power_state = 6 ∧ c.flag Reg.burrow_dram = true then t.map (fun x => (true, x.2)) else t

/-- The Owl re-applies a side's part of the configuration and releases the side; none when it must stay in reset, which source 16
reports. `t` is how its DRAM training ends. Out of Burrow all of it precedes the release (R554 steps 5 and 6); after a reset the deferred
records and the core images follow the release in the order of R577 (R628), the images checked before it (R578). -/
def Plant.reapply (p : Plant) (s : SideId) (t : Option (Bool × List (Nat × Nat × Nat))) : Option Plant :=
  if p.dev.rd Reg.boot_slot = 2 then none
  else match p.configSegment with
    | none => none
    | some o =>
      match configParts o with
      | none => none
      | some (early, deferred) =>
        let burrow := decide ((p.side s).r.rd Reg.power_state = 6)
        let fast := p.dev.fastStart
        let r1 := (p.reapplyBase s).applyRecords true 0 (p.reapplied s early)
        if r1.2.isSome then none
        else
          let q2 := r1.1.trainSide s (p.reapplyTraining s t)
          let rest (q : Plant) : Plant := q.applyEach true (p.reapplied s deferred)
          let images (q : Plant) : Plant × List (Nat × SideId) := q.loadImages (fun x _ => decide (x = s))
          let go (q : Plant) : Plant := (q.onCore s Core.release).devLevels s
          let cores := (((if fast then [] else early) ++ deferred).filter coreRunRecord).filter (recordOfSide s)
          if !(images q2).2.isEmpty then none
          else some (((if burrow then go (images (rest q2)).1 else (images (rest (go q2))).1).keepOther p s).startCores false [] cores)

/-- A side that stays in reset (R578, R582). -/
def Plant.heldInReset (p : Plant) (s : SideId) : Plant :=
  (p.onCore s (fun c => { c with inReset := true, released := false })).onDev (fun d => d.report 16 5 s.num)

/-- SIDE_RESET_RELEASE of one side (R556, R628, R629). -/
def Plant.resetRelease (p : Plant) (s : SideId) (t : Option (Bool × List (Nat × Nat × Nat))) : Plant :=
  let c := (p.side s).r
  if !c.inReset ∨ p.dev.porst = true ∨ p.dev.owlDown = true then p
  else if c.rd Reg.power_state = 5 then
    -- in Burrow the reset's end starts the exit (R629)
    (p.onDev (fun d => ({ d with vddOff := false } : Dev).pllStart)).onCore s (fun x => { (x.wr Reg.power_state 6) with inReset := false, entryStep := 3 })
  else if p.dev.bootPhase < 3 then p.onCore s (fun x => { x with inReset := false })
  else match p.reapply s t with
    | none => p.heldInReset s
    | some q => q.onDev Dev.pllStart

/-- SIDE_RESET_RELEASE (R22, R628): in Joined mode both sides; `t` and `o` are how the training of the side and of the other ends. -/
def Plant.sideResetRelease (p : Plant) (s : SideId) (t o : Option (Bool × List (Nat × Nat × Nat))) : Plant :=
  let q := p.resetRelease s t
  if p.dev.joined then q.resetRelease s.other o else q

/-- BURROW_EXIT_COMPLETE (R554 steps 5 and 6): once the core rail is in range. -/
def Plant.burrowExitComplete (p : Plant) (s : SideId) (t : Option (Bool × List (Nat × Nat × Nat))) : Plant :=
  let c := (p.side s).r
  if c.rd Reg.power_state ≠ 6 ∨ c.entryStep ≠ 3 ∨ p.dev.owlDown = true ∨ bitOf (p.dev.rd Reg.rail_status) 0 = false then p
  else match p.reapply s t with
    | none => (p.heldInReset s).onCore s (fun x => x.wr Reg.power_state 7)
    | some q => q.onCore s (fun x =>
        let y := (x.wr Reg.side_reset_cause 4).powerReport 2
        if y.rd Reg.power_request = 1 then y.wr Reg.power_request 2 else y)

end Sys2Proof.Machine
end

