-- ==== Sys2Proof/Machine/Link.lean ====
section
/-! DEFINITION. Link.lean: the ledger audit (R318), the host link (R450 to R455), the crossing link's training, the field port's fault
confinement (R73) and the TAP (R601, R602). -/

namespace Sys2Proof.Machine

/-! ### The audit (R35, R318, R373) -/

/-- A report of the auditor. -/
def Core.auditReport (c : Core) (kind inst : Nat) : Core := c.report 346 kind (inst % 2 ^ 16)

/-- A bucket's identity, modulo 2^64. -/
def Bucket.balanced (b : Bucket) : Bool := decide (b.credited % 2 ^ 64 = (b.tokens + b.spent + b.discarded) % 2 ^ 64)

/-- The mismatches that an audit finds, each with its kind and instance. -/
def Core.auditFindings (c : Core) : List (Nat × Nat) :=
  let cells := c.rd Reg.cells_free + c.rd Reg.cells_queued + c.rd Reg.cells_in_fabric + c.rd Reg.cells_held
  let pool (q : Nat) : Bool := decide (c.poolFreeNow q + c.poolAllocatedNow q = c.poolSize q)
  let credits := c.creditsAtGroups + c.middles.length + (c.returnCredits c.slot).returning.length
  let granted (v : Nat) : Bool :=
    decide (c.creditsFree v + c.rd (Reg.credits_in_flight v) + c.rd (Reg.credits_unreturned v) = c.rd (Reg.dma_credits v))
  (if cells ≠ 196608 then [(1, 0)] else []) ++
  ((List.range 8).filter (fun q => !pool q)).map (fun q => (2, q)) ++
  (if credits ≠ 512 - 64 * popCount 8 (c.rd Reg.middles_degraded) then [(3, 0)] else []) ++
  ((c.created.filter (fun v => !granted v)).map (fun v => (4, v))) ++
  c.meters.flatMap (fun m => (if m.2.c.balanced then [] else [(5, 2 * m.1)]) ++ (if m.2.e.balanced then [] else [(5, 2 * m.1 + 1)])) ++
  (if c.mgmtMeter.c.balanced then [] else [(5, 0xFFFF)])

/-- LEDGER_AUDIT (R318): at the next multiple of 65,536 pipeline clocks. -/
def Core.ledgerAudit (c : Core) : Core :=
  let c1 := (c.advanceTo ((c.now / 65536 + 1) * 65536)).inc Reg.audit_passes
  c1.auditFindings.foldl (fun (a : Core) x => a.auditReport x.1 x.2) c1

/-! ### The host link (R450, R452, R454) -/

/-- The device ID of a function (R451). -/
def Core.pcieDeviceId (c : Core) (fn : Nat) : Nat :=
  if c.absentPorts = 0 then (if fn = 0 then 0x1280 else 0x128F) else if fn = 0 then 0x1264 else 0x126F

/-- The size of a BAR in bytes (R451), BAR0, BAR2 and BAR4 by 0, 1 and 2; 0 where the function has none. -/
def barBytes (fn i : Nat) : Nat :=
  if fn = 0 then (match i with | 0 => 2 ^ 26 | 1 => 2 ^ 28 | _ => 2 ^ 16) else if i = 0 then 2 ^ 16 else 0

/-- An uncorrectable error in the AER status of the function with routing ID `id`: bit 12 poisoned TLP, 14 completion timeout, 16
unexpected completion, 18 malformed TLP, 20 unsupported request (PRESUMED: PCI Express, log entry 71). -/
def Dev.aerSet (d : Dev) (id bit : Nat) : Dev := { d with aer := SMap.put d.aer id 0 (putBit (SMap.getD d.aer id 0) bit true) }

/-- An error that concerns no one function: it stands in both physical functions' status (PRESUMED: PCI Express, log entry
71). -/
def Dev.aerBoth (d : Dev) (bit : Nat) : Dev := (d.aerSet 0 bit).aerSet 1 bit

/-- PCIE_UNSUPPORTED_REQUEST: answered with UR. -/
def Plant.unsupportedRequest (p : Plant) (s : SideId) (fn : Nat) : Plant :=
  (p.onDev (fun d => (d.inc Reg.pcie_ur_sent).aerSet (routingId s fn) 20)).onCore s (fun c => c.emit (.cpl (routingId s fn) 1))

/-- PCIE_MALFORMED_TLP: an AER error is reported, from device source 13. -/
def Dev.malformedTlp (d : Dev) : Dev := ((d.inc Reg.pcie_malformed).aerBoth 18).report 13 3 0

/-- PCIE_POISONED_WRITE: an AER non-fatal error. -/
def Dev.poisonedWrite (d : Dev) : Dev := ((d.inc Reg.pcie_poisoned_rx).aerBoth 12).report 13 3 0

/-- PCIE_UNEXPECTED_CPL. -/
def Dev.unexpectedCpl (d : Dev) : Dev := (d.inc Reg.pcie_unexpected_cpl).aerBoth 16

/-- PCIE_CONFIG_WRITE of a field of the function itself. Without VF Enable the virtual functions lose their state; NumVFs stands while VF
Enable is 1 (PRESUMED: PCI Express, log entry 71); a BAR keeps the address bits above its size (R451). -/
def Core.configWrite (c : Core) (fn : Nat) (field : CfgField) (v : Nat) : Core :=
  let on := decide (v % 2 = 1)
  match field with
  | .busMaster => (c.modPfn fn (fun f => { f with bme := on })).msixFlush fn
  | .vfEnable =>
    if fn ≠ 0 then c
    else
      let c1 := c.modPfn 0 (fun f => { f with vfEnable := on })
      if on then c1 else { c1 with fns := c1.fns.filter (fun x => decide (x.1 = 0)) }
  | .msixEnable => (c.modPfn fn (fun f => { f with msixEnable := on })).msixFlush fn
  | .msixMask => (c.modPfn fn (fun f => { f with msixMaskAll := on })).msixFlush fn
  | .powerState => if v = 0 ∨ v = 3 then (c.modPfn fn (fun f => { f with d3hot := decide (v = 3) })).msixFlush fn else c
  | .maxPayload => if v < 3 then c.modPfn fn (fun f => { f with maxPayload := v }) else c
  | .maxReadRequest => if v < 6 then c.modPfn fn (fun f => { f with maxRead := v }) else c
  | .numVfs => if fn = 0 ∧ v < 64 ∧ (c.pfn 0).vfEnable = false then c.modPfn 0 (fun f => { f with numVfs := v }) else c
  | .ecrcGenerate => c.modPfn fn (fun f => { f with ecrcGen := on })
  | .ecrcCheck => c.modPfn fn (fun f => { f with ecrcCheck := on })
  | .bar i =>
    if barBytes fn i.val = 0 then c
    else c.modPfn fn (fun f => { f with bars := SMap.put f.bars i.val 0 (v / barBytes fn i.val * barBytes fn i.val) })
  | .aerStatus => c

/-- PCIE_CONFIG_WRITE: ones written to the AER status clear it. -/
def Plant.configWrite (p : Plant) (s : SideId) (fn : Nat) (field : CfgField) (v : Nat) : Plant :=
  match field with
  | .aerStatus => p.onDev (fun d =>
    let a := SMap.getD d.aer (routingId s fn) 0
    { d with aer := SMap.put d.aer (routingId s fn) 0 (a - (a &&& v)) })
  | _ => p.onCore s (fun c => c.configWrite fn field v)

/-- MSIX_TABLE_WRITE (R452): a word of an entry; 64 entries for a physical function, 4 for a virtual one. Unmasking sends what is
pending. -/
def Core.msixTable (c : Core) (fn entry word v : Nat) : Core :=
  if (if fn = 0 then 64 else 4) ≤ entry then c
  else
    let x := if word = 3 then v % 2 else if word = 0 then v % 2 ^ 32 / 4 * 4 else v % 2 ^ 32
    (c.modPfn fn (fun f => { f with table := SMap.put f.table (4 * entry + word) (if word = 3 then 1 else 0) x })).msixFlush fn

/-- MSIX_TABLE_WRITE: the page of a virtual function refuses it while its side is unavailable (R458). -/
def Plant.msixWrite (p : Plant) (s : SideId) (fn : Fin 64) (entry word v : Nat) : Plant :=
  if fn.val ≠ 0 ∧ (p.side s).r.noAccess = true then p.refuse (.vf s fn) 0 0 .sideUnavailable true
  else p.onCore s (fun c => c.msixTable fn.val entry word v)

/-! ### The crossing link and the field port (R20, R73, R511) -/

/-- CROSSING_TRAINING_DONE: device source 21 reports a failure. -/
def Dev.crossingTrained (d : Dev) (ok : Bool) : Dev :=
  if d.rd Reg.mode_status ≠ 2 then d else if ok then d.wr Reg.mode_status 1 else d.report 21 1 0

/-- FIELD_BUS_OFF and FIELD_BUS_OFF_RECOVERY (ISO 11898-1). -/
def Core.fieldBusOff (c : Core) : Core := if c.busOff then c else (({ c with busOff := true } : Core).inc Reg.field_bus_off).report 470 1 0
def Core.fieldBusOn (c : Core) : Core := { c with busOff := false }

/-! ### The TAP (R601, R602) -/

/-- Instructions that act only in lifecycle 0, 1 or 3, or with test_unlock. -/
def tapGuarded (code : Nat) : Bool := decide (3 ≤ code ∧ code ≤ 7) || decide (code = 0x20 ∨ code = 0x21 ∨ code = 0x30)

/-- The instruction that a code selects: the bypass register for the others and for a guarded one that is locked. -/
def Dev.tapSelect (d : Dev) (code : Nat) : Nat :=
  if code = 1 ∨ code = 2 then code
  else if tapGuarded code && (decide (d.lifecycle ≠ 2) && decide (d.lifecycle < 4) || d.flag Reg.test_unlock) then code
  else 0xFF

/-- JTAG_INSTRUCTION: a ball-controlling instruction stops forwarding on both sides until PORST_N. -/
def Plant.tapInstruction (p : Plant) (code : Nat) : Plant :=
  let i := p.dev.tapSelect code
  let stop := decide (3 ≤ i ∧ i ≤ 7)
  let q := p.onDev (fun d => { d with tapIr := i, tapStopped := d.tapStopped || stop })
  if stop then (q.onCore .a (fun c => { c with tapStop := true })).onCore .b (fun c => { c with tapStop := true }) else q

/-- The IDCODE register. -/
def Dev.idcode (d : Dev) : Nat :=
  (d.rd Reg.silicon_revision / 256 + 256 - 0x41) % 16 * 2 ^ 28 +
  (if d.rd Reg.part_number = 1264 then 0x1264 else 0x1280) * 2 ^ 12 + Config.jep106.toNat * 2 + 1

/-- An answer of the TAP, on side A's outputs. -/
def Plant.tapAnswer (p : Plant) (o : Output) : Plant := p.onCore .a (fun c => c.emit o)

/-- An access to a region of `size`-byte registers (R390): a read by `rd`, a write by `wr`; another size or a misaligned one is an
error. -/
def Plant.ioAccess (p : Plant) (s : SideId) (addr len size : Nat) (data : Option Octets) (rd : Core → Core × Nat)
    (wr : Core → Nat → Core) : Plant :=
  if len ≠ size ∨ addr % len ≠ 0 then p.tapAnswer (.tapBus none)
  else match data with
    | some o => (p.liveCore s (fun c => wr c (leNat o))).tapAnswer (.tapBus (some []))
    | none => (p.liveCore s (fun c => (rd c).1)).tapAnswer (.tapBus (some (toLe len (rd (p.side s).r).2)))

/-- A system-bus read or write (R390, R407): the scratchpad as master 13, the DRAM through port 6, the interrupt files, the machine
timer, the APLIC, the pool ports, the object window as H of the side; an address outside these regions answers with an error. -/
def Plant.sysbus (p : Plant) (s : SideId) (addr len : Nat) (data : Option Octets) : Plant :=
  let fail := p.tapAnswer (.tapBus none)
  let n := match data with | some o => o.length | none => len
  let io (size : Nat) (rd : Core → Core × Nat) (wr : Core → Nat → Core) : Plant := p.ioAccess s addr n size data rd wr
  if !(p.side s).r.released then fail
  else if 0x10000000 ≤ addr ∧ addr < 0x11000000 then
    (match data with
     | some o => let r := (p.side s).spmBurst 13 (addr - 0x10000000) o; (p.handOn s r.1).tapAnswer (.tapBus (if r.2 then some [] else none))
     | none => let r := (p.side s).spmFetch 13 (addr - 0x10000000) len; (p.handOn s r.1).tapAnswer (.tapBus r.2))
  else if 2 ^ 35 ≤ addr ∧ addr < 2 ^ 35 + 2 ^ 34 then
    (match data with
     | some o => let r := (p.side s).dramPut 6 (addr - 2 ^ 35) o; (p.handOn s r.1).tapAnswer (.tapBus (if r.2 then some [] else none))
     | none => let r := (p.side s).dramGet 6 (addr - 2 ^ 35) len; (p.handOn s r.1).tapAnswer (.tapBus r.2))
  else if 0x40000000 ≤ addr ∧ addr < 0x44000000 then
    let off := addr - 0x40000000
    let part := if n = 8 ∧ off % 8 = 0 then 2 else if n = 4 ∧ off % 8 = 0 then 0 else if n = 4 ∧ off % 8 = 4 then 1 else 3
    (match data with
     | some o => p.objectWrite (.pf s) (off / 2048) (off / 8 % 256) part (leNat o)
     | none => p.objectRead (.pf s) (.slot (off / 2048) (off / 8 % 256)) part)
  else if 0x02800000 ≤ addr ∧ addr < 0x02808000 then
    io 4 (fun c => (c, 0)) (fun c v => if addr % 4096 = 0 then c.msiM ((addr - 0x02800000) / 4096) v else c)
  else if 0x02900000 ≤ addr ∧ addr < 0x02940000 then
    io 4 (fun c => (c, 0)) (fun c v => if addr % 4096 = 0 then c.msi ((addr - 0x02900000) / 32768) ((addr - 0x02900000) / 4096 % 8) v else c)
  else if 0x03000000 ≤ addr ∧ addr < 0x03008000 then
    let k := (addr - 0x03000000) / 8
    io 8 (fun c => (c, if k = 4095 then c.localNs else if k < 8 then SMap.getD c.mtimecmp k 0 else 0))
      (fun c v => if k < 8 then { c with mtimecmp := SMap.put c.mtimecmp k 0 v } else c)
  else if 0x0C000000 ≤ addr ∧ addr < 0x0C008000 then
    io 4 (fun c => (c, c.aplicRead false (addr - 0x0C000000))) (fun c v => c.aplicWrite false (addr - 0x0C000000) v)
  else if 0x0D000000 ≤ addr ∧ addr < 0x0D008000 then
    io 4 (fun c => (c, c.aplicRead true (addr - 0x0D000000))) (fun c v => c.aplicWrite true (addr - 0x0D000000) v)
  else if 0x02000000 ≤ addr ∧ addr < 0x02048000 then
    let o := (addr - 0x02000000) / 4096
    io n (fun c => c.poolPortRead o (addr % 4096) n) (fun c v => c.poolPortWrite o (addr % 4096) n v)
  else fail

/-- The repair stage as the TAP reads it (R605). -/
def Dev.repairOctets (d : Dev) : Octets := d.rdOctets Reg.repair_stage 56

/-- The MBIST results as the TAP reads them (R605). -/
def Dev.mbistOctets (d : Dev) : Octets := (List.range 2048).flatMap (fun m => toBe 4 (SMap.getD d.mbistRes m mbistNone))

/-- JTAG_DATA_SCAN (R601): under the instruction loaded. -/
def Plant.tapScan (p : Plant) (x : TapScan) : Plant :=
  let d := p.dev
  match d.tapIr, x with
  | 0x01, _ => p.tapAnswer (.tap d.idcode)
  | 0x20, .mbist cmd =>
    if cmd = 0 then p.tapAnswer (.tapBus (some d.mbistOctets)) else (p.mbistCmd true cmd).1
  | 0x21, .repair (some o) => p.onDev (fun y => y.wrOctets Reg.repair_stage (padTo 56 o))
  | 0x21, .repair none => p.tapAnswer (.tapBus (some d.repairOctets))
  | 0x30, .bus s addr len data => p.sysbus s addr len data
  | ir, .cells l =>
    if 2 ≤ ir ∧ ir ≤ 5 then
      -- the levels captured, in the order of the cells, and the cells then loaded
      let v := (l.foldl (fun (a : Nat × Nat) c => (a.1 + b2n (Config.ballLevel d.free c.1) * 2 ^ a.2, a.2 + 1)) (0, 0)).1
      (p.onDev (fun y => { y with tapBsr := l.foldl (fun m c => SMap.put m c.1 0 (b2n c.2)) y.tapBsr, free := y.free + 1 })).tapAnswer (.tap v)
    else p.tapAnswer (.tap 0)
  | _, _ => p.tapAnswer (.tap 0)

end Sys2Proof.Machine
end

