-- ==== Sys2Proof/Machine/Tyist.lean ====
section
/-! DEFINITION. Tyist.lean: the object protocol on the field port and in-band (R64 to R78, R86, R303, R457), and the management frames
that a side takes and originates, learning messages among them (R235, R236, R303). -/

namespace Sys2Proof.Machine

/-! ### Carriers (R74, R76) -/

/-- A carrier's segment size. -/
def Carrier.segment (v : Carrier) : Nat := if v.kind = 1 then 56 else 2040

/-- The requester behind a carrier. -/
def Carrier.requester (v : Carrier) : Requester := if v.kind = 2 then .inband v.side else .field v.side

/-- The length of a CAN FD data field that holds `n` octets. -/
def fdLength (n : Nat) : Nat :=
  if n ≤ 8 then n else if n ≤ 12 then 12 else if n ≤ 16 then 16 else if n ≤ 20 then 20 else if n ≤ 24 then 24
  else if n ≤ 32 then 32 else if n ≤ 48 then 48 else 64

/-- Whether `present` data octets carry `n`: exactly, or with the padding that the carrier needs: to a CAN FD length, or to a
frame of 64 octets. -/
def Carrier.fits (v : Carrier) (n present : Nat) : Bool :=
  decide (present = n) ||
  (decide (v.kind = 1) && decide (present + 8 = fdLength (n + 8))) ||
  (decide (v.kind = 2) && decide (n ≤ present) && decide (14 + v.vlan.length + 8 + present = 60))

/-- A PDU of the device (R64). -/
def pduOctets (op tag index sub reason count : Nat) (data : Octets) : Octets :=
  toBe 8 (2 ^ 60 + op * 2 ^ 56 + tag % 2 ^ 8 * 2 ^ 48 + index % 2 ^ 16 * 2 ^ 32 + sub % 2 ^ 8 * 2 ^ 24 + reason * 2 ^ 16 + count % 2 ^ 16) ++ data

/-- The field port takes part in the bus. -/
def Core.fieldUp (c : Core) : Bool := !c.noAccess && c.flag Reg.field_enable && !c.busOff

/-- A PDU sent to a requester: in the format of its request, from the answer identifier; or in-band from mgmt_mac with the
request's tag, out of the request's port, when the management class has room (R303). -/
def Core.sendPdu (c : Core) (v : Carrier) (pdu : Octets) : Core :=
  if v.kind = 2 then
    let frame := toBe 6 v.mac ++ toBe 6 c.mgmtMac ++ v.vlan ++ toBe 2 0x88B6 ++ pdu
    { c with mgmtWait := c.mgmtWait ++ [(v.port, frame ++ List.replicate (60 - frame.length) 0)] }
  else if !c.fieldUp then c
  else if v.kind = 0 then c.emit (.field true (0x340 + c.rd Reg.field_node_id) (c.rd Reg.tyist_sdt) (c.rd Reg.tyist_vcid) 0 pdu)
  else c.emit (.field false (0x340 + c.rd Reg.field_node_id) 0 0 0 (padTo (fdLength pdu.length) pdu))

/-- An answer with a reason: counted as a request accepted, or as a refusal (R75). -/
def Plant.reply (p : Plant) (v : Carrier) (h : Pdu) (op : Nat) (why : Reason) (count : Nat) (data : Octets) : Plant :=
  p.onCore v.side (fun c =>
    (c.inc (if why = .ok then Reg.tyist_requests else Reg.tyist_refusals)).sendPdu v
      (pduOctets op h.tag h.index h.sub why.code count data))

/-- An abort with a reason (R66, R69, R77). R64 gives an abort's count field no meaning; it is sent as 0 (DESIGN CHOICE, log entry 59). -/
def Plant.replyAbort (p : Plant) (v : Carrier) (h : Pdu) (why : Reason) : Plant := p.reply v h 0xA why 0 []

/-! ### Expedited transactions (R65 to R67, R78) -/

/-- TYIST_READ. -/
def Plant.tyistRead (p : Plant) (v : Carrier) (h : Pdu) : Plant :=
  let say := p.reply v h 2
  if h.count ≠ 0 ∨ v.fits 0 h.data.length = false then say .badLength 0 []
  else match findObj h.index h.sub with
    | none => say .noObject 0 []
    | some o =>
      match p.readCheck v.requester o, o.row.ty.octetCount with
      | .ok, some n => if 8 < n then say .badLength 0 [] else say .ok n (o.row.ty.encode (p.objShown o))
      | .ok, none => say .badLength 0 []
      | why, _ => say why 0 []

/-- The write_rsp that follows the acknowledgement of a last segment: the request has been counted already. -/
def Plant.writeRsp (p : Plant) (v : Carrier) (h : Pdu) (why : Reason) : Plant :=
  if why = .ok then p.onCore v.side (fun c => c.sendPdu v (pduOctets 4 h.tag h.index h.sub 0 0 [])) else p.reply v h 4 why 0 []

/-- A write of a value from the field or in-band, answered as `say` says. A bundle that bundle_apply starts is answered when it
ends (R86). -/
def Plant.tyistPut (p : Plant) (v : Carrier) (h : Pdu) (o : Obj) (x : Nat) (say : Plant → Reason → Plant) : Plant :=
  let r := p.writeObject v.requester WriteEnv.plain o x
  if o.at' = .dev Reg.bundle_apply ∧ r.2 = .ok then r.1.onDev (fun d => { d with bundleReply := some (v, h.tag) })
  else say r.1 r.2

/-- TYIST_WRITE. -/
def Plant.tyistWrite (p : Plant) (v : Carrier) (h : Pdu) : Plant :=
  let say (why : Reason) := p.reply v h 4 why 0 []
  if v.fits h.count h.data.length = false then say .badLength
  else match findObj h.index h.sub with
    | none => say .noObject
    | some o =>
      match p.writeCheck v.requester WriteEnv.plain o, o.row.ty.octetCount with
      | .ok, some n => if 8 < n ∨ h.count ≠ n then say .badLength else p.tyistPut v h o (o.row.ty.decode (h.data.take n)) (fun q why => q.reply v h 4 why 0 [])
      | .ok, none => say .badLength
      | why, _ => say why

/-- The answer to a bundle's sender when the application has ended (R86). -/
def Plant.bundleAnswer (p : Plant) (reply : Option (Carrier × Nat)) : Plant :=
  match reply with
  | none => p
  | some (v, tag) =>
    let q := p.onDev (fun d => { d with bundleReply := none })
    if (q.side v.side).r.noAccess then q
    else q.reply v ⟨tag, Reg.bundle_apply / 256, Reg.bundle_apply % 256, 0, 0, []⟩ 4
      (if q.dev.rd Reg.bundle_apply = 4 then .ok else .bundleRejected) 0 []

/-- BUNDLE_APPLY_COMPLETE (R84, R86). A host function that owns the bundle gets no refusal record when the application fails: its posted
write was taken, and the failure shows in bundle_result (DESIGN CHOICE, log entry 60). -/
def Plant.bundleApplied (p : Plant) : Plant :=
  let q := p.bundleComplete
  if p.dev.rd Reg.bundle_apply = 3 ∧ q.dev.rd Reg.bundle_apply ≠ 3 then q.bundleAnswer p.dev.bundleReply else q

/-! ### Segmented transactions (R68 to R71) -/

/-- Whether a PDU belongs to a transaction: of the same side and format, in-band from the same source, with the same tag. -/
def Xfer.matches (x : Xfer) (v : Carrier) (h : Pdu) : Bool :=
  decide (x.via.side = v.side) && decide (x.via.kind = v.kind) && (decide (v.kind ≠ 2) || decide (x.via.mac = v.mac)) &&
  decide (x.tag = h.tag % 256) && decide (x.index = h.index) && decide (x.sub = h.sub)

/-- The key of R71: the field port, or the source and the tag. -/
def Xfer.clashes (x : Xfer) (v : Carrier) (h : Pdu) : Bool :=
  decide (x.via.side = v.side) &&
  (if v.kind = 2 then decide (x.via.kind = 2) && decide (x.via.mac = v.mac) && decide (x.tag = h.tag % 256)
   else decide (x.via.kind ≠ 2))

/-- Whether another transaction may open (R71). A begin under the key of an open one, the same source and tag in-band, finds no room,
and the open one goes on (DESIGN CHOICE, log entry 59). -/
def Dev.xferRoom (d : Dev) (v : Carrier) (h : Pdu) : Bool :=
  let open' := d.xfers.filter (fun x => !x.done)
  !(open'.any (fun x => x.clashes v h)) &&
  (decide (v.kind ≠ 2) ||
    decide ((open'.filter (fun x => decide (x.via.side = v.side) && decide (x.via.kind = 2))).length < 4))

/-- A transaction opened; what has ended under its key is forgotten. -/
def Dev.xferOpen (d : Dev) (h : Pdu) (x : Xfer) : Dev :=
  { d with xfers := d.xfers.filter (fun y => !y.clashes x.via h) ++ [{ x with at' := d.aon }] }

/-- A transaction replaced by `f` of it, or closed. -/
def Dev.xferSet (d : Dev) (v : Carrier) (h : Pdu) (f : Xfer → Option Xfer) : Dev :=
  { d with xfers := d.xfers.filterMap (fun x => if x.matches v h then (f x).map (fun y => { y with at' := d.aon }) else some x) }

/-- The answer that opens a transaction: the total length. The header's count is no data length and no segment number there. -/
def Plant.replyBegin (p : Plant) (v : Carrier) (h : Pdu) (total : Nat) : Plant :=
  let q := p.onDev (fun d => { d with free := d.free + 1 })
  q.reply v h 7 .ok (Config.beginCount p.dev.free).toNat (toBe 4 total)

/-- The octets that a segmented read takes a snapshot of, how many the transfer has, and why the snapshot ends before them: a read of
dram_image keeps the words before one that is refused (R446), any other read is refused as a whole. -/
def Plant.xferSnapshot (p : Plant) (q : Requester) (o : Obj) : Plant × Octets × Nat × Reason :=
  let whole (p : Plant) (l : Octets) : Plant × Octets × Nat × Reason := (p, l, l.length, .ok)
  match o.row.ty.octetCount with
  | some _ => whole p (o.row.ty.encode (p.objShown o))
  | none =>
    match o.at'.window with
    | some w =>
      -- R61: a transfer that would start beyond the last entry moves nothing
      if (p.winShape w).1 < p.winCursor w then (p, [], 0, .badLength)
      else
        let n := (p.winShape w).1 - p.winCursor w
        let r := p.readEntries w (p.winCursor w) n
        (r.1, if r.2.2 = .ok ∨ w.2 = wDram then r.2.1 else [], n * (p.winShape w).2, r.2.2)
    | none =>
      let n := match o.at' with | .dev _ => p.slotShown o.at' | .side s k => (p.side s).r.shown k
      let data := p.domainSlice o.at' 0 n
      whole (if o.at' = .dev Reg.attest_report then p.onDev (fun d => d.attestRead q 0 (ceilDiv n 8)) else p) data

/-- TYIST_SEG_READ_BEGIN. -/
def Plant.tyistReadBegin (p : Plant) (v : Carrier) (h : Pdu) : Plant :=
  if v.fits 0 h.data.length = false then p.replyAbort v h .badLength
  else match findObj h.index h.sub with
    | none => p.replyAbort v h .noObject
    | some o =>
      match p.readCheck v.requester o with
      | .ok =>
        if p.dev.xferRoom v h = false then p.replyAbort v h .busy
        else (match p.xferSnapshot v.requester o with
          | (q, data, total, ends) =>
            if data = [] ∧ ends ≠ .ok then q.replyAbort v h ends
            else (q.onDev (fun d =>
              d.xferOpen h ⟨v, h.tag % 256, false, h.index, h.sub, total, data, 0, false, false, 0, ends⟩)).replyBegin v h total)
      | why => p.replyAbort v h why

/-- Why a segmented write of `total` octets cannot begin: a fixed length that differs, no whole entries or too many of them, or
more than a staging buffer holds. -/
def Plant.xferLength (p : Plant) (o : Obj) (total : Nat) : Bool :=
  match o.row.ty.octetCount with
  | some n => decide (total = n)
  | none =>
    match o.at'.window with
    | some w =>
      let z := p.winShape w
      decide (total ≠ 0) && decide (total % z.2 = 0) && decide (p.winCursor w + total / z.2 ≤ z.1)
    | none => decide (total ≠ 0) && decide (total ≤ p.domainRoom o.at')

/-- TYIST_SEG_WRITE_BEGIN. The first write to bundle_stage makes its writer the owner (R82). -/
def Plant.tyistWriteBegin (p : Plant) (v : Carrier) (h : Pdu) : Plant :=
  let total := beNat (h.data.take 4)
  if v.fits 4 h.data.length = false then p.replyAbort v h .badLength
  else match findObj h.index h.sub with
    | none => p.replyAbort v h .noObject
    | some o =>
      match p.writeCheck v.requester WriteEnv.plain o with
      | .ok =>
        let stage := decide (o.at' = .dev Reg.bundle_stage)
        if p.xferLength o total = false then p.replyAbort v h .badLength
        else if p.dev.xferRoom v h = false ∨ (stage = true ∧ p.dev.stageFree v.requester = false) then p.replyAbort v h .busy
        else
          (p.onDev (fun d =>
            (if stage then d.stageTake v.requester else d).xferOpen h
              ⟨v, h.tag % 256, true, h.index, h.sub, total, [], 0, false, false, 0, .ok⟩)).replyBegin v h total
      | why => p.replyAbort v h why

/-- How many segments a transaction has, and the length of one of them. -/
def Xfer.segments (x : Xfer) : Nat := ceilDiv x.total x.via.segment
def Xfer.segLength (x : Xfer) (n : Nat) : Nat := min x.via.segment (x.total - n * x.via.segment)

/-- The whole value of a segmented write taken by its object (R56, R61, R68). -/
def Plant.xferCommit (p : Plant) (v : Carrier) (h : Pdu) (o : Obj) (data : Octets) : Plant :=
  match o.row.ty.octetCount with
  | some _ => p.tyistPut v h o (o.row.ty.decode data) (fun q why => q.writeRsp v h why)
  | none =>
    match p.writeCheck v.requester WriteEnv.plain o with
    | .ok =>
      let r : Plant × Reason := match o.at'.window with
        | some w => p.writeData w data
        | none =>
          if o.at' = Place.dev Reg.bundle_stage ∧ p.dev.stageFree v.requester = true then
            (p.onDev (fun d => ({ d with stage := [] } : Dev).stagePut v.requester 0 data), Reason.ok)
          else p.domainPut v.requester o.at' 0 data
      r.1.writeRsp v h r.2
    | why => p.reply v h 4 why 0 []

/-- A transaction aborted by the device: it is closed, and what it gathered is discarded. -/
def Plant.xferAbort (p : Plant) (v : Carrier) (h : Pdu) (why : Reason) : Plant :=
  (p.onDev (fun d => d.xferSet v h (fun _ => none))).replyAbort v h why

/-- TYIST_SEGMENT: a segment of a write. After its last one the object takes the whole value; the transaction then still answers repeats
of that segment, and another one is out of sequence, 0x11, and not without a transfer, 0x15 (R69; DESIGN CHOICE, log entry 18). A
segment for an open read, like a seg_ack for an open write, aborts the transaction as out of sequence (R69; DESIGN CHOICE, log
entry 59). -/
def Plant.tyistSegment (p : Plant) (v : Carrier) (h : Pdu) : Plant :=
  match p.dev.xfers.find? (fun x => x.matches v h) with
  | none => p.replyAbort v h (if v.segment < h.data.length then .badLength else .noTransfer)
  | some x =>
    let n := x.segLength x.next
    if !x.write then p.xferAbort v h .sequenceError
    else if v.segment < h.data.length then p.xferAbort v h .badLength
    else if x.began ∧ h.count + 1 = x.next then
      (p.onDev (fun d => d.xferSet v h some)).reply v h 9 .ok h.count []
    else if x.done ∨ h.count ≠ x.next then p.xferAbort v h .sequenceError
    else if v.fits n h.data.length = false then p.xferAbort v h .badLength
    else
      let last := decide (x.next + 1 = x.segments)
      let data := x.data ++ h.data.take n
      let p1 := (p.onDev (fun d =>
        let y := if x.index * 256 + x.sub = Reg.bundle_stage ∧ d.rd Reg.bundle_owner = ownerCode v.requester then
          { d with bundleAt := d.aon } else d
        y.xferSet v h (fun z => some { z with data := if last then [] else data, next := z.next + 1, began := true, done := last }))).reply
          v h 9 .ok h.count []
      match last, findObj x.index x.sub with
      | true, some o => p1.xferCommit v h o data
      | _, _ => p1

/-- The cursor of a window whose read has ended: past the entries read (R61). -/
def Plant.xferCursor (p : Plant) (x : Xfer) : Plant :=
  match (findObj x.index x.sub).bind (fun o => o.at'.window) with
  | none => p
  | some w => p.setCursor w ((p.winCursor w + (if x.ends = .ok then x.total else x.data.length) / (p.winShape w).2) % 2 ^ 32)

/-- Whether segment `n` of a read holds an octet that the snapshot does not have (R446). -/
def Xfer.beyond (x : Xfer) (n : Nat) : Bool :=
  decide (x.ends ≠ .ok) && decide (x.data.length < n * x.via.segment + x.segLength n)

/-- TYIST_SEG_ACK: a request for segment `count` of a read. One with a word that was refused ends the transaction with its reason, and
the words before it stand (R446; DEDUCED, log entry 69). After the last one another request than its repeat is out of sequence
(R69; DESIGN CHOICE, log entry 18). -/
def Plant.tyistSegAck (p : Plant) (v : Carrier) (h : Pdu) : Plant :=
  match p.dev.xfers.find? (fun x => x.matches v h) with
  | none => p.replyAbort v h (if v.fits 0 h.data.length = false then .badLength else .noTransfer)
  | some x =>
    let again := decide (x.began ∧ h.count + 1 = x.next)
    let next := !x.done && decide (h.count = x.next)
    if x.write then p.xferAbort v h .sequenceError
    else if v.fits 0 h.data.length = false then p.xferAbort v h .badLength
    else if !again && !next then p.xferAbort v h .sequenceError
    else if x.beyond h.count then (p.xferAbort v h x.ends).xferCursor x
    else
      let last := decide (x.segments ≤ h.count + 1)
      let p1 := (p.onDev (fun d => d.xferSet v h (fun z => some { z with next := h.count + 1, began := true, done := last }))).reply
        v h 8 .ok h.count (slice x.data (h.count * x.via.segment) (x.segLength h.count))
      if next && last then p1.xferCursor x else p1

/-- TYIST_ABORT: the requester's abort ends its transaction without a response. -/
def Plant.tyistAbort (p : Plant) (v : Carrier) (h : Pdu) : Plant :=
  if v.fits 0 h.data.length = false then p.replyAbort v h .badLength
  else p.onDev (fun d => d.xferSet v h (fun _ => none))

/-- SEGMENT_TIMEOUT (R70): the `n`-th transaction, when no PDU of it has come for segment_timeout_ms. -/
def Plant.segmentTimeout (p : Plant) (n : Nat) : Plant :=
  match p.dev.xfers[n]? with
  | none => p
  | some x =>
    let q := p.onDev (fun d =>
      let e := d.runTo (x.at' + 1000000 * (p.side x.via.side).r.rd Reg.segment_timeout_ms)
      { e with xfers := e.xfers.eraseIdx n })
    if x.done then q else q.replyAbort x.via ⟨x.tag, x.index, x.sub, 0, 0, []⟩ .timeout

/-! ### PDUs (R64, R65, R77) -/

/-- A PDU that is discarded. -/
def Plant.tyistDiscard (p : Plant) (s : SideId) : Plant := p.onCore s (fun c => c.inc Reg.tyist_malformed)

/-- A PDU served by its op. -/
def Plant.tyistServe (p : Plant) (v : Carrier) (op : Nat) (h : Pdu) : Plant :=
  match op with
  | 1 => p.tyistRead v h
  | 3 => p.tyistWrite v h
  | 5 => p.tyistReadBegin v h
  | 6 => p.tyistWriteBegin v h
  | 8 => p.tyistSegment v h
  | 9 => p.tyistSegAck v h
  | 10 => p.tyistAbort v h
  | 2 => p.tyistDiscard v.side
  | 4 => p.tyistDiscard v.side
  | 7 => p.tyistDiscard v.side
  | _ => p.replyAbort v h .badProtocol

/-- The octets of a PDU served, whatever they are. -/
def Plant.tyistPdu (p : Plant) (v : Carrier) (o : Octets) : Plant :=
  let b := beNat (o.take 8)
  let h : Pdu := ⟨bits b 55 48, bits b 47 32, bits b 31 24, bits b 23 16, bits b 15 0, o.drop 8⟩
  if o.length < 8 then p.tyistDiscard v.side
  else if bits b 63 60 ≠ 1 then p.replyAbort v h .badProtocol
  else p.tyistServe v (bits b 59 56) h

/-! ### The field port (R73, R74) -/

/-- A frame on the field port: what `f` does with a request that the port takes. A classic frame on either Tyist identifier is ignored
and counted (R73, R75). -/
def Plant.fieldTake (p : Plant) (s : SideId) (x : FieldFrame) (f : Plant → Carrier → Plant) : Plant :=
  let c := (p.side s).r
  let own := c.rd Reg.field_node_id
  if p.dev.porst ∨ c.fieldUp = false ∨ (x.ident ≠ 0x2C0 + own ∧ x.ident ≠ 0x340 + own) then p
  else if x.fmt.val = 0 then p.onCore s (fun c => c.inc Reg.tyist_classic_ignored)
  else if x.ident ≠ 0x2C0 + own then p
  else if x.fmt.val = 1 then f p ⟨s, 1, 0, [], 0⟩
  else if x.sdt = c.rd Reg.tyist_sdt ∧ x.vcid = c.rd Reg.tyist_vcid then f p ⟨s, 0, 0, [], 0⟩
  else p

/-! ### The management class (R76, R88, R303, R457) -/

/-- The oldest management frame of a queue taken; it counts in mgmt_consumed (R506). Data copies ahead of it in the queue do not delay
it (R88). -/
def Core.takeMgmt (c : Core) (t : Target) (q : Nat) : Option (Copy × Core) :=
  match ((c.queue t q).filterMap c.copy).find? Copy.mgmt with
  | some x => some (x, (c.inc Reg.mgmt_consumed).finishCopy x.id)
  | none => none

/-- The octets of a frame after its EtherType, and its VLAN tag: one tag at most (R76, R240). -/
def mgmtBody (etype : Nat) (o : Octets) : Octets × Octets :=
  if be16 o 12 = etype then ([], o.drop 14) else (slice o 12 4, o.drop 18)

/-- INBAND_REQUEST (R76, R457): the object server takes the head of vport 0's queue 7. -/
def Plant.inbandRequest (p : Plant) (s : SideId) : Plant :=
  let c := (p.side s).r
  match c.takeMgmt (.vport 0) 7 with
  | none => p
  | some (x, c1) =>
    let b := mgmtBody 0x88B6 x.data
    let v : Carrier := ⟨s, 2, beNat (slice x.data 6 6), b.1, match x.ingress with | .port n => n | _ => 0⟩
    (p.onCore s (fun _ => c1)).tyistPdu v b.2

/-- LEARN_MSG_RECEIVE (R236): the learning engine takes the next message. -/
def Core.learnReceive (c : Core) (env : LearnEnv) : Core :=
  match c.takeMgmt .learn 0 with
  | none => c
  | some (x, c1) => c1.learnMessage env (match x.ingress with | .port n => n | _ => 0) (mgmtBody 0x88B5 x.data).2

/-- LEARN_MSG_SEND (R235, R238): up to 8 records leave by every port that sends messages; a record does not leave by the port it
came on. -/
def Core.learnSend (c : Core) (env : LearnEnv) : Core :=
  if !c.msgDue then c
  else
    let take := c.sendQ.take 8
    let frames := c.msgPorts.flatMap (fun p =>
      match (take.filter (fun r => decide (r.notPort ≠ some p))).map SendRec.data with
      | [] => []
      | l => [(p, learnMsgOctets (c.rd Reg.learn_msg_dest) c.mgmtMac (c.rd Reg.learn_msg_vid) env.engine l)])
    { c with sendQ := c.sendQ.drop 8, mgmtWait := c.mgmtWait ++ frames, lastMsg := c.now + 1 }

/-- A frame that the device originates, as an offer to admission (R303). -/
def mgmtOffer (p : Nat) (o : Octets) : Offer :=
  { frameNo := 0, target := .port p, queue := 7, data := o, ingress := .device, group := p / 8, prio := 7, lossless := false,
    second := false, mgmt := true, mirror := false, edits := Edits.nil, pr := ParseRec.zero, errFlags := 0, ended := true,
    lr := o.length + 4, ctFrom := none, tsReq := false, stamp := 0, shift := 0, origin := 0 }

/-- MGMT_FRAME_ORIGINATE (R303): the oldest frame that waits, once the reserve has cells for it and the pipeline runs. -/
def Core.mgmtOriginate (c : Core) : Core :=
  match c.mgmtWait with
  | [] => c
  | (p, o) :: l =>
    let f := mgmtOffer p o
    if c.rd Reg.mgmt_reserve_cells < c.budgetUsed .mgmt + f.cells ∨ c.pipelineRuns = false then c
    else ({ c with mgmtWait := l } : Core).originate f

/-- Records on the crossing (R239, R303, R315): the next one joins the other side's request queue when both reserves have a cell. -/
def Plant.crossRecord (p : Plant) (s : SideId) : Plant :=
  let room (c : Core) : Bool := decide (c.budgetUsed .mgmt < c.rd Reg.mgmt_reserve_cells)
  match (p.side s).r.crossRecs with
  | [] => p
  | r :: l =>
    if room (p.side s).r && room (p.side s.other).r then
      (p.onCore s (fun c => { c with crossRecs := l })).onCore s.other (fun c => c.takeCrossed [r])
    else p

end Sys2Proof.Machine
end

