-- ==== Sys2Proof/Machine/Compose.lean ====
section
/-! DEFINITION. Compose.lean: what the meanings of commands share: which part of the device a command reaches, and the commands that
concern both sides or the device and a side (R15, R16, R25, R27, R239, R277, R313 to R315, R454). -/

namespace Sys2Proof.Machine

/-- A command's effect on the device; what waits behind it stays. -/
def State.run (s : State) (f : Plant → Plant) : Host.Outcome State Fault Refusal := .next { s with plant := f s.plant }

/-- The object by which a ring's consumer says how far it has read (R472). -/
def Ring.headKey (r : Ring) (v : Nat) : Nat := r.head v

/-! ### Reach -/

/-- A change that only a device out of PORST_N makes. -/
def Plant.livePlant (p : Plant) (f : Plant → Plant) : Plant := if p.dev.porst then p else f p

/-- A change of the device-level part, by its own units. -/
def Plant.liveDev (p : Plant) (f : Dev → Dev) : Plant := if p.dev.porst then p else p.onDev f

/-- An access by a requester that the device hears. -/
def Plant.from' (p : Plant) (q : Requester) (f : Plant → Plant) : Plant := if p.hears q then f p else p

/-- A change that the Owl makes; a failed Owl makes none (R17). -/
def Plant.liveOwl (p : Plant) (f : Plant → Plant) : Plant := if p.dev.porst || p.dev.owlDown then p else f p

/-- A change of a function's host-port state, which stays while its side is down (R18, R458); it comes over the host link (R17). -/
def Plant.onHost (p : Plant) (f : Plant → Plant) : Plant := if p.dev.porst || !p.dev.linkUp then p else f p

/-- A change of a side that its always-on part makes, in Burrow as in Run (R548). -/
def Plant.wakeBy (p : Plant) (sd : SideId) (f : Core → Core) : Plant := if p.dev.porst then p else p.onCore sd f

/-- A change that a unit on the table clock makes: that clock goes on while the side is Stopped (R35, R526, R540). -/
def Plant.tableCore (p : Plant) (sd : SideId) (f : Core → Core) : Plant := if (p.side sd).r.released then p.onCore sd f else p

/-- A change that the fabric makes while its clock runs (R540). -/
def Plant.fabricCore (p : Plant) (sd : SideId) (f : Core → Core) : Plant :=
  p.liveCore sd (fun c => if c.pipelineRuns then f c else c)

/-- A change of both sides in Joined mode, of one in Split mode. -/
def Plant.onEach (p : Plant) (sd : SideId) (f : Core → Core) : Plant :=
  if p.dev.joined then (p.liveCore sd f).liveCore sd.other f else p.liveCore sd f

/-- A change by a side's learning engine: in Joined mode both sides draw record sequences from one counter (R239). -/
def Plant.learnCore (p : Plant) (sd : SideId) (f : Core → Core) : Plant :=
  let q := p.liveCore sd f
  if p.dev.joined then q.onCore sd.other (fun c => { c with learnSeq := (q.side sd).r.learnSeq }) else q

/-! ### Management and staging -/

/-- INBAND_REQUEST of a running side. -/
def Plant.liveInband (p : Plant) (sd : SideId) : Plant := if (p.side sd).r.alive then p.inbandRequest sd else p

/-- BUNDLE_STAGE_WRITE (R82): octets at an offset of bundle_stage. -/
def Plant.stageWrite (p : Plant) (q : Requester) (off : Nat) (o : Octets) : Plant :=
  let i := Reg.bundle_stage / 256
  let k := Reg.bundle_stage % 256
  if !p.hears q then p
  else match findObj i k with
    | none => p
    | some ob =>
      let p1 := p.giveWay q Reg.bundle_stage
      match p1.writeCheck q WriteEnv.plain ob with
      | .ok => Plant.settleWrite q i k (p1.domainPut q ob.at' off o)
      | why => p1.refuse q i k why true

/-! ### The pipeline and the crossing -/

/-- PARSER_ACCEPT while the pipeline runs: the copies that the crossing refuses count at the device level. -/
def Plant.parserAccept (p : Plant) (sd : SideId) (ds : List Defect) : Plant :=
  if (p.side sd).r.alive && (p.side sd).r.pipelineRuns then
    let r := (p.side sd).r.parserAccept (p.pipeEnv sd) ds
    (p.onCore sd (fun _ => r.1)).crossDrops sd r.2
  else p

/-- The crossing carries traffic: Joined mode, trained, both sides running. -/
def Plant.crossingUp (p : Plant) : Bool := p.dev.joined && decide (p.dev.rd Reg.mode_status = 1) && p.a.r.alive && p.b.r.alive

/-- The egress stamps that wait return to the other side, whose ports hold no request for them (R362; DEDUCED, log entry 34). -/
def Plant.crossStamps (p : Plant) (sd : SideId) : Plant :=
  let l := (p.side sd).r.stampsBack
  (p.onCore sd (fun c => { c with stampsBack := [] })).onCore sd.other (fun c =>
    l.foldl (fun (a : Core) x => a.giveStamp x.1 (x.2.map (fun ts => (ts, 0)))) c)

/-- CROSSING_SEND (R239, R313, R315): a waiting learning record first, then egress stamps, else the next cell. -/
def Plant.crossingSend (p : Plant) (sd : SideId) : Plant :=
  if !p.crossingUp then p
  else if !(p.side sd).r.crossRecs.isEmpty then p.crossRecord sd
  else if !(p.side sd).r.stampsBack.isEmpty then p.crossStamps sd
  else
    let r := (p.side sd).r.crossSend
    match r.2 with
    | none => p
    | some cell =>
      let q := (p.onCore sd (fun _ => r.1)).onCore sd.other (fun c => { c with crossIn := c.crossIn ++ [cell] })
      q.onDev (fun d => d.inc (match sd with | .a => Reg.crossing_cells_ab | .b => Reg.crossing_cells_ba))

/-- CROSSING_RECEIVE (R27, R314): side `sd` takes the next cell; with a head cell the sender learns that its copy is decided. -/
def Plant.crossingReceive (p : Plant) (sd : SideId) (hdr : Nat) : Plant :=
  if !p.crossingUp then p
  else
    let r := (p.side sd).r.crossReceive hdr
    let q := p.onCore sd (fun _ => r.1)
    match r.2 with
    | none => q
    | some frame => q.onCore sd.other (fun c => c.crossDecided frame true)

/-! ### Flips (R27, R277 to R279): in Joined mode both sides flip as one -/

/-- The other side's frames in an epoch that drains. -/
def Plant.drainingElse (p : Plant) (sd : SideId) : Nat := if p.dev.joined then (p.side sd.other).r.draining else 0

/-- FLIP_TIME_REACHED: in Joined mode side A's time decides, and both sides flip in its clock. -/
def Plant.flipDue (p : Plant) (sd : SideId) : Plant :=
  if p.dev.joined then
    let c := p.a.r
    let n := c.ticksToUnits (c.flipAt * nsUnit)
    if c.rd Reg.epoch_flip = 1 then (p.liveCore .a (fun x => x.flipTimeReached)).liveCore .b (fun x => (x.advance n).flipWith) else p
  else p.liveCore sd (fun c => c.flipTimeReached)

/-- FLIP_COMPLETE: once both sides' old epochs have drained. -/
def Plant.flipEnd (p : Plant) (sd : SideId) : Plant :=
  let n := p.drainingElse sd
  let m := if p.dev.joined then (p.side sd).r.draining else 0
  let q := p.liveCore sd (fun c => c.flipComplete n)
  if p.dev.joined then q.liveCore sd.other (fun c => c.flipComplete m) else q

/-- FLIP_OVERRUN. -/
def Plant.flipLate (p : Plant) (sd : SideId) : Plant :=
  let n := p.drainingElse sd
  let m := if p.dev.joined then (p.side sd).r.draining else 0
  let q := p.liveCore sd (fun c => c.flipOverrun n)
  if p.dev.joined then q.liveCore sd.other (fun c => c.flipOverrun m) else q

/-- ENTRY_DRAIN_TIMEOUT: a frame whose head cell waits at the crossing's receiver is discarded there and leaves the sender's epoch. -/
def Plant.drainTimeout (p : Plant) (sd : SideId) : Plant :=
  let q := p.liveCore sd (fun c => c.entryDrainTimeout (p.drainingElse sd))
  if (q.side sd).r.crossIn.isEmpty then
    ((p.side sd).r.crossIn.filterMap (fun x => x.head)).foldl (fun (a : Plant) x => a.onCore sd.other (fun c => c.crossDecided x.frameNo true)) q
  else q

/-! ### Host, faults, power -/

/-- PCIE_CPL_TIMEOUT (R454): a read that pcie_cpl_timeout_ms ends is counted. -/
def Plant.cplTimeout (p : Plant) (sd : SideId) (v : Nat) : Plant :=
  if (p.side sd).r.alive then
    let r := (p.side sd).r.readTimeout v (p.dev.rd Reg.pcie_cpl_timeout_ms)
    let q := p.onCore sd (fun _ => r.1)
    if r.2 then q.onDev (fun d => (d.inc Reg.pcie_cpl_timeouts).aerSet (routingId sd v) 14) else q
  else p

/-- EVENT_RATE_INTERVAL (R137): the 1 ms interval of a side's sources ends, or that of the device-level ones. -/
def Plant.rateEnd (p : Plant) (who : Option SideId) : Plant :=
  match who with
  | some sd => p.liveCore sd Core.rateInterval
  | none => p.liveDev Dev.rateInterval

/-- A failed Owl starts no exit of either side (R17). -/
def Plant.owlGone (p : Plant) : Plant :=
  if p.dev.owlDown then (p.onCore .a (fun c => { c with deaf := true })).onCore .b (fun c => { c with deaf := true }) else p

/-- The findings that come with FAULT_MESSAGE reach their collectors' queues, those of shared parts that of the device. -/
def Plant.findings (p : Plant) (m : CollectorTurn) : Plant :=
  let q := (p.liveDev (fun d => m.shared.foldl Dev.finding d)).owlGone
  q.liveCore m.side (fun c => m.found.foldl Core.finding c)

/-- FAULT_MESSAGE: after the findings, a running side's collector takes a message. -/
def Plant.liveFault (p : Plant) (m : CollectorTurn) : Plant :=
  let q := p.findings m
  if (q.side m.side).r.alive then q.faultMessage m.side else q

/-- HEARTBEAT_LOSS of a released side. -/
def Plant.pairLost (p : Plant) (sd : SideId) : Plant := if (p.side sd).r.released then p.onCore sd Core.heartbeatLoss else p

/-- BURROW_ENTERED, and what the device does when both sides have entered. -/
def Plant.burrowIn (p : Plant) (sd : SideId) : Plant := if p.dev.porst then p else (p.onSide sd Side.burrowEntered).railOff

/-- CORE_FREQ_CHANGE (R543). -/
def Plant.coreFreqChange (p : Plant) (q : Requester) (sd : SideId) (divider : Bool) (v : Nat) : Plant :=
  p.sideWrite q sd (if divider then Reg.core_divider else Reg.core_pll_mhz) v

/-! ### The idle block -/

/-- 1 ns without a command: a running side's three pipeline clocks, and the always-on count unless its clock is lost. -/
def Plant.idle (p : Plant) : Plant :=
  let tick (q : Plant) (sd : SideId) : Plant := q.liveCore sd (fun c => c.advance 3)
  if p.dev.porst then p
  else tick (tick (p.onDev Dev.tick) .a) .b

end Sys2Proof.Machine
end

