-- ==== Sys2Proof/Machine/CmdBoot.lean ====
section
/-! DEFINITION. CmdBoot.lean: the meanings of the commands of PORST_N, boot, attestation and resets (R564 to R592, R617 to R632). -/

namespace Sys2Proof.Machine

/-- PORST_ASSERT (R627): PORST_N falls and the whole device resets, outputs taking their reset states. -/
def execPorstAssert (s : State) : Host.Outcome State Fault Refusal :=
  s.run (fun x => x.porstAssert)

/-- PORST_RELEASE (R574): PORST_N rises, fuses and straps are read and the Owl starts boot from ROM. -/
def execPorstRelease (straps : BitVec 15) (fuses : BitVec 2048) (flash : List (BitVec 27 × Octets)) (bad : List (Fin 32 × Bool))
    (s : State) : Host.Outcome State Fault Refusal :=
  s.run (fun x => x.porstRelease straps.toNat fuses.toNat (flash.map (fun f => (f.1.toNat, f.2))) (bad.map (fun b => (b.1.val, b.2))))

/-- BOOT_SLOT_VERIFY (R571): The Owl verifies a slot's manifest, falling back to the other slot or recovery on failure. -/
def execBootSlotVerify (flash : Fin 3) (s : State) : Host.Outcome State Fault Refusal :=
  s.run (fun x => x.bootVerify flash.val)

/-- FIRMWARE_START (R574): The Owl firmware segment is loaded, checked and run, and the persistent state is read. -/
def execFirmwareStart (s : State) : Host.Outcome State Fault Refusal :=
  s.run (fun x => x.firmwareStart)

/-- BOOT_FIRMWARE_TIMEOUT (R580): The Owl firmware has not reached step 7 of start-up within 50 ms of its start, the slot fails
with code 0x0B and the Owl falls back. -/
def execBootFirmwareTimeout (s : State) : Host.Outcome State Fault Refusal :=
  s.run (fun x => x.firmwareTimeout)

/-- SIDE_RELEASE (R574): After the early records are applied the Owl releases both sides and local clocks start. -/
def execSideRelease (ta : TrainOutcome) (tb : TrainOutcome) (fa : BitVec 5 × BitVec 16) (fb : BitVec 5 × BitVec 16) (s : State) :
    Host.Outcome State Fault Refusal :=
  s.run (fun x => x.livePlant (fun y => y.sideRelease ta.plain tb.plain (fa.1.toNat, fa.2.toNat) (fb.1.toNat, fb.2.toNat)))

/-- DEFERRED_BOOT_COMPLETE (R577): After fast-start release, DRAM training, deferred records and core images are done and
boot_status reads 4. -/
def execDeferredBootComplete (ta : TrainOutcome) (tb : TrainOutcome) (s : State) : Host.Outcome State Fault Refusal :=
  s.run (fun x => x.livePlant (fun y => y.deferredComplete ta.plain tb.plain))

/-- VERSION_COMMIT (R572): version_commit programs rollback fuse bits up to the running security_version. -/
def execVersionCommit (q : Requester) (v : BitVec 8) (part : Option (Fin 2048)) (s : State) : Host.Outcome State Fault Refusal :=
  s.run (fun x => x.commandWrite q ⟨false, part.map Fin.val, false⟩ (.dev Reg.version_commit) v.toNat)

/-- RECOVERY_BOOT (R581): recovery_apply 1 boots from the staged image. -/
def execRecoveryBoot (q : Requester) (s : State) : Host.Outcome State Fault Refusal :=
  s.run (fun x => x.deviceWrite q Reg.recovery_apply 1)

/-- RECOVERY_PROGRAM (R581): recovery_apply 2 boots from the staged image and programs it into slot 1 and both boot headers. -/
def execRecoveryProgram (q : Requester) (s : State) : Host.Outcome State Fault Refusal :=
  s.run (fun x => x.deviceWrite q Reg.recovery_apply 2)

/-- PERSIST_SNAPSHOT (R567): With the active log three-quarters full, the Owl writes a new snapshot and erases the log. -/
def execPersistSnapshot (s : State) : Host.Outcome State Fault Refusal :=
  s.run (fun x => x.liveOwl Plant.persistSnapshot)

/-- FLASH_BUSY_TIMEOUT (R583): The flash holds busy for more than 500 ms and is reset by command and counted. -/
def execFlashBusyTimeout (s : State) : Host.Outcome State Fault Refusal :=
  s.run (fun x => x.liveOwl (fun y => y.onDev Dev.flashBusy))

/-- ATTEST_NONCE_WRITE (R588): A write to attest_nonce stores the nonce and makes the first writer the owner. -/
def execAttestNonceWrite (q : Requester) (v : BitVec 256) (s : State) : Host.Outcome State Fault Refusal :=
  s.run (fun x => x.deviceWrite q Reg.attest_nonce v.toNat)

/-- ATTEST_REQUEST (R588): A write of 1 to attest_request starts signing a report over the present state. -/
def execAttestRequest (q : Requester) (s : State) : Host.Outcome State Fault Refusal :=
  s.run (fun x => x.deviceWrite q Reg.attest_request 1)

/-- ATTEST_REPORT_READY (R590): The report is signed and attest_request reads 2. -/
def execAttestReportReady (s : State) : Host.Outcome State Fault Refusal :=
  s.run (fun x => x.liveOwl (fun y => y.onDev Dev.attestReady))

/-- ATTEST_TIMEOUT (R590): A report not ready 20 ms after the request is abandoned and reported. -/
def execAttestTimeout (s : State) : Host.Outcome State Fault Refusal :=
  s.run (fun x => x.liveOwl (fun y => y.onDev Dev.attestTimeout))

/-- ATTEST_OWNER_TIMEOUT (R588): 1 s passes after the report or without an owner write, and ownership lapses. -/
def execAttestOwnerTimeout (s : State) : Host.Outcome State Fault Refusal :=
  s.run (fun x => x.liveOwl (fun y => y.onDev Dev.attestOwnerTimeout))

/-- SIDE_RESET_ASSERT (R628): A side reset input falls or side_reset is written, and the side's outputs and state are reset. -/
def execSideResetAssert (sd : SideId) (s : State) : Host.Outcome State Fault Refusal :=
  s.run (fun x => x.sideReset sd 1)

/-- SIDE_RESET_RELEASE (R628): The side reset ends and the Owl re-applies the side's configuration and releases it. -/
def execSideResetRelease (sd : SideId) (t : TrainOutcome) (o : TrainOutcome) (s : State) : Host.Outcome State Fault Refusal :=
  s.run (fun x => x.livePlant (fun y => y.sideResetRelease sd t.plain o.plain))

/-- SIDE_RESET_WRITE (R628): A write of 1 to side_reset acts as a 10 µs low pulse on the side's reset input. -/
def execSideResetWrite (q : Requester) (sd : SideId) (s : State) : Host.Outcome State Fault Refusal :=
  s.run (fun x => x.sideWrite q sd Reg.side_reset 1)

/-- CROSSING_TRAINING_DONE (R20): In Joined mode the crossing link ends its training, mode_status leaves state 2, or device source
21 reports a failure. -/
def execCrossingTrainingDone (ok : Bool) (s : State) : Host.Outcome State Fault Refusal :=
  s.run (fun x => x.liveDev (fun d => d.crossingTrained ok))

end Sys2Proof.Machine
end

