-- ==== Sys2Proof/Machine/CmdCompute.lean ====
section
/-! DEFINITION. CmdCompute.lean: the meanings of the commands of cores and the scratchpad (R384 to R417, R496 to R507). -/

namespace Sys2Proof.Machine

/-- CORE_RUN_WRITE (R389): A write of core_run starts cores at core_reset_vector or resets them. -/
def execCoreRunWrite (q : Requester) (sd : SideId) (v : BitVec 8) (s : State) : Host.Outcome State Fault Refusal :=
  s.run (fun x => x.sideWrite q sd Reg.core_run v.toNat)

/-- VPORT_BIND_ACCESS (R391): A core access to CSR vport_bind reads or writes it, or traps from VS or U modes. -/
def execVportBindAccess (sd : SideId) (k : Fin 8) (mode : Fin 5) (v : Option (BitVec 64)) (s : State) : Host.Outcome State Fault
    Refusal :=
  s.run (fun x => x.liveCore sd (fun c => c.bindAccess k.val mode.val (v.map BitVec.toNat)))

/-- LOCKSTEP_DIVERGENCE (R396): A lockstep checker output differs from core 2k, both cores halt, the PC is recorded and the
divergence reported. -/
def execLockstepDivergence (sd : SideId) (k : Fin 4) (pc : BitVec 64) (s : State) : Host.Outcome State Fault Refusal :=
  s.run (fun x => x.liveCore sd (fun c => c.divergence k.val pc.toNat))

/-- LD_WRITE_COMPLETE (R401): When the delivered bytes are visible, the cells are freed, the descriptor is written and the ring's
MSI sent. -/
def execLdWriteComplete (sd : SideId) (v : Fin 64) (rd : CellRead) (s : State) : Host.Outcome State Fault Refusal :=
  s.run (fun x => x.liveSide sd (fun d => d.deliveryComplete v.val false rd))

/-- SPM_SCRUB (R412): The scratchpad scrubber reads a word, rewriting corrected words and reporting uncorrectable ones. -/
def execSpmScrub (sd : SideId) (w : BitVec 21) (ecc : Fin 3) (s : State) : Host.Outcome State Fault Refusal :=
  s.run (fun x => x.liveCore sd (fun c => c.spmScrub w.toNat ecc.val))

/-- SCRATCHPAD_REQUEST (R408): A core, debug or PCIe request to the scratchpad is granted by the rotation arbiter or waits,
counting spm_accesses or spm_conflicts, with AMO and LR/SC effects. -/
def execScratchpadRequest (sd : SideId) (l : List SpmReq) (ecc : Fin 3) (s : State) : Host.Outcome State Fault Refusal :=
  s.run (fun x => x.liveSide sd (fun d => d.spmClock l ecc.val))

/-- CACHE_ECC_ERROR (R414): A core cache access finds a corrected or uncorrectable error, counts it, invalidates the line and
reports from E+384+c or E+392. -/
def execCacheEccError (sd : SideId) (u : Fin 9) (addr : BitVec 64) (unc : Bool) (s : State) : Host.Outcome State Fault Refusal :=
  s.run (fun x => x.liveSide sd (fun d => d.cacheEcc u.val addr.toNat unc))

/-- HPM_COUNTER_WRAP (R500): A core counter wraps, sets OF and raises the overflow interrupt, and the sampler writes a record when
enabled. -/
def execHpmCounterWrap (sd : SideId) (k : Fin 8) (n : Fin 32) (smp : HpmSample) (s : State) : Host.Outcome State Fault Refusal :=
  s.run (fun x => x.liveSide sd (fun d => d.hpmWrap k.val n.val smp))

/-- SAMP_HEAD_WRITE (R504): A write of samp_head consumes records and re-arms the sampling MSI. -/
def execSampHeadWrite (q : Requester) (sd : SideId) (k : Fin 8) (v : BitVec 32) (s : State) : Host.Outcome State Fault Refusal :=
  s.run (fun x => x.sideWrite q sd (Reg.samp_head k.val) v.toNat)

end Sys2Proof.Machine
end

