-- ==== Sys2Proof/Machine/CmdDram.lean ====
section
/-! DEFINITION. CmdDram.lean: the meanings of the commands of the DRAM controller (R418 to R448). -/

namespace Sys2Proof.Machine

/-- DRAM_TRAIN_FULL (R423): A write of 1 to dram_train starts full training of every set point. -/
def execDramTrainFull (q : Requester) (sd : SideId) (s : State) : Host.Outcome State Fault Refusal :=
  s.run (fun x => x.sideWrite q sd Reg.dram_train 1)

/-- DRAM_TRAIN_RESTORE (R423): A write of 2 to dram_train restores training from dram_train_image and verifies each set point. -/
def execDramTrainRestore (q : Requester) (sd : SideId) (s : State) : Host.Outcome State Fault Refusal :=
  s.run (fun x => x.sideWrite q sd Reg.dram_train 2)

/-- DRAM_TRAIN_DONE (R423): Training ends, setting fsp_trained, and a failed fsp_boot makes dram_state 4. -/
def execDramTrainDone (sd : SideId) (fails : List (Fin 3 × Fin 4 × Fin 2)) (s : State) : Host.Outcome State Fault Refusal :=
  s.run (fun x => x.liveCore sd (fun c => c.trainDone (fails.map (fun f => (f.1.val, f.2.1.val, f.2.2.val)))))

/-- RETRAIN_STEP (R424): dram_retrain_interval_ms passes and a rank starts its gathering phase. -/
def execRetrainStep (sd : SideId) (s : State) : Host.Outcome State Fault Refusal :=
  s.run (fun x => x.liveCore sd (fun c => c.retrainStep))

/-- RETRAIN_UPDATE (R424): After the oscillator run the rank applies new delays; a deferred set-point change begins when the last
step ends. -/
def execRetrainUpdate (sd : SideId) (r0 : Fin 4) (r1 : Fin 4) (r2 : Fin 4) (r3 : Fin 4) (s : State) : Host.Outcome State Fault
    Refusal :=
  s.run (fun x => x.liveCore sd (fun c => c.retrainUpdate [r0.val, r1.val, r2.val, r3.val]))

/-- FSP_REQUEST (R425): A write of 0 to 2 to fsp_request starts or defers a change of frequency set point, or is refused. -/
def execFspRequest (q : Requester) (sd : SideId) (n : Fin 3) (s : State) : Host.Outcome State Fault Refusal :=
  s.run (fun x => x.sideWrite q sd Reg.fsp_request n.val)

/-- FSP_CANCEL (R425): A write of 7 to fsp_request cancels a pending change. -/
def execFspCancel (q : Requester) (sd : SideId) (s : State) : Host.Outcome State Fault Refusal :=
  s.run (fun x => x.sideWrite q sd Reg.fsp_request 7)

/-- FSP_CHANGE_DONE (R426): After the PLL relocks and tFC elapses, clocks restart on the target set point and traffic resumes. -/
def execFspChangeDone (sd : SideId) (s : State) : Host.Outcome State Fault Refusal :=
  s.run (fun x => x.liveCore sd (fun c => c.fspDone))

/-- DRAM_READ (R432): A read request is queued, forwarded from the write queue or made to wait behind hazard writes. -/
def execDramRead (sd : SideId) (u : DramUser) (addr : BitVec 40) (len : Fin 65) (tag : BitVec 16) (s : State) : Host.Outcome State
    Fault Refusal :=
  s.run (fun x => x.liveSide sd (fun d => d.dramFrom u addr.toNat len.val tag.toNat none))

/-- DRAM_WRITE (R428): A write request is accepted into the write queue or merged, completing toward its requestor. -/
def execDramWrite (sd : SideId) (u : DramUser) (addr : BitVec 40) (o : Octets) (tag : BitVec 16) (s : State) : Host.Outcome State
    Fault Refusal :=
  s.run (fun x => x.liveSide sd (fun d => d.dramFrom u addr.toNat o.length tag.toNat (some o)))

/-- DRAM_COMMAND_ISSUE (R431): In each command slot the channel issues refresh work, hazard writes, drained writes or the chosen
read. -/
def execDramCommandIssue (sd : SideId) (ch : Fin 4) (es : List (BitVec 33 × DramErr)) (mr27 : List (Fin 2 × Nat)) (s : State) : Host.Outcome State Fault Refusal :=
  s.run (fun x => x.liveSide sd (fun d => d.dramIssue ch.val (es.map (fun e => (e.1.toNat, e.2))) (mr27.map (fun e => (e.1.val, e.2)))))

/-- REG_WINDOW (R430): A 1 µs regulation window ends and ports 0 and 1 regain their budgets. -/
def execRegWindow (sd : SideId) (s : State) : Host.Outcome State Fault Refusal :=
  s.run (fun x => x.liveCore sd (fun c => c.regWindow))

/-- REFRESH_INTERVAL (R434): A rank's tREFI passes and its owed count rises, forcing refreshes at the limit. -/
def execRefreshInterval (sd : SideId) (ch : Fin 4) (rank : Fin 2) (s : State) : Host.Outcome State Fault Refusal :=
  s.run (fun x => x.liveCore sd (fun c => c.refreshInterval (2 * ch.val + rank.val)))

/-- DRAM_TEMP_ESTIMATE (R435): Each 4 µs the channel estimates its temperature and may change the refresh multiplier. -/
def execDramTempEstimate (sd : SideId) (ch : Fin 4) (t : Int) (s : State) : Host.Outcome State Fault Refusal :=
  s.run (fun x => x.liveCore sd (fun c => c.tempEstimate ch.val t))

/-- MR4_POLL (R435): Each dram_mr4_poll_us the controller reads MR4 of each rank and may change the multiplier. -/
def execMr4Poll (sd : SideId) (ch : Fin 4) (rank : Fin 2) (code : Fin 5) (s : State) : Host.Outcome State Fault Refusal :=
  s.run (fun x => x.liveCore sd (fun c => c.mr4Poll (2 * ch.val + rank.val) code.val))

/-- DRAM_SR_IDLE (R547): In Den with den_dram_sr, 10 µs without a request puts every rank into self-refresh. -/
def execDramSrIdle (sd : SideId) (s : State) : Host.Outcome State Fault Refusal :=
  s.run (fun x => x.liveCore sd (fun c => c.dramSrIdle))

end Sys2Proof.Machine
end

