-- ==== Sys2Proof/Machine/CmdFault.lean ====
section
/-! DEFINITION. CmdFault.lean: the meanings of the commands of counters, the collectors and the error pairs (R490 to R540). -/

namespace Sys2Proof.Machine

/-- COUNTER_SNAPSHOT (R491): A write of 1 to counter_snapshot latches every side counter and gauge in one clock. -/
def execCounterSnapshot (q : Requester) (sd : SideId) (s : State) : Host.Outcome State Fault Refusal :=
  s.run (fun x => x.sideWrite q sd Reg.counter_snapshot 1)

/-- SNAPSHOT_WRITTEN (R491): The latched values and identity terms are written into the snapshot window and snapshot_seq counts.
-/
def execSnapshotWritten (sd : SideId) (s : State) : Host.Outcome State Fault Refusal :=
  s.run (fun x => x.liveCore sd (fun c => c.snapshotWritten))

/-- COUNTERS_CLEAR (R506): counters_clear 1 clears every counter of the snapshot set in one clock. -/
def execCountersClear (q : Requester) (sd : SideId) (s : State) : Host.Outcome State Fault Refusal :=
  s.run (fun x => x.sideWrite q sd Reg.counters_clear 1)

/-- WINDOW_COUNTERS_CLEAR (R506): counters_clear 2 clears the window counters of the action and policing windows in one clock. -/
def execWindowCountersClear (q : Requester) (sd : SideId) (s : State) : Host.Outcome State Fault Refusal :=
  s.run (fun x => x.sideWrite q sd Reg.counters_clear 2)

/-- FAULT_MESSAGE (R514): A side collector takes fault messages, classifies them with counting and applies their reactions in
order. -/
def execFaultMessage (m : CollectorTurn) (s : State) : Host.Outcome State Fault Refusal :=
  s.run (fun x => x.liveFault m)

/-- FENCE_COMPLETE (R523): A unit's fence completes, its held resources return and completion is reported. -/
def execFenceComplete (sd : SideId) (kind : Fin 9) (num : BitVec 16) (s : State) : Host.Outcome State Fault Refusal :=
  s.run (fun x => x.liveCore sd (fun c => c.fenceComplete kind.val num.toNat))

/-- PROMOTION_LAPSE (R516): promoted_until passes and the source's promoted Severe live bit clears. -/
def execPromotionLapse (sd : SideId) (e : Fin 480) (s : State) : Host.Outcome State Fault Refusal :=
  s.run (fun x => x.liveCore sd (fun c => c.promotionLapse e.val))

/-- FAULT_CLEAR (R518): fault_clear clears the named sticky bits of a source, refused while any is live. -/
def execFaultClear (q : Requester) (sd : SideId) (v : BitVec 32) (s : State) : Host.Outcome State Fault Refusal :=
  s.run (fun x => x.sideWrite q sd Reg.fault_clear v.toNat)

/-- UNFENCE_PORT (R524): unfence kind 1 brings a fenced port up under the link bring-up. -/
def execUnfencePort (q : Requester) (sd : SideId) (n : BitVec 16) (s : State) : Host.Outcome State Fault Refusal :=
  s.run (fun x => x.sideWrite q sd Reg.unfence (1 * 2 ^ 28 + n.toNat))

/-- UNFENCE_BANK (R524): unfence kind 2 returns a search bank to service. -/
def execUnfenceBank (q : Requester) (sd : SideId) (n : BitVec 16) (s : State) : Host.Outcome State Fault Refusal :=
  s.run (fun x => x.sideWrite q sd Reg.unfence (2 * 2 ^ 28 + n.toNat))

/-- UNFENCE_SLICE (R312): unfence kind 3 restarts an output slice's streams at sequence 0. -/
def execUnfenceSlice (q : Requester) (sd : SideId) (n : BitVec 16) (s : State) : Host.Outcome State Fault Refusal :=
  s.run (fun x => x.sideWrite q sd Reg.unfence (3 * 2 ^ 28 + n.toNat))

/-- UNFENCE_MIDDLE (R524): unfence kind 4 returns a middle and its 64 credits. -/
def execUnfenceMiddle (q : Requester) (sd : SideId) (n : BitVec 16) (s : State) : Host.Outcome State Fault Refusal :=
  s.run (fun x => x.sideWrite q sd Reg.unfence (4 * 2 ^ 28 + n.toNat))

/-- UNFENCE_RANK (R524): unfence kind 5 runs one training step on a DRAM rank and returns it to service. -/
def execUnfenceRank (q : Requester) (sd : SideId) (n : BitVec 16) (s : State) : Host.Outcome State Fault Refusal :=
  s.run (fun x => x.sideWrite q sd Reg.unfence (5 * 2 ^ 28 + n.toNat))

/-- UNFENCE_CORE_PAIR (R524): unfence kind 6 returns a core pair to reset state. -/
def execUnfenceCorePair (q : Requester) (sd : SideId) (n : BitVec 16) (s : State) : Host.Outcome State Fault Refusal :=
  s.run (fun x => x.sideWrite q sd Reg.unfence (6 * 2 ^ 28 + n.toNat))

/-- UNFENCE_SPM_BANK (R524): unfence kind 7 returns a scratchpad bank to service. -/
def execUnfenceSpmBank (q : Requester) (sd : SideId) (n : BitVec 16) (s : State) : Host.Outcome State Fault Refusal :=
  s.run (fun x => x.sideWrite q sd Reg.unfence (7 * 2 ^ 28 + n.toNat))

/-- UNFENCE_VPORT (R524): unfence kind 8 runs a vport reset and makes the vport active. -/
def execUnfenceVport (q : Requester) (sd : SideId) (n : BitVec 16) (s : State) : Host.Outcome State Fault Refusal :=
  s.run (fun x => x.sideWrite q sd Reg.unfence (8 * 2 ^ 28 + n.toNat))

/-- DEGRADE_RELEASE (R525): degrade_release returns side_state to Normal unless a middle is removed or a cause is still live. -/
def execDegradeRelease (q : Requester) (sd : SideId) (s : State) : Host.Outcome State Fault Refusal :=
  s.run (fun x => x.sideWrite q sd Reg.degrade_release 1)

/-- PAIR_RELEASE (R531): pair_release returns the error pair from state 2 to healthy unless a cause is still live. -/
def execPairRelease (q : Requester) (sd : SideId) (s : State) : Host.Outcome State Fault Refusal :=
  s.run (fun x => x.sideWrite q sd Reg.pair_release 1)

/-- EVENT_ACK (R532): event_ack clears a source's pending bit and resends the host vector if another source on it is pending. -/
def execEventAck (q : Requester) (sd : SideId) (v : BitVec 32) (s : State) : Host.Outcome State Fault Refusal :=
  s.run (fun x => x.sideWrite q sd Reg.event_ack v.toNat)

/-- FFR_CLEAR (R519): ffr_clear empties the first-fault record unless its source is still live. -/
def execFfrClear (q : Requester) (sd : SideId) (s : State) : Host.Outcome State Fault Refusal :=
  s.run (fun x => x.sideWrite q sd Reg.ffr_clear 1)

/-- DEVICE_FAULT_MESSAGE (R527): The device collector classifies a device-level message and applies its log, event, pair and stop
reactions. -/
def execDeviceFaultMessage (s : State) : Host.Outcome State Fault Refusal :=
  s.run (fun x => x.livePlant Plant.deviceFaultMessage)

/-- DEVICE_FAULT_CLEAR (R539): device_fault_clear clears sticky bits of a device source. -/
def execDeviceFaultClear (q : Requester) (v : BitVec 32) (s : State) : Host.Outcome State Fault Refusal :=
  s.run (fun x => x.deviceWrite q Reg.device_fault_clear v.toNat)

/-- DEVICE_EVENT_ACK (R539): device_event_ack clears a device source's pending bit. -/
def execDeviceEventAck (q : Requester) (v : BitVec 32) (s : State) : Host.Outcome State Fault Refusal :=
  s.run (fun x => x.deviceWrite q Reg.device_event_ack v.toNat)

/-- DEVICE_FFR_CLEAR (R539): device_ffr_clear empties the device first-fault record. -/
def execDeviceFfrClear (q : Requester) (s : State) : Host.Outcome State Fault Refusal :=
  s.run (fun x => x.deviceWrite q Reg.device_ffr_clear 1)

/-- HEARTBEAT_LOSS (R530): No collector heartbeat reaches the pair driver for 10 µs and the pair is held at fault state 3. -/
def execHeartbeatLoss (sd : SideId) (s : State) : Host.Outcome State Fault Refusal :=
  s.run (fun x => x.pairLost sd)

/-- PAIR_READBACK_MISMATCH (R530): A pair ball differs from its driven level at three checks in a row and E+467 reports it. -/
def execPairReadbackMismatch (sd : SideId) (pn : Fin 4) (s : State) : Host.Outcome State Fault Refusal :=
  s.run (fun x => x.liveCore sd (fun c => c.readbackMismatch pn.val))

/-- STALL_DETECT (R512): A frame has not left its epoch 10 µs after acceptance and a pipeline stall is reported. -/
def execStallDetect (sd : SideId) (jade : Bool) (s : State) : Host.Outcome State Fault Refusal :=
  s.run (fun x => x.liveCore sd (fun c => c.stallDetect (b2n jade)))

/-- OWL_WATCHDOG_EXPIRY (R17): The Owl watchdog expires, a device Fatal drives both pairs and the Owl's services are refused. -/
def execOwlWatchdogExpiry (s : State) : Host.Outcome State Fault Refusal :=
  s.run (fun x => (x.liveDev (fun d => d.watchdogExpiry)).owlGone)

end Sys2Proof.Machine
end

