-- ==== Sys2Proof/Machine/CmdHost.lean ====
section
/-! DEFINITION. CmdHost.lean: the meanings of the commands of the host port and the vports (R449 to R489). -/

namespace Sys2Proof.Machine

/-- HOST_PORT_RESET (R455): PERST_N, a hot reset or a link-down resets the host port and acts on each PF as an FLR. -/
def execHostPortReset (cause : Fin 3) (s : State) : Host.Outcome State Fault Refusal :=
  s.run (fun x => x.livePlant (fun y => y.hostPortReset cause.val))

/-- FLR (R455): An FLR of a VF resets its vport; an FLR of a PF resets vport 0 and every host-placed vport of the side. -/
def execFlr (sd : SideId) (fn : Fin 64) (s : State) : Host.Outcome State Fault Refusal :=
  s.run (fun x => x.livePlant (fun y => y.flr sd fn.val))

/-- PCIE_UNSUPPORTED_REQUEST (R454): An I/O, locked, type 1 configuration or vendor message request is answered with UR. -/
def execPcieUnsupportedRequest (sd : SideId) (fn : Fin 64) (s : State) : Host.Outcome State Fault Refusal :=
  s.run (fun x => x.livePlant (fun y => y.unsupportedRequest sd fn.val))

/-- PCIE_MALFORMED_TLP (R454): A malformed or ECRC-failing TLP is discarded and an AER error reported. -/
def execPcieMalformedTlp (s : State) : Host.Outcome State Fault Refusal :=
  s.run (fun x => x.liveDev (fun d => d.malformedTlp))

/-- PCIE_POISONED_WRITE (R454): A poisoned write to a BAR is discarded with an AER non-fatal error. -/
def execPciePoisonedWrite (s : State) : Host.Outcome State Fault Refusal :=
  s.run (fun x => x.liveDev (fun d => d.poisonedWrite))

/-- PCIE_UNEXPECTED_CPL (R454): A completion without a matching request is discarded and counted. -/
def execPcieUnexpectedCpl (s : State) : Host.Outcome State Fault Refusal :=
  s.run (fun x => x.liveDev (fun d => d.unexpectedCpl))

/-- DMA_READ_COMPLETION (R466): A completion to a DMA read arrives with data, or as UR, CA or poisoned, completing the descriptor
with status 3. -/
def execDmaReadCompletion (sd : SideId) (v : Fin 64) (outcome : Fin 3) (o : Octets) (s : State) : Host.Outcome State Fault Refusal
    :=
  s.run (fun x => x.liveCore sd (fun c => c.readCompletion v.val outcome.val o))

/-- PCIE_CPL_TIMEOUT (R454): No completion arrives within pcie_cpl_timeout_ms and the descriptor completes with status 3. -/
def execPcieCplTimeout (sd : SideId) (v : Fin 64) (s : State) : Host.Outcome State Fault Refusal :=
  s.run (fun x => x.cplTimeout sd v.val)

/-- PCIE_CONFIG_WRITE (R473): A host configuration write sets function state such as Bus Master Enable or VF enable, which governs
completion writes and DMA. -/
def execPcieConfigWrite (sd : SideId) (fn : Fin 64) (field : CfgField) (v : BitVec 64) (s : State) : Host.Outcome State Fault Refusal :=
  s.run (fun x => x.onHost (fun y => y.configWrite sd fn.val field v.toNat))

/-- PCIE_LINK_UP (R485): PCIe link training completes, link_speed and link_width take their values and a link-down condition of
device source 13 ends. -/
def execPcieLinkUp (speed : Fin 5) (width : Fin 9) (s : State) : Host.Outcome State Fault Refusal :=
  s.run (fun x => x.linkUpAt speed.val width.val)

/-- MSIX_TABLE_WRITE (R533): A write to a function page's MSI-X table masks or unmasks a vector, and unmasking sends a pending
vector. -/
def execMsixTableWrite (sd : SideId) (fn : Fin 64) (entry : Fin 64) (word : Fin 4) (v : BitVec 32) (s : State) : Host.Outcome
    State Fault Refusal :=
  s.run (fun x => x.onHost (fun y => y.msixWrite sd fn entry.val word.val v.toNat))

/-- TX_TAIL_WRITE (R462): A doorbell write of tx_tail posts transmit descriptors, or is ignored as a bad doorbell. -/
def execTxTailWrite (q : Requester) (sd : SideId) (v : Fin 64) (n : BitVec 32) (s : State) : Host.Outcome State Fault Refusal :=
  s.run (fun x => x.sideWrite q sd (Reg.tx_tail v.val) n.toNat)

/-- FILL_TAIL_WRITE (R462): A doorbell write of fill_tail posts fill descriptors, or is ignored as a bad doorbell. -/
def execFillTailWrite (q : Requester) (sd : SideId) (v : Fin 64) (n : BitVec 32) (s : State) : Host.Outcome State Fault Refusal :=
  s.run (fun x => x.sideWrite q sd (Reg.fill_tail v.val) n.toNat)

/-- CONSUMER_HEAD_WRITE (R472): A write of rx_head, txc_head or stale_head consumes records, returns their credits and re-arms the
ring interrupt. -/
def execConsumerHeadWrite (q : Requester) (sd : SideId) (v : Fin 64) (r : Ring) (n : BitVec 32) (s : State) : Host.Outcome State
    Fault Refusal :=
  s.run (fun x => x.sideWrite q sd (r.headKey v.val) n.toNat)

/-- IRQ_DELAY_EXPIRY (R465): The oldest unconsumed record of an armed ring has waited irq_delay_ns and the ring interrupt is sent.
-/
def execIrqDelayExpiry (sd : SideId) (v : Fin 64) (r : Ring) (s : State) : Host.Outcome State Fault Refusal :=
  s.run (fun x => x.liveCore sd (fun c => c.irqDelay v.val r))

/-- TX_DESCRIPTOR_FETCH (R466): With the vport active, a credit and meter tokens available, the engine fetches the next transmit
descriptor and reads the frame. -/
def execTxDescriptorFetch (e : EngineVisit) (v : Fin 64) (desc : Octets) (s : State) : Host.Outcome State Fault Refusal :=
  s.run (fun x => x.liveSide e.side (fun d => (d.poolMeets e.found).txFetch v.val desc))

/-- TX_COMPLETION (R466): After the frame has entered and any stamp has returned, the transmit completion is written in order. -/
def execTxCompletion (e : EngineVisit) (v : Fin 64) (s : State) : Host.Outcome State Fault Refusal :=
  s.run (fun x => x.liveSide e.side (fun d => (d.poolMeets e.found).txCompletion v.val))

/-- TX_STAMP_TIMEOUT (R466): An egress stamp not returned within 1 ms lets the completion be written with ts_valid 0. -/
def execTxStampTimeout (sd : SideId) (v : Fin 64) (s : State) : Host.Outcome State Fault Refusal :=
  s.run (fun x => x.liveCore sd (fun c => c.stampTimeout v.val))

/-- HOST_DELIVERY_COMPLETE (R468): The host delivery's buffer is written and its completion record posted. -/
def execHostDeliveryComplete (sd : SideId) (v : Fin 64) (rd : CellRead) (s : State) : Host.Outcome State Fault Refusal :=
  s.run (fun x => x.liveSide sd (fun d => d.deliveryComplete v.val true rd))

/-- VPORT_CREATE (R459): vport_ctl 1 creates the vport after resource checks. -/
def execVportCreate (q : Requester) (sd : SideId) (v : Fin 64) (s : State) : Host.Outcome State Fault Refusal :=
  s.run (fun x => x.sideWrite q sd (Reg.vport_ctl v.val) 1)

/-- VPORT_RESET (R476): vport_ctl 2 starts the vport reset sequence. -/
def execVportReset (q : Requester) (sd : SideId) (v : Fin 64) (s : State) : Host.Outcome State Fault Refusal :=
  s.run (fun x => x.sideWrite q sd (Reg.vport_ctl v.val) 2)

/-- VPORT_DESTROY (R459): vport_ctl 3 resets the vport and then releases its resources. -/
def execVportDestroy (q : Requester) (sd : SideId) (v : Fin 64) (s : State) : Host.Outcome State Fault Refusal :=
  s.run (fun x => x.sideWrite q sd (Reg.vport_ctl v.val) 3)

/-- VPORT_FREEZE (R479): vport_ctl 4 stops the engines of an active vport while admission continues. -/
def execVportFreeze (q : Requester) (sd : SideId) (v : Fin 64) (s : State) : Host.Outcome State Fault Refusal :=
  s.run (fun x => x.sideWrite q sd (Reg.vport_ctl v.val) 4)

/-- VPORT_THAW (R480): vport_ctl 5 thaws a frozen vport under its possibly new placement. -/
def execVportThaw (q : Requester) (sd : SideId) (v : Fin 64) (s : State) : Host.Outcome State Fault Refusal :=
  s.run (fun x => x.sideWrite q sd (Reg.vport_ctl v.val) 5)

/-- VPORT_SAVE (R481): vport_ctl 6 writes the frozen vport's state image to its window. -/
def execVportSave (q : Requester) (sd : SideId) (v : Fin 64) (s : State) : Host.Outcome State Fault Refusal :=
  s.run (fun x => x.sideWrite q sd (Reg.vport_ctl v.val) 6)

/-- VPORT_RESTORE (R482): vport_ctl 7 checks the image and restores it into an absent vport, leaving it frozen. -/
def execVportRestore (q : Requester) (sd : SideId) (v : Fin 64) (s : State) : Host.Outcome State Fault Refusal :=
  s.run (fun x => x.sideWrite q sd (Reg.vport_ctl v.val) 7)

/-- VPORT_RESET_COMPLETE (R476): In-flight items have ended, credits and indices are reset, reclaim has run, and the vport becomes
active or absent. -/
def execVportResetComplete (sd : SideId) (v : Fin 64) (s : State) : Host.Outcome State Fault Refusal :=
  s.run (fun x => x.liveSide sd (fun d => d.vportResetComplete v.val))

/-- FREEZE_COMPLETE (R479): credits_in_flight reaches 0 and the vport reads frozen. -/
def execFreezeComplete (sd : SideId) (v : Fin 64) (s : State) : Host.Outcome State Fault Refusal :=
  s.run (fun x => x.liveCore sd (fun c => c.freezeComplete v.val))

/-- FREEZE_DEADLINE (R479): freeze_deadline_us passes and the vport reads frozen with items left in flight. -/
def execFreezeDeadline (sd : SideId) (v : Fin 64) (s : State) : Host.Outcome State Fault Refusal :=
  s.run (fun x => x.liveCore sd (fun c => c.freezeDeadline v.val))

end Sys2Proof.Machine
end

