-- ==== Sys2Proof/Machine/CmdObject.lean ====
section
/-! DEFINITION. CmdObject.lean: the meanings of the commands of the object protocol: slots, apertures, Tyist, bundles (R53 to R91). -/

namespace Sys2Proof.Machine

/-- OBJECT_WRITE (R56): A write to an object that has no row of its own is checked against the write set, range and encoding, held
or committed atomically, and stored or refused with a reason code. -/
def execObjectWrite (q : Requester) (index : BitVec 16) (sub : BitVec 8) (part : Fin 4) (v : Nat) (s : State) : Host.Outcome State
    Fault Refusal :=
  s.run (fun x => x.from' q (fun y => y.objectWrite q index.toNat sub.toNat part.val v))

/-- OBJECT_READ (R58): A host, core or VF object-window read takes or reuses the function's snapshot buffer and returns the value,
or is refused and recorded in the refusal record. -/
def execObjectRead (q : Requester) (addr : ReadAddr) (part : Fin 4) (s : State) : Host.Outcome State Fault Refusal :=
  s.run (fun x => x.from' q (fun y => y.objectRead q addr part.val))

/-- APERTURE_ENTRY_WRITE (R63): Writing the high half of the last slot of a BAR2 aperture entry writes that table entry under its
table's checks. -/
def execApertureEntryWrite (sd : SideId) (a : Fin 16) (k : BitVec 21) (m : BitVec 14) (part : Fin 4) (v : BitVec 64) (s : State) :
    Host.Outcome State Fault Refusal :=
  s.run (fun x => x.from' (.pf sd) (fun y => y.apertureWrite sd a.val k.toNat m.toNat part.val v.toNat))

/-- TYIST_READ (R65): An expedited Tyist read request is answered with read_rsp carrying the value or a reason. -/
def execTyistRead (sd : SideId) (f : FieldFrame) (h : Pdu) (s : State) : Host.Outcome State Fault Refusal :=
  s.run (fun x => x.fieldTake sd f (fun y v => y.tyistRead v h))

/-- TYIST_WRITE (R65): An expedited Tyist write request writes the object and is answered with write_rsp. -/
def execTyistWrite (sd : SideId) (f : FieldFrame) (h : Pdu) (s : State) : Host.Outcome State Fault Refusal :=
  s.run (fun x => x.fieldTake sd f (fun y v => y.tyistWrite v h))

/-- TYIST_SEG_READ_BEGIN (R68): A seg_read_begin opens a segmented read, snapshots the object and is answered with seg_begin_rsp
or an abort. -/
def execTyistSegReadBegin (sd : SideId) (f : FieldFrame) (h : Pdu) (s : State) : Host.Outcome State Fault Refusal :=
  s.run (fun x => x.fieldTake sd f (fun y v => y.tyistReadBegin v h))

/-- TYIST_SEG_WRITE_BEGIN (R68): A seg_write_begin opens a segmented write of the stated total length and is answered with
seg_begin_rsp or an abort. -/
def execTyistSegWriteBegin (sd : SideId) (f : FieldFrame) (h : Pdu) (s : State) : Host.Outcome State Fault Refusal :=
  s.run (fun x => x.fieldTake sd f (fun y v => y.tyistWriteBegin v h))

/-- TYIST_SEGMENT (R68): A received segment of an open write is acknowledged, and the final one commits the whole value and sends
write_rsp. -/
def execTyistSegment (sd : SideId) (f : FieldFrame) (h : Pdu) (s : State) : Host.Outcome State Fault Refusal :=
  s.run (fun x => x.fieldTake sd f (fun y v => y.tyistSegment v h))

/-- TYIST_SEG_ACK (R68): A seg_ack on an open read requests segment n, which the device sends. -/
def execTyistSegAck (sd : SideId) (f : FieldFrame) (h : Pdu) (s : State) : Host.Outcome State Fault Refusal :=
  s.run (fun x => x.fieldTake sd f (fun y v => y.tyistSegAck v h))

/-- TYIST_ABORT (R70): A requester's abort ends its segmented transaction without a response. -/
def execTyistAbort (sd : SideId) (f : FieldFrame) (h : Pdu) (s : State) : Host.Outcome State Fault Refusal :=
  s.run (fun x => x.fieldTake sd f (fun y v => y.tyistAbort v h))

/-- TYIST_PDU_MALFORMED (R77): A Tyist PDU that is too short, has a bad version or op, or is a device-only op is discarded or
answered with an abort. -/
def execTyistPduMalformed (sd : SideId) (f : FieldFrame) (o : Octets) (s : State) : Host.Outcome State Fault Refusal :=
  s.run (fun x => x.fieldTake sd f (fun y v => y.tyistPdu v o))

/-- SEGMENT_TIMEOUT (R70): A segmented transaction with no PDU for segment_timeout_ms is aborted with reason 0x12 and a partial
write is discarded. -/
def execSegmentTimeout (n : Nat) (s : State) : Host.Outcome State Fault Refusal :=
  s.run (fun x => x.livePlant (fun y => y.segmentTimeout n))

/-- CLASSIC_FRAME_IGNORED (R73): A classic CAN frame on a Tyist identifier is ignored and counted. -/
def execClassicFrameIgnored (sd : SideId) (ident : BitVec 11) (s : State) : Host.Outcome State Fault Refusal :=
  s.run (fun x => x.fieldTake sd ⟨0, ident.toNat, 0, 0⟩ (fun y _ => y))

/-- FIELD_BUS_OFF (R73): The field port enters bus-off under ISO 11898-1 fault confinement, counts it and reports it. -/
def execFieldBusOff (sd : SideId) (s : State) : Host.Outcome State Fault Refusal :=
  s.run (fun x => x.liveCore sd (fun c => c.fieldBusOff))

/-- FIELD_BUS_OFF_RECOVERY (R73): The field port completes automatic bus-off recovery under ISO 11898-1 and takes part in the bus
again. -/
def execFieldBusOffRecovery (sd : SideId) (s : State) : Host.Outcome State Fault Refusal :=
  s.run (fun x => x.liveCore sd (fun c => c.fieldBusOn))

/-- INBAND_REQUEST (R76): An in-band Tyist request frame is handed to the object server through vport 0 queue 7. -/
def execInbandRequest (sd : SideId) (s : State) : Host.Outcome State Fault Refusal :=
  s.run (fun x => x.liveInband sd)

/-- BUNDLE_STAGE_WRITE (R82): A write to bundle_stage stores bundle bytes and makes the first writer the owner. -/
def execBundleStageWrite (q : Requester) (off : BitVec 18) (o : Octets) (s : State) : Host.Outcome State Fault Refusal :=
  s.run (fun x => x.stageWrite q off.toNat o)

/-- BUNDLE_OWNER_TIMEOUT (R82): After 1 s without a write from the bundle owner, ownership returns to none and the staged content
is discarded. -/
def execBundleOwnerTimeout (s : State) : Host.Outcome State Fault Refusal :=
  s.run (fun x => x.liveOwl (fun y => y.onDev Dev.bundleOwnerTimeout))

/-- BUNDLE_APPLY (R83): A write of 1 to bundle_apply by the owner starts verification of the staged bundle. -/
def execBundleApply (q : Requester) (v : BitVec 8) (s : State) : Host.Outcome State Fault Refusal :=
  s.run (fun x => x.deviceWrite q Reg.bundle_apply v.toNat)

/-- BUNDLE_APPLY_COMPLETE (R84): A verified bundle has its sequence persisted and its records applied in order, or rolled back on
a refusal, and the response is sent. -/
def execBundleApplyComplete (s : State) : Host.Outcome State Fault Refusal :=
  s.run (fun x => x.livePlant Plant.bundleApplied)

end Sys2Proof.Machine
end

