-- ==== Sys2Proof/Machine/CmdPort.lean ====
section
/-! DEFINITION. CmdPort.lean: the meanings of the commands of ports and MACs (R92 to R139). -/

namespace Sys2Proof.Machine

/-- PORT_MODE_WRITE (R94): A write of port_mode sets the lane mode, forming or releasing a 100 Gb/s group at port 4j. -/
def execPortModeWrite (q : Requester) (sd : SideId) (p : Fin 64) (v : BitVec 8) (s : State) : Host.Outcome State Fault Refusal :=
  s.run (fun x => x.sideWrite q sd (Reg.port_mode p.val) v.toNat)

/-- ADMIN_UP_WRITE (R102): A write of admin_up 1 starts the lane transmitter and link bring-up; a write of 0 holds the lane
electrically idle. -/
def execAdminUpWrite (q : Requester) (sd : SideId) (p : Fin 64) (v : BitVec 8) (s : State) : Host.Outcome State Fault Refusal :=
  s.run (fun x => x.sideWrite q sd (Reg.admin_up p.val) v.toNat)

/-- LANE_LOCK (R102): The receiver achieves sync, block lock or lane alignment, starting auto-negotiation where enabled. -/
def execLaneLock (sd : SideId) (p : Fin 64) (s : State) : Host.Outcome State Fault Refusal :=
  s.run (fun x => x.liveCore sd (fun c => c.laneLock p.val))

/-- AN_COMPLETE (R102): Auto-negotiation ends with a usable result, or with a failure that leaves link_state 2. -/
def execAnComplete (sd : SideId) (p : Fin 64) (outcome : Fin 5) (word : BitVec 48) (s : State) : Host.Outcome State Fault Refusal
    :=
  s.run (fun x => x.liveCore sd (fun c => c.anComplete p.val outcome.val word.toNat))

/-- LINK_UP_HOLDOFF_EXPIRY (R102): The link_up_holdoff_ms timer expires without fault, link_state becomes 1 and forwarding to and
from the port begins. -/
def execLinkUpHoldoffExpiry (sd : SideId) (p : Fin 64) (s : State) : Host.Outcome State Fault Refusal :=
  s.run (fun x => x.liveCore sd (fun c => c.holdoffExpiry p.val))

/-- LINK_FAULT (R103): A link fault persists for link_fault_filter_ns, link_state becomes 2 or 3, the fault is reported and queued
frames are discarded. -/
def execLinkFault (sd : SideId) (p : Fin 64) (cause : Fin 5) (s : State) : Host.Outcome State Fault Refusal :=
  s.run (fun x => x.learnCore sd (fun c => c.linkFault (x.learnEnv sd) p.val cause.val))

/-- LINK_CONDITION_CHANGE (R655): A change in signal detection or received fault sequences moves link_state among 0, 2 and 3
without a report. -/
def execLinkConditionChange (sd : SideId) (p : Fin 64) (signal : Bool) (locked : Bool) (lfault : Bool) (rfault : Bool) (s : State)
    : Host.Outcome State Fault Refusal :=
  s.run (fun x => x.liveCore sd (fun c => c.conditionChange p.val signal locked lfault rfault))

/-- RX_FRAME_START (R106): At the start delimiter a frame is dropped for Den or overflow, or admitted to the receive buffer. -/
def execRxFrameStart (sd : SideId) (p : Fin 64) (o : Octets) (idle : BitVec 16) (s : State) : Host.Outcome State Fault Refusal :=
  s.run (fun x => x.liveCore sd (fun c => c.rxStart p.val o idle.toNat))

/-- RX_FRAME_END (R107): At its last octet a frame is classified into error classes and dropped, delivered to the diagnostic
vport, or passed on. -/
def execRxFrameEnd (sd : SideId) (p : Fin 64) (align : Bool) (code : Bool) (fecGood : BitVec 16) (fecBad : BitVec 16) (s : State)
    : Host.Outcome State Fault Refusal :=
  s.run (fun x => x.liveCore sd (fun c => c.rxEnd (x.pipeEnv sd) p.val align code fecGood.toNat fecBad.toNat))

/-- PAUSE_FRAME_RECEIVE (R122): A valid 802.3 pause frame on a pause port pauses data transmission for its quanta, or ends the
pause with quanta 0. -/
def execPauseFrameReceive (sd : SideId) (p : Fin 64) (quanta : BitVec 16) (s : State) : Host.Outcome State Fault Refusal :=
  s.run (fun x => x.liveCore sd (fun c => c.controlReceive p.val (fun a => a.takePause a p.val quanta.toNat)))

/-- PFC_FRAME_RECEIVE (R122): A valid PFC frame pauses or resumes each enabled priority named in its class-enable vector. -/
def execPfcFrameReceive (sd : SideId) (p : Fin 64) (vector : BitVec 16) (quanta : List (BitVec 16)) (s : State) : Host.Outcome
    State Fault Refusal :=
  s.run (fun x => x.liveCore sd (fun c => c.controlReceive p.val (fun a => a.takePfc a p.val vector.toNat (fun i => (quanta.getD i 0).toNat))))

/-- PAUSE_EXPIRY (R122): A pause or PFC priority's pause time runs out without refresh and transmission of that state resumes. -/
def execPauseExpiry (sd : SideId) (p : Fin 64) (st : Fin 9) (s : State) : Host.Outcome State Fault Refusal :=
  s.run (fun x => x.liveCore sd (fun c => c.pauseExpiry p.val st.val))

/-- PAUSE_WATCHDOG_TRIP (R124): A pause watchdog reaches pause_watchdog_ms, ends the pause, enters hold-off, counts the trip and
reports it. -/
def execPauseWatchdogTrip (sd : SideId) (p : Fin 64) (st : Fin 9) (s : State) : Host.Outcome State Fault Refusal :=
  s.run (fun x => x.liveCore sd (fun c => c.watchdogTrip p.val st.val))

/-- PAUSE_HOLDOFF_END (R125): The pause_holdoff_ms period ends and the next pause or PFC frame for that state is honoured again.
-/
def execPauseHoldoffEnd (sd : SideId) (p : Fin 64) (st : Fin 9) (s : State) : Host.Outcome State Fault Refusal :=
  s.run (fun x => x.liveCore sd (fun c => c.pauseHoldoffEnd p.val st.val))

/-- PAUSE_REFRESH (R121): While an XOFF condition holds, the MAC repeats the pause or PFC frame each half of tx_pause_quanta. -/
def execPauseRefresh (sd : SideId) (p : Fin 64) (st : Fin 9) (s : State) : Host.Outcome State Fault Refusal :=
  s.run (fun x => x.liveCore sd (fun c => c.pauseRefresh p.val st.val))

/-- TX_ACTIVE_SA_WRITE (R130): A write of tx_active_sa switches the transmit SA from the next frame start. -/
def execTxActiveSaWrite (q : Requester) (sd : SideId) (p : Fin 64) (v : BitVec 8) (s : State) : Host.Outcome State Fault Refusal
    :=
  s.run (fun x => x.sideWrite q sd (Reg.tx_active_sa p.val) v.toNat)

/-- DEN_LINK_TIMEOUT (R132): A held port whose partner has not linked at den_rate within 100 ms reads link_state 0 and reports
link down. -/
def execDenLinkTimeout (sd : SideId) (p : Fin 64) (s : State) : Host.Outcome State Fault Refusal :=
  s.run (fun x => x.liveCore sd (fun c => c.denLinkTimeout p.val))

/-- EVENT_RATE_INTERVAL (R137): At the end of each 1 ms interval, rate-limited sources send one message per kind whose counters
advanced. -/
def execEventRateInterval (who : Option SideId) (s : State) : Host.Outcome State Fault Refusal :=
  s.run (fun x => x.rateEnd who)

end Sys2Proof.Machine
end

