-- ==== Sys2Proof/Machine/CmdPower.lean ====
section
/-! DEFINITION. CmdPower.lean: the meanings of the commands of clocks, power states, wake and voltage (R541 to R563, R633 to R651). -/

namespace Sys2Proof.Machine

/-- PLL_LOCK_TIMEOUT (R541): A side PLL has not locked 30 µs after enable; the Owl retries once, then reports it. -/
def execPllLockTimeout (sd : SideId) (n : Fin 6) (refBad : Bool) (s : State) : Host.Outcome State Fault Refusal :=
  s.run (fun x => x.pllTimeout sd n.val refBad)

/-- PLL_LOCK (R541): A side PLL locks, its output is switched to its units and pll_locked is set. -/
def execPllLock (sd : SideId) (n : Fin 6) (s : State) : Host.Outcome State Fault Refusal :=
  s.run (fun x => x.pllLocked sd n.val)

/-- PLL_LOCK_LOSS (R541): A running PLL loses lock and E+465 reports it. -/
def execPllLockLoss (sd : SideId) (n : Fin 6) (s : State) : Host.Outcome State Fault Refusal :=
  s.run (fun x => x.liveCore sd (fun c => c.pllLockLoss n.val))

/-- CORE_FREQ_CHANGE (R543): A write of core_pll_mhz or core_divider pauses the cores and applies the new frequency. -/
def execCoreFreqChange (q : Requester) (sd : SideId) (divider : Bool) (v : BitVec 16) (s : State) : Host.Outcome State Fault
    Refusal :=
  s.run (fun x => x.coreFreqChange q sd divider v.toNat)

/-- POWER_REQUEST_RUN (R545): power_request 0 asks a side in Den or Burrow to return to Run. -/
def execPowerRequestRun (q : Requester) (sd : SideId) (s : State) : Host.Outcome State Fault Refusal :=
  s.run (fun x => x.sideWrite q sd Reg.power_request 0)

/-- POWER_REQUEST_DEN (R545): power_request 1 starts entry into Den, or is refused. -/
def execPowerRequestDen (q : Requester) (sd : SideId) (s : State) : Host.Outcome State Fault Refusal :=
  s.run (fun x => x.sideWrite q sd Reg.power_request 1)

/-- POWER_REQUEST_BURROW (R545): power_request 2 starts entry into Burrow, or is refused. -/
def execPowerRequestBurrow (q : Requester) (sd : SideId) (s : State) : Host.Outcome State Fault Refusal :=
  s.run (fun x => x.sideWrite q sd Reg.power_request 2)

/-- ENTRY_DRAIN_DONE (R546): The frames inside drain and the flip completes, and ports are retrained or idled and clocks stopped.
-/
def execEntryDrainDone (sd : SideId) (s : State) : Host.Outcome State Fault Refusal :=
  s.run (fun x => x.liveCore sd (fun c => c.entryDrainDone))

/-- ENTRY_DRAIN_TIMEOUT (R546): den_drain_us passes before the drain ends and the remaining frames are discarded. -/
def execEntryDrainTimeout (sd : SideId) (s : State) : Host.Outcome State Fault Refusal :=
  s.run (fun x => x.drainTimeout sd)

/-- DEN_ENTERED (R546): Entry completes and the side reads Den. -/
def execDenEntered (sd : SideId) (s : State) : Host.Outcome State Fault Refusal :=
  s.run (fun x => x.liveCore sd (fun c => c.denEntered))

/-- BURROW_ENTERED (R552): Cores reset, DRAM retained or off, outputs released, switches open, and the side reads Burrow. -/
def execBurrowEntered (sd : SideId) (s : State) : Host.Outcome State Fault Refusal :=
  s.run (fun x => x.burrowIn sd)

/-- WAKE_IN_EDGE (R550): A WAKE_IN edge that holds for 100 µs wakes the sides that mask it, or a shorter pulse is counted as a
glitch. -/
def execWakeInEdge (n : Fin 8) (high : Bool) (held : Bool) (s : State) : Host.Outcome State Fault Refusal :=
  s.run (fun x => x.wakeInEdge n.val high held)

/-- WAKE_TIMER_EXPIRY (R548): wake_timer_ms after entry passes and the side wakes. -/
def execWakeTimerExpiry (sd : SideId) (s : State) : Host.Outcome State Fault Refusal :=
  s.run (fun x => x.wakeBy sd (fun c => c.wakeTimer))

/-- FIELD_WAKE_FRAME (R553): A valid CAN frame on the side's request identifier received in Burrow wakes the side. -/
def execFieldWakeFrame (sd : SideId) (ident : BitVec 11) (s : State) : Host.Outcome State Fault Refusal :=
  s.run (fun x => x.wakeBy sd (fun c => c.fieldWakeFrame ident.toNat))

/-- DEN_EXIT (R551): The side leaves Den, restarts its PLLs and fabric numbering, and returns to Run. -/
def execDenExit (sd : SideId) (s : State) : Host.Outcome State Fault Refusal :=
  s.run (fun x => x.leaveDen sd)

/-- HELD_PORT_FULL_RATE (R551): A held port locks at its port_mode after Den and reads link_state 1 without holdoff. -/
def execHeldPortFullRate (sd : SideId) (p : Fin 64) (s : State) : Host.Outcome State Fault Refusal :=
  s.run (fun x => x.liveCore sd (fun c => c.heldFullRate p.val))

/-- HELD_PORT_FALLBACK (R551): A held port not up 100 ms after leaving Den falls back to normal bring-up and reports link down. -/
def execHeldPortFallback (sd : SideId) (p : Fin 64) (s : State) : Host.Outcome State Fault Refusal :=
  s.run (fun x => x.liveCore sd (fun c => c.heldFallback p.val))

/-- BURROW_EXIT (R554): A wake starts the Burrow exit: core rail, switches, PLLs and defaults. -/
def execBurrowExit (sd : SideId) (s : State) : Host.Outcome State Fault Refusal :=
  s.run (fun x => x.livePlant (fun y => y.burrowExit sd))

/-- BURROW_EXIT_COMPLETE (R554): The Owl releases the side after re-applying its configuration and the side reads Run. -/
def execBurrowExitComplete (sd : SideId) (t : TrainOutcome) (s : State) : Host.Outcome State Fault Refusal :=
  s.run (fun x => x.livePlant (fun y => y.burrowExitComplete sd t.plain))

/-- AVS_MONITOR_READ (R556): Each 1 ms the Owl reads the path monitors and raises or lowers VDD, or lowers the core clock. -/
def execAvsMonitorRead (margins : List (BitVec 16)) (ack : Bool) (s : State) : Host.Outcome State Fault Refusal :=
  s.run (fun x => x.liveOwl (fun y => y.avsRead (margins.map BitVec.toNat) ack))

/-- POWERED_HOUR (R558): Each powered hour the Owl records age shifts, persists them and updates the life projection. -/
def execPoweredHour (shifts : List (BitVec 32)) (s : State) : Host.Outcome State Fault Refusal :=
  s.run (fun x => x.liveOwl (fun y => y.poweredHour (shifts.map BitVec.toInt)))

/-- RAIL_OUT_OF_RANGE (R636): A rail stays outside its range for 1 µs and its device source reports it. -/
def execRailOutOfRange (k : Fin 9) (s : State) : Host.Outcome State Fault Refusal :=
  s.run (fun x => x.railOut k.val)

/-- RAIL_IN_RANGE (R636): A supply rail returns within its range, setting its rail_status bit and ending its live fault condition,
and releasing the start-up or Burrow-exit wait. -/
def execRailInRange (k : Fin 9) (s : State) : Host.Outcome State Fault Refusal :=
  s.run (fun x => x.onDev (fun d => d.railIn k.val))

/-- AON_CLOCK_LOSS (R511): An always-on clock is lost and device source 15 reports it. -/
def execAonClockLoss (k : Fin 2) (s : State) : Host.Outcome State Fault Refusal :=
  s.run (fun x => x.onDev (fun d => d.aonLoss k.val))

/-- AON_CLOCK_RETURN (R561): A lost always-on clock is present again, aon_status shows it and the live bit of device source 15
clears. -/
def execAonClockReturn (k : Fin 2) (s : State) : Host.Outcome State Fault Refusal :=
  s.run (fun x => x.onDev (fun d => d.aonReturn k.val))

/-- TJ_SAMPLE (R643): Every 10 µs side_tj is read and warning or shutdown temperature conditions are reported. -/
def execTjSample (sd : SideId) (t : Int) (s : State) : Host.Outcome State Fault Refusal :=
  s.run (fun x => x.liveCore sd (fun c => c.tjSample t))

end Sys2Proof.Machine
end

