-- ==== Sys2Proof/Machine/CmdSwitch.lean ====
section
/-! DEFINITION. CmdSwitch.lean: the meanings of the commands of the switch core, the crossing and the pools (R285 to R344). -/

namespace Sys2Proof.Machine

/-- CELL_SEND (R292): In a fabric slot an ingress group sends one ready cell to its connected middle, spending a credit. -/
def execCellSend (sd : SideId) (g : Fin 8) (hdr : Fin 3) (s : State) : Host.Outcome State Fault Refusal :=
  s.run (fun x => x.fabricCore sd (fun c => c.cellSend g.val hdr.val))

/-- CREDIT_RETURN (R291): A fabric credit returns to its ingress group after its cell leaves the middle. -/
def execCreditReturn (sd : SideId) (g : Fin 8) (s : State) : Host.Outcome State Fault Refusal :=
  s.run (fun x => x.fabricCore sd (fun c => c.creditReturn g.val))

/-- CELL_ARRIVE (R294): An output slice writes an arriving cell into the buffer and releases cells of its stream in sequence
order, linking frames to queues. -/
def execCellArrive (e : EngineVisit) (k : Fin 8) (hdr : Fin 3) (s : State) : Host.Outcome State Fault Refusal :=
  s.run (fun x => x.fabricCore e.side (fun c => (c.poolDefects e.found).cellArrive k.val hdr.val))

/-- RESEQ_TIMEOUT (R295): An expected cell missing 2 µs after the first held cell is declared lost and the affected frames
dropped. -/
def execReseqTimeout (sd : SideId) (g : Fin 8) (t : Target) (n : Fin 8) (s : State) : Host.Outcome State Fault Refusal :=
  s.run (fun x => x.liveCore sd (fun c => c.reseqTimeout g.val t n.val))

/-- MGMT_FRAME_ORIGINATE (R303): A device-originated management frame that has obtained reserve cells enters the switch core
toward its port. -/
def execMgmtFrameOriginate (sd : SideId) (s : State) : Host.Outcome State Fault Refusal :=
  s.run (fun x => x.liveCore sd (fun c => c.mgmtOriginate))

/-- QUEUE_SELECT (R347): When the MAC can begin a frame, the port scheduler selects a queue by management, strict, and DWRR order
with fit and shaper checks. -/
def execQueueSelect (sd : SideId) (p : PortRead) (s : State) : Host.Outcome State Fault Refusal :=
  s.run (fun x => x.liveCore sd (fun c => c.queueSelect p.port.val p.rd))

/-- TRANSMIT_COMPLETE (R316): The MAC has read a frame's last octet, its cells return to free and it is counted as transmitted. -/
def execTransmitComplete (sd : SideId) (p : Fin 64) (rd : CellRead) (s : State) : Host.Outcome State Fault Refusal :=
  s.run (fun x => x.liveCore sd (fun c => c.transmitComplete p.val rd))

/-- CT_UNDERRUN (R307): A cut-through frame's next cell is missing, the frame ends stomped and the port enters cut-through
backoff. -/
def execCtUnderrun (sd : SideId) (p : Fin 64) (s : State) : Host.Outcome State Fault Refusal :=
  s.run (fun x => x.liveCore sd (fun c => c.ctUnderrun p.val))

/-- CT_BACKOFF_EXPIRY (R307): ct_backoff_us passes and the port may use cut-through again. -/
def execCtBackoffExpiry (sd : SideId) (p : Fin 64) (s : State) : Host.Outcome State Fault Refusal :=
  s.run (fun x => x.liveCore sd (fun c => c.ctBackoffExpiry p.val))

/-- CROSSING_SEND (R313): The Joined-mode crossing takes cells from the group FIFOs in round robin toward the far side. -/
def execCrossingSend (sd : SideId) (s : State) : Host.Outcome State Fault Refusal :=
  s.run (fun x => x.crossingSend sd)

/-- CROSSING_RECEIVE (R314): A copy's head cell arriving over the crossing is admitted on the receiving side or dropped. -/
def execCrossingReceive (v : CrossArrival) (s : State) : Host.Outcome State Fault Refusal :=
  s.run (fun x => x.crossingReceive v.side v.hdr.val)

/-- LEDGER_AUDIT (R318): Every 65,536 pipeline clocks the auditor latches every ledger and reports mismatches as Severe. -/
def execLedgerAudit (sd : SideId) (s : State) : Host.Outcome State Fault Refusal :=
  s.run (fun x => x.tableCore sd (fun c => c.ledgerAudit))

/-- POOL_ENABLE (R327): A write of pool_enable 1 gives the pool the lowest free granules, or is refused as over-committed. -/
def execPoolEnable (q : Requester) (sd : SideId) (n : Fin 8) (s : State) : Host.Outcome State Fault Refusal :=
  s.run (fun x => x.sideWrite q sd (Reg.pool_enable n.val) 1)

/-- POOL_DISABLE (R327): A write of pool_enable 0 disables the pool, returning granules when nothing is allocated. -/
def execPoolDisable (q : Requester) (sd : SideId) (n : Fin 8) (s : State) : Host.Outcome State Fault Refusal :=
  s.run (fun x => x.sideWrite q sd (Reg.pool_enable n.val) 0)

/-- BUFFER_ALLOC (R329): A queued allocation request takes the first free buffer of the pool or its chain and tags it with the
owner. -/
def execBufferAlloc (sd : SideId) (pool : Fin 8) (v : Fin 64) (ds : List Defect) (s : State) : Host.Outcome State Fault Refusal :=
  s.run (fun x => x.liveCore sd (fun c => c.bufferAlloc pool.val v.val ds))

/-- BUFFER_FREE (R330): A queued free returns a buffer to its pool after the double-free, handle and owner checks. -/
def execBufferFree (sd : SideId) (h : BitVec 64) (u : BufferUser) (ds : List Defect) (s : State) : Host.Outcome State Fault Refusal :=
  s.run (fun x => x.liveCore sd (fun c => c.bufferFree u.dma h.toNat u.vport.val ds))

/-- POOL_PORT_ALLOC (R334): A read of alloc_p at a pool port allocates from pool p for the port's owner and returns the handle. -/
def execPoolPortAlloc (e : EngineVisit) (o : Fin 73) (pool : Fin 8) (s : State) : Host.Outcome State Fault Refusal :=
  s.run (fun x => x.liveCore e.side (fun c => portAnswer o.val ((c.poolDefects e.found).poolPortAlloc o.val pool.val)))

/-- POOL_PORT_FREE (R334): A write to free at a pool port frees the handle written. -/
def execPoolPortFree (e : EngineVisit) (o : Fin 73) (h : BitVec 64) (s : State) : Host.Outcome State Fault Refusal :=
  s.run (fun x => x.liveCore e.side (fun c => (c.poolDefects e.found).poolPortFree o.val h.toNat))

/-- LAST_ERROR_READ (R334): A read of last_error returns the last refusal of the pool port and clears it. -/
def execLastErrorRead (sd : SideId) (o : Fin 73) (s : State) : Host.Outcome State Fault Refusal :=
  s.run (fun x => x.liveCore sd (fun c => portAnswer o.val (c.lastErrorRead o.val)))

/-- RECLAIM (R336): A write of 1 to reclaim puts reclaim_owner in reclaimed state and starts the tag scan. -/
def execReclaim (q : Requester) (sd : SideId) (s : State) : Host.Outcome State Fault Refusal :=
  s.run (fun x => x.sideWrite q sd Reg.reclaim 1)

/-- RECLAIM_EXIT (R336): A write of 0 to reclaim takes the owner out of reclaimed state. -/
def execReclaimExit (q : Requester) (sd : SideId) (s : State) : Host.Outcome State Fault Refusal :=
  s.run (fun x => x.sideWrite q sd Reg.reclaim 0)

/-- RECLAIM_DONE (R336): The reclaim scan ends with every buffer of the owner freed and reports completion. -/
def execReclaimDone (e : EngineVisit) (s : State) : Host.Outcome State Fault Refusal :=
  s.run (fun x => x.liveCore e.side (fun c => (c.poolDefects e.found).reclaimDone))

end Sys2Proof.Machine
end

