-- ==== Sys2Proof/Machine/CmdTable.lean ====
section
/-! DEFINITION. CmdTable.lean: the meanings of the commands of the parser, search, station tables, actions and epochs (R140 to R284). -/

namespace Sys2Proof.Machine

/-- PARSER_ACCEPT (R141): The parser accepts one frame from a port, vport ring or the recirculation path, stamps the live epoch
and runs it through lookups, actions and admission. -/
def execParserAccept (sd : SideId) (ds : List Defect) (s : State) : Host.Outcome State Fault Refusal :=
  s.run (fun x => x.parserAccept sd ds)

/-- SHAPE_COPY (R166): A write of the target epoch to shape_copy starts copying the other epoch's scalars and shapes into it. -/
def execShapeCopy (q : Requester) (sd : SideId) (v : BitVec 8) (s : State) : Host.Outcome State Fault Refusal :=
  s.run (fun x => x.sideWrite q sd Reg.shape_copy v.toNat)

/-- SHAPE_COPY_DONE (R165): The shape copy completes and shape_copy reads done. -/
def execShapeCopyDone (sd : SideId) (s : State) : Host.Outcome State Fault Refusal :=
  s.run (fun x => x.liveCore sd (fun c => c.copyDone Reg.shape_copy Core.copyShapes))

/-- PROFILE_COPY (R207): A write of the target epoch to profile_copy starts copying the other epoch's profiles into it. -/
def execProfileCopy (q : Requester) (sd : SideId) (v : BitVec 8) (s : State) : Host.Outcome State Fault Refusal :=
  s.run (fun x => x.sideWrite q sd Reg.profile_copy v.toNat)

/-- PROFILE_COPY_DONE (R207): The profile copy completes and profile_copy reads done. -/
def execProfileCopyDone (sd : SideId) (s : State) : Host.Outcome State Fault Refusal :=
  s.run (fun x => x.liveCore sd (fun c => c.copyDone Reg.profile_copy (fun a e => a.copyBank wProfile 256 e)))

/-- VID_MAP_COPY (R244): A write of the target epoch to vid_map_copy starts copying the other epoch's VID map into it. -/
def execVidMapCopy (q : Requester) (sd : SideId) (v : BitVec 8) (s : State) : Host.Outcome State Fault Refusal :=
  s.run (fun x => x.sideWrite q sd Reg.vid_map_copy v.toNat)

/-- VID_MAP_COPY_DONE (R244): The VID map copy completes. -/
def execVidMapCopyDone (sd : SideId) (s : State) : Host.Outcome State Fault Refusal :=
  s.run (fun x => x.liveCore sd (fun c => c.copyDone Reg.vid_map_copy (fun a e => a.copyBank wVidMap 4096 e)))

/-- BADGER_MOVE (R195): A write of 1 to badger_go enqueues a block move, or is refused. -/
def execBadgerMove (q : Requester) (sd : SideId) (s : State) : Host.Outcome State Fault Refusal :=
  s.run (fun x => x.sideWrite q sd Reg.badger_go 1)

/-- BADGER_MOVE_WRITE (R195): A write of 2 to badger_go enqueues a block move followed by a write of the staged entry, or is
refused. -/
def execBadgerMoveWrite (q : Requester) (sd : SideId) (s : State) : Host.Outcome State Fault Refusal :=
  s.run (fun x => x.sideWrite q sd Reg.badger_go 2)

/-- BADGER_COMMAND_START (R196): The next queued Badger command starts, checks its target and staged entry, and moves the block
place by place. -/
def execBadgerCommandStart (sd : SideId) (s : State) : Host.Outcome State Fault Refusal :=
  s.run (fun x => x.onEach sd (fun c => c.badgerStart))

/-- BADGER_COMMAND_DONE (R199): A Badger command finishes or fails, advances badger_seq_done and reports when asked or on failure.
-/
def execBadgerCommandDone (sd : SideId) (s : State) : Host.Outcome State Fault Refusal :=
  s.run (fun x => x.onEach sd (fun c => c.badgerDone))

/-- PROBE_SEARCH (R202): probe_cmd 1 runs the search on probe_key and opens the cursor on the winner. -/
def execProbeSearch (q : Requester) (sd : SideId) (k : Fin 4) (s : State) : Host.Outcome State Fault Refusal :=
  s.run (fun x => x.sideWrite q sd (Reg.probe_cmd k.val) 1)

/-- PROBE_STEP (R202): probe_cmd 2 returns the next match of the open cursor, or ends it. -/
def execProbeStep (q : Requester) (sd : SideId) (k : Fin 4) (s : State) : Host.Outcome State Fault Refusal :=
  s.run (fun x => x.sideWrite q sd (Reg.probe_cmd k.val) 2)

/-- PROBE_CLOSE (R202): probe_cmd 3 closes the cursor. -/
def execProbeClose (q : Requester) (sd : SideId) (k : Fin 4) (s : State) : Host.Outcome State Fault Refusal :=
  s.run (fun x => x.sideWrite q sd (Reg.probe_cmd k.val) 3)

/-- PROBE_COMPLETE (R202): A probe search or step completes and probe_result holds the entry returned. -/
def execProbeComplete (sd : SideId) (k : Fin 4) (s : State) : Host.Outcome State Fault Refusal :=
  s.run (fun x => x.liveCore sd (fun c => c.probeComplete k.val))

/-- SEARCH_SCRUB (R205): The scrubber checks each unit and descriptor in each scrub_interval_us, repairing from the shadow or
marking entries unusable. -/
def execSearchScrub (sd : SideId) (f : ScrubFinding) (s : State) : Host.Outcome State Fault Refusal :=
  s.run (fun x => x.liveCore sd (fun c => c.scrubSlot f))

/-- LEARN_APPLY (R225): The learning engine applies the oldest queued local request against the table as it stands: place,
refresh, move or refuse. -/
def execLearnApply (v : EngineVisit) (s : State) : Host.Outcome State Fault Refusal :=
  s.run (fun x => x.learnCore v.side (fun c => c.learnApply (x.learnEnv v.side) v.found))

/-- AGEING_VISIT (R231): The scanner visits a slot, ages or removes its dynamic entry, relocates stash entries and scrubs the
slot. -/
def execAgeingVisit (sd : SideId) (slot : Nat) (ecc : Fin 3) (s : State) : Host.Outcome State Fault Refusal :=
  s.run (fun x => x.learnCore sd (fun c => c.ageingVisit (x.learnEnv sd) slot ecc.val))

/-- STATION_SCRUB_VISIT (R241): A scrubbing visit between ageing visits checks and repairs a station slot. -/
def execStationScrubVisit (sd : SideId) (slot : Nat) (ecc : Fin 3) (s : State) : Host.Outcome State Fault Refusal :=
  s.run (fun x => x.liveCore sd (fun c => c.stationEcc slot ecc.val))

/-- LEARN_MSG_SEND (R235): When 8 records are held or learn_msg_batch_us has passed, and the interval allows, a learning message
leaves every learn_msg_tx port. -/
def execLearnMsgSend (sd : SideId) (s : State) : Host.Outcome State Fault Refusal :=
  s.run (fun x => x.liveCore sd (fun c => c.learnSend (x.learnEnv sd)))

/-- LEARN_MSG_RECEIVE (R236): A learning message released to the learning engine is checked and its records join the request
queue. -/
def execLearnMsgReceive (sd : SideId) (s : State) : Host.Outcome State Fault Refusal :=
  s.run (fun x => x.liveCore sd (fun c => c.learnReceive (x.learnEnv sd)))

/-- LEARN_RECORD_APPLY (R237): The engine applies a received record by the newer order and forwards it when it changed the table.
-/
def execLearnRecordApply (v : EngineVisit) (s : State) : Host.Outcome State Fault Refusal :=
  s.run (fun x => x.liveCore v.side (fun c => c.learnRecordApply (x.learnEnv v.side) v.found))

/-- STATION_INSERT (R243): station_cmd 1 queues insertion of the staged entry. -/
def execStationInsert (q : Requester) (sd : SideId) (s : State) : Host.Outcome State Fault Refusal :=
  s.run (fun x => x.sideWrite q sd Reg.station_cmd 1)

/-- STATION_REMOVE (R242): station_cmd 2 queues removal of the staged key. -/
def execStationRemove (q : Requester) (sd : SideId) (s : State) : Host.Outcome State Fault Refusal :=
  s.run (fun x => x.sideWrite q sd Reg.station_cmd 2)

/-- STATION_RELOCATE (R243): station_cmd 3 queues relocation of the entry at station_cmd_slot. -/
def execStationRelocate (q : Requester) (sd : SideId) (s : State) : Host.Outcome State Fault Refusal :=
  s.run (fun x => x.sideWrite q sd Reg.station_cmd 3)

/-- STATION_FLUSH (R243): station_cmd 4 queues removal of every entry matching flush_filter. -/
def execStationFlush (q : Requester) (sd : SideId) (s : State) : Host.Outcome State Fault Refusal :=
  s.run (fun x => x.sideWrite q sd Reg.station_cmd 4)

/-- STATION_CMD_EXECUTE (R243): A queued station command runs in request order with learning and sets station_cmd_result. -/
def execStationCmdExecute (v : EngineVisit) (s : State) : Host.Outcome State Fault Refusal :=
  s.run (fun x => x.liveCore v.side (fun c => c.stationCmdExecute (x.learnEnv v.side) v.found))

/-- REHASH_POP (R242): rehash_pop removes the head of the rehash queue. -/
def execRehashPop (q : Requester) (sd : SideId) (s : State) : Host.Outcome State Fault Refusal :=
  s.run (fun x => x.sideWrite q sd Reg.rehash_pop 1)

/-- ANNOUNCE (R244): A write of 1 to announce queues an op 1 record for every local dynamic entry. -/
def execAnnounce (q : Requester) (sd : SideId) (s : State) : Host.Outcome State Fault Refusal :=
  s.run (fun x => x.sideWrite q sd Reg.announce 1)

/-- EPOCH_FLIP (R277): A write of 0 or 1 to epoch_flip flips the live epoch at once or schedules it for flip_time, or is refused.
-/
def execEpochFlip (q : Requester) (sd : SideId) (jade : Bool) (s : State) : Host.Outcome State Fault Refusal :=
  s.run (fun x => x.sideWrite q sd Reg.epoch_flip (b2n jade))

/-- FLIP_CANCEL (R277): A write of 2 to epoch_flip cancels a scheduled flip. -/
def execFlipCancel (q : Requester) (sd : SideId) (s : State) : Host.Outcome State Fault Refusal :=
  s.run (fun x => x.sideWrite q sd Reg.epoch_flip 2)

/-- FLIP_TIME_REACHED (R277): Side time reaches flip_time and the scheduled flip takes effect. -/
def execFlipTimeReached (sd : SideId) (s : State) : Host.Outcome State Fault Refusal :=
  s.run (fun x => x.flipDue sd)

/-- FLIP_COMPLETE (R278): The old epoch's in-flight count reads 0, flip_state returns to 0 and the duration is recorded. -/
def execFlipComplete (sd : SideId) (s : State) : Host.Outcome State Fault Refusal :=
  s.run (fun x => x.flipEnd sd)

/-- FLIP_OVERRUN (R279): A flip still draining 2 µs after taking effect moves to Overrun and is reported. -/
def execFlipOverrun (sd : SideId) (s : State) : Host.Outcome State Fault Refusal :=
  s.run (fun x => x.flipLate sd)

/-- EPOCH_SYNC (R280): A write of 1 to epoch_sync starts making the idle epoch a copy of the live one. -/
def execEpochSync (q : Requester) (sd : SideId) (s : State) : Host.Outcome State Fault Refusal :=
  s.run (fun x => x.sideWrite q sd Reg.epoch_sync 1)

/-- EPOCH_SYNC_DONE (R280): The epoch sync completes. -/
def execEpochSyncDone (sd : SideId) (s : State) : Host.Outcome State Fault Refusal :=
  s.run (fun x => x.liveCore sd (fun c => c.epochSyncDone))

/-- FRER_RESET_TIMEOUT (R270): reset_ms passes with no tagged frame passed and recovery state resets. -/
def execFrerResetTimeout (sd : SideId) (n : Fin 1024) (s : State) : Host.Outcome State Fault Refusal :=
  s.run (fun x => x.liveCore sd (fun c => c.frerTimeout n.val))

/-- ACTION_SCRUB (R284): The scrubber visits an action-stage entry, repairing or marking it unusable. -/
def execActionScrub (sd : SideId) (w : Fin 7) (e : BitVec 17) (bad : WordError) (s : State) : Host.Outcome State Fault Refusal :=
  s.run (fun x => x.liveCore sd (fun c => c.actionScrub (0x1300 + w.val) e.toNat bad.word.val bad.unc))

end Sys2Proof.Machine
end

