-- ==== Sys2Proof/Machine/CmdTest.lean ====
section
/-! DEFINITION. CmdTest.lean: the meanings of the commands of test (R593 to R616). -/

namespace Sys2Proof.Machine

/-- PORT_TEST_WRITE (R593): A write of port_test puts the port in or out of port test. -/
def execPortTestWrite (q : Requester) (sd : SideId) (p : Fin 64) (v : BitVec 8) (s : State) : Host.Outcome State Fault Refusal :=
  s.run (fun x => x.sideWrite q sd (Reg.port_test p.val) v.toNat)

/-- PRBS_LOCK (R597): The checker predicts 64 consecutive bits and reads prbs_lock 1. -/
def execPrbsLock (sd : SideId) (p : Fin 64) (s : State) : Host.Outcome State Fault Refusal :=
  s.run (fun x => x.liveCore sd (fun c => c.prbsLock p.val))

/-- PRBS_LOCK_LOSS (R597): More than 128 of 1,024 bits differ, the checker drops lock and counts 1,024 errors. -/
def execPrbsLockLoss (sd : SideId) (p : Fin 64) (errors : BitVec 16) (s : State) : Host.Outcome State Fault Refusal :=
  s.run (fun x => x.liveCore sd (fun c => c.prbsLockLoss p.val errors.toNat))

/-- EYE_SCAN (R600): eye_cmd 1 starts an eye scan of the lane, or is refused. -/
def execEyeScan (q : Requester) (sd : SideId) (p : Fin 64) (s : State) : Host.Outcome State Fault Refusal :=
  s.run (fun x => x.sideWrite q sd (Reg.eye_cmd p.val) 1)

/-- EYE_SCAN_DONE (R600): The eye scan completes and eye_image holds its counts. -/
def execEyeScanDone (sd : SideId) (p : Fin 64) (counts : List (BitVec 16)) (s : State) : Host.Outcome State Fault Refusal :=
  s.run (fun x => x.liveCore sd (fun c => c.eyeScanDone p.val (counts.map BitVec.toNat)))

/-- GEN_START (R599): gen_cmd 1 starts the frame generator. -/
def execGenStart (q : Requester) (sd : SideId) (p : Fin 64) (s : State) : Host.Outcome State Fault Refusal :=
  s.run (fun x => x.sideWrite q sd (Reg.gen_cmd p.val) 1)

/-- GEN_STOP (R599): gen_cmd 2 stops the frame generator. -/
def execGenStop (q : Requester) (sd : SideId) (p : Fin 64) (s : State) : Host.Outcome State Fault Refusal :=
  s.run (fun x => x.sideWrite q sd (Reg.gen_cmd p.val) 2)

/-- GEN_COUNT_REACHED (R599): The generator has sent gen_count frames and stops. -/
def execGenCountReached (sd : SideId) (p : Fin 64) (s : State) : Host.Outcome State Fault Refusal :=
  s.run (fun x => x.liveCore sd (fun c => c.genCountReached p.val))

/-- CHECKER_FRAME (R599): A frame received in port test is checked for FCS, payload and sequence. -/
def execCheckerFrame (sd : SideId) (p : Fin 64) (o : Octets) (codeError : Bool) (s : State) : Host.Outcome State Fault Refusal :=
  s.run (fun x => x.liveCore sd (fun c => c.checkerFrame p.val o codeError))

/-- JTAG_INSTRUCTION (R601): An instruction loaded into the TAP selects its register and effect, or bypass when locked. -/
def execJtagInstruction (code : BitVec 8) (s : State) : Host.Outcome State Fault Refusal :=
  s.run (fun x => x.livePlant (fun y => y.tapInstruction code.toNat))

/-- JTAG_DATA_SCAN (R601): A data-register scan through the TAP drives boundary cells, performs a SYSBUS access or runs MBIST or
repair access under the loaded instruction. -/
def execJtagDataScan (scan : TapScan) (s : State) : Host.Outcome State Fault Refusal :=
  s.run (fun x => x.livePlant (fun y => y.tapScan scan))

/-- MBIST_RUN (R606): mbist_cmd 1 runs MBIST with the fused repairs on qualifying macros. -/
def execMbistRun (q : Requester) (s : State) : Host.Outcome State Fault Refusal :=
  s.run (fun x => x.deviceWrite q Reg.mbist_cmd 1)

/-- MBIST_RUN_STAGED (R606): mbist_cmd 2 runs MBIST with repair_stage in place of the fused repairs. -/
def execMbistRunStaged (q : Requester) (s : State) : Host.Outcome State Fault Refusal :=
  s.run (fun x => x.deviceWrite q Reg.mbist_cmd 2)

/-- MBIST_DONE (R606): The MBIST run completes and mbist_result holds each macro's outcome. -/
def execMbistDone (fails : List MbistFail) (s : State) : Host.Outcome State Fault Refusal :=
  s.run (fun x => x.livePlant (fun y => y.mbistDone fails))

/-- REPAIR_PROGRAM (R607): repair_program ORs repair_stage into the fuse field and verifies it. -/
def execRepairProgram (q : Requester) (v : BitVec 8) (part : Option (Fin 2048)) (misread : Bool) (s : State) : Host.Outcome State
    Fault Refusal :=
  s.run (fun x => x.commandWrite q ⟨false, part.map Fin.val, misread⟩ (.dev Reg.repair_program) v.toNat)

/-- FIELD_TEST_REQUEST (R610): field_test_request 1 asks for a field test, waiting for a quiet side. -/
def execFieldTestRequest (q : Requester) (sd : SideId) (s : State) : Host.Outcome State Fault Refusal :=
  s.run (fun x => x.sideWrite q sd Reg.field_test_request 1)

/-- FIELD_TEST_CANCEL (R610): field_test_request 0 cancels a waiting field test. -/
def execFieldTestCancel (q : Requester) (sd : SideId) (s : State) : Host.Outcome State Fault Refusal :=
  s.run (fun x => x.sideWrite q sd Reg.field_test_request 0)

/-- FIELD_TEST_DUE (R610): field_test_period_h powered hours have passed and a field test becomes due. -/
def execFieldTestDue (sd : SideId) (s : State) : Host.Outcome State Fault Refusal :=
  s.run (fun x => x.liveOwl (fun y => y.onCore sd (fun c => c.fieldDue)))

/-- FIELD_TEST_START (R608): The side is quiet and the Owl starts the waiting field test. -/
def execFieldTestStart (sd : SideId) (s : State) : Host.Outcome State Fault Refusal :=
  s.run (fun x => x.liveOwl (fun y => y.onCore sd (fun c => c.fieldStart)))

/-- FIELD_TEST_DONE (R610): The field test's parts end and the result is recorded and reported. -/
def execFieldTestDone (sd : SideId) (failed : BitVec 5) (unit : BitVec 16) (s : State) : Host.Outcome State Fault Refusal :=
  s.run (fun x => x.liveOwl (fun y => y.onCore sd (fun c => c.fieldDone x.dev.aon failed.toNat unit.toNat)))

end Sys2Proof.Machine
end

