-- ==== Sys2Proof/Machine/CmdTime.lean ====
section
/-! DEFINITION. CmdTime.lean: the meanings of the commands of gates, shapers, clocks and policing (R345 to R383). -/

namespace Sys2Proof.Machine

/-- GATE_CHANGE (R352): Side time reaches an entry boundary of a port gate list and the gates take the new states. -/
def execGateChange (sd : SideId) (p : Fin 64) (s : State) : Host.Outcome State Fault Refusal :=
  s.run (fun x => x.liveCore sd (fun c => c.gateChange p.val))

/-- CONFIG_CHANGE (R353): A write of 1 to config_change checks the administrative set and schedules or applies it. -/
def execConfigChange (q : Requester) (sd : SideId) (p : Fin 64) (s : State) : Host.Outcome State Fault Refusal :=
  s.run (fun x => x.sideWrite q sd (Reg.config_change p.val) 1)

/-- CONFIG_CHANGE_CANCEL (R353): A write of 2 to config_change cancels a pending change. -/
def execConfigChangeCancel (q : Requester) (sd : SideId) (p : Fin 64) (s : State) : Host.Outcome State Fault Refusal :=
  s.run (fun x => x.sideWrite q sd (Reg.config_change p.val) 2)

/-- CONFIG_CHANGE_TIME (R353): Side time reaches config_change_time and the administrative set becomes operational. -/
def execConfigChangeTime (sd : SideId) (p : Fin 64) (s : State) : Host.Outcome State Fault Refusal :=
  s.run (fun x => x.liveCore sd (fun c => c.configChangeTime p.val))

/-- VPORT_SELECT (R350): When delivery can take a frame for a vport, its scheduler selects a queue and delivery starts. -/
def execVportSelect (sd : SideId) (v : Fin 64) (fill : Octets) (ds : List Defect) (s : State) : Host.Outcome State Fault Refusal
    :=
  s.run (fun x => x.liveSide sd (fun d => d.vportSelect v.val fill ds))

/-- TIME_SOURCE_WRITE (R359): A write to time_source changes side time's source, which is a step of side time. -/
def execTimeSourceWrite (q : Requester) (sd : SideId) (v : BitVec 8) (s : State) : Host.Outcome State Fault Refusal :=
  s.run (fun x => x.sideWrite q sd Reg.time_source v.toNat)

/-- DOMAIN_ADJUST (R360): A write to domain_adjust slews the domain or steps it when beyond slew_limit_ns. -/
def execDomainAdjust (q : Requester) (sd : SideId) (n : Fin 4) (v : BitVec 64) (s : State) : Host.Outcome State Fault Refusal :=
  s.run (fun x => x.sideWrite q sd (Reg.domain_adjust n.val) v.toNat)

/-- DOMAIN_SET (R360): A write to domain_set steps the domain clock to the value written. -/
def execDomainSet (q : Requester) (sd : SideId) (n : Fin 4) (v : BitVec 128) (s : State) : Host.Outcome State Fault Refusal :=
  s.run (fun x => x.sideWrite q sd (Reg.domain_set n.val) v.toNat)

/-- SLEW_COMPLETE (R360): slew_remaining reaches 0 and the domain returns to its plain rate. -/
def execSlewComplete (sd : SideId) (n : Fin 4) (s : State) : Host.Outcome State Fault Refusal :=
  s.run (fun x => x.liveCore sd (fun c => c.slewComplete n.val))

/-- TIME_SNAPSHOT (R380): A write of 1 to snapshot latches the local clock and all four domains in one clock. -/
def execTimeSnapshot (q : Requester) (sd : SideId) (s : State) : Host.Outcome State Fault Refusal :=
  s.run (fun x => x.sideWrite q sd Reg.snapshot 1)

/-- PPS_OUT_EDGE (R364): The chosen time plus offset reaches a whole second and PPS_OUT rises. -/
def execPpsOutEdge (sd : SideId) (s : State) : Host.Outcome State Fault Refusal :=
  s.run (fun x => x.liveCore sd (fun c => c.ppsOutEdge))

/-- PPS_OUT_END (R364): pps_out_width_ns passes and PPS_OUT falls. -/
def execPpsOutEnd (sd : SideId) (s : State) : Host.Outcome State Fault Refusal :=
  s.run (fun x => x.liveCore sd (fun c => c.ppsOutEnd))

/-- PPS_IN_EDGE (R365): A rising PPS_IN edge is stamped and counted, or ignored as a glitch, or flagged out of window. -/
def execPpsInEdge (sd : SideId) (s : State) : Host.Outcome State Fault Refusal :=
  s.run (fun x => x.liveCore sd (fun c => c.ppsInEdge))

/-- PPS_MISSING (R366): No PPS edge arrives for 1 s plus pps_in_window_ns and the loss is counted and reported. -/
def execPpsMissing (sd : SideId) (s : State) : Host.Outcome State Fault Refusal :=
  s.run (fun x => x.liveCore sd (fun c => c.ppsMissing))

/-- METER_SWEEP (R371): The periodic sweep refills every meter's buckets at least once each 1 ms. -/
def execMeterSweep (sd : SideId) (s : State) : Host.Outcome State Fault Refusal :=
  s.run (fun x => x.liveCore sd (fun c => c.meterSweep))

/-- STREAM_GATE_CHANGE (R369): Side time reaches an entry boundary of a stream gate list and the gate takes the new state and IPV.
-/
def execStreamGateChange (sd : SideId) (g : Fin 256) (s : State) : Host.Outcome State Fault Refusal :=
  s.run (fun x => x.liveCore sd (fun c => c.sgateChange g.val))

/-- STREAM_GATE_CHANGE_TIME (R369): Side time reaches a stream gate's change time and its administrative list becomes operational.
-/
def execStreamGateChangeTime (sd : SideId) (g : Fin 256) (s : State) : Host.Outcome State Fault Refusal :=
  s.run (fun x => x.liveCore sd (fun c => c.sgateChangeTime g.val))

/-- POL_CLEAR_BLOCKED (R376): pol_cmd 1 clears blocked of the selected stream filter. -/
def execPolClearBlocked (q : Requester) (sd : SideId) (s : State) : Host.Outcome State Fault Refusal :=
  s.run (fun x => x.sideWrite q sd Reg.pol_cmd 1)

/-- POL_CLEAR_LATCH (R376): pol_cmd 2 clears the latch of the selected stream gate. -/
def execPolClearLatch (q : Requester) (sd : SideId) (s : State) : Host.Outcome State Fault Refusal :=
  s.run (fun x => x.sideWrite q sd Reg.pol_cmd 2)

/-- POL_CLEAR_RED (R376): pol_cmd 3 clears mark_all_red of the selected meter. -/
def execPolClearRed (q : Requester) (sd : SideId) (s : State) : Host.Outcome State Fault Refusal :=
  s.run (fun x => x.sideWrite q sd Reg.pol_cmd 3)

/-- POL_GATE_CHANGE (R376): pol_cmd 4 requests a list change of the selected stream gate. -/
def execPolGateChange (q : Requester) (sd : SideId) (s : State) : Host.Outcome State Fault Refusal :=
  s.run (fun x => x.sideWrite q sd Reg.pol_cmd 4)

/-- POL_GATE_CHANGE_CANCEL (R376): pol_cmd 5 cancels the selected stream gate's pending change. -/
def execPolGateChangeCancel (q : Requester) (sd : SideId) (s : State) : Host.Outcome State Fault Refusal :=
  s.run (fun x => x.sideWrite q sd Reg.pol_cmd 5)

/-- POL_BUCKETS_FULL (R376): pol_cmd 6 sets both buckets of the selected meter full. -/
def execPolBucketsFull (q : Requester) (sd : SideId) (s : State) : Host.Outcome State Fault Refusal :=
  s.run (fun x => x.sideWrite q sd Reg.pol_cmd 6)

/-- POLICING_SCRUB (R377): The scrubber visits a policing or gate entry, repairing it or applying the uncorrectable effect. -/
def execPolicingScrub (sd : SideId) (w : Fin 9) (e : BitVec 16) (unc : Bool) (s : State) : Host.Outcome State Fault Refusal :=
  s.run (fun x => x.liveCore sd (fun c => c.policeEcc (0x1400 + w.val) e.toNat unc))

end Sys2Proof.Machine
end

