-- ==== Sys2Proof/Machine/Dispatch.lean ====
section
/-! DEFINITION. Dispatch.lean: the meaning of each command, one arm for each row of the table. -/

namespace Sys2Proof.Machine

def exec (i : Instr) (s : State) : Host.Outcome State Fault Refusal :=
  match i with
  | .objectWrite q index sub part v => Sys2Proof.Machine.execObjectWrite q index sub part v s
  | .apertureEntryWrite sd a k m part v => Sys2Proof.Machine.execApertureEntryWrite sd a k m part v s
  | .tyistRead sd f h => Sys2Proof.Machine.execTyistRead sd f h s
  | .tyistWrite sd f h => Sys2Proof.Machine.execTyistWrite sd f h s
  | .tyistSegReadBegin sd f h => Sys2Proof.Machine.execTyistSegReadBegin sd f h s
  | .tyistSegWriteBegin sd f h => Sys2Proof.Machine.execTyistSegWriteBegin sd f h s
  | .tyistSegment sd f h => Sys2Proof.Machine.execTyistSegment sd f h s
  | .tyistSegAck sd f h => Sys2Proof.Machine.execTyistSegAck sd f h s
  | .tyistAbort sd f h => Sys2Proof.Machine.execTyistAbort sd f h s
  | .tyistPduMalformed sd f o => Sys2Proof.Machine.execTyistPduMalformed sd f o s
  | .segmentTimeout n => Sys2Proof.Machine.execSegmentTimeout n s
  | .classicFrameIgnored sd ident => Sys2Proof.Machine.execClassicFrameIgnored sd ident s
  | .fieldBusOff sd => Sys2Proof.Machine.execFieldBusOff sd s
  | .inbandRequest sd => Sys2Proof.Machine.execInbandRequest sd s
  | .bundleStageWrite q off o => Sys2Proof.Machine.execBundleStageWrite q off o s
  | .bundleOwnerTimeout => Sys2Proof.Machine.execBundleOwnerTimeout s
  | .bundleApply q v => Sys2Proof.Machine.execBundleApply q v s
  | .bundleApplyComplete => Sys2Proof.Machine.execBundleApplyComplete s
  | .portModeWrite q sd p v => Sys2Proof.Machine.execPortModeWrite q sd p v s
  | .adminUpWrite q sd p v => Sys2Proof.Machine.execAdminUpWrite q sd p v s
  | .laneLock sd p => Sys2Proof.Machine.execLaneLock sd p s
  | .anComplete sd p outcome word => Sys2Proof.Machine.execAnComplete sd p outcome word s
  | .linkUpHoldoffExpiry sd p => Sys2Proof.Machine.execLinkUpHoldoffExpiry sd p s
  | .linkFault sd p cause => Sys2Proof.Machine.execLinkFault sd p cause s
  | .linkConditionChange sd p signal locked lfault rfault => Sys2Proof.Machine.execLinkConditionChange sd p signal locked lfault rfault s
  | .rxFrameStart sd p o idle => Sys2Proof.Machine.execRxFrameStart sd p o idle s
  | .rxFrameEnd sd p align code fecGood fecBad => Sys2Proof.Machine.execRxFrameEnd sd p align code fecGood fecBad s
  | .pauseFrameReceive sd p quanta => Sys2Proof.Machine.execPauseFrameReceive sd p quanta s
  | .pfcFrameReceive sd p vector quanta => Sys2Proof.Machine.execPfcFrameReceive sd p vector quanta s
  | .pauseExpiry sd p st => Sys2Proof.Machine.execPauseExpiry sd p st s
  | .pauseWatchdogTrip sd p st => Sys2Proof.Machine.execPauseWatchdogTrip sd p st s
  | .pauseHoldoffEnd sd p st => Sys2Proof.Machine.execPauseHoldoffEnd sd p st s
  | .pauseRefresh sd p st => Sys2Proof.Machine.execPauseRefresh sd p st s
  | .txActiveSaWrite q sd p v => Sys2Proof.Machine.execTxActiveSaWrite q sd p v s
  | .denLinkTimeout sd p => Sys2Proof.Machine.execDenLinkTimeout sd p s
  | .eventRateInterval who => Sys2Proof.Machine.execEventRateInterval who s
  | .parserAccept sd ds => Sys2Proof.Machine.execParserAccept sd ds s
  | .shapeCopy q sd v => Sys2Proof.Machine.execShapeCopy q sd v s
  | .shapeCopyDone sd => Sys2Proof.Machine.execShapeCopyDone sd s
  | .profileCopy q sd v => Sys2Proof.Machine.execProfileCopy q sd v s
  | .profileCopyDone sd => Sys2Proof.Machine.execProfileCopyDone sd s
  | .vidMapCopy q sd v => Sys2Proof.Machine.execVidMapCopy q sd v s
  | .vidMapCopyDone sd => Sys2Proof.Machine.execVidMapCopyDone sd s
  | .badgerMove q sd => Sys2Proof.Machine.execBadgerMove q sd s
  | .badgerMoveWrite q sd => Sys2Proof.Machine.execBadgerMoveWrite q sd s
  | .badgerCommandStart sd => Sys2Proof.Machine.execBadgerCommandStart sd s
  | .badgerCommandDone sd => Sys2Proof.Machine.execBadgerCommandDone sd s
  | .probeSearch q sd k => Sys2Proof.Machine.execProbeSearch q sd k s
  | .probeStep q sd k => Sys2Proof.Machine.execProbeStep q sd k s
  | .probeClose q sd k => Sys2Proof.Machine.execProbeClose q sd k s
  | .probeComplete sd k => Sys2Proof.Machine.execProbeComplete sd k s
  | .searchScrub sd f => Sys2Proof.Machine.execSearchScrub sd f s
  | .learnApply v => Sys2Proof.Machine.execLearnApply v s
  | .ageingVisit sd slot ecc => Sys2Proof.Machine.execAgeingVisit sd slot ecc s
  | .stationScrubVisit sd slot ecc => Sys2Proof.Machine.execStationScrubVisit sd slot ecc s
  | .learnMsgSend sd => Sys2Proof.Machine.execLearnMsgSend sd s
  | .learnMsgReceive sd => Sys2Proof.Machine.execLearnMsgReceive sd s
  | .learnRecordApply v => Sys2Proof.Machine.execLearnRecordApply v s
  | .stationInsert q sd => Sys2Proof.Machine.execStationInsert q sd s
  | .stationRemove q sd => Sys2Proof.Machine.execStationRemove q sd s
  | .stationRelocate q sd => Sys2Proof.Machine.execStationRelocate q sd s
  | .stationFlush q sd => Sys2Proof.Machine.execStationFlush q sd s
  | .stationCmdExecute v => Sys2Proof.Machine.execStationCmdExecute v s
  | .rehashPop q sd => Sys2Proof.Machine.execRehashPop q sd s
  | .announce q sd => Sys2Proof.Machine.execAnnounce q sd s
  | .epochFlip q sd jade => Sys2Proof.Machine.execEpochFlip q sd jade s
  | .flipCancel q sd => Sys2Proof.Machine.execFlipCancel q sd s
  | .flipTimeReached sd => Sys2Proof.Machine.execFlipTimeReached sd s
  | .flipComplete sd => Sys2Proof.Machine.execFlipComplete sd s
  | .flipOverrun sd => Sys2Proof.Machine.execFlipOverrun sd s
  | .epochSync q sd => Sys2Proof.Machine.execEpochSync q sd s
  | .epochSyncDone sd => Sys2Proof.Machine.execEpochSyncDone sd s
  | .frerResetTimeout sd n => Sys2Proof.Machine.execFrerResetTimeout sd n s
  | .actionScrub sd w e bad => Sys2Proof.Machine.execActionScrub sd w e bad s
  | .cellSend sd g hdr => Sys2Proof.Machine.execCellSend sd g hdr s
  | .creditReturn sd g => Sys2Proof.Machine.execCreditReturn sd g s
  | .cellArrive e k hdr => Sys2Proof.Machine.execCellArrive e k hdr s
  | .reseqTimeout sd g t n => Sys2Proof.Machine.execReseqTimeout sd g t n s
  | .mgmtFrameOriginate sd => Sys2Proof.Machine.execMgmtFrameOriginate sd s
  | .queueSelect sd p => Sys2Proof.Machine.execQueueSelect sd p s
  | .transmitComplete sd p rd => Sys2Proof.Machine.execTransmitComplete sd p rd s
  | .ctUnderrun sd p => Sys2Proof.Machine.execCtUnderrun sd p s
  | .ctBackoffExpiry sd p => Sys2Proof.Machine.execCtBackoffExpiry sd p s
  | .crossingSend sd => Sys2Proof.Machine.execCrossingSend sd s
  | .crossingReceive v => Sys2Proof.Machine.execCrossingReceive v s
  | .ledgerAudit sd => Sys2Proof.Machine.execLedgerAudit sd s
  | .poolEnable q sd n => Sys2Proof.Machine.execPoolEnable q sd n s
  | .poolDisable q sd n => Sys2Proof.Machine.execPoolDisable q sd n s
  | .bufferAlloc sd pool v ds => Sys2Proof.Machine.execBufferAlloc sd pool v ds s
  | .bufferFree sd h u ds => Sys2Proof.Machine.execBufferFree sd h u ds s
  | .poolPortAlloc e o pool => Sys2Proof.Machine.execPoolPortAlloc e o pool s
  | .poolPortFree e o h => Sys2Proof.Machine.execPoolPortFree e o h s
  | .lastErrorRead sd o => Sys2Proof.Machine.execLastErrorRead sd o s
  | .reclaim q sd => Sys2Proof.Machine.execReclaim q sd s
  | .reclaimExit q sd => Sys2Proof.Machine.execReclaimExit q sd s
  | .reclaimDone e => Sys2Proof.Machine.execReclaimDone e s
  | .gateChange sd p => Sys2Proof.Machine.execGateChange sd p s
  | .configChange q sd p => Sys2Proof.Machine.execConfigChange q sd p s
  | .configChangeCancel q sd p => Sys2Proof.Machine.execConfigChangeCancel q sd p s
  | .configChangeTime sd p => Sys2Proof.Machine.execConfigChangeTime sd p s
  | .vportSelect sd v fill ds => Sys2Proof.Machine.execVportSelect sd v fill ds s
  | .timeSourceWrite q sd v => Sys2Proof.Machine.execTimeSourceWrite q sd v s
  | .domainAdjust q sd n v => Sys2Proof.Machine.execDomainAdjust q sd n v s
  | .domainSet q sd n v => Sys2Proof.Machine.execDomainSet q sd n v s
  | .slewComplete sd n => Sys2Proof.Machine.execSlewComplete sd n s
  | .timeSnapshot q sd => Sys2Proof.Machine.execTimeSnapshot q sd s
  | .ppsOutEdge sd => Sys2Proof.Machine.execPpsOutEdge sd s
  | .ppsOutEnd sd => Sys2Proof.Machine.execPpsOutEnd sd s
  | .ppsInEdge sd => Sys2Proof.Machine.execPpsInEdge sd s
  | .ppsMissing sd => Sys2Proof.Machine.execPpsMissing sd s
  | .meterSweep sd => Sys2Proof.Machine.execMeterSweep sd s
  | .streamGateChange sd g => Sys2Proof.Machine.execStreamGateChange sd g s
  | .streamGateChangeTime sd g => Sys2Proof.Machine.execStreamGateChangeTime sd g s
  | .polClearBlocked q sd => Sys2Proof.Machine.execPolClearBlocked q sd s
  | .polClearLatch q sd => Sys2Proof.Machine.execPolClearLatch q sd s
  | .polClearRed q sd => Sys2Proof.Machine.execPolClearRed q sd s
  | .polGateChange q sd => Sys2Proof.Machine.execPolGateChange q sd s
  | .polGateChangeCancel q sd => Sys2Proof.Machine.execPolGateChangeCancel q sd s
  | .polBucketsFull q sd => Sys2Proof.Machine.execPolBucketsFull q sd s
  | .policingScrub sd w e unc => Sys2Proof.Machine.execPolicingScrub sd w e unc s
  | .coreRunWrite q sd v => Sys2Proof.Machine.execCoreRunWrite q sd v s
  | .vportBindAccess sd k mode v => Sys2Proof.Machine.execVportBindAccess sd k mode v s
  | .lockstepDivergence sd k pc => Sys2Proof.Machine.execLockstepDivergence sd k pc s
  | .ldWriteComplete sd v rd => Sys2Proof.Machine.execLdWriteComplete sd v rd s
  | .spmScrub sd w ecc => Sys2Proof.Machine.execSpmScrub sd w ecc s
  | .dramTrainFull q sd => Sys2Proof.Machine.execDramTrainFull q sd s
  | .dramTrainRestore q sd => Sys2Proof.Machine.execDramTrainRestore q sd s
  | .dramTrainDone sd fails => Sys2Proof.Machine.execDramTrainDone sd fails s
  | .retrainStep sd => Sys2Proof.Machine.execRetrainStep sd s
  | .retrainUpdate sd r0 r1 r2 r3 => Sys2Proof.Machine.execRetrainUpdate sd r0 r1 r2 r3 s
  | .fspRequest q sd n => Sys2Proof.Machine.execFspRequest q sd n s
  | .fspCancel q sd => Sys2Proof.Machine.execFspCancel q sd s
  | .fspChangeDone sd => Sys2Proof.Machine.execFspChangeDone sd s
  | .dramRead sd u addr len tag => Sys2Proof.Machine.execDramRead sd u addr len tag s
  | .dramWrite sd u addr o tag => Sys2Proof.Machine.execDramWrite sd u addr o tag s
  | .dramCommandIssue sd ch es mr27 => Sys2Proof.Machine.execDramCommandIssue sd ch es mr27 s
  | .regWindow sd => Sys2Proof.Machine.execRegWindow sd s
  | .refreshInterval sd ch rank => Sys2Proof.Machine.execRefreshInterval sd ch rank s
  | .dramTempEstimate sd ch t => Sys2Proof.Machine.execDramTempEstimate sd ch t s
  | .mr4Poll sd ch rank code => Sys2Proof.Machine.execMr4Poll sd ch rank code s
  | .dramSrIdle sd => Sys2Proof.Machine.execDramSrIdle sd s
  | .hostPortReset cause => Sys2Proof.Machine.execHostPortReset cause s
  | .flr sd fn => Sys2Proof.Machine.execFlr sd fn s
  | .pcieUnsupportedRequest sd fn => Sys2Proof.Machine.execPcieUnsupportedRequest sd fn s
  | .pcieMalformedTlp => Sys2Proof.Machine.execPcieMalformedTlp s
  | .pciePoisonedWrite => Sys2Proof.Machine.execPciePoisonedWrite s
  | .pcieUnexpectedCpl => Sys2Proof.Machine.execPcieUnexpectedCpl s
  | .dmaReadCompletion sd v outcome o => Sys2Proof.Machine.execDmaReadCompletion sd v outcome o s
  | .pcieCplTimeout sd v => Sys2Proof.Machine.execPcieCplTimeout sd v s
  | .txTailWrite q sd v n => Sys2Proof.Machine.execTxTailWrite q sd v n s
  | .fillTailWrite q sd v n => Sys2Proof.Machine.execFillTailWrite q sd v n s
  | .consumerHeadWrite q sd v r n => Sys2Proof.Machine.execConsumerHeadWrite q sd v r n s
  | .irqDelayExpiry sd v r => Sys2Proof.Machine.execIrqDelayExpiry sd v r s
  | .txDescriptorFetch e v desc => Sys2Proof.Machine.execTxDescriptorFetch e v desc s
  | .txCompletion e v => Sys2Proof.Machine.execTxCompletion e v s
  | .txStampTimeout sd v => Sys2Proof.Machine.execTxStampTimeout sd v s
  | .hostDeliveryComplete sd v rd => Sys2Proof.Machine.execHostDeliveryComplete sd v rd s
  | .vportCreate q sd v => Sys2Proof.Machine.execVportCreate q sd v s
  | .vportReset q sd v => Sys2Proof.Machine.execVportReset q sd v s
  | .vportDestroy q sd v => Sys2Proof.Machine.execVportDestroy q sd v s
  | .vportFreeze q sd v => Sys2Proof.Machine.execVportFreeze q sd v s
  | .vportThaw q sd v => Sys2Proof.Machine.execVportThaw q sd v s
  | .vportSave q sd v => Sys2Proof.Machine.execVportSave q sd v s
  | .vportRestore q sd v => Sys2Proof.Machine.execVportRestore q sd v s
  | .vportResetComplete sd v => Sys2Proof.Machine.execVportResetComplete sd v s
  | .freezeComplete sd v => Sys2Proof.Machine.execFreezeComplete sd v s
  | .freezeDeadline sd v => Sys2Proof.Machine.execFreezeDeadline sd v s
  | .counterSnapshot q sd => Sys2Proof.Machine.execCounterSnapshot q sd s
  | .snapshotWritten sd => Sys2Proof.Machine.execSnapshotWritten sd s
  | .countersClear q sd => Sys2Proof.Machine.execCountersClear q sd s
  | .windowCountersClear q sd => Sys2Proof.Machine.execWindowCountersClear q sd s
  | .hpmCounterWrap sd k n smp => Sys2Proof.Machine.execHpmCounterWrap sd k n smp s
  | .sampHeadWrite q sd k v => Sys2Proof.Machine.execSampHeadWrite q sd k v s
  | .faultMessage m => Sys2Proof.Machine.execFaultMessage m s
  | .fenceComplete sd kind num => Sys2Proof.Machine.execFenceComplete sd kind num s
  | .promotionLapse sd e => Sys2Proof.Machine.execPromotionLapse sd e s
  | .faultClear q sd v => Sys2Proof.Machine.execFaultClear q sd v s
  | .unfencePort q sd n => Sys2Proof.Machine.execUnfencePort q sd n s
  | .unfenceBank q sd n => Sys2Proof.Machine.execUnfenceBank q sd n s
  | .unfenceSlice q sd n => Sys2Proof.Machine.execUnfenceSlice q sd n s
  | .unfenceMiddle q sd n => Sys2Proof.Machine.execUnfenceMiddle q sd n s
  | .unfenceRank q sd n => Sys2Proof.Machine.execUnfenceRank q sd n s
  | .unfenceCorePair q sd n => Sys2Proof.Machine.execUnfenceCorePair q sd n s
  | .unfenceSpmBank q sd n => Sys2Proof.Machine.execUnfenceSpmBank q sd n s
  | .unfenceVport q sd n => Sys2Proof.Machine.execUnfenceVport q sd n s
  | .degradeRelease q sd => Sys2Proof.Machine.execDegradeRelease q sd s
  | .pairRelease q sd => Sys2Proof.Machine.execPairRelease q sd s
  | .eventAck q sd v => Sys2Proof.Machine.execEventAck q sd v s
  | .ffrClear q sd => Sys2Proof.Machine.execFfrClear q sd s
  | .deviceFaultMessage => Sys2Proof.Machine.execDeviceFaultMessage s
  | .deviceFaultClear q v => Sys2Proof.Machine.execDeviceFaultClear q v s
  | .deviceEventAck q v => Sys2Proof.Machine.execDeviceEventAck q v s
  | .deviceFfrClear q => Sys2Proof.Machine.execDeviceFfrClear q s
  | .heartbeatLoss sd => Sys2Proof.Machine.execHeartbeatLoss sd s
  | .pairReadbackMismatch sd pn => Sys2Proof.Machine.execPairReadbackMismatch sd pn s
  | .stallDetect sd jade => Sys2Proof.Machine.execStallDetect sd jade s
  | .owlWatchdogExpiry => Sys2Proof.Machine.execOwlWatchdogExpiry s
  | .pllLockTimeout sd n refBad => Sys2Proof.Machine.execPllLockTimeout sd n refBad s
  | .pllLock sd n => Sys2Proof.Machine.execPllLock sd n s
  | .pllLockLoss sd n => Sys2Proof.Machine.execPllLockLoss sd n s
  | .coreFreqChange q sd divider v => Sys2Proof.Machine.execCoreFreqChange q sd divider v s
  | .powerRequestRun q sd => Sys2Proof.Machine.execPowerRequestRun q sd s
  | .powerRequestDen q sd => Sys2Proof.Machine.execPowerRequestDen q sd s
  | .powerRequestBurrow q sd => Sys2Proof.Machine.execPowerRequestBurrow q sd s
  | .entryDrainDone sd => Sys2Proof.Machine.execEntryDrainDone sd s
  | .entryDrainTimeout sd => Sys2Proof.Machine.execEntryDrainTimeout sd s
  | .denEntered sd => Sys2Proof.Machine.execDenEntered sd s
  | .burrowEntered sd => Sys2Proof.Machine.execBurrowEntered sd s
  | .wakeInEdge n high held => Sys2Proof.Machine.execWakeInEdge n high held s
  | .wakeTimerExpiry sd => Sys2Proof.Machine.execWakeTimerExpiry sd s
  | .fieldWakeFrame sd ident => Sys2Proof.Machine.execFieldWakeFrame sd ident s
  | .denExit sd => Sys2Proof.Machine.execDenExit sd s
  | .heldPortFullRate sd p => Sys2Proof.Machine.execHeldPortFullRate sd p s
  | .heldPortFallback sd p => Sys2Proof.Machine.execHeldPortFallback sd p s
  | .burrowExit sd => Sys2Proof.Machine.execBurrowExit sd s
  | .burrowExitComplete sd t => Sys2Proof.Machine.execBurrowExitComplete sd t s
  | .avsMonitorRead margins ack => Sys2Proof.Machine.execAvsMonitorRead margins ack s
  | .poweredHour shifts => Sys2Proof.Machine.execPoweredHour shifts s
  | .railOutOfRange k => Sys2Proof.Machine.execRailOutOfRange k s
  | .aonClockLoss k => Sys2Proof.Machine.execAonClockLoss k s
  | .tjSample sd t => Sys2Proof.Machine.execTjSample sd t s
  | .porstAssert => Sys2Proof.Machine.execPorstAssert s
  | .porstRelease straps fuses flash bad => Sys2Proof.Machine.execPorstRelease straps fuses flash bad s
  | .bootSlotVerify flash => Sys2Proof.Machine.execBootSlotVerify flash s
  | .firmwareStart => Sys2Proof.Machine.execFirmwareStart s
  | .sideRelease ta tb fa fb => Sys2Proof.Machine.execSideRelease ta tb fa fb s
  | .deferredBootComplete ta tb => Sys2Proof.Machine.execDeferredBootComplete ta tb s
  | .versionCommit q v part => Sys2Proof.Machine.execVersionCommit q v part s
  | .recoveryBoot q => Sys2Proof.Machine.execRecoveryBoot q s
  | .recoveryProgram q => Sys2Proof.Machine.execRecoveryProgram q s
  | .persistSnapshot => Sys2Proof.Machine.execPersistSnapshot s
  | .flashBusyTimeout => Sys2Proof.Machine.execFlashBusyTimeout s
  | .attestNonceWrite q v => Sys2Proof.Machine.execAttestNonceWrite q v s
  | .attestRequest q => Sys2Proof.Machine.execAttestRequest q s
  | .attestReportReady => Sys2Proof.Machine.execAttestReportReady s
  | .attestTimeout => Sys2Proof.Machine.execAttestTimeout s
  | .attestOwnerTimeout => Sys2Proof.Machine.execAttestOwnerTimeout s
  | .sideResetAssert sd => Sys2Proof.Machine.execSideResetAssert sd s
  | .sideResetRelease sd t o => Sys2Proof.Machine.execSideResetRelease sd t o s
  | .sideResetWrite q sd => Sys2Proof.Machine.execSideResetWrite q sd s
  | .portTestWrite q sd p v => Sys2Proof.Machine.execPortTestWrite q sd p v s
  | .prbsLock sd p => Sys2Proof.Machine.execPrbsLock sd p s
  | .prbsLockLoss sd p errors => Sys2Proof.Machine.execPrbsLockLoss sd p errors s
  | .eyeScan q sd p => Sys2Proof.Machine.execEyeScan q sd p s
  | .eyeScanDone sd p counts => Sys2Proof.Machine.execEyeScanDone sd p counts s
  | .genStart q sd p => Sys2Proof.Machine.execGenStart q sd p s
  | .genStop q sd p => Sys2Proof.Machine.execGenStop q sd p s
  | .genCountReached sd p => Sys2Proof.Machine.execGenCountReached sd p s
  | .checkerFrame sd p o codeError => Sys2Proof.Machine.execCheckerFrame sd p o codeError s
  | .jtagInstruction code => Sys2Proof.Machine.execJtagInstruction code s
  | .mbistRun q => Sys2Proof.Machine.execMbistRun q s
  | .mbistRunStaged q => Sys2Proof.Machine.execMbistRunStaged q s
  | .mbistDone fails => Sys2Proof.Machine.execMbistDone fails s
  | .repairProgram q v part misread => Sys2Proof.Machine.execRepairProgram q v part misread s
  | .fieldTestRequest q sd => Sys2Proof.Machine.execFieldTestRequest q sd s
  | .fieldTestCancel q sd => Sys2Proof.Machine.execFieldTestCancel q sd s
  | .fieldTestDue sd => Sys2Proof.Machine.execFieldTestDue sd s
  | .fieldTestStart sd => Sys2Proof.Machine.execFieldTestStart sd s
  | .fieldTestDone sd failed unit => Sys2Proof.Machine.execFieldTestDone sd failed unit s
  | .objectRead q addr part => Sys2Proof.Machine.execObjectRead q addr part s
  | .scratchpadRequest sd l ecc => Sys2Proof.Machine.execScratchpadRequest sd l ecc s
  | .cacheEccError sd u addr unc => Sys2Proof.Machine.execCacheEccError sd u addr unc s
  | .pcieConfigWrite sd fn field v => Sys2Proof.Machine.execPcieConfigWrite sd fn field v s
  | .pcieLinkUp speed width => Sys2Proof.Machine.execPcieLinkUp speed width s
  | .msixTableWrite sd fn entry word v => Sys2Proof.Machine.execMsixTableWrite sd fn entry word v s
  | .fieldBusOffRecovery sd => Sys2Proof.Machine.execFieldBusOffRecovery sd s
  | .railInRange k => Sys2Proof.Machine.execRailInRange k s
  | .aonClockReturn k => Sys2Proof.Machine.execAonClockReturn k s
  | .crossingTrainingDone ok => Sys2Proof.Machine.execCrossingTrainingDone ok s
  | .bootFirmwareTimeout => Sys2Proof.Machine.execBootFirmwareTimeout s
  | .jtagDataScan scan => Sys2Proof.Machine.execJtagDataScan scan s

end Sys2Proof.Machine
end

