-- ==== Sys2Proof/Machine/Balls.lean ====
section
/-! DEFINITION. Balls.lean: the states that the output balls take by the states of the device and of their side (R618, R620, R630,
R632). A device without its supplies has no state here. -/

namespace Sys2Proof.Machine

/-- The output balls of R632. -/
inductive OutBall where
  | laneTx (s : SideId) (p : Nat)
  | pcieTx
  /-- DDRs_CK, CA and CS. -/
  | ddrClock (s : SideId)
  /-- DDRs_DQ, DMI, RDQS and WCK. -/
  | ddrData (s : SideId)
  | ddrReset (s : SideId)
  /-- FLT_x_P and FLT_x_N. -/
  | fault (s : SideId)
  | canTxd (s : SideId)
  | ppsOut (s : SideId)
  | xspiSelect
  | xspiReset
  | vddCoreEn
  | dramPowerEn (s : SideId)
  /-- AVS_CLK and AVS_MDATA. -/
  | avs
  deriving DecidableEq, Repr

/-- What a ball shows: `driven` stands for what its unit drives, `faulty` for P low and N high. -/
inductive BallState where
  | driven
  | highZ
  | idle
  | low
  | high
  | pulledDown
  | released
  | pulledLow
  | unpowered
  | faulty
  deriving DecidableEq, Repr

/-- The column of R632 for a side, the more reset one where its state and the device's differ. -/
inductive BallColumn where
  | porst
  | sideReset
  | burrow
  | stopped
  | run
  deriving DecidableEq, Repr

/-- A side's column. While the side leaves Burrow its switches are open until the exit's third step (R554). -/
def Plant.ballColumn (p : Plant) (s : SideId) : BallColumn :=
  let c := (p.side s).r
  if p.dev.porst then .porst
  else if c.rd Reg.power_state = 5 ∨ (c.rd Reg.power_state = 6 ∧ c.entryStep ≠ 3) then .burrow
  else if c.inReset ∨ c.released = false then .sideReset
  else if c.rd Reg.side_state = 2 then .stopped
  else .run

/-- The state of a ball (R632), and that of the supply controls (R620). -/
def Plant.ball (p : Plant) : OutBall → BallState
  | .laneTx s k => if p.ballColumn s = .run ∧ (p.side s).r.laneRuns k = true then .driven else .idle
  | .pcieTx => if p.dev.porst ∨ p.dev.vddOff = true ∨ p.dev.perst = true then .idle else .driven
  | .ddrClock s =>
    (match p.ballColumn s with
     | .burrow => if (p.side s).r.flag Reg.burrow_dram then .low else .unpowered
     | .run => .driven
     | _ => .low)
  | .ddrData s =>
    (match p.ballColumn s with
     | .burrow => if (p.side s).r.flag Reg.burrow_dram then .low else .unpowered
     | .run => .driven
     | _ => .highZ)
  | .ddrReset s =>
    (match p.ballColumn s with
     | .porst => .low
     | .sideReset => .low
     | .burrow => if (p.side s).r.flag Reg.burrow_dram then .high else .unpowered
     | .stopped => .high
     | .run => .driven)
  | .fault s =>
    (match p.ballColumn s with
     | .stopped => .faulty
     | .run => if (p.side s).r.pairState ≤ 1 then .driven else .faulty
     | _ => .highZ)
  | .canTxd s => if p.ballColumn s = .run ∧ (p.side s).r.busOff = false then .driven else .high
  | .ppsOut s =>
    (match p.ballColumn s with
     | .stopped => .low
     | .run => if (p.side s).r.ppsOut then .driven else .pulledDown
     | _ => .pulledDown)
  | .xspiSelect => if p.dev.porst then .high else .driven
  | .xspiReset => if p.dev.porst then .low else .driven
  | .vddCoreEn => if p.dev.vddOff then .pulledLow else .released
  | .dramPowerEn s =>
    if p.ballColumn s = .burrow ∧ (p.side s).r.flag Reg.burrow_dram = false then .pulledLow else .released
  | .avs => if p.dev.porst then .high else .driven

end Sys2Proof.Machine
end

