-- ==== Sys2Proof/Safety.lean ====
section
/-! DEFINITION. Safety.lean: the terms that statements about the block use: a command that completes, what it leaves as it was, the
conditions under which a write is taken, and the states that no run leaves. -/

namespace Sys2Proof.Machine

/-! ### Completion and frames -/

/-- A side's part without its memories. -/
abbrev Plant.core (p : Plant) (sd : SideId) : Core := (p.side sd).r
abbrev State.core (s : State) (sd : SideId) : Core := s.plant.core sd

/-- The command completes: exec answers a next state, the queue as it was, and the device as `E` says. -/
def Completes (i : Instr) (s : State) (E : Plant → Prop) : Prop :=
  ∃ t, exec i s = .next t ∧ t.pending = s.pending ∧ E t.plant

/-- Only one side's part changes (R15, R16): the other side is as it was, and of the device level only the device collector's queue
and windows may change, which take the messages that the side's units have for it (R509). -/
def Plant.onlySide (p t : Plant) (sd : SideId) : Prop :=
  t.side sd.other = p.side sd.other ∧ ∃ q x, t.dev = { p.dev with faultQ := q, tabs := x }

/-- The same, and the side's scratchpad and DRAM are as they were. -/
def Plant.onlyCore (p t : Plant) (sd : SideId) : Prop :=
  p.onlySide t sd ∧ (t.side sd).spm = (p.side sd).spm ∧ (t.side sd).dram = (p.side sd).dram

/-- The same of a learning engine's work: in Joined mode the other side takes the sequence counter with it (R239). -/
def Plant.onlyLearning (p t : Plant) (sd : SideId) : Prop :=
  (p.dev.joined = false → p.onlyCore t sd) ∧
  (p.dev.joined = true → (t.side sd).spm = (p.side sd).spm ∧ (t.side sd).dram = (p.side sd).dram ∧
    (∃ l, t.side sd.other = { p.side sd.other with
      r := { p.core sd.other with learnSeq := (t.core sd).learnSeq, stateLive := l, toDev := [] } }) ∧
    ∃ q x, t.dev = { p.dev with faultQ := q, tabs := x })

/-- A command that in Joined mode both sides carry out, in Split mode one (R200): `R` relates the part of each such side before and
after; beside it memories, the other side and the device level are as they were. -/
def Plant.eachCore (p t : Plant) (sd : SideId) (R : Core → Core → Prop) : Prop :=
  R (p.core sd) (t.core sd) ∧ (p.dev.joined = false → p.onlyCore t sd) ∧
  (p.dev.joined = true → (∀ x, (t.side x).spm = (p.side x).spm ∧ (t.side x).dram = (p.side x).dram) ∧
    (∃ q x, t.dev = { p.dev with faultQ := q, tabs := x }) ∧
    ((p.core sd.other).alive = true → R (p.core sd.other) (t.core sd.other)) ∧
    ((p.core sd.other).alive = false → t.side sd.other = p.side sd.other))

/-- Every memory is as it was: each side's scratchpad and DRAM, the boot flash and the fuses. -/
def Plant.sameMemories (p t : Plant) : Prop :=
  t.a.spm = p.a.spm ∧ t.a.dram = p.a.dram ∧ t.b.spm = p.b.spm ∧ t.b.dram = p.b.dram ∧
  t.dev.flash = p.dev.flash ∧ t.dev.fuses = p.dev.fuses

/-- Every octet of the two sides' memories and of the flash reads as before, and no fuse has changed. -/
def Plant.sameOctets (p t : Plant) : Prop :=
  (∀ sd a, (t.side sd).spm.read a = (p.side sd).spm.read a ∧ (t.side sd).dram.read a = (p.side sd).dram.read a) ∧
  (∀ a, t.dev.flash.read a = p.dev.flash.read a) ∧ t.dev.fuses = p.dev.fuses

/-- Every object slot of a side but those listed reads as before. -/
def Core.sameBut (c d : Core) (slots : List Nat) : Prop := ∀ k, k ∉ slots → d.rd k = c.rd k

/-- The side's part with the interrupts of `d`: its functions' vectors, its APLIC and interrupt files, and what went out (R397, R464,
R532). -/
def Core.withInterrupts (c d : Core) : Core :=
  { c with fns := d.fns, out := d.out, imsic := d.imsic, aplicIn := d.aplicIn, aplicM := d.aplicM, aplicS := d.aplicS }

/-- Of a side's part only the object slots listed change; messages for the device collector have gone to it, and states that have
ended hold no message back (R509, R518). -/
def Core.onlySlots (c d : Core) (slots : List Nat) : Prop :=
  (∃ x l q, d = { c with regs := x, stateLive := l, toDev := q }) ∧ c.sameBut d slots

/-- The slots that a counter's reaching all ones, or a message that finds no place, writes beside its own (R488, R510). -/
abbrev reportSlots : List Nat := [Reg.collector_queue_overflow, Reg.saturated_count, Reg.last_saturated]

/-- Of a side's part only the object slots listed change, and what a message takes: the collector's queue, the messages of the rate
rule, the sticky bits of fault_status, and the objects of a saturated counter and of a lost message (R137, R488, R510). -/
def Core.onlySlotsAndReports (c d : Core) (slots : List Nat) : Prop :=
  (∃ x l q f w r n, d = { c with regs := x, stateLive := l, toDev := q, faultQ := f, tabs := w, rates := r, qLost := n }) ∧
  c.sameBut d (slots ++ reportSlots) ∧
  ∀ j, j / 2 ^ 32 ≠ wFaultStat → d.tabAt j = c.tabAt j

/-- The same, and the dynamic state of port `p` alone among the ports'. -/
def Core.onlyPort (c d : Core) (p : Nat) (slots : List Nat) : Prop :=
  ({ c with ports := d.ports } : Core).onlySlotsAndReports d slots ∧ ∀ q, q ≠ p → d.port q = c.port q

/-- A message of side source E + `e` has gone to the collector (R510): it waits at the queue's end, or it found no place and is lost, and
nothing else has happened unless collector_queue_overflow reached all ones with it (R488). -/
def Core.reported (c d : Core) (e kind addr : Nat) : Prop :=
  d.faultQ = c.faultQ ++ [⟨c.eBase + e, kind, addr % 2 ^ 48, c.sideTime, c.presents e⟩] ∨
  (960 ≤ c.faultQ.length ∧ c.qLost < d.qLost ∧
    (c.rd Reg.collector_queue_overflow ≠ allOnes64 - 1 → d.faultQ = c.faultQ ∧ d.qLost = c.qLost + 1))

/-- The same with other messages around it: the message waits, or it found the queue full for its class. -/
def Core.reports (c d : Core) (e kind addr : Nat) : Prop :=
  (∃ t, (⟨c.eBase + e, kind, addr % 2 ^ 48, c.sideTime, t⟩ : FaultMsg) ∈ d.faultQ) ∨ 960 ≤ d.faultQ.length

/-- A counter of a side has counted `n` more, and stops at all ones (R486, R487). -/
def Core.counts (c d : Core) (k n : Nat) : Prop := d.rd k = min (c.rd k + n) (counterMax k)

/-- The same, of a device-level counter. -/
def Dev.counts (d e : Dev) (k n : Nat) : Prop := e.rd k = min (d.rd k + n) (devCounterMax k)

/-- Of the device-level part only the object slots listed change. -/
def Dev.onlySlots (d e : Dev) (slots : List Nat) : Prop :=
  (∃ x l, e = { d with regs := x, stateLive := l }) ∧ ∀ k, k ∉ slots → e.rd k = d.rd k

/-- The same, and what a message of a device source takes: the device collector's queue and windows. -/
def Dev.onlySlotsAndReports (d e : Dev) (slots : List Nat) : Prop :=
  (∃ x l q w, e = { d with regs := x, stateLive := l, faultQ := q, tabs := w }) ∧ ∀ k, k ∉ slots → e.rd k = d.rd k

/-- Only the device-level part changes. -/
def Plant.onlyDev (p t : Plant) : Prop := t.a = p.a ∧ t.b = p.b

/-! ### Writes -/

/-- The device hears a requester (R17, R622), which holds no partial write back (R57). -/
def Plant.listens (p : Plant) (q : Requester) : Bool := p.hears q && (SMap.find? p.dev.pend q.num).isNone

/-- A requester may write an object slot of a side now (R11, R18, R25, R52, R55): the device listens to it, the slot is some object's,
and the checks that do not depend on the value pass. -/
def Plant.mayWriteSide (p : Plant) (q : Requester) (sd : SideId) (k : Nat) : Bool :=
  p.listens q &&
  match findObj (keyIndex sd k) (k % 256) with
  | none => false
  | some o => decide (p.writeCheck q WriteEnv.plain o = .ok)

/-- What holds of every side that takes a write to a side's mirrored object: the side, and in Joined mode the other (R25). -/
abbrev Plant.takers (p : Plant) (sd : SideId) (P : Core → Prop) : Prop :=
  P (p.core sd) ∧ (p.dev.joined = true → P (p.core sd.other))

/-- Beside the side written to, a write that has taken leaves every memory, and in Split mode the other side; at the device level
it counts in host_config_writes (R573) and nothing else changes a device-level object. -/
def Plant.wroteSide (p t : Plant) (sd : SideId) : Prop :=
  p.sameMemories t ∧ (p.dev.joined = false → t.side sd.other = p.side sd.other) ∧
  ∀ k, k ≠ Reg.host_config_writes → t.dev.rd k = p.dev.rd k

/-- The same for a device-level object slot. -/
def Plant.mayWriteDev (p : Plant) (q : Requester) (k : Nat) : Bool :=
  p.listens q &&
  match findObj (k / 256) (k % 256) with
  | none => false
  | some o => decide (p.writeCheck q WriteEnv.plain o = .ok)

/-! ### The field port -/

/-- A request frame that a side's field port takes (R73, R74): in CAN FD, or in CAN XL with the port's SDT and VCID. -/
def Plant.takesField (p : Plant) (sd : SideId) (f : FieldFrame) : Bool :=
  let c := p.core sd
  !p.dev.porst && c.fieldUp && decide (f.ident = 0x2C0 + c.rd Reg.field_node_id) &&
  (decide (f.fmt.val = 1) || decide (f.fmt.val = 2 ∧ f.sdt = c.rd Reg.tyist_sdt ∧ f.vcid = c.rd Reg.tyist_vcid))

/-- The carrier of such a frame. -/
def carrierOf (sd : SideId) (f : FieldFrame) : Carrier := ⟨sd, if f.fmt.val = 1 then 1 else 0, 0, [], 0⟩

/-- An answer on the field port, in the format of the request (R74). -/
def Core.fieldSays (c : Core) (f : FieldFrame) (pdu : Octets) : Output :=
  if f.fmt.val = 1 then .field false (0x340 + c.rd Reg.field_node_id) 0 0 0 (padTo (fdLength pdu.length) pdu)
  else .field true (0x340 + c.rd Reg.field_node_id) (c.rd Reg.tyist_sdt) (c.rd Reg.tyist_vcid) 0 pdu

/-- A side has answered on its field port with these PDUs, newest first, and counted in object slot `k`; beside that both sides and
their memories are as they were. -/
def Plant.saysOnField (p t : Plant) (sd : SideId) (f : FieldFrame) (k : Nat) (pdus : List Octets) : Prop :=
  t.side sd.other = p.side sd.other ∧ (t.side sd).spm = (p.side sd).spm ∧ (t.side sd).dram = (p.side sd).dram ∧
  (t.core sd).out = pdus.map (fun x => (p.core sd).fieldSays f x) ++ (p.core sd).out ∧ (p.core sd).counts (t.core sd) k 1 ∧
  ({ p.core sd with out := (t.core sd).out } : Core).onlySlotsAndReports (t.core sd) [k]

/-! ### Release -/

/-- The running manifest's default configuration is good and has no record, and the manifest no core image. -/
def Plant.emptyConfig (p : Plant) : Bool :=
  decide (p.configSegment.bind configParts = some ([], [])) && (segmentsOf p.dev.manifest).all (fun x => decide (x.type < 3))

/-- A side as its release leaves it when no record configures it (R48, R75, R358, R457, R619): its clock at 0, in Run, vport 0 made, its
own objects at their defaults, and no frame, copy, message or table entry in it. -/
def Core.fresh (d : Dev) (c : Core) : Prop :=
  c.released = true ∧ c.inReset = false ∧ c.now = 0 ∧ c.rd Reg.power_state = 0 ∧ c.rd Reg.pll_locked = 0x3F ∧
  c.rd (Reg.vport_state 0) = 1 ∧ c.rd (Reg.generation 0) = 1 ∧ c.rd Reg.field_node_id = d.nodeStrap c.num ∧
  c.rd Reg.mgmt_mac = (d.fuse 559 512 + c.num) % 2 ^ 48 ∧ c.tabs = [] ∧ c.copies = [] ∧ c.rx = [] ∧ c.ports = [] ∧ c.faultQ = [] ∧
  ∀ k, k < 0x300000 → k ∉ [Reg.vport_state 0, Reg.generation 0, Reg.field_node_id, Reg.mgmt_mac] → c.rd k = sideDefault k

/-- A side that a reset or a failed boot has emptied (R48, R580, R628): not released, in power_state 7, its own objects at their defaults
but for those that straps, fuses and reports fill, and no frame, copy or table entry in it. -/
def Core.cleared (c : Core) : Prop :=
  c.released = false ∧ c.rd Reg.power_state = 7 ∧ c.tabs = [] ∧ c.copies = [] ∧ c.rx = [] ∧ c.ports = [] ∧ c.now = 0 ∧
  ∀ k, k < 0x300000 → k ∉ [Reg.field_node_id, Reg.mgmt_mac] ++ reportSlots → c.rd k = sideDefault k

/-- The slot in use has failed with a code (R580, R581): the code is kept, both sides are emptied, and either the other slot is next or
the device waits in recovery. -/
def Plant.slotFailed (p t : Plant) (code : Nat) : Prop :=
  let d := p.dev
  let n := d.bootSource
  (∀ sd, (t.core sd).cleared ∧ (t.side sd).spm = (p.side sd).spm ∧ (t.side sd).dram = (p.side sd).dram) ∧
  (n ≤ 2 → bits (t.dev.rd Reg.boot_detail) (8 * n + 7) (8 * n) = code % 256) ∧
  t.dev.rd Reg.device_mode = 0 ∧ t.dev.rd Reg.mode_status = 0 ∧ t.dev.bootPhase = 0 ∧
  t.dev.bootTried = (if n = 2 then d.bootTried else d.bootTried ||| 2 ^ n) ∧
  t.dev.rd Reg.boot_status = (if n = 2 ∨ t.dev.bootTried = 3 then 5 else d.rd Reg.boot_status) ∧
  t.dev.rd Reg.recovery_apply = (if n = 2 then 3 else d.rd Reg.recovery_apply) ∧
  (n ≠ 2 → t.dev.bootTried = 3 →
    (⟨16, 2, t.dev.rd Reg.boot_detail % 2 ^ 16, d.aon, d.aon⟩ : FaultMsg) ∈ t.dev.faultQ ∨ 64 ≤ t.dev.faultQ.length) ∧
  ({ d with bootPhase := 0, modeWritten := false, bootTried := t.dev.bootTried } : Dev).onlySlotsAndReports t.dev
    [Reg.boot_detail, Reg.device_mode, Reg.mode_status, Reg.boot_status, Reg.recovery_apply]

/-- The PORST_N column of R632, and the supply controls of R620: what every output ball shows while PORST_N is low. -/
def OutBall.underPorst : OutBall → BallState
  | .laneTx _ _ => .idle
  | .pcieTx => .idle
  | .ddrClock _ => .low
  | .ddrData _ => .highZ
  | .ddrReset _ => .low
  | .fault _ => .highZ
  | .canTxd _ => .high
  | .ppsOut _ => .pulledDown
  | .xspiSelect => .high
  | .xspiReset => .low
  | .vddCoreEn => .released
  | .dramPowerEn _ => .released
  | .avs => .high

/-! ### States that no run leaves -/

/-- Every memory is in its canonical form. -/
def Plant.memoriesCanonical (p : Plant) : Bool :=
  p.a.spm.wf && p.a.dram.wf && p.b.spm.wf && p.b.dram.wf && p.dev.flash.wf

/-- The tables of both sides list their entries in rising order, none twice. -/
def Plant.tablesRising (p : Plant) : Bool := SMap.rising p.a.r.tabs && SMap.rising p.b.r.tabs

/-- A run is safe while every step answers a next state: nothing the spec gives the block stops it. -/
def SafeStep (s : State) : Prop := ∃ t, step s = .next t

end Sys2Proof.Machine

namespace Sys2Proof
open Sys2Proof.Machine

/-! ### Commands of one side -/

/-- The side whose own units alone carry the command out (R13); none for the others: accesses by a requester, and what concerns the
device level, the other side or the host port. -/
def Instr.ofOneSide : Instr → Option SideId
  | .fieldBusOff sd => some sd
  | .fieldBusOffRecovery sd => some sd
  | .laneLock sd _ => some sd
  | .anComplete sd _ _ _ => some sd
  | .linkUpHoldoffExpiry sd _ => some sd
  | .linkConditionChange sd _ _ _ _ _ => some sd
  | .rxFrameStart sd _ _ _ => some sd
  | .rxFrameEnd sd _ _ _ _ _ => some sd
  | .pauseFrameReceive sd _ _ => some sd
  | .pfcFrameReceive sd _ _ _ => some sd
  | .pauseExpiry sd _ _ => some sd
  | .pauseWatchdogTrip sd _ _ => some sd
  | .pauseHoldoffEnd sd _ _ => some sd
  | .pauseRefresh sd _ _ => some sd
  | .denLinkTimeout sd _ => some sd
  | .shapeCopyDone sd => some sd
  | .profileCopyDone sd => some sd
  | .vidMapCopyDone sd => some sd
  | .probeComplete sd _ => some sd
  | .searchScrub sd _ => some sd
  | .stationScrubVisit sd _ _ => some sd
  | .learnMsgSend sd => some sd
  | .learnMsgReceive sd => some sd
  | .learnRecordApply v => some v.side
  | .stationCmdExecute v => some v.side
  | .epochSyncDone sd => some sd
  | .frerResetTimeout sd _ => some sd
  | .actionScrub sd _ _ _ => some sd
  | .cellSend sd _ _ => some sd
  | .creditReturn sd _ => some sd
  | .cellArrive e _ _ => some e.side
  | .reseqTimeout sd _ _ _ => some sd
  | .mgmtFrameOriginate sd => some sd
  | .queueSelect sd _ => some sd
  | .transmitComplete sd _ _ => some sd
  | .ctUnderrun sd _ => some sd
  | .ctBackoffExpiry sd _ => some sd
  | .ledgerAudit sd => some sd
  | .bufferAlloc sd _ _ _ => some sd
  | .bufferFree sd _ _ _ => some sd
  | .poolPortAlloc e _ _ => some e.side
  | .poolPortFree e _ _ => some e.side
  | .lastErrorRead sd _ => some sd
  | .reclaimDone e => some e.side
  | .gateChange sd _ => some sd
  | .configChangeTime sd _ => some sd
  | .vportSelect sd _ _ _ => some sd
  | .slewComplete sd _ => some sd
  | .ppsOutEdge sd => some sd
  | .ppsOutEnd sd => some sd
  | .ppsInEdge sd => some sd
  | .ppsMissing sd => some sd
  | .meterSweep sd => some sd
  | .streamGateChange sd _ => some sd
  | .streamGateChangeTime sd _ => some sd
  | .policingScrub sd _ _ _ => some sd
  | .vportBindAccess sd _ _ _ => some sd
  | .lockstepDivergence sd _ _ => some sd
  | .ldWriteComplete sd _ _ => some sd
  | .spmScrub sd _ _ => some sd
  | .scratchpadRequest sd _ _ => some sd
  | .cacheEccError sd _ _ _ => some sd
  | .hpmCounterWrap sd _ _ _ => some sd
  | .dramTrainDone sd _ => some sd
  | .retrainStep sd => some sd
  | .retrainUpdate sd _ _ _ _ => some sd
  | .fspChangeDone sd => some sd
  | .dramRead sd _ _ _ _ => some sd
  | .dramWrite sd _ _ _ _ => some sd
  | .dramCommandIssue sd _ _ _ => some sd
  | .regWindow sd => some sd
  | .refreshInterval sd _ _ => some sd
  | .dramTempEstimate sd _ _ => some sd
  | .mr4Poll sd _ _ _ => some sd
  | .dramSrIdle sd => some sd
  | .dmaReadCompletion sd _ _ _ => some sd
  | .pcieConfigWrite sd _ f _ => if f = .aerStatus then none else some sd
  | .msixTableWrite sd _ _ _ _ => some sd
  | .irqDelayExpiry sd _ _ => some sd
  | .txDescriptorFetch e _ _ => some e.side
  | .txCompletion e _ => some e.side
  | .txStampTimeout sd _ => some sd
  | .hostDeliveryComplete sd _ _ => some sd
  | .vportResetComplete sd _ => some sd
  | .freezeComplete sd _ => some sd
  | .freezeDeadline sd _ => some sd
  | .snapshotWritten sd => some sd
  | .fenceComplete sd _ _ => some sd
  | .promotionLapse sd _ => some sd
  | .pairReadbackMismatch sd _ => some sd
  | .stallDetect sd _ => some sd
  | .pllLock sd _ => some sd
  | .pllLockLoss sd _ => some sd
  | .entryDrainDone sd => some sd
  | .denEntered sd => some sd
  | .wakeTimerExpiry sd => some sd
  | .fieldWakeFrame sd _ => some sd
  | .heldPortFullRate sd _ => some sd
  | .heldPortFallback sd _ => some sd
  | .tjSample sd _ => some sd
  | .prbsLock sd _ => some sd
  | .prbsLockLoss sd _ _ => some sd
  | .eyeScanDone sd _ _ => some sd
  | .genCountReached sd _ => some sd
  | .checkerFrame sd _ _ _ => some sd
  | .fieldTestDue sd => some sd
  | .fieldTestStart sd => some sd
  | .fieldTestDone sd _ _ => some sd
  | _ => none

/-- The side whose own units carry the command out in Split mode, where Joined mode has both sides act together: the learning engines
draw record sequences from one counter (R239), and the Badgers run in step (R200). -/
def Instr.ofSplitSide : Instr → Option SideId
  | .linkFault sd _ _ => some sd
  | .badgerCommandStart sd => some sd
  | .badgerCommandDone sd => some sd
  | .learnApply v => some v.side
  | .ageingVisit sd _ _ => some sd
  | _ => none

end Sys2Proof
end

