-- ==== Sys2Proof/Certificates/Slice0/Obligations.lean ====
section
/-! DEFINITION. Obligations.lean: the statements for the provers. Each says what some commands of the opcode table do when they take
effect (the command completes, what it leaves in the state, and what it leaves as it was), or what every step keeps. -/

open Sys2Proof Sys2Proof.Machine

/-- For every command and every state, a step of the state with the command in front of its queue is exec of the command on the state
with the rest of the queue. That commands wait in one queue is the model's own (log entry 2). -/
def Obligations.TheFrontCommandRuns : Prop :=
  ∀ (c : Instr) (rest : List Instr) (s : State),
    step { s with pending := c :: rest } = exec c { s with pending := rest }

/-- For every command and every state, exec answers a next state, never a fault nor a refusal of the model, and the queue is as it
was; so every step of every state is safe. -/
def Obligations.EveryCommandIsTaken : Prop :=
  (∀ (c : Instr) (s : State), ∃ t, exec c s = .next t ∧ t.pending = s.pending) ∧ (∀ s : State, SafeStep s)

/-- The model's choice of log entry 10. On an empty queue: with PORST_N low the state stays; else each running side's clocks run on by
three pipeline clocks, the always-on oscillator by 1 ns unless it is lost, its count moving on in steps of 40 ns, and every object
slot of both sides and of the device level, every memory and the queue stay. -/
def Obligations.TheIdleBlockTicks : Prop :=
  (∀ s : State, s.pending = [] → s.plant.dev.porst = true → step s = .next s) ∧
  (∀ s : State, s.pending = [] → s.plant.dev.porst = false → ∃ t, step s = .next t ∧ t.pending = [] ∧
    s.plant.sameMemories t.plant ∧
    (∀ sd, (t.core sd).now = (if (s.core sd).alive then (s.core sd).now + 3 else (s.core sd).now) ∧
      (s.core sd).sameBut (t.core sd) [] ∧ (t.core sd).tabs = (s.core sd).tabs ∧ (t.core sd).ports = (s.core sd).ports ∧
      (t.core sd).out = (s.core sd).out) ∧
    (∀ k, t.plant.dev.rd k = s.plant.dev.rd k) ∧
    (bitOf (s.plant.dev.rd Reg.aon_status) 1 = false → t.plant.dev = s.plant.dev) ∧
    (bitOf (s.plant.dev.rd Reg.aon_status) 1 = true → s.plant.dev.aonSub < 40 →
      40 * (t.plant.dev.aon / 40) + t.plant.dev.aonSub = 40 * (s.plant.dev.aon / 40) + s.plant.dev.aonSub + 1 ∧
      t.plant.dev.aonSub < 40 ∧ t.plant.dev.aon % 40 = s.plant.dev.aon % 40))

/-- In the state after reset nothing waits, PORST_N is low, no side is released, power_state of both sides reads 7 and every other
object slot of a side its default, every device-level object slot but aon_status and rail_status its default, and every memory is
in its canonical form. That the fuses are blank and the rails and always-on clocks in range is the model's choice (log entry 9). -/
def Obligations.ResetHoldsPorstLow : Prop :=
  State.reset.pending = [] ∧ State.reset.plant.dev.porst = true ∧ State.reset.plant.memoriesCanonical = true ∧
  (∀ sd, (State.reset.core sd).released = false ∧ (State.reset.core sd).rd Reg.power_state = 7 ∧
    ∀ k, k ≠ Reg.power_state → (State.reset.core sd).rd k = sideDefault k) ∧
  (∀ k, k ≠ Reg.aon_status → k ≠ Reg.rail_status → State.reset.plant.dev.rd k = devDefault k)

/-- From every state in which each memory lists its addresses in rising order and lists no octet that an unlisted address reads as,
whatever command is taken or on an empty queue, the next state has the same property. So two memories that read alike are equal.
The form is how the model holds a memory. -/
def Obligations.MemoriesStayCanonical : Prop :=
  ∀ s t : State, s.plant.memoriesCanonical = true → step s = .next t → t.plant.memoriesCanonical = true

/-- From every state in which each side's tables list their entries in rising order, none twice, whatever command is taken or on an
empty queue, the next state has the same property. The statements about copies of whole tables take it as a premise. The form is
how the model holds a memory. -/
def Obligations.TablesStayInOrder : Prop :=
  ∀ s t : State, s.plant.tablesRising = true → step s = .next t → t.plant.tablesRising = true

/-- From every state, whatever command is taken or on an empty queue, every fuse bit that reads 1 reads 1 in the next state. -/
def Obligations.FusesAreNeverCleared : Prop :=
  ∀ (s t : State) (n : Nat), s.plant.dev.fuses.testBit n = true → step s = .next t → t.plant.dev.fuses.testBit n = true

/-- For every command of the model that names a side and that only that side's units carry out, in either mode, and in Split mode for
the commands of the learning engines and the Badgers that Joined mode has both sides share: the other side is as it was, its
memories included, and of the device level only the device collector's queue and the sticky bits of its sources may change. -/
def Obligations.OneSideCommandsStayOnTheirSide : Prop :=
  (∀ (i : Instr) (sd : SideId) (s t : State), i.ofOneSide = some sd → exec i s = .next t → s.plant.onlySide t.plant sd) ∧
  (∀ (i : Instr) (sd : SideId) (s t : State), i.ofSplitSide = some sd → s.plant.dev.joined = false → exec i s = .next t →
    s.plant.onlySide t.plant sd)

/-- For every requester that is outside an object's write set: a write of a whole value through any path is refused with 0x03, or
0x10, and changes nothing; OBJECT_WRITE of the whole last slot by a physical function leaves every object but its refusal record,
which holds the access and the reason; a write request on the field port is answered with the reason. For every requester outside
its read set OBJECT_READ answers no value, and a read request on the field port is answered with 0x02 and no data. -/
def Obligations.AccessesOutsideTheirSetsAreRefused : Prop :=
  (∀ (q : Requester) (p : Plant) (e : WriteEnv) (o : Obj) (v : Nat), inSet (p.letter q o.at') o.row.wr = false →
    ∃ why, (why = Reason.noWrite ∨ why = Reason.signedOnly) ∧ p.writeCheck q e o = why ∧ p.writeObject q e o v = (p, why)) ∧
  (∀ (g sd : SideId) (index : BitVec 16) (sub : BitVec 8) (v : Nat) (s : State) (x : Place) (o : Obj),
    s.plant.listens (.pf g) = true → placeOf index.toNat sub.toNat = some x → findObj index.toNat sub.toNat = some o →
    o.row.slotOf x.key + 1 = o.row.ty.slots →
    inSet (s.plant.letter (.pf g) o.at') o.row.wr = false →
    let record := match g with | .a => Reg.refusal_record_pf0 | .b => Reg.refusal_record_pf1
    Completes (.objectWrite (.pf g) index sub 2 v) s (fun t => t.side sd = s.plant.side sd ∧ s.plant.sameMemories t ∧
      (∀ k, k ≠ record → t.dev.rd k = s.plant.dev.rd k) ∧
      ∃ why, (why = Reason.noWrite ∨ why = Reason.signedOnly) ∧
        t.dev.rd record = refusalRecord (s.plant.dev.rd record) index.toNat sub.toNat why true % 2 ^ 64)) ∧
  (∀ (q : Requester) (index sub : Nat) (part : Fin 4) (s : State) (x : Place) (o : Obj), s.plant.hears q = true →
    q.reaches index = true → part.val ≤ 2 → placeOf index sub = some x → findObj index sub = some o →
    inSet (s.plant.letter q o.at') o.row.rd = false →
    Completes (.objectRead q (.slot index sub) part) s (fun t => s.plant.sameMemories t ∧
      (t.core q.outSide).out = .objRead q.num none :: (s.core q.outSide).out)) ∧
  (∀ (sd : SideId) (f : FieldFrame) (h : Pdu) (s : State) (o : Obj), s.plant.takesField sd f = true →
    findObj h.index h.sub = some o →
    (h.count = 0 → (carrierOf sd f).fits 0 h.data.length = true → inSet (s.plant.letter (.field sd) o.at') o.row.rd = false →
      Completes (.tyistRead sd f h) s (fun t =>
        s.plant.saysOnField t sd f Reg.tyist_refusals [pduOctets 2 h.tag h.index h.sub 0x02 0 []])) ∧
    ((carrierOf sd f).fits h.count h.data.length = true → inSet (s.plant.letter (.field sd) o.at') o.row.wr = false →
      Completes (.tyistWrite sd f h) s (fun t => ∃ why, (why = Reason.noWrite ∨ why = Reason.signedOnly) ∧
        s.plant.saysOnField t sd f Reg.tyist_refusals [pduOctets 4 h.tag h.index h.sub why.code 0 []])))

/-- With a side released, every write of 0 or 1 to OD 1600.01 by a requester that may write it is refused with the reason for a
once-object already written, and every write of any value by any requester leaves the mode. -/
def Obligations.TheModeIsWrittenOnce : Prop :=
  (∀ (q : Requester) (e : WriteEnv) (o : Obj) (v : Nat) (p : Plant), findObj 0x1600 1 = some o →
    (p.a.r.released = true ∨ p.b.r.released = true) →
    (p.writeObject q e o v).1.dev.rd Reg.device_mode = p.dev.rd Reg.device_mode ∧
    (v ≤ 1 → p.writeCheck q e o = .ok → (p.writeObject q e o v) = (p, .onceWritten))) ∧
  Reason.onceWritten.code = 0x06

/-- In Joined mode, for a mirrored object slot other than a probe's: a value that both sides' rules take is put through the rule on
both, each from its own state; one that side A takes and side B does not is refused with side B's reason and changes nothing (the
model's reading, log entry 57); with epoch_flip, where side B flips, waits or cancels as side A has; a time object's write is
stated for a side B that waits for no scheduled flip; and a write by a requester inside the set of side B's object, from that
side, is refused with the reason for a mirrored object. -/
def Obligations.JoinedModeMirrorsTheSharedView : Prop :=
  (∀ (p : Plant) (row : ObjRow) (k v : Nat), p.dev.joined = true → mirrored (k / 256) (k % 256) = true →
    (k / 256 < 0x308 ∨ 0x30C ≤ k / 256) → k ≠ Reg.epoch_flip →
    let f (c : Core) := c.hook (p.hookEnv .a) row (p.dev.rd Reg.silicon_revision) k v
    (0x900 ≤ k / 256 → k / 256 < 0xA00 → (f p.b.r).1.rd Reg.epoch_flip ≠ 1) →
    (f p.a.r).2 = .ok → (f p.a.r).1.rd Reg.power_state = p.a.r.rd Reg.power_state →
    (f p.b.r).1.rd Reg.power_state = p.b.r.rd Reg.power_state →
    let t := (p.writeSide .a row k v).1
    ((f p.b.r).2 = .ok → (p.writeSide .a row k v).2 = .ok ∧ (∀ j, t.a.r.rd j = (f p.a.r).1.rd j) ∧
      (∀ j, t.b.r.rd j = (f p.b.r).1.rd j) ∧ p.sameMemories t)) ∧
  (∀ (p : Plant) (row : ObjRow) (k v : Nat), p.dev.joined = true → mirrored (k / 256) (k % 256) = true →
    k / 256 < 0x308 ∨ (0x30C ≤ k / 256 ∧ k / 256 < 0x900) ∨ 0xA00 ≤ k / 256 → k ≠ Reg.epoch_flip →
    let f (c : Core) := c.hook (p.hookEnv .a) row (p.dev.rd Reg.silicon_revision) k v
    (f p.a.r).2 = .ok → (f p.b.r).2 ≠ .ok → p.writeSide .a row k v = (p, (f p.b.r).2)) ∧
  (∀ (p : Plant) (row : ObjRow) (v : Nat), p.dev.joined = true →
    let f (c : Core) := c.hook (p.hookEnv .a) row (p.dev.rd Reg.silicon_revision) Reg.epoch_flip v
    let g (c : Core) := Core.followFlip (f p.a.r).1 c
    (f p.a.r).2 = .ok → (f p.a.r).1.rd Reg.power_state = p.a.r.rd Reg.power_state →
    (g p.b.r).rd Reg.power_state = p.b.r.rd Reg.power_state →
    let t := (p.writeSide .a row Reg.epoch_flip v).1
    (p.writeSide .a row Reg.epoch_flip v).2 = .ok ∧ (∀ j, t.a.r.rd j = (f p.a.r).1.rd j) ∧ (∀ j, t.b.r.rd j = (g p.b.r).rd j) ∧
    p.sameMemories t) ∧
  (∀ (p : Plant) (q : Requester) (k : Nat) (row : ObjRow), p.dev.joined = true → k < 0x300000 →
    mirrored (k / 256) (k % 256) = true → inSet (p.letter q (.side .b k)) row.wr = true →
    (p.letter q (.side .b k) = 1 → reqSide q = some .b) → p.b.r.noAccess = false →
    p.writeCheck q WriteEnv.plain ⟨.side .b k, row⟩ = .mirrored)

/-- For a function or a core with an empty write buffer: the low half of a slot is held in its buffer and nothing else changes; a
whole slot written to a set object of the field port that it may write stores the value and nothing else of the side. A read of
the lowest slot, with its low half or whole, answers that part of the object as it reads and keeps the value as the requester's
snapshot; nothing else changes. The four cell terms are one object to a reader. A whole write by a named command, when the
requester holds a partial write, discards it first, and records it with reason 0x0E when it is of another object. Where the spec
leaves a point open, the model's own choice is in log entries 15 and 59. -/
def Obligations.ObjectAccessesTakeEffect : Prop :=
  (∀ (q : Requester) (index : BitVec 16) (sub : BitVec 8) (v : Nat) (s : State) (x : Place) (o : Obj),
    s.plant.listens q = true → q.slotted = true → q.reaches index.toNat = true →
    placeOf index.toNat sub.toNat = some x → findObj index.toNat sub.toNat = some o →
    Completes (.objectWrite q index sub 0 v) s (fun t =>
      t = { s.plant with dev := { s.plant.dev with
        pend := SMap.insert s.plant.dev.pend q.num
          ⟨256 * o.at'.index + o.at'.sub, 0, 0, [(2 * o.row.slotOf x.key, v % 2 ^ 32)]⟩ } })) ∧
  (∀ (q : Requester) (index : BitVec 16) (sub : BitVec 8) (v x : Nat) (s : State) (sd : SideId) (k : Nat) (o : Obj),
    s.plant.listens q = true → q.slotted = true → q.reaches index.toNat = true →
    placeOf index.toNat sub.toNat = some (.side sd k) → findObj index.toNat sub.toNat = some o → k < 0x10000 →
    o.at' = .side sd k → o.row.slotOf k = 0 → o.row.ty.slots = 1 → o.row.ty ≠ .domain → o.row.qual = .set → o.row.chk ≠ .counter →
    s.plant.writeCheck q WriteEnv.plain o = .ok → o.row.accept (v % 2 ^ 64) = some x →
    Completes (.objectWrite q index sub 2 v) s (fun t => s.plant.wroteSide t sd ∧
      (s.core sd).onlySlots (t.core sd) [k] ∧ (t.core sd).rd k = x ∧ SMap.find? t.dev.pend q.num = none)) ∧
  (∀ (q : Requester) (index sub : Nat) (part : Fin 4) (s : State) (x : Place) (o : Obj),
    s.plant.hears q = true → q.reaches index = true → part.val = 0 ∨ part.val = 2 →
    placeOf index sub = some x → findObj index sub = some o → let u := s.plant.readUnit o x
    u.2.1 = 0 → s.plant.readCheck q o = .ok →
    Completes (.objectRead q (.slot index sub) part) s (fun t => s.plant.onlyCore
        { t with dev := { t.dev with snaps := s.plant.dev.snaps } } q.outSide ∧
      (t.core q.outSide).out = .objRead q.num (some (partOf 0 part.val u.2.2)) :: (s.core q.outSide).out ∧
      ({ s.core q.outSide with out := (t.core q.outSide).out } : Core).onlySlots (t.core q.outSide) [] ∧
      SMap.find? t.dev.snaps q.num = some ⟨u.1, 0, 0, u.2.2⟩)) ∧
  (∀ (p : Plant) (o : Obj) (x : Place), (∀ sd k, x = .side sd k → k < Reg.cells_free ∨ Reg.cells_held < k) →
    p.readUnit o x = (256 * o.at'.index + o.at'.sub, o.row.slotOf x.key, p.objShown o)) ∧
  (∀ (p : Plant) (o : Obj) (sd : SideId) (j : Nat), j < 4 → p.readUnit o (.side sd (Reg.cells_free + j)) =
    (256 * o.at'.index + o.at'.sub - j, j, (p.core sd).shown Reg.cells_free + (p.core sd).shown (Reg.cells_free + 1) * 2 ^ 64 +
      (p.core sd).shown (Reg.cells_free + 2) * 2 ^ 128 + (p.core sd).shown (Reg.cells_free + 3) * 2 ^ 192)) ∧
  (∀ (p : Plant) (q : Requester) (e : WriteEnv) (x : Place) (v : Nat) (o : Obj) (old : PendWrite), p.hears q = true →
    findObj x.index x.sub = some o → SMap.find? p.dev.pend q.num = some old →
    ((old.obj = 256 * o.at'.index + o.at'.sub ∧ old.aperture = 0) → p.commandWrite q e x v = (p.drop q).commandWrite q e x v) ∧
    (¬ (old.obj = 256 * o.at'.index + o.at'.sub ∧ old.aperture = 0) → p.commandWrite q e x v =
      ((p.refuse q (old.obj / 256) (old.obj % 256) .partialAbandoned true).drop q).commandWrite q e x v)) ∧
  Reason.partialAbandoned.code = 0x0E

/-- Through an aperture bound to a table window, of a function that holds no other partial write: a half that does not end the entry
is held in its buffer and nothing else changes. Through one bound to spm_image, with the bank not fenced, nobody waiting for the
scratchpad and no field test: a whole slot writes its 8 octets of the scratchpad, in the byte order of the slot, and no other
octet, and counts as an access of master 11. In general, with all the earlier halves of the entry held in the function's buffer or
the entry one slot wide: the write of the last slot, whole, when the function may write the window and the table takes the record
of the halves, leaves what the table's own write of that entry leaves, counted in host_config_writes where R573 says so, and the
buffer is empty. Where the spec leaves a point open, the model's own choice is in log entries 14 and 16. -/
def Obligations.ApertureEntriesAreWritten : Prop :=
  (∀ (sd : SideId) (a : Fin 16) (k : BitVec 21) (m : BitVec 14) (part : Fin 4) (v : BitVec 64) (s : State) (o : Obj)
    (w : Option (Option SideId × Nat)) (e z : Nat),
    s.plant.hears (.pf sd) = true → s.plant.apertureAt sd a k.toNat m.toNat = some (o, w, e, z) →
    SMap.find? s.plant.dev.pend (Requester.pf sd).num = none → part.val = 0 →
    Completes (.apertureEntryWrite sd a k m part v) s (fun t =>
      t = { s.plant with dev := { s.plant.dev with
        pend := SMap.insert s.plant.dev.pend (Requester.pf sd).num
          { entryWrite o e with halves := [(2 * m.toNat, v.toNat % 2 ^ 32)] } } })) ∧
  (∀ (sd : SideId) (a : Fin 16) (k : BitVec 21) (v : BitVec 64) (s : State) (o : Obj),
    let ob := s.plant.dev.rd (Reg.aperture_object (16 * sd.num + a))
    let at' := 8 * (s.plant.dev.rd (Reg.aperture_base (16 * sd.num + a)) + k.toNat)
    s.plant.hears (.pf sd) = true → findObj (bits ob 31 16) (bits ob 15 8) = some o → o.at' = .side sd (256 * wSpm + 0x10) →
    at' < 2 ^ 24 → SMap.find? s.plant.dev.pend (Requester.pf sd).num = none → s.plant.writeCheck (.pf sd) WriteEnv.plain o = .ok →
    (s.core sd).fieldHolds = false → (s.core sd).spmFenced at' 8 = false → (s.core sd).spmWait = [] → (s.core sd).spmMerging = 0 →
    Completes (.apertureEntryWrite sd a k 0 2 v) s (fun t =>
      (t.side sd).spm = (s.plant.side sd).spm.writeBytes at' (toLe 8 v.toNat) ∧
      (∀ x, x < at' ∨ at' + 8 ≤ x → (t.side sd).spm.read x = (s.plant.side sd).spm.read x) ∧
      (s.core sd).counts (t.core sd) (Reg.spm_accesses 11) 1 ∧ (s.core sd).sameBut (t.core sd) ([Reg.spm_accesses 11] ++ reportSlots) ∧
      (t.side sd).dram = (s.plant.side sd).dram ∧ t.side sd.other = s.plant.side sd.other ∧
      (∀ j, t.dev.rd j = s.plant.dev.rd j) ∧ SMap.find? t.dev.pend (Requester.pf sd).num = none)) ∧
  (∀ (sd : SideId) (a : Fin 16) (k : BitVec 21) (m : BitVec 14) (v : BitVec 64) (s : State) (o : Obj) (w : Option SideId × Nat)
    (e z : Nat),
    s.plant.hears (.pf sd) = true → s.plant.apertureAt sd a k.toNat m.toNat = some (o, some w, e, z) → m.toNat + 1 = ceilDiv z 8 →
    let held := s.plant.hold (.pf sd) (entryWrite o e) (halvesOf m.toNat 2 v.toNat)
    let h := held.heldHalves (.pf sd)
    let p := held.drop (.pf sd)
    p.writeCheck (.pf sd) WriteEnv.plain o = .ok → (List.range (2 * ceilDiv z 8)).all (fun i => (SMap.find? h i).isSome) = true →
    (p.writeWin w e (toLe z (mergeHalves 0 (ceilDiv z 8) h))).2 = .ok →
    Completes (.apertureEntryWrite sd a k m 2 v) s (fun t =>
      t = (p.noteHostWrite (.pf sd) o (p.writeWin w e (toLe z (mergeHalves 0 (ceilDiv z 8) h)))).1 ∧
      SMap.find? p.dev.pend (Requester.pf sd).num = none))

/-- On a field port that takes the frame: a read request, with no data, of an object of at most 8 octets in the requester's read set
is answered with read_rsp carrying the object's octets and their number, and counts in tyist_requests; nothing else changes. A
write of 1 to attest_request by its owner, when a report may be requested, starts the report over the present state and is
answered with write_rsp. Where the spec leaves a point open, the model's own choice is in log entries 18, 20 and 59. -/
def Obligations.ExpeditedRequestsAreAnswered : Prop :=
  (∀ (sd : SideId) (f : FieldFrame) (h : Pdu) (s : State) (o : Obj) (n : Nat), s.plant.takesField sd f = true →
    findObj h.index h.sub = some o → h.count = 0 → (carrierOf sd f).fits 0 h.data.length = true →
    s.plant.readCheck (.field sd) o = .ok → o.row.ty.octetCount = some n → n ≤ 8 →
    Completes (.tyistRead sd f h) s (fun t => s.plant.onlyCore t sd ∧
      s.plant.saysOnField t sd f Reg.tyist_requests
        [pduOctets 2 h.tag h.index h.sub 0 n (o.row.ty.encode (s.plant.objShown o))])) ∧
  (∀ (sd : SideId) (f : FieldFrame) (h : Pdu) (s : State), s.plant.takesField sd f = true →
    h.index = 0x1110 → h.sub = 5 → h.count = 1 → h.data.take 1 = [1] → (carrierOf sd f).fits 1 h.data.length = true →
    s.plant.mayWriteDev (.field sd) Reg.attest_request = true → s.plant.dev.rd Reg.attest_owner = 3 + sd.num →
    s.plant.dev.rd Reg.attest_request ≠ 1 → s.plant.dev.rd Reg.boot_status = 3 ∨ s.plant.dev.rd Reg.boot_status = 4 →
    s.plant.dev.lifecycle ≠ 3 → s.plant.dev.owlDown = false →
    Completes (.tyistWrite sd f h) s (fun t =>
      s.plant.saysOnField t sd f Reg.tyist_requests [pduOctets 4 h.tag h.index h.sub 0 0 []] ∧
      ({ s.plant.dev with attestFrom := s.plant.reportBody, attestAt := s.plant.dev.aon } : Dev).onlySlotsAndReports t.dev
        [Reg.attest_request] ∧ t.dev.rd Reg.attest_request = 1))

/-- A requester that may read the object: an expedited read of an object longer than 8 octets, or of a DOMAIN, which has no fixed
length, is answered with reason 0x05 and no data. A requester that may write it: an expedited write is answered with reason 0x05
and nothing else changes. On the field port and in-band. -/
def Obligations.LongObjectsMoveInSegments : Prop :=
  (∀ (v : Carrier) (h : Pdu) (p : Plant) (o : Obj), findObj h.index h.sub = some o →
    (∀ n, o.row.ty.octetCount = some n → 8 < n) →
    (h.count = 0 → v.fits 0 h.data.length = true → p.readCheck v.requester o = .ok →
      p.tyistRead v h = p.reply v h 2 .badLength 0 []) ∧
    (v.fits h.count h.data.length = true → p.writeCheck v.requester WriteEnv.plain o = .ok →
      p.tyistWrite v h = p.reply v h 4 .badLength 0 [])) ∧
  (∀ t : ObjType, t.octetCount = none ↔ t = .domain) ∧ Reason.badLength.code = 0x05

/-- On a field port that takes the frame and holds no open transaction: a read of an object of fixed length in the read set opens a
transaction over the object's octets and is answered with seg_begin_rsp carrying their number; a write of up to 256 KiB to
bundle_stage, which no other requester owns, opens one, makes the requester its owner and is answered the same. The answer's count
field is a free value (log entry 8). -/
def Obligations.SegmentedTransactionsOpen : Prop :=
  (∀ (sd : SideId) (f : FieldFrame) (h : Pdu) (s : State) (o : Obj) (n : Nat), s.plant.takesField sd f = true →
    findObj h.index h.sub = some o → (carrierOf sd f).fits 0 h.data.length = true →
    s.plant.readCheck (.field sd) o = .ok → o.row.ty.octetCount = some n → s.plant.dev.xferRoom (carrierOf sd f) h = true →
    let data := o.row.ty.encode (s.plant.objShown o)
    Completes (.tyistSegReadBegin sd f h) s (fun t =>
      s.plant.saysOnField t sd f Reg.tyist_requests
        [pduOctets 7 h.tag h.index h.sub 0 (Config.beginCount s.plant.dev.free).toNat (toBe 4 data.length)] ∧
      (let x : Xfer := ⟨carrierOf sd f, h.tag % 256, false, h.index, h.sub, data.length, data, 0, false, false, s.plant.dev.aon, .ok⟩
       ({ s.plant.dev with
           xfers := s.plant.dev.xfers.filter (fun y => !y.clashes (carrierOf sd f) h) ++ [x],
           free := s.plant.dev.free + 1 } : Dev).onlySlotsAndReports t.dev []))) ∧
  (∀ (sd : SideId) (f : FieldFrame) (h : Pdu) (s : State), s.plant.takesField sd f = true →
    h.index = 0x1180 → h.sub = 1 → (carrierOf sd f).fits 4 h.data.length = true →
    s.plant.mayWriteDev (.field sd) Reg.bundle_stage = true → s.plant.dev.stageFree (.field sd) = true →
    s.plant.dev.xferRoom (carrierOf sd f) h = true →
    let total := beNat (h.data.take 4)
    0 < total → total ≤ 262144 →
    Completes (.tyistSegWriteBegin sd f h) s (fun t =>
      s.plant.saysOnField t sd f Reg.tyist_requests
        [pduOctets 7 h.tag h.index h.sub 0 (Config.beginCount s.plant.dev.free).toNat (toBe 4 total)] ∧
      (let x : Xfer := ⟨carrierOf sd f, h.tag % 256, true, h.index, h.sub, total, [], 0, false, false, s.plant.dev.aon, .ok⟩
       ({ s.plant.dev with
           xfers := s.plant.dev.xfers.filter (fun y => !y.clashes (carrierOf sd f) h) ++ [x],
           bundleAt := s.plant.dev.aon, free := s.plant.dev.free + 1 } : Dev).onlySlotsAndReports t.dev [Reg.bundle_owner]) ∧
      t.dev.rd Reg.bundle_owner = 3 + sd.num))

/-- On a field port that takes the frame, of the open transaction that the PDU belongs to: the expected segment of a write, with more
to come, adds its octets and is acknowledged; the last segment of a write to bundle_stage commits the whole content and is
followed by write_rsp; a request for the expected segment of a read, with more to come, is answered with that segment's octets; an
abort ends the transactions it belongs to without a response. Where the spec leaves a point open, the model's own choice is in log
entries 18, 55 and 59. -/
def Obligations.SegmentsMoveTheOctets : Prop :=
  (∀ (sd : SideId) (f : FieldFrame) (h : Pdu) (s : State) (x : Xfer), s.plant.takesField sd f = true →
    let v := carrierOf sd f
    let n := x.segLength x.next
    s.plant.dev.xfers.find? (fun y => y.matches v h) = some x → x.write = true → x.done = false → h.count = x.next →
    v.fits n h.data.length = true → h.data.length ≤ v.segment → x.next + 1 ≠ x.segments →
    Completes (.tyistSegment sd f h) s (fun t =>
      s.plant.saysOnField t sd f Reg.tyist_requests [pduOctets 9 h.tag h.index h.sub 0 h.count []] ∧
      ({ s.plant.dev with bundleAt := t.dev.bundleAt, xfers := s.plant.dev.xfers.map (fun y => if y.matches v h then
          { y with data := x.data ++ h.data.take n, next := y.next + 1, began := true, done := false, at' := s.plant.dev.aon } else y)
        } : Dev).onlySlotsAndReports t.dev [])) ∧
  (∀ (sd : SideId) (f : FieldFrame) (h : Pdu) (s : State) (x : Xfer), s.plant.takesField sd f = true →
    let v := carrierOf sd f
    let n := x.segLength x.next
    s.plant.dev.xfers.find? (fun y => y.matches v h) = some x → x.write = true → x.done = false → h.count = x.next →
    v.fits n h.data.length = true → h.data.length ≤ v.segment → x.next + 1 = x.segments → x.index = 0x1180 → x.sub = 1 →
    s.plant.mayWriteDev (.field sd) Reg.bundle_stage = true → s.plant.dev.stageFree (.field sd) = true →
    Completes (.tyistSegment sd f h) s (fun t =>
      s.plant.saysOnField t sd f Reg.tyist_requests
        [pduOctets 4 h.tag h.index h.sub 0 0 [], pduOctets 9 h.tag h.index h.sub 0 h.count []] ∧
      t.dev.stage = x.data ++ h.data.take n ∧ t.dev.rd Reg.bundle_apply = 1 ∧ t.dev.rd Reg.bundle_owner = 3 + sd.num ∧
      ∀ k, k ≠ Reg.bundle_apply → k ≠ Reg.bundle_owner → t.dev.rd k = s.plant.dev.rd k)) ∧
  (∀ (sd : SideId) (f : FieldFrame) (h : Pdu) (s : State) (x : Xfer), s.plant.takesField sd f = true →
    let v := carrierOf sd f
    s.plant.dev.xfers.find? (fun y => y.matches v h) = some x → x.write = false → x.done = false → x.ends = .ok → h.count = x.next →
    v.fits 0 h.data.length = true → h.count + 1 < x.segments →
    Completes (.tyistSegAck sd f h) s (fun t =>
      s.plant.saysOnField t sd f Reg.tyist_requests
        [pduOctets 8 h.tag h.index h.sub 0 h.count (slice x.data (h.count * x.via.segment) (x.segLength h.count))] ∧
      ({ s.plant.dev with xfers := s.plant.dev.xfers.map (fun y => if y.matches v h then
          { y with next := h.count + 1, began := true, done := false, at' := s.plant.dev.aon } else y) } : Dev).onlySlotsAndReports
        t.dev [])) ∧
  (∀ (sd : SideId) (f : FieldFrame) (h : Pdu) (s : State), s.plant.takesField sd f = true →
    (carrierOf sd f).fits 0 h.data.length = true →
    Completes (.tyistAbort sd f h) s (fun t => s.plant.onlyDev t ∧
      ({ s.plant.dev with xfers := s.plant.dev.xfers.filter (fun y => !y.matches (carrierOf sd f) h) } : Dev).onlySlots t.dev []))

/-- A PDU shorter than its header is discarded and counts in tyist_malformed; one of another version is answered with an abort of
reason 0x14. A transaction of the field port without a PDU for segment_timeout_ms is dropped and answered with an abort of reason
0x12. A classic frame on either Tyist identifier counts in tyist_classic_ignored. Bus-off counts and is reported by kind 1 of
E+470, and the recovery ends it. An in-band read request for device_mode at the head of queue 7 of vport 0 leaves the buffer as a
consumed management frame, and its answer waits for its port. Where the spec leaves a point open, the model's own choice is in log
entries 18 and 20. -/
def Obligations.FieldPortEventsTakeEffect : Prop :=
  (∀ (sd : SideId) (f : FieldFrame) (o : Octets) (s : State), s.plant.takesField sd f = true → o.length < 8 →
    Completes (.tyistPduMalformed sd f o) s (fun t => s.plant.onlyCore t sd ∧
      (s.core sd).onlySlotsAndReports (t.core sd) [Reg.tyist_malformed] ∧ (s.core sd).counts (t.core sd) Reg.tyist_malformed 1)) ∧
  (∀ (sd : SideId) (f : FieldFrame) (o : Octets) (s : State), s.plant.takesField sd f = true → 8 ≤ o.length →
    let b := beNat (o.take 8)
    bits b 63 60 ≠ 1 →
    Completes (.tyistPduMalformed sd f o) s (fun t => s.plant.onlyCore t sd ∧
      s.plant.saysOnField t sd f Reg.tyist_refusals [pduOctets 0xA (bits b 55 48) (bits b 47 32) (bits b 31 24) 0x14 0 []])) ∧
  (∀ (n : Nat) (x : Xfer) (s : State), s.plant.dev.porst = false → s.plant.dev.xfers[n]? = some x → x.done = false →
    x.via.kind ≠ 2 → (s.core x.via.side).fieldUp = true →
    let f : FieldFrame := ⟨if x.via.kind = 0 then 2 else 1, 0, 0, 0⟩
    Completes (.segmentTimeout n) s (fun t =>
      s.plant.saysOnField t x.via.side f Reg.tyist_refusals [pduOctets 0xA x.tag x.index x.sub 0x12 0 []] ∧
      ({ s.plant.dev with
          xfers := s.plant.dev.xfers.eraseIdx n,
          aon := max s.plant.dev.aon (ceilDiv (x.at' + 1000000 * (s.core x.via.side).rd Reg.segment_timeout_ms) 40 * 40) } : Dev).onlySlotsAndReports
        t.dev [])) ∧
  (∀ (sd : SideId) (ident : BitVec 11) (s : State), s.plant.dev.porst = false → (s.core sd).fieldUp = true →
    ident.toNat = 0x2C0 + (s.core sd).rd Reg.field_node_id ∨ ident.toNat = 0x340 + (s.core sd).rd Reg.field_node_id →
    Completes (.classicFrameIgnored sd ident) s (fun t => s.plant.onlyCore t sd ∧
      (s.core sd).onlySlotsAndReports (t.core sd) [Reg.tyist_classic_ignored] ∧
      (s.core sd).counts (t.core sd) Reg.tyist_classic_ignored 1)) ∧
  (∀ (sd : SideId) (s : State), (s.core sd).alive = true → (s.core sd).busOff = false →
    Completes (.fieldBusOff sd) s (fun t => s.plant.onlyCore t sd ∧ (t.core sd).busOff = true ∧
      ({ s.core sd with busOff := true } : Core).onlySlotsAndReports (t.core sd) [Reg.field_bus_off] ∧
      (s.core sd).counts (t.core sd) Reg.field_bus_off 1)) ∧
  (∀ (sd : SideId) (s : State), (s.core sd).alive = true →
    Completes (.fieldBusOffRecovery sd) s (fun t => s.plant.onlyCore t sd ∧
      ({ s.core sd with busOff := false } : Core).onlySlots (t.core sd) [])) ∧
  (∀ (sd : SideId) (s : State) (x : Copy) (c : Core), (s.core sd).alive = true →
    (s.core sd).takeMgmt (.vport 0) 7 = some (x, c) → c.rd Reg.power_state = (s.core sd).rd Reg.power_state →
    let m := mgmtBody 0x88B6 x.data
    let b := beNat (m.2.take 8)
    let port := match x.ingress with | .port n => n | _ => 0
    let pdu := pduOctets 2 (bits b 55 48) 0x1600 1 0 1 (toBe 1 (s.plant.dev.rd Reg.device_mode))
    let frame := toBe 6 (beNat (slice x.data 6 6)) ++ toBe 6 c.mgmtMac ++ m.1 ++ toBe 2 0x88B6 ++ pdu
    8 ≤ m.2.length → bits b 63 60 = 1 → bits b 59 56 = 1 → bits b 47 32 = 0x1600 → bits b 31 24 = 1 → bits b 15 0 = 0 →
    (⟨sd, 2, 0, m.1, 0⟩ : Carrier).fits 0 (m.2.length - 8) = true → s.plant.dev.early = false →
    Completes (.inbandRequest sd) s (fun t => s.plant.onlyCore t sd ∧
      (t.core sd).mgmtWait = c.mgmtWait ++ [(port, frame ++ List.replicate (60 - frame.length) 0)] ∧
      ({ c with mgmtWait := (t.core sd).mgmtWait } : Core).onlySlotsAndReports (t.core sd) [Reg.tyist_requests] ∧
      c.counts (t.core sd) Reg.tyist_requests 1 ))

/-- A requester that may write bundle_stage, which it owns or nobody does: its octets stand at the offset, it is the owner and
bundle_apply reads 1. The owner's 1 to bundle_apply with the boot complete: bundle_apply reads 3 when the bundle passes every
check, and 5 otherwise. A verified bundle whose sequence can be persisted and whose records are all taken: bundle_apply reads 4,
last_sequence the bundle's, the owner is nobody and the buffer is empty. One second without a write of the owner: the owner is
nobody, the buffer empty, bundle_apply 0. Where the spec leaves a point open, the model's own choice is in log entries 19 and 60. -/
def Obligations.BundlesAreStagedAndApplied : Prop :=
  (∀ (q : Requester) (off : BitVec 18) (o : Octets) (s : State), s.plant.mayWriteDev q Reg.bundle_stage = true →
    s.plant.dev.stageFree q = true → off.toNat + o.length ≤ 262144 →
    Completes (.bundleStageWrite q off o) s (fun t => s.plant.onlyDev t ∧
      ({ s.plant.dev with stage := t.dev.stage, bundleAt := s.plant.dev.aon } : Dev).onlySlots t.dev
        [Reg.bundle_owner, Reg.bundle_apply] ∧
      slice t.dev.stage off.toNat o.length = o ∧ t.dev.stage.length = max s.plant.dev.stage.length (off.toNat + o.length) ∧
      t.dev.rd Reg.bundle_owner = ownerCode q ∧ t.dev.rd Reg.bundle_apply = 1)) ∧
  (∀ (q : Requester) (s : State), s.plant.mayWriteDev q Reg.bundle_apply = true → s.plant.dev.stageFree q = true →
    s.plant.dev.rd Reg.boot_status = 4 → s.plant.dev.rd Reg.bundle_owner ≠ 0 →
    Completes (.bundleApply q 1) s (fun t =>
      (s.plant.verifyBundle.1 = 0 → s.plant.onlyDev t ∧ t.dev.rd Reg.bundle_apply = 3 ∧
        ({ s.plant.dev with bundleSender := ownerCode q, bundleReply := none } : Dev).onlySlotsAndReports t.dev
          [Reg.bundle_apply, Reg.host_config_writes]) ∧
      (s.plant.verifyBundle.1 ≠ 0 → t.dev.rd Reg.bundle_apply = 5 ∧ t.dev.rd Reg.bundle_owner = 0 ∧ t.dev.stage = []))) ∧
  (∀ (s : State) (d : Dev) (x : Plant), s.plant.dev.porst = false → s.plant.dev.owlDown = false →
    s.plant.dev.rd Reg.bundle_apply = 3 → s.plant.dev.persistSequence s.plant.dev.bundleSequence = some d →
    ({ s.plant with dev := d } : Plant).applyRecords false 0 d.bundleRecords = (x, none) →
    Completes .bundleApplyComplete s (fun t => t.dev.rd Reg.bundle_apply = 4 ∧ t.dev.rd Reg.bundle_owner = 0 ∧ t.dev.stage = [] ∧
      t.dev.rd Reg.last_sequence = s.plant.dev.bundleSequence % 2 ^ 64 ∧ t.dev.rd Reg.bundle_result = 0 ∧
      (∀ sd, (t.side sd).spm = (x.side sd).spm ∧ (t.side sd).dram = (x.side sd).dram) ∧ t.dev.flash = x.dev.flash ∧
      t.dev.fuses = x.dev.fuses)) ∧
  (∀ s : State, s.plant.dev.porst = false → s.plant.dev.owlDown = false → s.plant.dev.rd Reg.bundle_owner ≠ 0 →
    s.plant.dev.rd Reg.bundle_apply ≠ 2 → s.plant.dev.rd Reg.bundle_apply ≠ 3 →
    Completes .bundleOwnerTimeout s (fun t => s.plant.onlyDev t ∧
      ({ s.plant.dev with stage := [], aon := max s.plant.dev.aon (ceilDiv (s.plant.dev.bundleAt + second) 40 * 40) } : Dev).onlySlots t.dev
        [Reg.bundle_owner, Reg.bundle_apply] ∧ t.dev.rd Reg.bundle_owner = 0 ∧ t.dev.rd Reg.bundle_apply = 0))

/-- On a running side out of Den, for a port that may run and whose wake detector does not watch the way into Den: LANE_LOCK makes its
receiver signal and locked, and starts the link-up holdoff of a port that is down, without fault, not negotiating and not back
from Den; AN_COMPLETE, where the port negotiates and is locked, stores the partner's word and whether the negotiation ended well;
LINK_CONDITION_CHANGE sets the receiver's four conditions, and the link stays as it was but for a port back from Den, which goes
up as soon as it is ready. Each completes, changes only that port's dynamic state and the objects named, and leaves the rest of
the device. Where the spec leaves a point open, the model's own choice is in log entry 21. -/
def Obligations.LinkCommandsFollowTheReceiver : Prop :=
  (∀ (sd : SideId) (p : Fin 64) (s : State), (s.core sd).alive = true → (s.core sd).mayRun p = true → (s.core sd).inDen = false →
    (s.core sd).wakeable p = false →
    Completes (.laneLock sd p) s (fun t => s.plant.onlyCore t sd ∧ (s.core sd).onlyPort (t.core sd) p [Reg.link_changes p] ∧
      ((t.core sd).port p).signal = true ∧ ((t.core sd).port p).locked = true ∧
      (((s.core sd).port p).up = false → ((s.core sd).port p).lfault = false → ((s.core sd).port p).rfault = false →
        (s.core sd).negotiates p = false → ((s.core sd).port p).fallbackAt = none →
        ((t.core sd).port p).holdoff =
          some (((s.core sd).port p).holdoff.getD ((s.core sd).now + msTicks ((s.core sd).rd (Reg.link_up_holdoff_ms p)))) ∧
        (t.core sd).rd (Reg.link_changes p) = (s.core sd).rd (Reg.link_changes p)))) ∧
  (∀ (sd : SideId) (p : Fin 64) (outcome : Fin 5) (word : BitVec 48) (s : State), (s.core sd).alive = true →
    (s.core sd).mayRun p = true → (s.core sd).negotiates p = true → ((s.core sd).port p).locked = true → (s.core sd).wakeable p = false →
    Completes (.anComplete sd p outcome word) s (fun t => s.plant.onlyCore t sd ∧
      (s.core sd).onlyPort (t.core sd) p [Reg.an_partner p, Reg.link_changes p] ∧ (t.core sd).rd (Reg.an_partner p) = word.toNat ∧
      (((s.core sd).port p).fallbackAt = none →
        (t.core sd).rd (Reg.link_changes p) = (s.core sd).rd (Reg.link_changes p)) ∧
      ((t.core sd).port p).anDone = decide (2 ≤ outcome.val) ∧ ((t.core sd).port p).anFailed = decide (outcome.val < 2))) ∧
  (∀ (sd : SideId) (p : Fin 64) (signal locked lfault rfault : Bool) (s : State), (s.core sd).alive = true →
    (s.core sd).mayRun p = true → (s.core sd).inDen = false → (s.core sd).wakeable p = false →
    Completes (.linkConditionChange sd p signal locked lfault rfault) s (fun t => s.plant.onlyCore t sd ∧
      (s.core sd).onlyPort (t.core sd) p [Reg.link_changes p] ∧ ((t.core sd).port p).signal = signal ∧
      ((t.core sd).port p).locked = (signal && locked) ∧ ((t.core sd).port p).lfault = lfault ∧
      ((t.core sd).port p).rfault = rfault ∧
      (((s.core sd).port p).up = true ∨ ((s.core sd).port p).fallbackAt = none →
        ((t.core sd).port p).up = ((s.core sd).port p).up ∧
        (t.core sd).rd (Reg.link_changes p) = (s.core sd).rd (Reg.link_changes p))))

/-- For a port whose wake detector does not watch the way into Den, LINK_UP_HOLDOFF_EXPIRY of a running holdoff runs the side's clocks
on to its end and takes the link up: link_state reads 1 and link_changes counts. LINK_FAULT takes an up link down: link_state
reads 3 for a remote fault and 2 for the other causes; with no frame on its way and flush_on_down 0 it stores the time, counts in
link_changes, is reported and changes no other object. DEN_LINK_TIMEOUT of a held port without a link in Den ends its wait after
100 ms and is reported by kind 1 of the port's source 4p. Every other port stays as it was, and so does the rest of the device.
Where the spec leaves a point open, the model's own choice is in log entry 21. -/
def Obligations.LinkGoesUpAndDown : Prop :=
  (∀ (sd : SideId) (p : Fin 64) (u : Nat) (s : State), (s.core sd).alive = true → ((s.core sd).port p).holdoff = some u →
    (s.core sd).mayRun p = true → (s.core sd).inDen = false → (s.core sd).wakeable p = false →
    Completes (.linkUpHoldoffExpiry sd p) s (fun t => s.plant.onlyCore t sd ∧
      ((s.core sd).advanceTo u).onlyPort (t.core sd) p [Reg.link_changes p] ∧ ((t.core sd).port p).up = true ∧
      (t.core sd).linkState p = 1 ∧ (s.core sd).counts (t.core sd) (Reg.link_changes p) 1)) ∧
  (∀ (sd : SideId) (p : Fin 64) (cause : Fin 5) (s : State), (s.core sd).alive = true → ((s.core sd).port p).up = true →
    (s.core sd).mayRun p = true → (s.core sd).inDen = false → (s.core sd).wakeable p = false →
    Completes (.linkFault sd p cause) s (fun t => s.plant.onlyLearning t sd ∧ ((t.core sd).port p).up = false ∧
      ((t.core sd).port p).shown = (if cause.val = 3 then 3 else 2) ∧ ((t.core sd).port p).faulted = true ∧
      (∀ q, q ≠ p.val → (t.core sd).port q = (s.core sd).port q) ∧
      ((s.core sd).linkFault (s.plant.learnEnv sd) p cause).onlySlots (t.core sd) [] ∧
      ((s.core sd).copies = [] → (s.core sd).flag (Reg.flush_on_down p) = false →
        (t.core sd).rd (Reg.last_link_down p) = (s.core sd).sideTime % 2 ^ 64 ∧
        (s.core sd).counts (t.core sd) (Reg.link_changes p) 1 ∧
        (s.core sd).reports (t.core sd) (4 * p) (if cause.val = 3 then 3 else 1) p ∧
        (s.core sd).onlyPort (t.core sd) p [Reg.last_link_down p, Reg.link_changes p]))) ∧
  (∀ (sd : SideId) (p : Fin 64) (u : Nat) (s : State), (s.core sd).alive = true → ((s.core sd).port p).denSince = some u →
    (s.core sd).rd Reg.power_state = 2 → ((s.core sd).port p).up = false →
    Completes (.denLinkTimeout sd p) s (fun t => s.plant.onlyCore t sd ∧
      ((s.core sd).advanceTo (u + msTicks 100)).onlyPort (t.core sd) p [] ∧ ((t.core sd).port p).denSince = none ∧
      ((s.core sd).advanceTo (u + msTicks 100)).reported (t.core sd) (4 * p) 1 p))

/-- While the collector's queue has room for them all, EVENT_RATE_INTERVAL of a running side queues one message for each entry that
the rate rule holds, in order, with the side's time and no earlier than the present clock, and the rate rule holds none
afterwards; the same for the device level, with its own time. Nothing else changes. Where the spec leaves a point open, the
model's own choice is in log entry 46. -/
def Obligations.RateIntervalSendsWhatWaits : Prop :=
  (∀ (sd : SideId) (s : State), (s.core sd).alive = true → (s.core sd).faultQ.length + (s.core sd).rates.length ≤ 960 →
    Completes (.eventRateInterval (some sd)) s (fun t => s.plant.onlyCore t sd ∧
      (∃ l, (t.core sd).faultQ = (s.core sd).faultQ ++ l ∧ (∀ m ∈ l, (s.core sd).now ≤ m.clock) ∧
        l.map (fun m => { m with clock := 0 }) = (s.core sd).rates.map (fun m =>
          ⟨(s.core sd).eBase + m.src, m.kind, m.addr % 2 ^ 48, (s.core sd).sideTime, 0⟩)) ∧ (t.core sd).rates = [] ∧
      ({ s.core sd with faultQ := (t.core sd).faultQ, rates := [] } : Core).onlySlots (t.core sd) [])) ∧
  (∀ (s : State), s.plant.dev.porst = false → s.plant.dev.faultQ.length + s.plant.dev.rates.length ≤ 64 →
    Completes (.eventRateInterval none) s (fun t => s.plant.onlyDev t ∧
      t.dev.faultQ = s.plant.dev.faultQ ++ s.plant.dev.rates.map (fun m => ⟨m.src, m.kind, m.addr % 2 ^ 48, s.plant.dev.aon, s.plant.dev.aon⟩) ∧
      t.dev.rates = [] ∧ ({ s.plant.dev with faultQ := t.dev.faultQ, rates := [] } : Dev).onlySlots t.dev []))

/-- PAUSE_EXPIRY runs the clocks on to the end of the pause, and the state holds no more. PAUSE_WATCHDOG_TRIP of a state that the
watchdog is counting, once the time that is left of pause_watchdog_ms has passed before the pause ends, ends the pause, counts it
in pause_watchdog_trips and starts a hold-off of pause_holdoff_ms. PAUSE_HOLDOFF_END runs on to the end of the hold-off and clears
it. PAUSE_REFRESH, on a port whose link is up, sends the frame of its XOFF again with tx_pause_quanta and counts it, or keeps its
request until the data frame in transmission has ended. Beside these, the port's shapers are brought up to date, and every other
port and the rest of the device stay as they were. Where the spec leaves a point open, the model's own choice is in log entries 25
and 55. -/
def Obligations.PauseTimersRunOut : Prop :=
  (∀ (sd : SideId) (p : Fin 64) (st : Fin 9) (u : Nat) (s : State), (s.core sd).alive = true →
    SMap.find? ((s.core sd).port p).pauseEnd st = some u →
    Completes (.pauseExpiry sd p st) s (fun t => s.plant.onlyCore t sd ∧
      ({ (s.core sd).advanceTo u with shapers := (t.core sd).shapers } : Core).onlyPort (t.core sd) p [] ∧
      (t.core sd).now = max (s.core sd).now u ∧ SMap.find? ((t.core sd).port p).pauseEnd st = none ∧
      (t.core sd).pauseHolds p st = false)) ∧
  (∀ (sd : SideId) (p : Fin 64) (st : Fin 9) (u w : Nat) (s : State), (s.core sd).alive = true →
    SMap.find? (((s.core sd).touchPause p st).port p).pauseEnd st = some u →
    SMap.find? (((s.core sd).touchPause p st).port p).wdSince st = some w →
    let rest := msTicks ((s.core sd).rd (Reg.pause_watchdog_ms p)) - SMap.getD (((s.core sd).touchPause p st).port p).wdCount st 0
    (s.core sd).now + rest < u →
    Completes (.pauseWatchdogTrip sd p st) s (fun t => s.plant.onlyCore t sd ∧
      ({ (s.core sd).advance rest with shapers := (t.core sd).shapers } : Core).onlyPort (t.core sd) p [Reg.pause_watchdog_trips p] ∧
      (s.core sd).counts (t.core sd) (Reg.pause_watchdog_trips p) 1 ∧ SMap.find? ((t.core sd).port p).pauseEnd st = none ∧
      SMap.find? ((t.core sd).port p).holdEnd st =
        some ((s.core sd).now + rest + msTicks ((s.core sd).rd (Reg.pause_holdoff_ms p))))) ∧
  (∀ (sd : SideId) (p : Fin 64) (st : Fin 9) (u : Nat) (s : State), (s.core sd).alive = true →
    SMap.find? ((s.core sd).port p).holdEnd st = some u →
    Completes (.pauseHoldoffEnd sd p st) s (fun t => s.plant.onlyCore t sd ∧
      ((s.core sd).advanceTo u).onlyPort (t.core sd) p [] ∧ SMap.find? ((t.core sd).port p).holdEnd st = none ∧
      (t.core sd).heldOff p st = false)) ∧
  (∀ (sd : SideId) (p : Fin 64) (st : Fin 9) (u : Nat) (s : State), (s.core sd).alive = true → (s.core sd).linkUp p = true →
    SMap.find? (s.core sd).xoffs (16 * p + st) = some u →
    let c := (s.core sd).advanceTo (u - 1 + (s.core sd).rd (Reg.tx_pause_quanta p) * quantumTime ((s.core sd).mbps p) / 2000)
    let k := if st.val = 8 then Reg.tx_pause_frames p else Reg.tx_pfc_frames p
    Completes (.pauseRefresh sd p st) s (fun t => s.plant.onlyCore t sd ∧
      SMap.find? (t.core sd).xoffs (16 * p + st) = some (c.now + 1) ∧
      (((s.core sd).port p).tx = none →
        ({ c with
            xoffs := (t.core sd).xoffs
            out := (t.core sd).out
            shapers := (t.core sd).shapers
            free := (t.core sd).free } : Core).onlyPort (t.core sd) p [k] ∧
        (t.core sd).out = .control p (pauseFrame c.mgmtMac st (c.rd (Reg.tx_pause_quanta p))) :: (s.core sd).out ∧
        (s.core sd).counts (t.core sd) k 1) ∧
      (((s.core sd).port p).tx ≠ none → ({ c with xoffs := (t.core sd).xoffs } : Core).onlyPort (t.core sd) p [] ∧
        SMap.find? ((t.core sd).port p).ctl st = some 1)))

/-- On a running side out of low power, for a port that receives: PAUSE_FRAME_RECEIVE counts the frame; with flow_control 1 and
outside hold-off the 802.3 pause holds afterwards exactly when the quanta are not 0, and with another flow_control the frame
counts in rx_control_bad too. PFC_FRAME_RECEIVE counts the frame; with flow_control 2 each priority of its vector that pfc_enable
enables and that is outside hold-off holds afterwards exactly when its quanta are not 0, and every other priority holds as before.
Every other port and the rest of the device stay as they were. Where the spec leaves a point open, the model's own choice is in
log entry 25. -/
def Obligations.PauseFramesPauseTheirStates : Prop :=
  (∀ (sd : SideId) (p : Fin 64) (quanta : BitVec 16) (s : State), (s.core sd).alive = true → (s.core sd).receives p = true →
    (s.core sd).lowPower = false →
    Completes (.pauseFrameReceive sd p quanta) s (fun t => s.plant.onlyCore t sd ∧
      ({ s.core sd with shapers := (t.core sd).shapers } : Core).onlyPort (t.core sd) p
        [Reg.rx_control_frames p, Reg.rx_pause_frames p, Reg.rx_control_bad p] ∧
      (s.core sd).counts (t.core sd) (Reg.rx_control_frames p) 1 ∧ (s.core sd).counts (t.core sd) (Reg.rx_pause_frames p) 1 ∧
      ((s.core sd).rd (Reg.flow_control p) = 1 → (s.core sd).heldOff p 8 = false →
        (t.core sd).pauseHolds p 8 = decide (quanta.toNat ≠ 0)) ∧
      ((s.core sd).rd (Reg.flow_control p) ≠ 1 → (s.core sd).counts (t.core sd) (Reg.rx_control_bad p) 1 ∧
        (t.core sd).ports = (s.core sd).ports))) ∧
  (∀ (sd : SideId) (p : Fin 64) (vector : BitVec 16) (quanta : List (BitVec 16)) (s : State), (s.core sd).alive = true →
    (s.core sd).receives p = true → (s.core sd).lowPower = false →
    Completes (.pfcFrameReceive sd p vector quanta) s (fun t => s.plant.onlyCore t sd ∧
      ({ s.core sd with shapers := (t.core sd).shapers } : Core).onlyPort (t.core sd) p
        [Reg.rx_control_frames p, Reg.rx_pfc_frames p, Reg.rx_control_bad p] ∧
      (s.core sd).counts (t.core sd) (Reg.rx_control_frames p) 1 ∧ (s.core sd).counts (t.core sd) (Reg.rx_pfc_frames p) 1 ∧
      ((s.core sd).rd (Reg.flow_control p) = 2 → ∀ st : Fin 8, (t.core sd).pauseHolds p st =
        if bitOf vector.toNat st && bitOf ((s.core sd).rd (Reg.pfc_enable p)) st && !(s.core sd).heldOff p st
        then decide ((quanta.getD st 0).toNat ≠ 0) else (s.core sd).pauseHolds p st) ∧
      ((s.core sd).rd (Reg.flow_control p) ≠ 2 → (s.core sd).counts (t.core sd) (Reg.rx_control_bad p) 1 ∧
        (t.core sd).ports = (s.core sd).ports)))

/-- On a running side out of low power, for a port that receives: RX_FRAME_START adds the frame, with the present time, the port's
configuration and the next frame number, to those in reception, to be kept when the receive buffer has room, counted in
rx_ifg_short after an idle time of less than 5 octets, and otherwise to be dropped and counted in rx_frames, rx_octets and
rx_drop_overflow alone. RX_FRAME_END of the oldest frame in reception on a port without FEC and MACsec, when the parser has not
accepted it, no class of R107 holds under the configuration of its start and it is no MAC Control frame, runs the clocks on to its
last octet, and the frame waits for the parser without its FCS; the other frames in reception and the rest of the device stay.
Where the spec leaves a point open, the model's own choice is in log entries 22 and 23. -/
def Obligations.ReceptionBeginsAndEnds : Prop :=
  (∀ (sd : SideId) (p : Fin 64) (o : Octets) (idle : BitVec 16) (s : State), (s.core sd).alive = true →
    (s.core sd).receives p = true → (s.core sd).lowPower = false →
    let full := decide ((s.core sd).rxBuffer p < (s.core sd).rxUse p + (s.core sd).rd (Reg.rx_max_frame p) + 32)
    Completes (.rxFrameStart sd p o idle) s (fun t => s.plant.onlyCore t sd ∧
      ({ s.core sd with rx := (t.core sd).rx, frameNo := (s.core sd).frameNo + 1 } : Core).onlySlotsAndReports (t.core sd)
        (if full then [Reg.rx_frames p, Reg.rx_octets p, Reg.rx_drop_overflow p]
         else if idle.toNat < 5 then [Reg.rx_ifg_short p] else []) ∧
      (full = false → idle.toNat < 5 → (s.core sd).counts (t.core sd) (Reg.rx_ifg_short p) 1) ∧
      (∃ f, (t.core sd).rx = (s.core sd).rx ++ [f] ∧ f.no = (s.core sd).frameNo + 1 ∧ f.conf = (t.core sd).portConf p ∧ f.port = p.val ∧ f.octets = o ∧
        f.start = (s.core sd).now ∧ f.ended = false ∧ f.accepted = false ∧ f.dropAs = (if full then 2 else 0)) ∧
      (full = true → (s.core sd).counts (t.core sd) (Reg.rx_frames p) 1 ∧
        (s.core sd).counts (t.core sd) (Reg.rx_octets p) o.length ∧ (s.core sd).counts (t.core sd) (Reg.rx_drop_overflow p) 1))) ∧
  (∀ (sd : SideId) (p : Fin 64) (align : Bool) (good bad : BitVec 16) (f : RxFrame) (s : State), (s.core sd).alive = true →
    (s.core sd).rx.find? (fun g => decide (g.port = p.val) && !g.ended) = some f → f.dropAs = 0 → f.accepted = false →
    let w := (s.core sd).under f
    (s.core sd).rd (Reg.fec_mode p) = 0 → w.rd (Reg.fec_mode p) = 0 → w.flag (Reg.macsec_enable p) = false →
    w.rxClasses p f.octets (decide (240000 ≤ f.octet)) align false = 0 → be16 (f.octets.take (f.octets.length - 4)) 12 ≠ 0x8808 →
    let u := f.start + ceilDiv (f.octets.length * f.octet) 1000
    Completes (.rxFrameEnd sd p align false good bad) s (fun t => s.plant.onlyCore t sd ∧
      ({ (s.core sd).advanceTo u with rx := (t.core sd).rx } : Core).onlyPort (t.core sd) p [] ∧
      (t.core sd).rx = (s.core sd).rx.filter (fun g => decide (g.no ≠ f.no)) ++
        [{ f with ended := true, plain := f.octets.take (f.octets.length - 4), macsec := false, macsecCheck := false }] ∧
      ((t.core sd).port p).rxEnd = ((s.core sd).advanceTo u).now))

/-- A requester that may write the object: PORT_MODE_WRITE of a value up to 7 to a port whose admin_up is 0 (7 only at the first port
of four that are all present) leaves port_mode at the value and, when the mode changes, fec_mode 0; with 7 the next three ports
are members of the group and what they were receiving ends, and with another mode after 7 they are given back with port_mode,
fec_mode and admin_up 0. ADMIN_UP_WRITE of 0, or of 1 on a port out of port test and a side without a field test, leaves admin_up
at the lowest bit of the value, and with 0 the port is not up. TX_ACTIVE_SA_WRITE of 0 or 1 stores it and changes no other object
of the side. No memory changes, nor the other side in Split mode, nor any device-level object but host_config_writes. Where the
spec leaves a point open, the model's own choice is in log entry 21. -/
def Obligations.PortObjectsTakeTheirWrites : Prop :=
  (∀ (q : Requester) (sd : SideId) (p : Fin 64) (v : BitVec 8) (s : State), s.plant.mayWriteSide q sd (Reg.port_mode p) = true →
    (s.core sd).flag (Reg.admin_up p) = false → v.toNat ≤ 7 →
    (v.toNat = 7 → p.val % 4 = 0 ∧ (s.core sd).absent (p + 1) = false ∧ (s.core sd).absent (p + 2) = false ∧
      (s.core sd).absent (p + 3) = false) →
    let c := s.core sd
    let old := c.rd (Reg.port_mode p)
    let next : List Nat := [p.val + 1, p.val + 2, p.val + 3]
    Completes (.portModeWrite q sd p v) s (fun t => s.plant.wroteSide t sd ∧ (t.core sd).rd (Reg.port_mode p) = v.toNat ∧
      (v.toNat = old → c.onlySlots (t.core sd) []) ∧
      (v.toNat ≠ old → (t.core sd).rd (Reg.fec_mode p) = 0 ∧ ((t.core sd).port p).up = false ∧
        (if v.toNat = 7 then next.foldl (fun a m => (a.portDown m).cutOff m) ((c.portDown p).wr (Reg.fec_mode p) 0) else c.portDown p).onlySlots (t.core sd)
          ([Reg.fec_mode p, Reg.port_mode p] ++ if old = 7 then next.flatMap (fun m => [Reg.port_mode m, Reg.fec_mode m, Reg.admin_up m]) else [])) ∧
      (old = 7 → v.toNat ≠ 7 → ∀ m ∈ next, (t.core sd).rd (Reg.port_mode m) = 0 ∧ (t.core sd).rd (Reg.fec_mode m) = 0 ∧
        (t.core sd).rd (Reg.admin_up m) = 0) ∧
      (v.toNat = 7 → ∀ m ∈ next, (t.core sd).member m = true))) ∧
  (∀ (q : Requester) (sd : SideId) (p : Fin 64) (v : BitVec 8) (s : State), s.plant.mayWriteSide q sd (Reg.admin_up p) = true →
    (v.toNat % 2 = 1 → (s.core sd).flag (Reg.port_test p) = false ∧ (s.core sd).fieldHolds = false) →
    Completes (.adminUpWrite q sd p v) s (fun t => s.plant.wroteSide t sd ∧
      (t.core sd).flag (Reg.admin_up p) = decide (v.toNat % 2 = 1) ∧
      (v.toNat % 2 = 0 → ((t.core sd).port p).up = false ∧ ((s.core sd).portDown p).onlySlots (t.core sd) [Reg.admin_up p]) ∧
      (v.toNat % 2 = 1 → (s.core sd).onlyPort (t.core sd) p [Reg.admin_up p]))) ∧
  (∀ (q : Requester) (sd : SideId) (p : Fin 64) (v : BitVec 8) (s : State), s.plant.mayWriteSide q sd (Reg.tx_active_sa p) = true →
    v.toNat ≤ 1 →
    Completes (.txActiveSaWrite q sd p v) s (fun t => s.plant.wroteSide t sd ∧
      (t.core sd).rd (Reg.tx_active_sa p) = v.toNat ∧ (s.core sd).onlySlots (t.core sd) [Reg.tx_active_sa p]))

/-- PARSER_ACCEPT leaves the other side and every memory as they were. While the pipeline runs, with no recirculated and no vport
frame waiting, the next port frame in round-robin order that has ended, of an ordinary shape and whose station VID the live epoch
does not map, leaves reception, counts in rx_frames, rx_octets, parse_frames and station_drop_vid, and the next port is the one
after; nothing but the parse counters changes beside. Where the spec leaves a point open, the model's own choice is in log entries
22 and 26. -/
def Obligations.FramesLeaveReceptionForTheParser : Prop :=
  (∀ (sd : SideId) (ds : List Defect) (s : State), (s.core sd).alive = true →
    Completes (.parserAccept sd ds) s (fun t => t.side sd.other = s.plant.side sd.other ∧ s.plant.sameMemories t)) ∧
  (∀ (sd : SideId) (f : RxFrame) (s : State), (s.core sd).alive = true → (s.core sd).pipelineRuns = true →
    (s.core sd).nextVport = none → (s.core sd).recirc.find? (s.core sd).recircReady = none → (s.core sd).nextPort = some f → f.ended = true →
    let c := s.core sd
    let e := c.rd Reg.epoch_live
    let x : Entry := ⟨f.no, f.plain, .port f.port, none, b2n f.macsecCheck * 128, f.macsec, true, false, f.stamp,
      (c.under f).rd (Reg.port_flags f.port)⟩
    let p := parse (c.parserCfg e) (c.parseIn x e)
    p.pr.shape ≠ 252 → p.pr.shape ≠ 253 → p.badShape = false →
    bitOf (c.vidEntry e (stationVid p.pr (c.rd (Reg.vid_source f.port)) (c.rd (Reg.pvid f.port)))) 31 = false →
    Completes (.parserAccept sd []) s (fun t => s.plant.onlyCore t sd ∧
      ({ c with rrPort := (f.port + 1) % 64, rx := c.rx.filter (fun g => decide (g.no ≠ f.no)) } : Core).onlySlotsAndReports (t.core sd)
        [Reg.rx_frames f.port, Reg.rx_octets f.port, Reg.rx_unicast f.port, Reg.rx_multicast f.port, Reg.rx_broadcast f.port,
         Reg.parse_frames, Reg.parse_overdeep, Reg.parse_fragments, Reg.parse_length_conflicts, Reg.parse_l3_malformed,
         Reg.parse_window_short, Reg.parse_unmatched, Reg.parse_late_length, Reg.station_drop_vid, inflightKey e] ∧
      c.counts (t.core sd) (Reg.rx_frames f.port) 1 ∧ c.counts (t.core sd) (Reg.rx_octets f.port) f.octets.length ∧
      c.counts (t.core sd) Reg.parse_frames 1 ∧ c.counts (t.core sd) Reg.station_drop_vid 1))

/-- A requester that may write the object, with no copy of its kind and no epoch_sync running and the target epoch not in use, for the
mirrored two on the other side as well in Joined mode: the object reads 1, the copy's target is the value, and nothing else of the
side changes. The completion of a running copy outside epoch_sync, with the tables listed in order: the object reads 2, every
entry of the target epoch's bank reads as the other epoch's, the parser's scalars too for shape_copy, and no other table entry or
object slot changes. Where the spec leaves a point open, the model's own choice is in log entry 27. -/
def Obligations.CopiesOfAnEpochStartAndEnd : Prop :=
  (∀ (q : Requester) (sd : SideId) (v : BitVec 8) (s : State), v.toNat ≤ 1 →
    let free (k : Nat) (c : Core) : Prop := c.syncing = false ∧ c.epochInUse v.toNat = false ∧ c.rd k ≠ 1
    (s.plant.mayWriteSide q sd Reg.shape_copy = true → s.plant.takers sd (free Reg.shape_copy) →
      Completes (.shapeCopy q sd v) s (fun t => s.plant.wroteSide t sd ∧ (t.core sd).rd Reg.shape_copy = 1 ∧
        SMap.getD (t.core sd).copyTo Reg.shape_copy 0 = v.toNat ∧
        ({ s.core sd with copyTo := (t.core sd).copyTo } : Core).onlySlots (t.core sd) [Reg.shape_copy])) ∧
    (s.plant.mayWriteSide q sd Reg.profile_copy = true → s.plant.takers sd (free Reg.profile_copy) →
      Completes (.profileCopy q sd v) s (fun t => s.plant.wroteSide t sd ∧ (t.core sd).rd Reg.profile_copy = 1 ∧
        SMap.getD (t.core sd).copyTo Reg.profile_copy 0 = v.toNat ∧
        ({ s.core sd with copyTo := (t.core sd).copyTo } : Core).onlySlots (t.core sd) [Reg.profile_copy])) ∧
    (s.plant.mayWriteSide q sd Reg.vid_map_copy = true → free Reg.vid_map_copy (s.core sd) →
      Completes (.vidMapCopy q sd v) s (fun t => s.plant.wroteSide t sd ∧ (t.core sd).rd Reg.vid_map_copy = 1 ∧
        SMap.getD (t.core sd).copyTo Reg.vid_map_copy 0 = v.toNat ∧
        ({ s.core sd with copyTo := (t.core sd).copyTo } : Core).onlySlots (t.core sd) [Reg.vid_map_copy]))) ∧
  (∀ (sd : SideId) (e : Nat) (s : State), (s.core sd).alive = true → (s.core sd).syncing = false → e ≤ 1 →
    SMap.rising (s.core sd).tabs = true →
    ((s.core sd).rd Reg.shape_copy = 1 → SMap.getD (s.core sd).copyTo Reg.shape_copy 0 = e →
      Completes (.shapeCopyDone sd) s (fun t => s.plant.onlyCore t sd ∧ (t.core sd).rd Reg.shape_copy = 2 ∧
        (∀ n, n < 256 → (t.core sd).tab wShape (bankEntry e n) = (s.core sd).tab wShape (bankEntry (1 - e) n) ∧
          (t.core sd).mark wShape (bankEntry e n) = (s.core sd).mark wShape (bankEntry (1 - e) n)) ∧
        (∀ r ∈ [Reg.tpid_extra_0, Reg.tpid_extra_1, Reg.rtag_ethertype, Reg.hash_seed],
          (t.core sd).rd (r e) = (s.core sd).rd (r (1 - e))) ∧
        (∀ j, j < tabKey wShape (bankEntry e 0) ∨ tabKey wShape (bankEntry e 256) ≤ j →
          (t.core sd).tabAt j = (s.core sd).tabAt j) ∧
        ({ s.core sd with tabs := (t.core sd).tabs, marks := (t.core sd).marks } : Core).onlySlots (t.core sd)
          [Reg.shape_copy, Reg.tpid_extra_0 e, Reg.tpid_extra_1 e, Reg.rtag_ethertype e, Reg.hash_seed e])) ∧
    ((s.core sd).rd Reg.profile_copy = 1 → SMap.getD (s.core sd).copyTo Reg.profile_copy 0 = e →
      Completes (.profileCopyDone sd) s (fun t => s.plant.onlyCore t sd ∧ (t.core sd).rd Reg.profile_copy = 2 ∧
        (∀ n, n < 256 → (t.core sd).tab wProfile (bankEntry e n) = (s.core sd).tab wProfile (bankEntry (1 - e) n)) ∧
        (∀ j, j < tabKey wProfile (bankEntry e 0) ∨ tabKey wProfile (bankEntry e 256) ≤ j →
          (t.core sd).tabAt j = (s.core sd).tabAt j) ∧
        ({ s.core sd with tabs := (t.core sd).tabs } : Core).onlySlots (t.core sd) [Reg.profile_copy])) ∧
    ((s.core sd).rd Reg.vid_map_copy = 1 → SMap.getD (s.core sd).copyTo Reg.vid_map_copy 0 = e →
      Completes (.vidMapCopyDone sd) s (fun t => s.plant.onlyCore t sd ∧ (t.core sd).rd Reg.vid_map_copy = 2 ∧
        (∀ n, n < 4096 → (t.core sd).tab wVidMap (bankEntry e n) = (s.core sd).tab wVidMap (bankEntry (1 - e) n)) ∧
        (∀ j, j < tabKey wVidMap (bankEntry e 0) ∨ tabKey wVidMap (bankEntry e 4096) ≤ j →
          (t.core sd).tabAt j = (s.core sd).tabAt j) ∧
        ({ s.core sd with tabs := (t.core sd).tabs } : Core).onlySlots (t.core sd) [Reg.vid_map_copy])))

/-- A requester that may write badger_go, on every side that takes the write outside a field test, and outside epoch_sync when it
names an epoch, with room in the queue and a command that passes the checks: the command, with the staged entry for 2, joins the
queue's end under the next sequence number, and nothing else changes. The start of the oldest command when none runs, on both
sides in Joined mode: it fails with code 1 at a valid entry at the target place, with code 3 when the staged entry may not stand
where it would go, and stops with code 2 when a bank of its run is fenced; otherwise it runs, and nothing has moved yet. Its end
comes when its moves have had their time: a move of one place has left the record at the target and the source free and counts in
badger_moves; the sequence number reads back, the command counts in badger_commands and reports kind 1 of E+259 when asked. A
failure counts in badger_failures, is recorded and reports kind 2. Where the spec leaves a point open, the model's own choice is
in log entries 27 and 63. -/
def Obligations.TheBadgerMovesEntries : Prop :=
  (∀ (q : Requester) (sd : SideId) (w : Bool) (s : State), s.plant.mayWriteSide q sd Reg.badger_go = true →
    let c := s.core sd
    let cmd := c.badgerCmd w
    s.plant.takers sd (fun c => c.fieldHolds = false ∧ (c.syncing = false ∨ (c.badgerCmd w).target % 4 = 0) ∧
      c.targetInUse (c.badgerCmd w).target = false ∧
      c.badgerQ.length + (if c.badgerRun.isSome then 1 else 0) < 16 ∧ c.badgerOk (c.badgerCmd w) = true) →
    Completes (if w then .badgerMoveWrite q sd else .badgerMove q sd) s (fun t => s.plant.wroteSide t sd ∧
      (t.core sd).badgerQ = c.badgerQ ++ [cmd] ∧ (t.core sd).rd Reg.badger_seq_issued = cmd.seq ∧
      ({ c with badgerQ := (t.core sd).badgerQ } : Core).onlySlots (t.core sd) [Reg.badger_seq_issued])) ∧
  (∀ (sd : SideId) (s : State), (s.core sd).alive = true →
    Completes (.badgerCommandStart sd) s (fun t => s.plant.eachCore t sd (fun c d =>
      ∀ (cmd : BadgerCmd) (rest : List BadgerCmd), c.badgerRun = none → c.badgerQ = cmd :: rest →
      let bank := slotBank cmd.first
      let tgt := (cmd.targetSlot (c.bankWidth bank)).getD 0
      let runs (code : Nat) : Prop := ({ c with badgerQ := rest, badgerRun := some ⟨cmd, code, 0, 0, c.now⟩ } : Core).onlySlots d []
      (dAny (c.descAt tgt) = true → runs 1) ∧
      (dAny (c.descAt tgt) = false → cmd.write = true → c.stagedOk cmd = false → runs 3) ∧
      (dAny (c.descAt tgt) = false → (cmd.write = false ∨ c.stagedOk cmd = true) →
        (c.runFenced bank = true → runs 2) ∧ (c.runFenced bank = false → runs 0))))) ∧
  (∀ (sd : SideId) (s : State), (s.core sd).alive = true →
    Completes (.badgerCommandDone sd) s (fun t => s.plant.eachCore t sd (fun c d =>
      ∀ (r : BadgerRun), c.badgerRun = some r →
      d.rd Reg.badger_seq_done = r.cmd.seq % 2 ^ 64 ∧
      (r.code = 0 →
        let e := c.advanceTo (c.badgerEnd r)
        let w := c.bankWidth (slotBank r.cmd.first)
        c.counts d Reg.badger_commands 1 ∧ (r.cmd.notify = true → e.reports d 259 1 r.cmd.seq) ∧
        ({ e with badgerRun := none, tabs := d.tabs, probes := d.probes } : Core).onlySlotsAndReports d
          [Reg.badger_seq_done, Reg.badger_commands, Reg.badger_moves] ∧
        (∀ tgt, r.cmd.write = false → r.cmd.first = r.cmd.last → r.moved = 0 → r.cmd.targetSlot w = some tgt → tgt ≠ r.cmd.first →
          c.counts d Reg.badger_moves 1 ∧
          (let x := c.tab wSearch r.cmd.first
           ({ (e.setTab wSearch tgt x).setTab wSearch r.cmd.first
                (mkEntry w (putBits (descOf w x) 57 56 0) (keyValOf w x) (keyMaskOf w x)) with
              badgerRun := none, probes := d.probes } : Core).onlySlotsAndReports d
                [Reg.badger_seq_done, Reg.badger_commands, Reg.badger_moves]))) ∧
      (r.code ≠ 0 → c.counts d Reg.badger_failures 1 ∧
        d.rd Reg.badger_last_error = (r.cmd.seq * 2 ^ 32 + r.code * 2 ^ 24 + r.slot % 2 ^ 16) % 2 ^ 64 ∧
        c.reports d 259 2 (r.code * 2 ^ 32 + r.cmd.seq) ∧
        ({ c with badgerRun := none } : Core).onlySlotsAndReports d
          [Reg.badger_seq_done, Reg.badger_failures, Reg.badger_last_error]))))

/-- A requester that may write probe_cmd of a cursor: PROBE_SEARCH on a cursor that is not busy, and PROBE_STEP on one that is neither
idle nor busy, leave it busy; PROBE_CLOSE leaves it idle; every other cursor and object stays. PROBE_COMPLETE of a busy cursor
finds the entries where a running Badger command has them, and counts in probe_searches; a search with a winner leaves the cursor
at a match with the winner's priority, ID and slot in probe_result and its chain and action in probe_entry, one without leaves
probe_result 0. SEARCH_SCRUB counts a corrected entry; one with an uncorrectable descriptor is marked unusable, counted and
reported by kind 3 of E+258. Where the spec leaves a point open, the model's own choice is in log entry 27. -/
def Obligations.ProbesFindEntries : Prop :=
  (∀ (q : Requester) (sd : SideId) (k : Fin 4) (s : State), s.plant.mayWriteSide q sd (Reg.probe_cmd k) = true →
    let c := s.core sd
    let E (st pend : Nat) (reset : Bool) (t : Plant) : Prop := s.plant.wroteSide t sd ∧
      (t.core sd).probe k = (if reset then ⟨0, 0, 0, 0, 0⟩ else { c.probe k with state := st, pend := pend }) ∧
      (∀ j, j ≠ k.val → (t.core sd).probe j = c.probe j) ∧ (t.core sd).rd (Reg.probe_cmd k) = st ∧
      ({ c with probes := (t.core sd).probes } : Core).onlySlots (t.core sd) [Reg.probe_cmd k]
    ((c.probe k).state ≠ 3 → Completes (.probeSearch q sd k) s (E 3 1 false)) ∧
    ((c.probe k).state ≠ 3 → (c.probe k).state ≠ 0 →
      Completes (.probeStep q sd k) s (E 3 (if (c.probe k).state = 2 then 4 else 2) false)) ∧
    Completes (.probeClose q sd k) s (E 0 0 true)) ∧
  (∀ (sd : SideId) (k : Fin 4) (s : State), (s.core sd).alive = true →
    let c := (s.core sd).badgerNow
    (c.probe k).state = 3 →
    Completes (.probeComplete sd k) s (fun t => s.plant.onlyCore t sd ∧ c.counts (t.core sd) Reg.probe_searches 1 ∧
      ({ c with probes := (t.core sd).probes } : Core).onlySlotsAndReports (t.core sd)
        [Reg.probe_searches, Reg.probe_result k, Reg.probe_entry k, Reg.probe_cmd k] ∧
      ((c.probe k).pend = 1 →
        (∀ h, winner (c.probeMatches k) = some h →
          (t.core sd).rd (Reg.probe_result k) = (2 ^ 63 + b2n (decide (1 < (c.probeMatches k).length)) * 2 ^ 62 +
            dPriority h.2 * 2 ^ 40 + dId h.2 * 2 ^ 20 + h.1) % 2 ^ 64 ∧
          (t.core sd).rd (Reg.probe_entry k) = (dChain h.2 * 2 ^ 17 + dAction h.2) % 2 ^ 64 ∧ ((t.core sd).probe k).state = 1) ∧
        (winner (c.probeMatches k) = none →
          (t.core sd).rd (Reg.probe_result k) = 0 ∧ ((t.core sd).probe k).state = 2)))) ∧
  (∀ (sd : SideId) (f : ScrubFinding) (s : State), (s.core sd).alive = true →
    let c := (s.core sd).badgerNow
    let w := c.bankWidth (slotBank f.slot)
    let n := f.slot / w * w
    (f.unitBad ≠ f.shadowBad → f.descBad = false → Completes (.searchScrub sd f) s (fun t => s.plant.onlyCore t sd ∧
      c.onlySlotsAndReports (t.core sd) [Reg.search_corrected] ∧ c.counts (t.core sd) Reg.search_corrected 1)) ∧
    (f.unitBad = false → f.shadowBad = false → f.descBad = true → f.descUnc = true → n < 2 ^ 32 →
      Completes (.searchScrub sd f) s (fun t => s.plant.onlyCore t sd ∧
        (let u := c.bankWidth (slotBank n)
         let r := c.tab wSearch n
         (c.setTab wSearch n (mkEntry u (putBit (descOf u r) 55 true) (keyValOf u r) (keyMaskOf u r))).onlySlotsAndReports (t.core sd)
          [Reg.search_unusable]) ∧ c.counts (t.core sd) Reg.search_unusable 1 ∧ c.reports (t.core sd) 258 3 n)))

/-- The oldest request, for a key that no slot holds and that finds a free slot: a local one under its port's limit, or a record of op
1, is placed there as a dynamic entry, counts in learn_inserted, and goes on as a record. Whatever memory errors a request meets,
only its side's part changes, in Joined mode with the sequence counter that the sides share. A visit to a dynamic entry in a
bucket raises its age; one of age 3 is removed and counts in aged_out. A scrub visit counts a corrected error; an uncorrectable
one marks the entry unusable and not valid, counts in station_unusable and is reported by kind 2 of E+261. Where the spec leaves a
point open, the model's own choice is in log entries 28, 29 and 62. -/
def Obligations.LearningPlacesAndAgesStations : Prop :=
  (∀ (sd : SideId) (ds : List Defect) (s : State), (s.core sd).alive = true →
    Completes (.learnApply ⟨sd, ds⟩) s (fun t => s.plant.onlyLearning t sd) ∧
    Completes (.learnRecordApply ⟨sd, ds⟩) s (fun t => s.plant.onlyCore t sd)) ∧
  (∀ (sd : SideId) (fid mac kind dest time at' slot : Nat) (rest : List LearnReq) (s : State), (s.core sd).alive = true →
    (s.core sd).learnQ = .loc fid mac kind dest time at' :: rest → (s.core sd).findKey fid mac = none →
    (s.core sd).underLimit kind dest = true → (s.core sd).placeSlot fid mac = some slot →
    let c := s.core sd
    let env := s.plant.learnEnv sd
    Completes (.learnApply ⟨sd, []⟩) s (fun t => s.plant.onlyLearning t sd ∧
      (({ c with
          learnQ := rest, learnSeq := (c.learnSeq + 1) % 2 ^ 16, sendQ := (t.core sd).sendQ,
          crossRecs := (t.core sd).crossRecs } : Core).setTab wStation slot
        (newEntry fid mac kind dest env.engine time c.learnSeq false)).onlySlotsAndReports (t.core sd)
          [Reg.learn_inserted, Reg.msg_tx_overflow] ∧
      c.counts (t.core sd) Reg.learn_inserted 1 ∧
      (c.sendQ.length < 1024 → (t.core sd).sendQ = c.sendQ ++
        [⟨mkRecord 1 fid mac env.engine (portField kind dest) c.learnSeq time, none, c.now, false⟩]))) ∧
  (∀ (sd : SideId) (rec kind dest at' slot : Nat) (arr : Option Nat) (rest : List LearnReq) (s : State), (s.core sd).alive = true →
    (s.core sd).learnQ = .record rec kind dest arr at' :: rest → rOp rec = 1 → (s.core sd).findKey (rFid rec) (rMac rec) = none →
    (s.core sd).placeSlot (rFid rec) (rMac rec) = some slot →
    let c := s.core sd
    Completes (.learnRecordApply ⟨sd, []⟩) s (fun t => s.plant.onlyCore t sd ∧
      (({ c with learnQ := rest, sendQ := (t.core sd).sendQ, crossRecs := (t.core sd).crossRecs } : Core).setTab wStation slot
        (newEntry (rFid rec) (rMac rec) kind dest (rEngine rec) (rTime rec) (rSeq rec) true)).onlySlotsAndReports (t.core sd)
          [Reg.learn_inserted, Reg.msg_tx_overflow] ∧
      c.counts (t.core sd) Reg.learn_inserted 1 ∧
      (c.sendQ.length < 1024 → (t.core sd).sendQ = c.sendQ ++ [⟨rec, arr, c.now, false⟩]))) ∧
  (∀ (sd : SideId) (slot : Nat) (s : State), (s.core sd).alive = true → slot < 262144 →
    let c := s.core sd
    let x := c.tab wStation slot
    eTaken x = true → eStatic x = false →
    (eAge x ≠ 3 → Completes (.ageingVisit sd slot 0) s (fun t => s.plant.onlyLearning t sd ∧
      (c.setTab wStation slot (putBits x 38 37 (eAge x + 1))).onlySlots (t.core sd) [])) ∧
    (eAge x = 3 → eRemote x = true → Completes (.ageingVisit sd slot 0) s (fun t => s.plant.onlyLearning t sd ∧
      (c.setTab wStation slot (putBits x 42 41 0)).onlySlotsAndReports (t.core sd) [Reg.aged_out] ∧
      c.counts (t.core sd) Reg.aged_out 1))) ∧
  (∀ (sd : SideId) (slot : Nat) (s : State), (s.core sd).alive = true → slot < 262160 →
    let c := s.core sd
    Completes (.stationScrubVisit sd slot 1) s (fun t => s.plant.onlyCore t sd ∧
      c.onlySlotsAndReports (t.core sd) [Reg.station_corrected] ∧ c.counts (t.core sd) Reg.station_corrected 1) ∧
    Completes (.stationScrubVisit sd slot 2) s (fun t => s.plant.onlyCore t sd ∧
      (c.setTab wStation slot (putBits (putBit (c.tab wStation slot) 40 true) 42 41 0)).onlySlotsAndReports (t.core sd) [Reg.station_unusable] ∧
      c.counts (t.core sd) Reg.station_unusable 1 ∧ c.reports (t.core sd) 261 2 slot))

/-- When a message is due, the first 8 records of the send queue leave it; when none of them is barred from a port, one message with
all of them waits for each port that sends learning messages, and the side remembers when. A learning message at the head of its
queue, of version 1 with one well-formed record, from another engine: the frame leaves the buffer, the record joins the request
queue with the destination of its port, and the message counts in msg_rx. Where the spec leaves a point open, the model's own
choice is in log entries 28 and 55. -/
def Obligations.LearningMessagesAreSentAndTaken : Prop :=
  (∀ (sd : SideId) (s : State), (s.core sd).alive = true → (s.core sd).msgDue = true →
    let c := s.core sd
    Completes (.learnMsgSend sd) s (fun t => s.plant.onlyCore t sd ∧ (t.core sd).sendQ = c.sendQ.drop 8 ∧
      (t.core sd).lastMsg = c.now + 1 ∧
      ({ c with sendQ := c.sendQ.drop 8, lastMsg := c.now + 1, mgmtWait := (t.core sd).mgmtWait } : Core).onlySlots (t.core sd) [] ∧
      ((∀ r ∈ c.sendQ.take 8, r.notPort = none) → (t.core sd).mgmtWait = c.mgmtWait ++ c.msgPorts.map (fun p =>
        (p, learnMsgOctets (c.rd Reg.learn_msg_dest) c.mgmtMac (c.rd Reg.learn_msg_vid) (s.plant.learnEnv sd).engine
          ((c.sendQ.take 8).map SendRec.data)))))) ∧
  (∀ (sd : SideId) (x : Copy) (c : Core) (p : Nat) (s : State), (s.core sd).alive = true →
    (s.core sd).takeMgmt .learn 0 = some (x, c) → x.ingress = .port p → c.rd Reg.power_state = (s.core sd).rd Reg.power_state →
    let body := (mgmtBody 0x88B5 x.data).2
    let h := beNat (padTo 8 (slice body 0 8))
    let r := beNat (padTo 20 (slice body 8 20))
    let e := (s.plant.learnEnv sd).engine
    let kd : Nat × Nat := if c.rd (Reg.learn_group p) = 255 then (0, c.devPort p) else (2, c.rd (Reg.learn_group p))
    bits h 63 60 = 1 → bits h 59 56 = 1 → 28 ≤ body.length → bits h 43 0 = 0 → bits h 55 44 ≠ e → recordOk r = true →
    rEngine r ≠ e → c.learnQ.length < 4096 →
    Completes (.learnMsgReceive sd) s (fun t => s.plant.onlyCore t sd ∧
      ({ c with learnQ := c.learnQ ++ [.record r kd.1 kd.2 (some p) c.now] } : Core).onlySlotsAndReports (t.core sd) [Reg.msg_rx] ∧
      c.counts (t.core sd) Reg.msg_rx 1))

/-- A requester that may write station_cmd, with no command waiting: the command joins the request queue and station_cmd reads 1;
nothing else changes. Executed in turn, station_cmd reads 2 and station_cmd_result carries the slot: an insert whose key no slot
holds writes the staged record to the slot it is given under the window's rules, and counts in learn_inserted unless its clear bit
is set; a remove of a remote dynamic entry leaves its slot free; a relocation moves the entry to the free slot; a flush of every
entry leaves none, with the tables listed in order, and reports how many it took. REHASH_POP removes the head of the rehash queue
and shows the next. ANNOUNCE queues a record for every local dynamic entry while the send queue has room. Where the spec leaves a
point open, the model's own choice is in log entries 28 and 62. -/
def Obligations.StationCommandsTakeEffect : Prop :=
  (∀ (q : Requester) (sd : SideId) (s : State), s.plant.mayWriteSide q sd Reg.station_cmd = true →
    (s.core sd).rd Reg.station_cmd ≠ 1 →
    let E (n : Nat) (t : Plant) : Prop := s.plant.wroteSide t sd ∧ (t.core sd).rd Reg.station_cmd = 1 ∧
      ({ s.core sd with learnQ := (s.core sd).learnQ ++ [.command n (s.core sd).now] } : Core).onlySlots (t.core sd) [Reg.station_cmd]
    Completes (.stationInsert q sd) s (E 1) ∧ Completes (.stationRemove q sd) s (E 2) ∧
    Completes (.stationRelocate q sd) s (E 3) ∧ Completes (.stationFlush q sd) s (E 4)) ∧
  (∀ (sd : SideId) (ds : List Defect) (s : State), (s.core sd).alive = true →
    Completes (.stationCmdExecute ⟨sd, ds⟩) s (fun t => s.plant.onlyCore t sd)) ∧
  (∀ (sd : SideId) (cmd at' : Nat) (rest : List LearnReq) (s : State), (s.core sd).alive = true →
    (s.core sd).learnQ = .command cmd at' :: rest →
    let c : Core := { s.core sd with learnQ := rest }
    let x := beNat (c.rdOctets Reg.station_stage 24)
    (∀ n d, cmd = 1 → (eClear x = true ∨ c.stationValueOk s.plant.dev.joined x = true) → c.findKey (eFid x) (eMac x) = none →
      c.placeSlot (eFid x) (eMac x) = some n → c.writeStation s.plant.dev.joined n x (c.rd (wStation * 256 + 3)) = (d, .ok) →
      Completes (.stationCmdExecute ⟨sd, []⟩) s (fun t => s.plant.onlyCore t sd ∧ (t.core sd).rd Reg.station_cmd = 2 ∧
        (t.core sd).rd Reg.station_cmd_result = n % 2 ^ 64 ∧
        d.onlySlotsAndReports (t.core sd) [Reg.station_cmd, Reg.station_cmd_result, Reg.learn_inserted] ∧
        d.counts (t.core sd) Reg.learn_inserted (if eClear x then 0 else 1))) ∧
    (∀ n, cmd = 2 → c.findKey (eFid x) (eMac x) = some n → eStatic (c.tab wStation n) = false → eRemote (c.tab wStation n) = true →
      Completes (.stationCmdExecute ⟨sd, []⟩) s (fun t => s.plant.onlyCore t sd ∧ (t.core sd).rd Reg.station_cmd = 2 ∧
        (t.core sd).rd Reg.station_cmd_result = n % 2 ^ 64 ∧
        (c.setTab wStation n (putBits (c.tab wStation n) 42 41 0)).onlySlots (t.core sd) [Reg.station_cmd, Reg.station_cmd_result])) ∧
    (∀ d, cmd = 3 → let n := c.rd Reg.station_cmd_slot
      n < stationSlots → eTaken (c.tab wStation n) = true → c.relocateSlot n = some d →
      Completes (.stationCmdExecute ⟨sd, []⟩) s (fun t => s.plant.onlyCore t sd ∧ (t.core sd).rd Reg.station_cmd = 2 ∧
        (t.core sd).rd Reg.station_cmd_result = d % 2 ^ 64 ∧
        (c.relocate n d).onlySlots (t.core sd) [Reg.station_cmd, Reg.station_cmd_result])) ∧
    (cmd = 4 → c.rd Reg.flush_filter = 2 ^ 60 →
      Completes (.stationCmdExecute ⟨sd, []⟩) s (fun t => s.plant.onlyCore t sd ∧ (t.core sd).rd Reg.station_cmd = 2 ∧
        (t.core sd).rd Reg.station_cmd_result =
          ((c.tabRange wStation 0 stationSlots).filter (fun y => eTaken y.2)).length % 2 ^ 64 ∧
        ({ c with tabs := (t.core sd).tabs } : Core).onlySlotsAndReports (t.core sd)
          [Reg.station_cmd, Reg.station_cmd_result, Reg.flushed] ∧
        (SMap.rising c.tabs = true → ∀ n, n < stationSlots → eTaken ((t.core sd).tab wStation n) = false)))) ∧
  (∀ (q : Requester) (sd : SideId) (s : State), s.plant.mayWriteSide q sd Reg.rehash_pop = true →
    Completes (.rehashPop q sd) s (fun t => s.plant.wroteSide t sd ∧ (t.core sd).rehashQ = (s.core sd).rehashQ.tail ∧
      (t.core sd).rd Reg.rehash_count = (s.core sd).rehashQ.tail.length % 2 ^ 64 ∧
      ({ s.core sd with rehashQ := (s.core sd).rehashQ.tail } : Core).onlySlots (t.core sd)
        [Reg.rehash_count, Reg.rehash_head, Reg.rehash_dest])) ∧
  (∀ (q : Requester) (sd : SideId) (s : State), s.plant.mayWriteSide q sd Reg.announce = true →
    let c := s.core sd
    let l := (c.tabRange wStation 0 stationSlots).filter (fun x => eTaken x.2 && !eStatic x.2 && !eRemote x.2)
    Completes (.announce q sd) s (fun t => s.plant.wroteSide t sd ∧ (t.core sd).rd Reg.announce = 2 ∧
      ({ c with sendQ := (t.core sd).sendQ, crossRecs := (t.core sd).crossRecs } : Core).onlySlotsAndReports (t.core sd)
        [Reg.announce, Reg.msg_tx_overflow] ∧
      (c.sendQ.length + l.length ≤ 1024 → (t.core sd).sendQ = c.sendQ ++ l.map (fun x =>
        ⟨mkRecord 1 (eFid x.2) (eMac x.2) (eOwner x.2) (portField (eKind x.2) (eDest x.2)) (eSeq x.2) (eTime x.2),
          none, c.now, false⟩))))

/-- A requester that may write epoch_flip, naming the idle epoch with no flip, copy or sync in progress: with flip_time 0 the epoch is
live at once and epoch_flip reads 2; with a flip_time ahead of side time epoch_flip reads 1; FLIP_CANCEL of a scheduled flip
leaves 0. In Split mode: at its time, on the local clock, a scheduled flip takes effect, and in Den completes with it; one in
effect whose old epoch has no frame in flight completes, counts in epoch_flips, records its duration and reports kind 1 of E+264
when asked; one that still has frames after 2 µs reads 3 and reports kind 2. In Joined mode the two sides flip in one clock, at
side A's time, and complete together once both have drained. Where the spec leaves a point open, the model's own choice is in log
entry 31. -/
def Obligations.EpochsFlip : Prop :=
  (∀ (q : Requester) (sd : SideId) (jade : Bool) (s : State), s.plant.mayWriteSide q sd Reg.epoch_flip = true →
    let c := s.core sd
    (c.released = true → b2n jade ≠ c.rd Reg.epoch_live → c.rd Reg.epoch_flip = 0 → c.copying = false → c.syncing = false →
      (c.rd Reg.flip_time = 0 → Completes (.epochFlip q sd jade) s (fun t => s.plant.wroteSide t sd ∧
        (t.core sd).rd Reg.epoch_live = b2n jade ∧ (t.core sd).rd Reg.epoch_flip = 2 ∧
        ({ c with flipEff := c.now, flipTarget := b2n jade } : Core).onlySlots (t.core sd) [Reg.epoch_live, Reg.epoch_flip])) ∧
      (c.sideTime < c.rd Reg.flip_time → Completes (.epochFlip q sd jade) s (fun t => s.plant.wroteSide t sd ∧
        (t.core sd).rd Reg.epoch_flip = 1 ∧
        ({ c with flipTarget := b2n jade, flipAt := c.rd Reg.flip_time } : Core).onlySlots (t.core sd) [Reg.epoch_flip]))) ∧
    (c.rd Reg.epoch_flip = 1 → Completes (.flipCancel q sd) s (fun t => s.plant.wroteSide t sd ∧
      (t.core sd).rd Reg.epoch_flip = 0 ∧ c.onlySlots (t.core sd) [Reg.epoch_flip]))) ∧
  (∀ (sd : SideId) (s : State), (s.core sd).alive = true → s.plant.dev.joined = false →
    let c := s.core sd
    (c.rd Reg.epoch_flip = 1 → c.rd Reg.time_source = 4 → c.flipTarget ≤ 1 → c.inDen = false →
      let d := c.advance (c.ticksToUnits (c.flipAt * nsUnit))
      Completes (.flipTimeReached sd) s (fun t => s.plant.onlyCore t sd ∧ (t.core sd).rd Reg.epoch_live = c.flipTarget ∧
        (t.core sd).rd Reg.epoch_flip = 2 ∧
        ({ d with flipEff := d.now } : Core).onlySlots (t.core sd) [Reg.epoch_live, Reg.epoch_flip])) ∧
    (c.rd Reg.epoch_flip = 1 → c.rd Reg.time_source = 4 → c.flipTarget ≤ 1 → c.inDen = true → c.rd (inflightKey (1 - c.flipTarget)) = 0 →
      Completes (.flipTimeReached sd) s (fun t => s.plant.onlyCore t sd ∧ (t.core sd).rd Reg.epoch_live = c.flipTarget ∧
        (t.core sd).rd Reg.epoch_flip = 0 ∧ c.counts (t.core sd) Reg.epoch_flips 1)) ∧
    (2 ≤ c.rd Reg.epoch_flip → c.draining = 0 →
      Completes (.flipComplete sd) s (fun t => s.plant.onlyCore t sd ∧ (t.core sd).rd Reg.epoch_flip = 0 ∧
        (t.core sd).rd Reg.flip_duration_ns = ceilDiv (c.now - c.flipEff) 3 % 2 ^ 32 ∧ c.counts (t.core sd) Reg.epoch_flips 1 ∧
        c.onlySlotsAndReports (t.core sd) [Reg.epoch_flip, Reg.flip_duration_ns, Reg.epoch_flips] ∧
        (c.flag Reg.flip_notify = true → c.reports (t.core sd) 264 1 0))) ∧
    (c.rd Reg.epoch_flip = 2 → c.draining ≠ 0 →
      let d := c.advanceTo (c.flipEff + usTicks 2)
      Completes (.flipOverrun sd) s (fun t => s.plant.onlyCore t sd ∧ (t.core sd).rd Reg.epoch_flip = 3 ∧
        d.onlySlotsAndReports (t.core sd) [Reg.epoch_flip] ∧ d.reports (t.core sd) 264 2 0))) ∧
  (∀ (sd : SideId) (s : State), s.plant.dev.joined = true → (s.core .a).alive = true → (s.core .b).alive = true →
    ((∀ x, (s.core x).rd Reg.epoch_flip = 1 ∧ (s.core x).flipTarget ≤ 1 ∧ (s.core x).inDen = false) → (s.core .a).rd Reg.time_source = 4 →
      Completes (.flipTimeReached sd) s (fun t => s.plant.sameMemories t ∧ ∀ x,
        (t.core x).rd Reg.epoch_live = (s.core x).flipTarget ∧ (t.core x).rd Reg.epoch_flip = 2 ∧
        (t.core x).now = (s.core x).now + (s.core .a).ticksToUnits ((s.core .a).flipAt * nsUnit))) ∧
    ((∀ x, 2 ≤ (s.core x).rd Reg.epoch_flip ∧ (s.core x).draining = 0) →
      Completes (.flipComplete sd) s (fun t => s.plant.sameMemories t ∧ ∀ x,
        (t.core x).rd Reg.epoch_flip = 0 ∧ (s.core x).counts (t.core x) Reg.epoch_flips 1)))

/-- A requester that may write epoch_sync, with no flip and no copy in progress on a side that takes the write: epoch_sync and the
three copies read 1. Its completion, with the tables listed in order: all four read 2, and the idle epoch's VID map and search
profiles read as the live one's. FRER_RESET_TIMEOUT of a recovery function that is valid runs the clocks to its deadline, leaves
it not valid, and reports kind 1 of E+265. ACTION_SCRUB of an uncorrectable error marks the entry unusable, outside the window of
counters, reports kind 2 of E+263 with the window's index and the entry, and in a FRER function's dynamic fields leaves the
function not valid; a corrected one changes no entry. Where the spec leaves a point open, the model's own choice is in log entries
27 and 30. -/
def Obligations.EpochsSynchronise : Prop :=
  (∀ (q : Requester) (sd : SideId) (s : State), s.plant.mayWriteSide q sd Reg.epoch_sync = true →
    s.plant.takers sd (fun c => c.syncing = false ∧ c.rd Reg.epoch_flip = 0 ∧ c.copying = false) →
    Completes (.epochSync q sd) s (fun t => s.plant.wroteSide t sd ∧
      (∀ k ∈ [Reg.epoch_sync, Reg.shape_copy, Reg.profile_copy, Reg.vid_map_copy], (t.core sd).rd k = 1) ∧
      (s.core sd).onlySlots (t.core sd) [Reg.epoch_sync, Reg.shape_copy, Reg.profile_copy, Reg.vid_map_copy])) ∧
  (∀ (sd : SideId) (s : State), (s.core sd).alive = true → (s.core sd).syncing = true → (s.core sd).rd Reg.epoch_live ≤ 1 →
    SMap.rising (s.core sd).tabs = true →
    let e := (s.core sd).rd Reg.epoch_live
    Completes (.epochSyncDone sd) s (fun t => s.plant.onlyCore t sd ∧
      (∀ k ∈ [Reg.epoch_sync, Reg.shape_copy, Reg.profile_copy, Reg.vid_map_copy], (t.core sd).rd k = 2) ∧
      (∀ n, n < 4096 → (t.core sd).tab wVidMap (bankEntry (1 - e) n) = (s.core sd).tab wVidMap (bankEntry e n)) ∧
      (∀ n, n < 256 → (t.core sd).tab wProfile (bankEntry (1 - e) n) = (s.core sd).tab wProfile (bankEntry e n)) ∧
      ({ s.core sd with tabs := (t.core sd).tabs, marks := (t.core sd).marks } : Core).onlySlots (t.core sd)
        [Reg.epoch_sync, Reg.shape_copy, Reg.profile_copy, Reg.vid_map_copy, Reg.tpid_extra_0 (1 - e), Reg.tpid_extra_1 (1 - e),
         Reg.rtag_ethertype (1 - e), Reg.hash_seed (1 - e)])) ∧
  (∀ (sd : SideId) (n : Fin 1024) (u : Nat) (s : State), (s.core sd).alive = true → (s.core sd).frerDeadline n = some u →
    let d := (s.core sd).advanceTo u
    Completes (.frerResetTimeout sd n) s (fun t => s.plant.onlyCore t sd ∧ ((t.core sd).fn n).valid = false ∧
      (∀ m, m ≠ n.val → (t.core sd).fn m = (s.core sd).fn m) ∧ d.reports (t.core sd) 265 1 n ∧
      ({ d.countFn n 5 1 with frer := (t.core sd).frer } : Core).onlySlotsAndReports (t.core sd) [])) ∧
  (∀ (sd : SideId) (w : Fin 7) (e : BitVec 17) (word : Fin 6) (s : State), (s.core sd).alive = true →
    let c := s.core sd
    let k := 0x1300 + w.val
    let addr := (match sd with | .a => 0x3300 | .b => 0x5300) * 2 ^ 32 + w.val * 2 ^ 32 + e.toNat
    (e.toNat < actionEntries k →
      Completes (.actionScrub sd w e ⟨word, true⟩) s (fun t => s.plant.onlyCore t sd ∧ c.reported (t.core sd) 263 2 addr ∧
        ({ (if k = wFrerCnt then c else c.setTab k e.toNat (putBit (c.tab k e.toNat) 60 true)) with
            frer := (t.core sd).frer } : Core).onlySlotsAndReports (t.core sd) [] ∧
        (k = wFrer → word.val ≤ 1 → ((t.core sd).fn e.toNat).valid = false) ∧
        (∀ m, k = wFrer → word.val ≤ 1 → m ≠ e.toNat → (t.core sd).fn m = c.fn m) ∧
        (k ≠ wFrer ∨ 1 < word.val → (t.core sd).frer = c.frer)) ∧
      Completes (.actionScrub sd w e ⟨word, false⟩) s (fun t => s.plant.onlyCore t sd ∧ c.onlySlotsAndReports (t.core sd) [])) ∧
    (actionEntries k ≤ e.toNat → ∀ unc, Completes (.actionScrub sd w e ⟨word, unc⟩) s (fun t => s.plant.onlyCore t sd ∧
      c.onlySlots (t.core sd) [])))

/-- While the pipeline runs: CELL_SEND with a cell ready in the group's next slot gives it its stream's next number, spends its
credit, puts it into the connected middle and counts in sc_fabric_cells; an uncorrectable header drops the copy instead, or
discards the cell of one already dropped, and reports kind 2 of E+336+g. CREDIT_RETURN puts back the group's oldest credit on its
way. CELL_ARRIVE of the expected cell of a stream that holds none writes it into the next free buffer of pool 0, moves one cell
from in fabric to queued and expects the next; the last cell of a stored frame links it at its queue's tail. RESEQ_TIMEOUT, 2 µs
after the first cell held arrived, drops every copy with a cell up to the highest held, expects the cell after it and reports kind
3 of E+320+k. Where the spec leaves a point open, the model's own choice is in log entries 32, 33 and 64. -/
def Obligations.TheFabricMovesCells : Prop :=
  (∀ (sd : SideId) (g : Fin 8) (hdr : Fin 3) (x : Copy) (s : State), (s.core sd).alive = true → (s.core sd).pipelineRuns = true →
    let n := max (s.core sd).slot (SMap.getD (s.core sd).groupSlot g 0)
    let c := ((s.core sd).advanceTo ((s.core sd).slotStart n)).runMiddles n
    c.pickCell g n = some x →
    let k := x.target.slice
    let st := c.stream x.stream
    let key := 64 * g.val + 8 * ((g.val + n) % 8) + k
    (hdr ≠ 2 → Completes (.cellSend sd g hdr) s (fun t => s.plant.onlyCore t sd ∧
      c.counts (t.core sd) Reg.sc_fabric_cells 1 ∧
      (t.core sd).middles = c.middles ++
        [⟨⟨x.id, st.next, x.sent, decide (x.sent + 1 = x.total), g, (g.val + n) % 8, k, x.header st.next x.sent⟩, n⟩] ∧
      (t.core sd).copies = c.copies.map (fun y => if y.id = x.id
        then { y with sent := y.sent + 1, headSlot := if y.sent = 0 then n else y.headSlot } else y) ∧
      (t.core sd).stream x.stream = { st with next := (st.next + 1) % 128, log := st.log ++ [(st.next, x.id)] } ∧
      (∀ j, j ≠ x.stream → (t.core sd).stream j = c.stream j) ∧
      SMap.find? (t.core sd).spent key = some 1 ∧ (∀ j, j ≠ key → SMap.find? (t.core sd).spent j = SMap.find? c.spent j) ∧
      SMap.getD (t.core sd).groupSlot g 0 = n + 1 ∧ SMap.getD (t.core sd).sliceRr g 0 = (k + 1) % 8 ∧
      ({ c with middles := (t.core sd).middles, copies := (t.core sd).copies, streams := (t.core sd).streams, spent := (t.core sd).spent,
                groupSlot := (t.core sd).groupSlot, sliceRr := (t.core sd).sliceRr } : Core).onlySlotsAndReports (t.core sd)
        [Reg.sc_fabric_cells])) ∧
    (hdr = 2 →
      let d := if x.dead then (c.modCopy x.id (fun y => { y with sent := y.sent + 1 })).discardOne x.id else c.dropCopy x.id Reg.sc_drop_ecc
      Completes (.cellSend sd g hdr) s (fun t => s.plant.onlyCore t sd ∧ d.onlySlotsAndReports (t.core sd) [] ∧
        d.reported (t.core sd) (336 + g) 2 (match x.ingress with | .port p => p | _ => 0)))) ∧
  (∀ (sd : SideId) (g : Fin 8) (x : Nat × Nat) (s : State), (s.core sd).alive = true → (s.core sd).pipelineRuns = true →
    let c := (s.core sd).runMiddles (s.core sd).slot
    c.returning.find? (fun y => decide (y.1 / 64 = g.val)) = some x →
    Completes (.creditReturn sd g) s (fun t => s.plant.onlyCore t sd ∧ SMap.find? (t.core sd).spent x.1 = none ∧
      (∀ j, j ≠ x.1 → SMap.find? (t.core sd).spent j = SMap.find? c.spent j) ∧
      ({ c with returning := c.returning.filter (fun y => decide (y ≠ x)), spent := (t.core sd).spent } : Core).onlySlots (t.core sd) [])) ∧
  (∀ (sd : SideId) (k : Fin 8) (cell : Cell) (x : Copy) (lane b : Nat) (s : State), (s.core sd).alive = true → (s.core sd).pipelineRuns = true →
    let c := (s.core sd).runMiddles (s.core sd).slot
    c.arriving.find? (fun y => decide (y.slice = k.val)) = some cell → c.copy cell.copy = some x → x.dead = false → x.ct = false →
    c.nextBuffer 0 = some (lane, b) →
    let st := c.stream x.stream
    let fin := cell.last || decide (cell.index + 1 = x.total)
    st.held = [] → (cell.seq + 128 - st.expected) % 128 = 0 →
    0 < c.rd Reg.cells_in_fabric → c.rd Reg.cells_queued + 1 < 2 ^ 64 →
    Completes (.cellArrive ⟨sd, []⟩ k 0) s (fun t => s.plant.onlyCore t sd ∧
      (t.core sd).arriving = c.arriving.filter (fun y => !(decide (y.copy = cell.copy) && decide (y.index = cell.index))) ∧
      (t.core sd).rd Reg.cells_in_fabric = c.rd Reg.cells_in_fabric - 1 ∧ (t.core sd).rd Reg.cells_queued = c.rd Reg.cells_queued + 1 ∧
      (t.core sd).copies = c.copies.map (fun y => if y.id = x.id
        then { y with reserved := y.reserved - 1, written := y.written + 1, cells := SMap.insert y.cells cell.index b,
                      complete := y.complete || fin, linked := y.linked || fin } else y) ∧
      (t.core sd).stream x.stream = { st with
        expected := (st.expected + 1) % 128, log := st.log.filter (fun y => decide (y.1 ≠ st.expected)) } ∧
      (t.core sd).poolUsed = SMap.insert c.poolUsed (bufKey 0 b) 1 ∧ c.counts (t.core sd) (Reg.pool_allocs 0) 1 ∧
      (∀ j, j ≠ x.stream → (t.core sd).stream j = c.stream j) ∧
      (t.core sd).queue x.target x.queue = c.queue x.target x.queue ++ (if fin then [x.id] else []) ∧
      (fin = false → (t.core sd).queues = c.queues ∧ (t.core sd).ports = c.ports ∧ (t.core sd).shapers = c.shapers) ∧
      ({ c with arriving := (t.core sd).arriving, copies := (t.core sd).copies, streams := (t.core sd).streams,
                queues := (t.core sd).queues, ports := (t.core sd).ports, shapers := (t.core sd).shapers,
                lastLane := SMap.put c.lastLane 0 0 ((lane + 1) % 8), poolUsed := (t.core sd).poolUsed,
                poolTags := SMap.insert c.poolTags (bufKey 0 b) 74 } : Core).onlySlotsAndReports (t.core sd)
        [Reg.cells_in_fabric, Reg.cells_queued, Reg.pool_allocs 0])) ∧
  (∀ (sd : SideId) (g : Fin 8) (tg : Target) (n : Fin 8) (s : State), (s.core sd).alive = true →
    let c := s.core sd
    let st := c.stream (streamKey g tg n)
    let top := st.held.foldl (fun a h => max a h.1) 0
    let gone := st.log.filter (fun x => decide ((x.1 + 128 - st.expected) % 128 ≤ top))
    let d := gone.foldl (fun a x => a.dropCopy x.2 Reg.sc_drop_reseq) (c.advanceTo (st.held.foldl (fun a h => min a h.2.1) c.now + usTicks 2))
    st.held ≠ [] →
    Completes (.reseqTimeout sd g tg n) s (fun t => s.plant.onlyCore t sd ∧
      (∀ x ∈ gone, ((t.core sd).copy x.2).all (fun y => y.dead) = true) ∧
      (t.core sd).stream (streamKey g tg n) = { st with
        held := [], expected := (st.expected + top + 1) % 128,
        log := st.log.filter (fun x => decide (top < (x.1 + 128 - st.expected) % 128)) } ∧
      (∀ j, j ≠ streamKey g tg n → (t.core sd).stream j = c.stream j) ∧
      ({ d with streams := (t.core sd).streams } : Core).onlySlotsAndReports (t.core sd) [] ∧
      d.reported (t.core sd) (320 + tg.slice) 3 (g.val + tg.num * 8 + (tg.kind % 2) * 512 + n.val * 1024)))

/-- While the pipeline runs, the oldest management frame that waits, when the reserve has cells for it and its port is up, enters
queue 7 of the port, with its cells reserved, and counts in mgmt_originated and sc_admitted. QUEUE_SELECT on an idle port that is
up: management first, then the strict queues from 7 down, then DWRR; the selected head leaves its queue and is in transmission;
the only copy of the side, with an uncorrectable cell, is dropped in sc_drop_ecc instead and its slice reports kind 2. With no
control frame waiting: TRANSMIT_COMPLETE puts the frame out, frees its cells and counts it in tx_frames and tx_octets; CT_UNDERRUN
ends a cut-through frame with a stomped FCS after the octets whose cells are in the buffer, counts it, frees the port after them
and starts the port's backoff, its unsent cells still to come; the backoff's expiry ends it. Where the spec leaves a point open,
the model's own choice is in log entries 33, 36, 55, 61 and 64. -/
def Obligations.PortsTransmitFrames : Prop :=
  (∀ (sd : SideId) (p : Fin 64) (o : Octets) (l : List (Nat × Octets)) (s : State), (s.core sd).alive = true →
    let c := s.core sd
    let n := (mgmtOffer p o).cells
    c.mgmtWait = (p.val, o) :: l → c.pipelineRuns = true → c.copy c.copyNo = none → c.budgetUsed .mgmt + n ≤ c.rd Reg.mgmt_reserve_cells → c.unavailable (.port p) = none →
    n ≤ c.rd Reg.cells_free → c.rd Reg.cells_in_fabric + n < 2 ^ 64 →
    Completes (.mgmtFrameOriginate sd) s (fun t => s.plant.onlyCore t sd ∧
      (∃ x, (t.core sd).copies = c.copies ++ [x] ∧ x.id = c.copyNo ∧ x.data = o ∧ x.target = .port p ∧ x.queue = 7 ∧ x.mgmt = true ∧
        x.budget = .mgmt ∧ x.reserved = n ∧ x.written = 0 ∧ x.group = p.val / 8 ∧ x.ct = false) ∧
      c.counts (t.core sd) Reg.mgmt_originated 1 ∧ c.counts (t.core sd) Reg.sc_admitted 1 ∧
      (t.core sd).rd Reg.cells_free = c.rd Reg.cells_free - n ∧ (t.core sd).rd Reg.cells_in_fabric = c.rd Reg.cells_in_fabric + n ∧
      ({ c with mgmtWait := l, copyNo := c.copyNo + 1, copies := (t.core sd).copies } : Core).onlySlotsAndReports (t.core sd)
        [Reg.mgmt_originated, Reg.sc_admitted, Reg.cells_free, Reg.cells_in_fabric])) ∧
  (∀ (sd : SideId) (p : Fin 64) (rd : CellRead) (q : Nat) (x : Copy) (d : Core) (s : State), (s.core sd).alive = true →
    (s.core sd).linkUp p = true → ((s.core sd).port p).tx = none → ((s.core sd).port p).gclNext = false →
    (s.core sd).rd (Reg.oper_gate_enable p) = 0 →
    let c := ((s.core sd).advanceTo (((s.core sd).port p).txEnd / 1000)).touchShapers false p
    let z := c.portQueues p
    c.select z = (d, some q) → d.headCopy (.port p) q = some x →
    let f := d.bufferEcc x rd
    (z.mgmt7 = true → q = 7) ∧ (z.mgmt7 = false → ∀ k, k < z.strict → z.eligible (7 - k) = true → 7 - k ≤ q) ∧
    (∀ o e, rd.ecc ≠ 2 → f.txOctets p x = (e, .ok o) → x.tsReq = false →
      Completes (.queueSelect sd ⟨p, rd⟩) s (fun t => s.plant.onlyCore t sd ∧
        ((t.core sd).port p).tx = some x.id ∧ ((t.core sd).port p).txQueue = x.queue ∧ ((t.core sd).port p).txData = o ∧
        (t.core sd).queue x.target x.queue = (e.queue x.target x.queue).filter (fun i => decide (i ≠ x.id)) ∧
        (t.core sd).copies = e.copies.map (fun y => if y.id = x.id then { y with started := true } else y) ∧
        ({ ((e.shapersToStart p (e.earliest p)).unlink x) with
            copies := (t.core sd).copies, free := (t.core sd).free } : Core).onlyPort (t.core sd) p [])) ∧
    (rd.ecc = 0 → f = d) ∧
    (rd.ecc = 1 → d.counts f Reg.sc_buffer_corrected 1) ∧
    (rd.ecc = 2 → x.dead = false → x.reserved = 0 → (∀ y ∈ d.copies, y.id = x.id) →
      Completes (.queueSelect sd ⟨p, rd⟩) s (fun t => s.plant.onlyCore t sd ∧ (t.core sd).copies = [] ∧
        ((t.core sd).port p).tx = none ∧ d.counts (t.core sd) Reg.sc_drop_ecc 1 ∧
        f.reports (t.core sd) (320 + x.target.slice) 2 (SMap.getD x.cells rd.cell.val 0)))) ∧
  (∀ (sd : SideId) (p : Fin 64) (k : Fin 36) (x : Copy) (s : State), (s.core sd).alive = true →
    let c := s.core sd
    let o := (c.port p).txData
    let d := (c.advanceTo (ceilDiv (c.port p).txLast 1000)).finishCopy x.id
    (c.port p).tx = some x.id → (d.port p).ctl = [] → c.copy x.id = some x → x.complete = true → x.bad = false → x.ct = false → x.held = false →
    x.ingress ≠ .device → x.reserved = 0 → x.written ≤ c.rd Reg.cells_queued → c.rd Reg.cells_free + x.written < 2 ^ 64 →
    Completes (.transmitComplete sd p ⟨0, k⟩) s (fun t => s.plant.onlyCore t sd ∧
      (t.core sd).out = .frame p o false :: d.out ∧ (t.core sd).copy x.id = none ∧
      (t.core sd).rd Reg.cells_queued = c.rd Reg.cells_queued - x.written ∧
      (t.core sd).rd Reg.cells_free = c.rd Reg.cells_free + x.written ∧
      d.counts (t.core sd) (Reg.tx_frames p) 1 ∧ d.counts (t.core sd) (Reg.tx_octets p) o.length ∧
      (t.core sd).port p = { d.port p with tx := none, txData := [] } ∧
      ({ d with out := (t.core sd).out } : Core).onlyPort (t.core sd) p [Reg.tx_frames p, Reg.tx_octets p])) ∧
  (∀ (sd : SideId) (p : Fin 64) (x : Copy) (s : State), (s.core sd).alive = true →
    let c := s.core sd
    let e := c.cutTx p x x.run
    let o := stomp ((c.port p).txData.take (c.sentFrom p x x.run))
    (c.port p).tx = some x.id → (c.port p).ctl = [] → c.copy x.id = some x → x.ct = true → x.complete = false → x.lossless = false →
    Completes (.ctUnderrun sd p) s (fun t => s.plant.onlyCore t sd ∧
      (t.core sd).out = .frame p o true :: c.out ∧ ((t.core sd).port p).tx = none ∧
      ((t.core sd).port p).txEnd = (e.port p).txEnd ∧ ((t.core sd).port p).txLast = (c.port p).txStart + (8 + o.length) * octetTime (c.mbps p) ∧
      ((t.core sd).port p).ctBackoff = some (c.now + usTicks (c.rd Reg.ct_backoff_us)) ∧
      c.counts (t.core sd) Reg.sc_ct_underruns 1 ∧ c.counts (t.core sd) (Reg.tx_frames p) 1 ∧
      c.counts (t.core sd) (Reg.tx_octets p) o.length ∧ c.counts (t.core sd) (Reg.tx_stomped p) 1 ∧
      (t.core sd).rates.any (fun m => decide (m.src = 320 + p.val / 8) && decide (m.kind = 4)) = true ∧
      (t.core sd).copies.filter (fun y => decide (y.id ≠ x.id)) = c.copies.filter (fun y => decide (y.id ≠ x.id)) ∧
      ((t.core sd).copy x.id).all (fun y => y.dead && decide (y.reserved = x.reserved) && decide (y.written = 0)) = true ∧
      ({ c with out := (t.core sd).out, copies := (t.core sd).copies, poolUsed := (t.core sd).poolUsed } : Core).onlyPort (t.core sd) p
        [Reg.sc_ct_underruns, Reg.tx_frames p, Reg.tx_octets p, Reg.tx_stomped p, Reg.cells_free, Reg.cells_queued, Reg.cells_held,
         Reg.pool_frees 0])) ∧
  (∀ (sd : SideId) (p : Fin 64) (u : Nat) (s : State), (s.core sd).alive = true → ((s.core sd).port p).ctBackoff = some u →
    Completes (.ctBackoffExpiry sd p) s (fun t => s.plant.onlyCore t sd ∧
      (t.core sd).port p = { (s.core sd).port p with ctBackoff := none } ∧
      ((s.core sd).advanceTo u).onlyPort (t.core sd) p []))

/-- With the crossing up: CROSSING_SEND without a waiting record or stamp takes the next cell of the next group in round robin, or the
cell that ends a copy which stops, puts it into the other side's receiver and counts in the crossing's cell counter of its
direction. CROSSING_RECEIVE of a head cell whose copy is admitted, not its last cell, writes the cell into the buffer and counts
crossing_frames_out at the sender; with an uncorrectable header the frame is discarded in sc_drop_ecc and E+345 reports kind 2.
LEDGER_AUDIT of a released side, stopped or not, runs its clocks to the next multiple of 65,536, counts in audit_passes and
reports every mismatch, a cell ledger that does not add up to 196,608 by kind 1 among them; without a mismatch it reports nothing.
Where the spec leaves a point open, the model's own choice is in log entry 34. -/
def Obligations.TheCrossingCarriesCopies : Prop :=
  (∀ (sd : SideId) (x : Copy) (s : State), s.plant.crossingUp = true → (s.core sd).crossRecs = [] → (s.core sd).stampsBack = [] →
    let c := s.core sd
    let last := x.dead || decide (x.sent + 1 = x.total)
    let key := (match sd with | .a => Reg.crossing_cells_ab | .b => Reg.crossing_cells_ba)
    ((List.range 8).map (fun i => (c.crossRr + i) % 8)).findSome? c.crossHead = some x →
    Completes (.crossingSend sd) s (fun t => s.plant.sameMemories t ∧
      (t.core sd.other).crossIn = (s.core sd.other).crossIn ++ [if x.dead then x.stopCell
        else ⟨x.id, x.sent, last, x.header 0 x.sent, if x.sent = 0 then some x else none, 0⟩] ∧
      ({ s.core sd.other with crossIn := (t.core sd.other).crossIn } : Core).onlySlots (t.core sd.other) [] ∧
      ({ c with
          crossRr := (x.group + 1) % 8
          crossOut := if last then c.crossOut.filter (fun y => decide (y.id ≠ x.id))
            else c.crossOut.map (fun y => if y.id = x.id then { y with sent := y.sent + 1 } else y) } : Core).onlySlots (t.core sd) [] ∧
      s.plant.dev.counts t.dev key 1 ∧ s.plant.dev.onlySlotsAndReports t.dev [key])) ∧
  (∀ (sd : SideId) (cell : CrossCell) (rest : List CrossCell) (x y : Copy) (lane b : Nat) (d : Core) (s : State), s.plant.crossingUp = true →
    let c := s.core sd
    let o := s.core sd.other
    c.crossIn = cell :: rest → cell.head = some x → cell.last = false → cell.drop = 0 →
    ({ c with crossIn := rest } : Core).crossAdmit x = (d, true) → d.copy c.copyNo = some y → y.dead = false → y.ct = false →
    cell.index + 1 ≠ y.total →
    d.nextBuffer 0 = some (lane, b) →
    0 < d.rd Reg.cells_in_fabric → d.rd Reg.cells_queued + 1 < 2 ^ 64 →
    d.rd Reg.power_state = c.rd Reg.power_state →
    Completes (.crossingReceive ⟨sd, 0⟩) s (fun t => s.plant.sameMemories t ∧
      SMap.getD (t.core sd).crossMap cell.copy none = some c.copyNo ∧
      (t.core sd).copy c.copyNo = some { y with
        sent := y.sent + 1, reserved := y.reserved - 1, written := y.written + 1, cells := SMap.insert y.cells cell.index b } ∧
      (t.core sd).rd Reg.cells_in_fabric = d.rd Reg.cells_in_fabric - 1 ∧
      (t.core sd).rd Reg.cells_queued = d.rd Reg.cells_queued + 1 ∧
      ({ d with
          crossMap := (t.core sd).crossMap, copies := (t.core sd).copies
          lastLane := SMap.put d.lastLane 0 0 ((lane + 1) % 8), poolUsed := SMap.insert d.poolUsed (bufKey 0 b) 1
          poolTags := SMap.insert d.poolTags (bufKey 0 b) 74 } : Core).onlySlotsAndReports (t.core sd)
        [Reg.cells_in_fabric, Reg.cells_queued, Reg.pool_allocs 0] ∧
      o.counts (t.core sd.other) Reg.crossing_frames_out 1 ∧
      ({ o with crossHold := (t.core sd.other).crossHold } : Core).onlySlotsAndReports (t.core sd.other)
        [Reg.crossing_frames_out, inflightKey ((SMap.find? o.crossHold x.frameNo).getD (0, 0)).2] ∧
      s.plant.dev.onlySlotsAndReports t.dev [])) ∧
  (∀ (sd : SideId) (cell : CrossCell) (rest : List CrossCell) (x : Copy) (s : State), s.plant.crossingUp = true →
    let c := s.core sd
    c.crossIn = cell :: rest → cell.head = some x → cell.last = false →
    Completes (.crossingReceive ⟨sd, 2⟩) s (fun t => s.plant.sameMemories t ∧ SMap.getD (t.core sd).crossMap cell.copy none = none ∧
      c.counts (t.core sd) Reg.crossing_frames_in 1 ∧ c.counts (t.core sd) Reg.sc_drop_ecc 1 ∧ c.reports (t.core sd) 345 2 0 ∧
      ({ c with crossIn := rest, crossMap := (t.core sd).crossMap } : Core).onlySlotsAndReports (t.core sd)
        [Reg.crossing_frames_in, Reg.sc_drop_ecc])) ∧
  (∀ (sd : SideId) (s : State), (s.core sd).released = true →
    let c := s.core sd
    let e := c.advanceTo ((c.now / 65536 + 1) * 65536)
    let d := e.inc Reg.audit_passes
    Completes (.ledgerAudit sd) s (fun t => s.plant.onlyCore t sd ∧ e.counts (t.core sd) Reg.audit_passes 1 ∧
      e.onlySlotsAndReports (t.core sd) [Reg.audit_passes] ∧
      (∀ x ∈ d.auditFindings, d.reports (t.core sd) 346 x.1 (x.2 % 2 ^ 16)) ∧
      (d.rd Reg.cells_free + d.rd Reg.cells_queued + d.rd Reg.cells_in_fabric + d.rd Reg.cells_held ≠ 196608 →
        d.reports (t.core sd) 346 1 0) ∧
      (d.auditFindings = [] → (t.core sd).faultQ = d.faultQ)))

/-- POOL_ENABLE of a well-placed empty pool gives it the lowest free granules and makes its buffers free; POOL_DISABLE returns them
when nothing is allocated. BUFFER_ALLOC, and POOL_PORT_ALLOC of an owner that may use the pool, for an owner that is not reclaimed
take the next buffer of the first pool of the chain that has one, tag it and answer its handle. BUFFER_FREE and POOL_PORT_FREE of
an allocated buffer by its owner, or by a privileged port, return it. LAST_ERROR_READ answers the last error and clears it.
RECLAIM puts the owner in reclaimed state, RECLAIM_EXIT takes it out, and RECLAIM_DONE leaves no buffer allocated to it, shows
none held and reports kind 1 of E+350. Nothing else changes. Where the spec leaves a point open, the model's own choice is in log
entries 35 and 64. -/
def Obligations.PoolsGiveAndTakeBuffers : Prop :=
  (∀ (q : Requester) (sd : SideId) (n : Fin 8) (s : State), s.plant.mayWriteSide q sd (Reg.pool_enable n) = true → n ≠ 0 →
    let c := s.core sd
    let need := ceilDiv (c.rd (Reg.buffer_count n)) 32768
    let free := (List.range 64).filter (fun j => !bitOf c.granulesHeld j)
    (c.flag (Reg.pool_enable n) = false → c.poolPlaceOk n = true → c.rd (Reg.pool_allocated n) = 0 → need ≤ free.length →
      Completes (.poolEnable q sd n) s (fun t => s.plant.wroteSide t sd ∧ (t.core sd).rd (Reg.pool_enable n) = 1 ∧
        (t.core sd).rd (Reg.pool_free n) = c.rd (Reg.buffer_count n) ∧
        (t.core sd).rd (Reg.pool_granules n) = ((free.take need).foldl (fun a j => a + 2 ^ j) 0) % 2 ^ 64 ∧
        ({ c with lastLane := SMap.put c.lastLane n 0 0 } : Core).onlySlots (t.core sd)
          [Reg.pool_enable n, Reg.pool_free n, Reg.pool_granules n])) ∧
    Completes (.poolDisable q sd n) s (fun t => s.plant.wroteSide t sd ∧ (t.core sd).rd (Reg.pool_enable n) = 0 ∧
      (c.rd (Reg.pool_allocated n) = 0 → (t.core sd).rd (Reg.pool_granules n) = 0 ∧ (t.core sd).rd (Reg.pool_free n) = 0) ∧
      c.onlySlots (t.core sd) (Reg.pool_enable n :: if c.rd (Reg.pool_allocated n) = 0 then [Reg.pool_granules n, Reg.pool_free n] else []))) ∧
  (∀ (sd : SideId) (n pool : Fin 8) (o : Fin 73) (lane i : Nat) (cmd : Instr) (s : State), (s.core sd).alive = true → n ≠ 0 →
    let c := s.core sd
    c.chainPool n 8 = some pool → c.nextBuffer pool = some (lane, i) → o.val ∉ c.reclaimed →
    ((∃ v : Fin 64, v.val = o.val ∧ cmd = .bufferAlloc sd n v []) ∨
      (cmd = .poolPortAlloc ⟨sd, []⟩ o n ∧ bitOf (c.rd (Reg.pool_allow o)) n = true ∧ c.portOpen o = true)) →
    Completes cmd s (fun t => s.plant.onlyCore t sd ∧ (t.core sd).out = .poolPort o (c.handle pool i) :: c.out ∧
      (t.core sd).poolUsed = SMap.insert c.poolUsed (bufKey pool i) 1 ∧
      (t.core sd).poolTags = SMap.insert c.poolTags (bufKey pool i) (o + 1) ∧
      (t.core sd).lastLane = SMap.put c.lastLane pool 0 ((lane + 1) % 8) ∧
      (t.core sd).rd (Reg.pool_free pool) = c.rd (Reg.pool_free pool) - 1 ∧
      (t.core sd).rd (Reg.pool_allocated pool) = (c.rd (Reg.pool_allocated pool) + 1) % 2 ^ 64 ∧
      (t.core sd).rd (Reg.held_buffers o) = (c.rd (Reg.held_buffers o) + 1) % 2 ^ 64 ∧
      c.counts (t.core sd) (Reg.pool_allocs pool) 1 ∧ (pool ≠ n → c.counts (t.core sd) (Reg.pool_fallback_out n) 1) ∧
      ({ c with out := (t.core sd).out, poolUsed := (t.core sd).poolUsed, poolTags := (t.core sd).poolTags,
                lastLane := (t.core sd).lastLane } : Core).onlySlotsAndReports (t.core sd)
        ([Reg.pool_free pool, Reg.pool_allocated pool, Reg.held_buffers o, Reg.pool_allocs pool] ++
         if pool = n then [] else [Reg.pool_fallback_out n]))) ∧
  (∀ (sd : SideId) (h : BitVec 64) (pool : Fin 8) (i : Nat) (tag : Fin 73) (cmd : Instr) (s : State), (s.core sd).alive = true →
    let c := s.core sd
    c.decodeHandle h.toNat = some (pool.val, i) → SMap.find? c.poolUsed (bufKey pool i) = some 1 →
    SMap.getD c.poolTags (bufKey pool i) 0 = tag.val + 1 → c.flag (Reg.pool_enable pool) = true →
    ((∃ (dma : Bool) (v : Fin 64), v.val = tag.val ∧ cmd = .bufferFree sd h ⟨v, dma⟩ []) ∨
      (∃ o : Fin 73, cmd = .poolPortFree ⟨sd, []⟩ o h ∧ (o = tag ∨ 64 ≤ o.val) ∧ c.portOpen o = true)) →
    Completes cmd s (fun t => s.plant.onlyCore t sd ∧ (t.core sd).poolUsed = SMap.erase c.poolUsed (bufKey pool i) ∧
      (t.core sd).rd (Reg.pool_free pool) = (c.rd (Reg.pool_free pool) + 1) % 2 ^ 64 ∧
      (t.core sd).rd (Reg.pool_allocated pool) = c.rd (Reg.pool_allocated pool) - 1 ∧
      (t.core sd).rd (Reg.held_buffers tag) = c.rd (Reg.held_buffers tag) - 1 ∧ c.counts (t.core sd) (Reg.pool_frees pool) 1 ∧
      ({ c with poolUsed := (t.core sd).poolUsed } : Core).onlySlotsAndReports (t.core sd)
        [Reg.pool_free pool, Reg.pool_allocated pool, Reg.held_buffers tag, Reg.pool_frees pool])) ∧
  (∀ (sd : SideId) (o : Fin 73) (s : State), (s.core sd).alive = true →
    Completes (.lastErrorRead sd o) s (fun t => s.plant.onlyCore t sd ∧
      (t.core sd).out = .poolPort o (SMap.getD (s.core sd).lastErrs o 0) :: (s.core sd).out ∧
      SMap.getD (t.core sd).lastErrs o 0 = 0 ∧
      (∀ j, j ≠ o.val → SMap.getD (t.core sd).lastErrs j 0 = SMap.getD (s.core sd).lastErrs j 0) ∧
      ({ s.core sd with out := (t.core sd).out, lastErrs := (t.core sd).lastErrs } : Core).onlySlots (t.core sd) [])) ∧
  (∀ (q : Requester) (sd : SideId) (s : State), s.plant.mayWriteSide q sd Reg.reclaim = true →
    let c := s.core sd
    let o := c.rd Reg.reclaim_owner
    (c.reclaiming = 0 → Completes (.reclaim q sd) s (fun t => s.plant.wroteSide t sd ∧ (t.core sd).rd Reg.reclaim = 1 ∧
      o ∈ (t.core sd).reclaimed ∧ (∀ x, x ≠ o → (x ∈ (t.core sd).reclaimed ↔ x ∈ c.reclaimed)) ∧
      ({ c with reclaiming := o + 1, reclaimed := (t.core sd).reclaimed } : Core).onlySlots (t.core sd) [Reg.reclaim])) ∧
    Completes (.reclaimExit q sd) s (fun t => s.plant.wroteSide t sd ∧ (t.core sd).rd Reg.reclaim = 0 ∧
      o ∉ (t.core sd).reclaimed ∧ (∀ x, x ≠ o → (x ∈ (t.core sd).reclaimed ↔ x ∈ c.reclaimed)) ∧
      ({ c with reclaiming := 0, reclaimed := (t.core sd).reclaimed } : Core).onlySlots (t.core sd) [Reg.reclaim])) ∧
  (∀ (sd : SideId) (o : Nat) (s : State), (s.core sd).alive = true → (s.core sd).reclaiming = o + 1 →
    let c := s.core sd
    Completes (.reclaimDone ⟨sd, []⟩) s (fun t => s.plant.onlyCore t sd ∧ (t.core sd).rd Reg.reclaim = 2 ∧ (t.core sd).reclaiming = 0 ∧
      (∀ k, SMap.find? (t.core sd).poolUsed k = some 1 → SMap.getD (t.core sd).poolTags k 0 ≠ o + 1) ∧
      (t.core sd).rd (Reg.held_buffers o) = 0 ∧
      ({ c.scanOwner o with reclaiming := 0 } : Core).onlySlotsAndReports (t.core sd) [Reg.reclaim, Reg.held_buffers o] ∧
      (c.scanOwner o).reported (t.core sd) 350 1 o))

/-- GATE_CHANGE and STREAM_GATE_CHANGE on a running side run its clocks to the list's next boundary; a frame in transmission through a
gate that has closed counts once as an overrun. CONFIG_CHANGE by a requester that may write it, with no change pending and an
admissible administrative set: with gates enabled the change is pending for the first start of a cycle at least 2 µs ahead, else
for the next selection; the cancel leaves nothing pending. At its time every administrative value and list entry is the
operational one, longest_open is computed from it, a frame that the new list cuts off counts as an overrun, the change counts in
config_changes and kind 1 of E+352 is reported. Stream gates change in the same way and report kind 1 of E+353. Where the spec
leaves a point open, the model's own choice is in log entry 36. -/
def Obligations.GateListsChangeAtTheirTimes : Prop :=
  (∀ (sd : SideId) (p : Fin 64) (u : Nat) (s : State), (s.core sd).alive = true →
    let c := s.core sd
    let d := c.advance (c.ticksToUnits u)
    (c.portOper p).boundary c.sideUnits = some u →
    Completes (.gateChange sd p) s (fun t => s.plant.onlyCore t sd ∧ (c.rd Reg.time_source = 4 → u ≤ (t.core sd).sideUnits) ∧
      (d.sending p = none → d.onlySlots (t.core sd) []) ∧
      (∀ q, d.sending p = some q → bitOf (d.portGates p) q = false → (d.port p).overrun = false →
        (t.core sd).port p = { d.port p with overrun := true } ∧ d.onlyPort (t.core sd) p [Reg.sched_gate_overruns p] ∧
        d.counts (t.core sd) (Reg.sched_gate_overruns p) 1 ∧
        (t.core sd).rates.any (fun m => decide (m.src = 352) && decide (m.kind = 4)) = true))) ∧
  (∀ (q : Requester) (sd : SideId) (p : Fin 64) (s : State), s.plant.mayWriteSide q sd (Reg.config_change p) = true →
    let c := s.core sd
    let on := c.flag (Reg.admin_gate_enable p)
    let base := c.rd (Reg.admin_base_time p)
    let cycle := c.rd (Reg.admin_cycle_time p)
    let lo := ceilDiv c.sideUnits nsUnit + 2000
    ((c.port p).gclPending = false → (on = true → c.gateEntriesOk wGclAdmin (256 * p) (c.rd (Reg.admin_list_length p)) false = true) →
      ((List.range 8).map (fun i => c.rd (Reg.admin_idle_slope p i))).foldl (· + ·) 0 ≤ c.planMbps p * 1000000 → 0 < cycle →
      Completes (.configChange q sd p) s (fun t => s.plant.wroteSide t sd ∧ (t.core sd).rd (Reg.config_change p) = 1 ∧
        (t.core sd).port p = { c.port p with gclPending := true, gclNext := (c.port p).gclNext || !on } ∧
        (on = true → ∃ n, lo ≤ base + n * cycle ∧ (n = 0 ∨ base + n * cycle < lo + cycle) ∧
          (t.core sd).rd (Reg.config_change_time p) = (base + n * cycle) % 2 ^ 64) ∧
        c.onlyPort (t.core sd) p (Reg.config_change p :: if on then [Reg.config_change_time p] else []))) ∧
    Completes (.configChangeCancel q sd p) s (fun t => s.plant.wroteSide t sd ∧ (t.core sd).rd (Reg.config_change p) = 0 ∧
      (t.core sd).port p = { c.port p with gclPending := false, gclNext := false } ∧ c.onlyPort (t.core sd) p [Reg.config_change p])) ∧
  (∀ (sd : SideId) (p : Fin 64) (s : State), (s.core sd).alive = true →
    let c := s.core sd
    let d := (c.advance (c.ticksToUnits (c.rd (Reg.config_change_time p) * nsUnit))).touchShapers false p
    (c.port p).gclPending = true → (c.port p).gclNext = false → c.rd Reg.time_source = 4 →
    Completes (.configChangeTime sd p) s (fun t => s.plant.onlyCore t sd ∧
      (∀ r ∈ [(Reg.oper_strict_count, Reg.admin_strict_count), (Reg.oper_gate_enable, Reg.admin_gate_enable),
              (Reg.oper_base_time, Reg.admin_base_time), (Reg.oper_cycle_time, Reg.admin_cycle_time),
              (Reg.oper_list_length, Reg.admin_list_length)], (t.core sd).rd (r.1 p) = c.rd (r.2 p)) ∧
      (∀ i, i < 8 → (t.core sd).rd (Reg.oper_quantum p i) = c.rd (Reg.admin_quantum p i) ∧
        (t.core sd).rd (Reg.oper_idle_slope p i) = c.rd (Reg.admin_idle_slope p i)) ∧
      (∀ k, k < 256 → (t.core sd).tab wGclOper (256 * p + k) = c.tab wGclAdmin (256 * p + k)) ∧
      (t.core sd).rd (Reg.config_change p) = 2 ∧ (t.core sd).port p = { c.port p with
        gclPending := false, gclNext := false, longest := ((t.core sd).port p).longest, overrun := ((t.core sd).port p).overrun } ∧
      (∀ q, q < 8 → (t.core sd).portLongest p q = ((t.core sd).portOper p).longest (portGate q)) ∧
      (d.sending p = none → ((t.core sd).port p).overrun = (c.port p).overrun ∧
        (t.core sd).rd (Reg.sched_gate_overruns p) = c.rd (Reg.sched_gate_overruns p)) ∧
      (∀ q, d.sending p = some q → bitOf ((t.core sd).portGates p) q = false → (c.port p).overrun = false →
        ((t.core sd).port p).overrun = true ∧ c.counts (t.core sd) (Reg.sched_gate_overruns p) 1) ∧
      c.counts (t.core sd) (Reg.config_changes p) 1 ∧ d.reports (t.core sd) 352 1 p ∧
      (∀ j, j < tabKey wGclOper (256 * p) ∨ tabKey wGclOper (256 * p + 256) ≤ j → j / 2 ^ 32 ≠ wFaultStat →
        (t.core sd).tabAt j = c.tabAt j) ∧
      ({ d with tabs := (t.core sd).tabs, shapers := (t.core sd).shapers } : Core).onlyPort (t.core sd) p
        ([Reg.sched_gate_overruns p, Reg.oper_strict_count p, Reg.oper_gate_enable p, Reg.oper_base_time p, Reg.oper_cycle_time p, Reg.oper_list_length p,
          Reg.config_change p, Reg.config_changes p] ++ (List.range 8).map (fun i => Reg.oper_quantum p i) ++
         (List.range 8).map (fun i => Reg.oper_idle_slope p i)))) ∧
  (∀ (sd : SideId) (g : Fin 256) (u : Nat) (s : State), (s.core sd).alive = true →
    let c := s.core sd
    (c.sgateOper g).boundary c.sideUnits = some u →
    Completes (.streamGateChange sd g) s (fun t => s.plant.onlyCore t sd ∧
      (c.rd Reg.time_source = 4 → u ≤ (t.core sd).sideUnits) ∧ (c.advance (c.ticksToUnits u)).onlySlots (t.core sd) [])) ∧
  (∀ (sd : SideId) (g : Fin 256) (s : State), (s.core sd).alive = true →
    let c := s.core sd
    let d := c.advance (c.ticksToUnits ((c.sgate g).changeTime * nsUnit))
    let r := c.tab wSgate g
    (c.sgate g).pending = true → c.rd Reg.time_source = 4 →
    Completes (.streamGateChangeTime sd g) s (fun t => s.plant.onlyCore t sd ∧
      (t.core sd).sgate g = { c.sgate g with
        pending := false, enable := sgEnable r, base := sgBase r, cycle := sgCycle r, len := sgLen r } ∧
      (∀ h, h ≠ g.val → (t.core sd).sgate h = c.sgate h) ∧
      (∀ k, k < 32 → (t.core sd).tab wSgclOper (32 * g + k) = c.tab wSgclAdmin (32 * g + k)) ∧
      (∀ j, j < tabKey wSgclOper (32 * g) ∨ tabKey wSgclOper (32 * g + 32) ≤ j → j / 2 ^ 32 ≠ wFaultStat →
        (t.core sd).tabAt j = c.tabAt j) ∧ d.reported (t.core sd) 353 1 g ∧
      ({ d with tabs := (t.core sd).tabs, gates := (t.core sd).gates } : Core).onlySlotsAndReports (t.core sd) []))

/-- By a requester that may write the object: a time source up to 4 is taken and steps side time as R361 says, with one count and one
message where nothing else is due. DOMAIN_ADJUST adds to what a domain still slews when within slew_limit_ns; beyond it, and for
DOMAIN_SET, the domain has the value at once. SLEW_COMPLETE runs the clocks until nothing remains. TIME_SNAPSHOT stores the local
clock and the four domains. PPS_OUT rises at its second and falls after its width; PPS_IN_EDGE counts a glitch or an edge, stamps
it and reports one out of its window by kind 2 of E+358; PPS_MISSING counts and reports kind 1. Where the spec leaves a point
open, the model's own choice is in log entry 37. -/
def Obligations.ClocksStepAndSlew : Prop :=
  (∀ (q : Requester) (sd : SideId) (v : BitVec 8) (s : State), s.plant.mayWriteSide q sd Reg.time_source = true → v.toNat ≤ 4 →
    let c := s.core sd
    let d := (c.touchAllShapers.wr Reg.time_source v.toNat).resyncShapers
    let back := decide (d.sideUnits < c.sideUnits)
    let mag := (if back then c.sideUnits - d.sideUnits else d.sideUnits - c.sideUnits) / nsUnit
    (c.released = true → (d.stepped c.sideUnits).rd Reg.power_state = c.rd Reg.power_state →
      Completes (.timeSourceWrite q sd v) s (fun t => s.plant.wroteSide t sd ∧ (d.stepped c.sideUnits).onlySlots (t.core sd) [] ∧
        (d.sideUnits = c.sideUnits → (t.core sd).rd Reg.time_source = v.toNat ∧ d.onlySlots (t.core sd) []) ∧
        (d.sideUnits ≠ c.sideUnits → (∀ p, p < 64 → (d.port p).gclPending = false ∧ (d.port p).tx = none) → d.gates = [] →
          d.rd Reg.epoch_flip ≠ 1 →
          (t.core sd).rd Reg.time_source = v.toNat ∧ d.counts (t.core sd) Reg.side_time_steps 1 ∧
          d.onlySlotsAndReports (t.core sd) [Reg.side_time_steps] ∧
          d.reports (t.core sd) 357 1 (b2n back * 2 ^ 47 + min mag (2 ^ 47 - 1)))))) ∧
  (∀ (q : Requester) (sd : SideId) (n : Fin 4) (v : BitVec 64) (s : State),
    s.plant.mayWriteSide q sd (Reg.domain_adjust n) = true → (s.core sd).released = true →
    let c := s.core sd
    let x := signedOf 64 v.toNat
    (x.natAbs ≤ c.rd Reg.slew_limit_ns → Completes (.domainAdjust q sd n v) s (fun t => s.plant.wroteSide t sd ∧
      (t.core sd).dom n = ⟨(c.dom n).value, (c.dom n).slew + x * nsUnit⟩ ∧ (∀ m, m ≠ n.val → (t.core sd).dom m = c.dom m) ∧
      ({ c.touchAllShapers with doms := (t.core sd).doms } : Core).onlySlots (t.core sd) [])) ∧
    (c.rd Reg.slew_limit_ns < x.natAbs → c.rd Reg.time_source ≠ n.val →
      Completes (.domainAdjust q sd n v) s (fun t => s.plant.wroteSide t sd ∧
        (t.core sd).dom n = ⟨((c.dom n).value + (c.dom n).slew + x * nsUnit).toNat, 0⟩ ∧
        (∀ m, m ≠ n.val → (t.core sd).dom m = c.dom m) ∧
        ({ c.touchAllShapers with doms := (t.core sd).doms } : Core).resyncShapers.onlySlots (t.core sd) []))) ∧
  (∀ (q : Requester) (sd : SideId) (n : Fin 4) (v : BitVec 128) (s : State),
    s.plant.mayWriteSide q sd (Reg.domain_set n) = true → (s.core sd).released = true → time96Ok v.toNat = true →
    let c := s.core sd
    c.rd Reg.time_source ≠ n.val →
    Completes (.domainSet q sd n v) s (fun t => s.plant.wroteSide t sd ∧
      (t.core sd).dom n = ⟨unitsOf96 v.toNat, (c.dom n).slew⟩ ∧ (∀ m, m ≠ n.val → (t.core sd).dom m = c.dom m) ∧
      (t.core sd).rdWide (Reg.domain_set n) 2 = v.toNat ∧
      ({ c.touchAllShapers with doms := (t.core sd).doms } : Core).resyncShapers.onlySlots (t.core sd) [Reg.domain_set n, Reg.domain_set n + 1])) ∧
  (∀ (sd : SideId) (n : Fin 4) (s : State), (s.core sd).alive = true →
    let c := s.core sd
    (c.dom n).slew ≠ 0 → 0 < c.slewUnit →
    Completes (.slewComplete sd n) s (fun t => s.plant.onlyCore t sd ∧ ((t.core sd).dom n).slew = 0 ∧
      (c.advance (ceilDiv (c.dom n).slew.natAbs c.slewUnit)).onlySlots (t.core sd) [])) ∧
  (∀ (q : Requester) (sd : SideId) (s : State), s.plant.mayWriteSide q sd Reg.snapshot = true →
    let c := s.core sd
    Completes (.timeSnapshot q sd) s (fun t => s.plant.wroteSide t sd ∧ (t.core sd).rd Reg.snapshot = 2 ∧
      (t.core sd).rd Reg.snap_local = c.localNs % 2 ^ 64 ∧
      (∀ d, d < 4 → (t.core sd).rdWide (Reg.snap_domain d) 2 = time96Of (c.dom d).value % 2 ^ 128) ∧
      c.onlySlots (t.core sd) ([Reg.snapshot, Reg.snap_local] ++ (List.range 8).map (fun i => Reg.snap_domain 0 + i)))) ∧
  (∀ (sd : SideId) (s : State), (s.core sd).alive = true →
    let c := s.core sd
    (c.flag Reg.pps_out_enable = true → c.ppsOut = false →
      let d := c.advance c.ppsTicks
      Completes (.ppsOutEdge sd) s (fun t => s.plant.onlyCore t sd ∧
        ({ d with ppsOut := true, ppsEnd := d.now + nsTicks (c.rd Reg.pps_out_width_ns) } : Core).onlySlots (t.core sd) [])) ∧
    (c.ppsOut = true → Completes (.ppsOutEnd sd) s (fun t => s.plant.onlyCore t sd ∧
      ({ c.advanceTo c.ppsEnd with ppsOut := false } : Core).onlySlots (t.core sd) [])) ∧
    (c.flag Reg.pps_in_enable = true → (∀ u, c.ppsPrev = some u → usTicks 1 ≤ c.now - u) →
      Completes (.ppsInEdge sd) s (fun t => s.plant.onlyCore t sd ∧ c.counts (t.core sd) Reg.pps_in_edges 1 ∧
        (t.core sd).rd Reg.pps_in_last_local = c.localNs % 2 ^ 64 ∧ (t.core sd).rd Reg.pps_in_last_side = c.sideTime % 2 ^ 64 ∧
        (∀ u, c.ppsPrev = some u →
          (c.now - u + nsTicks (c.rd Reg.pps_in_window_ns) < nsTicks 1000000000 ∨
            nsTicks (1000000000 + c.rd Reg.pps_in_window_ns) < c.now - u) →
          c.counts (t.core sd) Reg.pps_in_out_of_window 1 ∧ c.reports (t.core sd) 358 2 0) ∧
        ({ c with ppsPrev := some c.now, ppsBase := some c.now } : Core).onlySlotsAndReports (t.core sd)
          [Reg.pps_in_edges, Reg.pps_in_last_local, Reg.pps_in_last_side, Reg.pps_in_out_of_window])) ∧
    (∀ u, c.flag Reg.pps_in_enable = true → c.ppsPrev = some u → c.now - u < usTicks 1 →
      Completes (.ppsInEdge sd) s (fun t => s.plant.onlyCore t sd ∧ c.counts (t.core sd) Reg.pps_in_glitches 1 ∧
        c.onlySlotsAndReports (t.core sd) [Reg.pps_in_glitches])) ∧
    (∀ u, c.flag Reg.pps_in_enable = true → c.ppsBase = some u →
      let d := c.advanceTo (u + nsTicks (1000000000 + c.rd Reg.pps_in_window_ns))
      Completes (.ppsMissing sd) s (fun t => s.plant.onlyCore t sd ∧ d.counts (t.core sd) Reg.pps_in_missing 1 ∧
        d.reports (t.core sd) 358 1 0 ∧
        ({ d with ppsBase := some (u + nsTicks 1000000000) } : Core).onlySlotsAndReports (t.core sd) [Reg.pps_in_missing])))

/-- METER_SWEEP on a running side refills every meter to the present clock, with its entry's rates where the entry is valid. The
pol_cmd commands, by a requester that may write it and with pol_select in range on every side that takes it, leave pol_cmd at 2
and act on the selected entry alone: the filter is not blocked; the gate is not latched; the meter does not mark all red; the
gate's change is pending, or made at once for a disabled list; no change of the gate is pending; both buckets hold their burst
size. POLICING_SCRUB with an uncorrectable error marks a filter or meter entry unusable and reports kind 2 of E+356 with the
window's index and the entry; with a corrected one it only reports kind 1 under the rate rule. Where the spec leaves a point open,
the model's own choice is in log entry 38. -/
def Obligations.PolicingCommandsTakeEffect : Prop :=
  (∀ (sd : SideId) (s : State), (s.core sd).alive = true →
    let c := s.core sd
    SMap.rising c.meters = true → SMap.rising c.tabs = true →
    Completes (.meterSweep sd) s (fun t => s.plant.onlyCore t sd ∧
      (∀ m, m < 2048 →
        let r := c.tab wMeter m
        (t.core sd).meter m = (c.meter m).refill (if recAny r && !recUnusable r then recEntry r else 0) c.now) ∧
      ({ c with meters := (t.core sd).meters, sweptAt := c.now } : Core).onlySlots (t.core sd) [])) ∧
  (∀ (q : Requester) (sd : SideId) (s : State), s.plant.mayWriteSide q sd Reg.pol_cmd = true →
    let c := s.core sd
    let n := c.rd Reg.pol_select
    let g := c.sgate n
    let r := c.tab wSgate n
    let within (m : Nat) : Prop := s.plant.takers sd (fun c => c.rd Reg.pol_select < m)
    let asks (c : Core) : Prop := (c.sgate (c.rd Reg.pol_select)).pending = false ∧
      (sgEnable (c.tab wSgate (c.rd Reg.pol_select)) = true → c.gateEntriesOk wSgclAdmin (32 * c.rd Reg.pol_select)
        (sgLen (c.tab wSgate (c.rd Reg.pol_select))) true = true)
    (within 4096 → Completes (.polClearBlocked q sd) s (fun t => s.plant.wroteSide t sd ∧ (t.core sd).rd Reg.pol_cmd = 2 ∧
      (t.core sd).filterBlocked n = false ∧
      (c.setTab wFilterCnt n (putBit (c.tab wFilterCnt n) 319 false)).onlySlots (t.core sd) [Reg.pol_cmd])) ∧
    (within 256 →
      Completes (.polClearLatch q sd) s (fun t => s.plant.wroteSide t sd ∧ (t.core sd).rd Reg.pol_cmd = 2 ∧
        (t.core sd).sgate n = { g with latched := false } ∧ (∀ h, h ≠ n → (t.core sd).sgate h = c.sgate h) ∧
        ({ c with gates := (t.core sd).gates } : Core).onlySlots (t.core sd) [Reg.pol_cmd]) ∧
      (s.plant.takers sd asks → sgEnable r = true →
        Completes (.polGateChange q sd) s (fun t => s.plant.wroteSide t sd ∧ (t.core sd).rd Reg.pol_cmd = 2 ∧
          (t.core sd).sgate n = { g with pending := true, changeTime := c.changeTime (sgBase r) (sgCycle r) } ∧
          (∀ h, h ≠ n → (t.core sd).sgate h = c.sgate h) ∧
          ({ c with gates := (t.core sd).gates } : Core).onlySlots (t.core sd) [Reg.pol_cmd])) ∧
      (s.plant.takers sd asks → sgEnable r = false →
        Completes (.polGateChange q sd) s (fun t => s.plant.wroteSide t sd ∧ (t.core sd).rd Reg.pol_cmd = 2 ∧
          (t.core sd).sgate n = { g with
            pending := false, enable := false, base := sgBase r, cycle := sgCycle r, len := sgLen r } ∧
          c.reports (t.core sd) 353 1 n ∧ (c.sgateMade n).onlySlots (t.core sd) [Reg.pol_cmd])) ∧
      Completes (.polGateChangeCancel q sd) s (fun t => s.plant.wroteSide t sd ∧ (t.core sd).rd Reg.pol_cmd = 2 ∧
        (t.core sd).sgate n = { g with pending := false } ∧ (∀ h, h ≠ n → (t.core sd).sgate h = c.sgate h) ∧
        ({ c with gates := (t.core sd).gates } : Core).onlySlots (t.core sd) [Reg.pol_cmd])) ∧
    (within 2048 →
      Completes (.polClearRed q sd) s (fun t => s.plant.wroteSide t sd ∧ (t.core sd).rd Reg.pol_cmd = 2 ∧
        (t.core sd).meter n = { c.meter n with allRed := false } ∧ (∀ m, m ≠ n → (t.core sd).meter m = c.meter m) ∧
        ({ c with meters := (t.core sd).meters } : Core).onlySlots (t.core sd) [Reg.pol_cmd]) ∧
      Completes (.polBucketsFull q sd) s (fun t => s.plant.wroteSide t sd ∧ (t.core sd).rd Reg.pol_cmd = 2 ∧
        (let x := c.meterParams n (c.rd Reg.epoch_live)
         1024 * mCbs x ≤ ((t.core sd).meter n).c.tokens ∧ 1024 * mEbs x ≤ ((t.core sd).meter n).e.tokens) ∧
        (∀ m, m ≠ n → (t.core sd).meter m = c.meter m) ∧
        ({ c with meters := (t.core sd).meters } : Core).onlySlots (t.core sd) [Reg.pol_cmd]))) ∧
  (∀ (sd : SideId) (w : Fin 9) (e : BitVec 16) (s : State), (s.core sd).alive = true →
    let c := s.core sd
    let k := 0x1400 + w.val
    Completes (.policingScrub sd w e true) s (fun t => s.plant.onlyCore t sd ∧
      (k = wFilter ∨ k = wMeter → (t.core sd).tab k e.toNat = putBit (c.tab k e.toNat) 60 true) ∧
      (∀ j, j ≠ tabKey k e.toNat → j / 2 ^ 32 ≠ wFaultStat → (t.core sd).tabAt j = c.tabAt j) ∧
      (k ≠ wMeterState → (t.core sd).meters = c.meters) ∧ c.reported (t.core sd) 356 2
        ((match sd with | .a => 0x3400 | .b => 0x5400) * 2 ^ 32 + w.val * 2 ^ 32 + e.toNat) ∧
      ({ c with tabs := (t.core sd).tabs, meters := (t.core sd).meters } : Core).onlySlotsAndReports (t.core sd) []) ∧
    Completes (.policingScrub sd w e false) s (fun t => s.plant.onlyCore t sd ∧
      (t.core sd).rates.any (fun m => decide (m.src = 356) && decide (m.kind = 1)) = true ∧
      c.onlySlotsAndReports (t.core sd) []))

/-- On a running side, with the clocks run to the end of the vport's last transmission, from where idle_slope acts as it now stands:
when its scheduler selects a frame and the fill descriptor at fill_head is good and long enough, the frame leaves its queue, its
cells are held, the descriptor is consumed and a delivery to the buffer begins; the memories and the rest of the device are as
they were. Where the spec leaves a point open, the model's own choice is in log entries 36 and 44. -/
def Obligations.VportsSelectFramesForDelivery : Prop :=
  (∀ (sd : SideId) (v : Fin 64) (fill : Octets) (ds : List Defect) (q : Nat) (x : Copy) (d : Core) (s : State),
    (s.core sd).alive = true →
    let c := (((s.core sd).advanceTo (ceilDiv ((s.core sd).port (64 + v)).txEnd 1000)).touchShapers true v).adoptSlopes v
    let f := fillFields fill
    let e := (d.takeFill v).startDelivery v x true f.1 f.2.2
    c.select (c.vportQueues v) = (d, some q) → d.headCopy (.vport v) q = some x → d.hostPlaced v = true → d.fillOk v f = true →
    64 + x.delivered ≤ f.2.1 → x.target = .vport v → e.rd Reg.power_state = (s.core sd).rd Reg.power_state →
    Completes (.vportSelect sd v fill ds) s (fun t => s.plant.onlyCore t sd ∧ e.onlySlots (t.core sd) [] ∧
      (t.core sd).rd (Reg.fill_head v) = (d.rd (Reg.fill_head v) + 1) % 2 ^ 32 ∧
      ((t.core sd).copy x.id).all (fun y => y.started && y.held) = true ∧
      (t.core sd).queue (.vport v) x.queue = (d.queue (.vport v) x.queue).filter (fun i => decide (i ≠ x.id)) ∧
      (t.core sd).rxJobs.any (fun j => decide (j.v = v.val) && decide (j.copy = x.id) && j.host && decide (j.addr = f.1) &&
        decide (j.tag = f.2.2)) = true))

/-- CORE_RUN_WRITE by a requester that may write it, naming no absent core: each core whose bit becomes 1 starts at core_reset_vector,
each whose bit becomes 0 is reset. On a running side: vport_bind of a running core is written or read by M and HS mode, and raises
cause 22 in VS mode and 2 in U and VU mode. A divergence of a running pair halts it, stores its PC and is counted and reported. A
cache error counts and is reported, corrected ones under the rate rule; an uncorrectable one of a core is an access fault there,
and a dirty DRAM line that it loses reads as values of its own. A wrap of a counter that counts an event sets OF, raises the
overflow interrupt when OF was 0, and with sampling on writes a 64-byte record to the ring. A samp_head that moves forward within
samp_tail is taken. Where the spec leaves a point open, the model's own choice is in log entries 39, 40 and 45. -/
def Obligations.CoresStartStopAndBind : Prop :=
  (∀ (q : Requester) (sd : SideId) (v : BitVec 8) (s : State), s.plant.mayWriteSide q sd Reg.core_run = true →
    let c := s.core sd
    let w := c.runBits v.toNat
    let old := c.rd Reg.core_run
    (∀ k, k < 8 → bitOf v.toNat k = true → c.coreAbsent k = false) →
    Completes (.coreRunWrite q sd v) s (fun t => s.plant.wroteSide t sd ∧ (t.core sd).rd Reg.core_run = w ∧
      (∀ k, k < 8 → bitOf w k = true → bitOf old k = false →
        SMap.find? (t.core sd).coreStart k = some (c.rd Reg.core_reset_vector + 1)) ∧
      (∀ k, k < 8 → bitOf w k = false → bitOf old k = true → bitOf (t.core sd).halted k = false ∧
        SMap.find? (t.core sd).vportBind k = none ∧ SMap.find? (t.core sd).spmRes k = none) ∧
      (∀ k, k < 8 → bitOf w k = bitOf old k → SMap.find? (t.core sd).coreStart k = SMap.find? c.coreStart k ∧
        bitOf (t.core sd).halted k = bitOf c.halted k ∧ SMap.find? (t.core sd).vportBind k = SMap.find? c.vportBind k) ∧
      ({ c with coreStart := (t.core sd).coreStart, halted := (t.core sd).halted, vportBind := (t.core sd).vportBind,
                spmRes := (t.core sd).spmRes } : Core).onlySlots (t.core sd) [Reg.core_run])) ∧
  (∀ (sd : SideId) (k : Fin 8) (mode : Fin 5) (v : Option (BitVec 64)) (s : State), (s.core sd).alive = true →
    let c := s.core sd
    c.coreStatus k = 1 →
    Completes (.vportBindAccess sd k mode v) s (fun t => s.plant.onlyCore t sd ∧
      (t.core sd).out = (if mode = 3 ∨ mode = 4 then [.csr (c.mhartid k) none 2] else if mode = 2 then [.csr (c.mhartid k) none 22]
        else if v = none then [.csr (c.mhartid k) (some (SMap.getD c.vportBind k 0)) 0] else []) ++ c.out ∧
      (∀ x, v = some x → mode.val < 2 →
        SMap.getD (t.core sd).vportBind k 0 = (if x.toNat / 2 ^ 63 = 1 then 2 ^ 63 else 0) + x.toNat % 64) ∧
      (∀ j, j ≠ k.val ∨ v = none ∨ 2 ≤ mode.val → SMap.getD (t.core sd).vportBind j 0 = SMap.getD c.vportBind j 0) ∧
      ({ c with out := (t.core sd).out, vportBind := (t.core sd).vportBind } : Core).onlySlots (t.core sd) [])) ∧
  (∀ (sd : SideId) (k : Fin 4) (pc : BitVec 64) (s : State), (s.core sd).alive = true →
    let c := s.core sd
    bitOf c.pairs k = true → c.coreStatus (2 * k) = 1 →
    Completes (.lockstepDivergence sd k pc) s (fun t => s.plant.onlyCore t sd ∧
      bitOf (t.core sd).halted (2 * k) = true ∧ bitOf (t.core sd).halted (2 * k + 1) = true ∧
      (t.core sd).rd (Reg.divergence_pc (2 * k)) = pc.toNat % 2 ^ 48 ∧ c.counts (t.core sd) (Reg.divergences (2 * k)) 1 ∧
      c.reports (t.core sd) (384 + 2 * k) 3 pc.toNat ∧
      ({ c with halted := (t.core sd).halted } : Core).onlySlotsAndReports (t.core sd)
        [Reg.divergence_pc (2 * k), Reg.divergences (2 * k)])) ∧
  (∀ (sd : SideId) (u : Fin 9) (addr : BitVec 64) (unc : Bool) (s : State), (s.core sd).alive = true →
    let c := s.core sd
    let key := if u.val = 8 then (if unc then Reg.l3_uncorrectable else Reg.l3_corrected)
      else (if unc then Reg.cache_uncorrectable u else Reg.cache_corrected u)
    (u.val < 8 → c.coreAbsent u = false) →
    let line := addr.toNat / 64 * 64
    let a := line - 0x800000000
    let inDram := 0x800000000 ≤ line ∧ a + 64 ≤ c.dramUsable
    Completes (.cacheEccError sd u addr unc) s (fun t => s.plant.onlySide t sd ∧ (t.side sd).spm = (s.plant.side sd).spm ∧
      c.counts (t.core sd) key 1 ∧
      (unc = false → (t.core sd).rates.any (fun m => decide (m.src = 384 + u.val) && decide (m.kind = 1)) = true ∧
        (t.core sd).out = c.out) ∧
      (unc = true → c.reports (t.core sd) (384 + u) 2 addr.toNat ∧
        (t.core sd).out = (if u.val < 8 then [.accessFault (c.mhartid u) none addr.toNat] else []) ++ c.out ∧
        (inDram → Config.lineDirty c.num c.free = true →
          (t.side sd).dram.readBytes a 64 = (List.range 64).map (fun i => Config.staleByte c.num c.free i) ∧
          (∀ b, b < a ∨ a + 64 ≤ b → (t.side sd).dram.read b = (s.plant.side sd).dram.read b))) ∧
      (unc = false ∨ ¬ inDram ∨ Config.lineDirty c.num c.free = false → (t.side sd).dram = (s.plant.side sd).dram) ∧
      (unc = true → inDram → (t.core sd).free = c.free + 1) ∧ (unc = false ∨ ¬ inDram → (t.core sd).free = c.free) ∧
      ({ c with out := (t.core sd).out, free := (t.core sd).free } : Core).onlySlotsAndReports (t.core sd) [key])) ∧
  (∀ (sd : SideId) (k : Fin 8) (n : Fin 32) (smp : HpmSample) (s : State), (s.core sd).alive = true →
    let c := s.core sd
    c.coreAbsent k = false → c.checker k = false → hpmEvent smp.event ≠ 0 →
    (bitOf (c.rd (Reg.samp_enable k)) n = false →
      Completes (.hpmCounterWrap sd k n smp) s (fun t => s.plant.onlyCore t sd ∧
        SMap.getD (t.core sd).hpm (hpmKey k n) 0 = 0 ∧
        SMap.getD (t.core sd).hpm (hpmKey k (32 + n)) 0 = hpmOverflowed smp.event ∧
        (bitOf (SMap.getD c.hpm (hpmKey k (32 + n)) 0) 63 = false → SMap.getD (t.core sd).hpm (hpmKey k 68) 0 = 1) ∧
        (∀ j, j ∉ [hpmKey k n, hpmKey k (32 + n), hpmKey k 68] → SMap.getD (t.core sd).hpm j 0 = SMap.getD c.hpm j 0) ∧
        ({ c with hpm := (t.core sd).hpm } : Core).onlySlots (t.core sd) [])) ∧
    (let a := c.rd (Reg.samp_ring_base k) + 64 * (c.rd (Reg.samp_tail k) % c.sampEntries k)
     let o := c.sampRecord k n (SMap.getD c.sampLost k 0) smp
     bitOf (c.rd (Reg.samp_enable k)) n = true → SMap.find? c.sampAt k = none →
     gap (c.rd (Reg.samp_tail k)) (c.rd (Reg.samp_head k)) ≠ c.sampEntries k → a + 64 ≤ 2 ^ 24 → c.spmFenced a 64 = false →
     c.rd (Reg.samp_msi k) = 0 → c.spmWait = [] → a % 64 = 0 →
      Completes (.hpmCounterWrap sd k n smp) s (fun t => s.plant.onlySide t sd ∧ (t.side sd).dram = (s.plant.side sd).dram ∧
        (t.side sd).spm.readBytes a 64 = o ∧
        (∀ b, b < a ∨ a + 64 ≤ b → (t.side sd).spm.read b = (s.plant.side sd).spm.read b) ∧
        (t.core sd).rd (Reg.samp_tail k) = (c.rd (Reg.samp_tail k) + 1) % 2 ^ 32 ∧
        c.counts (t.core sd) (Reg.samples_written k) 1 ∧
        ({ c with hpm := (t.core sd).hpm, sampAt := (t.core sd).sampAt, sampLost := (t.core sd).sampLost,
                  sampSent := (t.core sd).sampSent, spmRes := (t.core sd).spmRes, spmBad := (t.core sd).spmBad,
                  spmPointer := (t.core sd).spmPointer, spmMerging := (t.core sd).spmMerging } : Core).onlySlotsAndReports
          (t.core sd) [Reg.samp_tail k, Reg.samples_written k, Reg.spm_accesses k, Reg.spm_conflicts k]))) ∧
  (∀ (q : Requester) (sd : SideId) (k : Fin 8) (v : BitVec 32) (s : State), s.plant.mayWriteSide q sd (Reg.samp_head k) = true →
    let c := s.core sd
    let h := c.rd (Reg.samp_head k)
    gap v.toNat h ≤ gap (c.rd (Reg.samp_tail k)) h →
    Completes (.sampHeadWrite q sd k v) s (fun t => s.plant.wroteSide t sd ∧ (t.core sd).rd (Reg.samp_head k) = v.toNat ∧
      bitOf (t.core sd).sampSent k = false ∧
      ({ c with sampSent := (t.core sd).sampSent } : Core).onlySlots (t.core sd) [Reg.samp_head k]))

/-- On a running side with no request waiting: a well-formed request of one master that crosses no word, to good words of banks that
are not fenced, is granted in its clock. It answers the old bytes for a read, an LR, an AMO and a CAS, nothing for a write, and 0
or 1 for an SC; a store puts its bytes at its address and leaves every other octet. A malformed request or misaligned atomic is
answered as an error, to a core with an access fault; no request comes from a core that does not run. SPM_SCRUB counts and reports
what it finds, an uncorrectable word by kind 2 of E+395. LD_WRITE_COMPLETE ends the vport's oldest delivery: its copy is gone and
its record written; with an uncorrectable cell the frame is dropped in sc_drop_ecc. Where the spec leaves a point open, the
model's own choice is in log entry 40. -/
def Obligations.TheScratchpadAnswersRequests : Prop :=
  (∀ (sd : SideId) (q : SpmReq) (s : State), (s.core sd).alive = true → (s.core sd).spmWait = [] → (s.core sd).spmMerging = 0 →
    q.master < 14 →
    let c := s.core sd
    let issues := 8 ≤ q.master ∨ c.coreIssues q.master = true
    let load : Bool := match q.op with | .read _ => true | .lr _ => q.aligned | _ => false
    let m := (s.plant.side sd).spm
    let d := c.advance 2
    let n := q.op.len
    let old := m.readBytes q.addr n
    let hit := decide (SMap.getD c.spmRes q.master 0 = q.addr / 8 + 1)
    let store : Option Octets := match q.op with
      | .read _ => none | .write o => some o | .lr _ => none | .sc o => if hit then some o else none
      | .amo k o => some (toLe n (amoResult k n (leNat old) (leNat o))) | .cas e o => if old = e then some o else none
    let answer : Octets := match q.op with
      | .write _ => [] | .sc _ => [if hit then 0 else 1] | _ => old
    (issues → q.ok = true → (q.op.atomic = true → q.aligned = true) → (n ≤ 8 → q.addr % 8 + n ≤ 8) → c.spmFenced q.addr n = false →
      (∀ w ∈ wordsOf q.addr n, SMap.find? c.spmBad w = none) →
      Completes (.scratchpadRequest sd [q] 0) s (fun t => s.plant.onlySide t sd ∧ (t.side sd).dram = (s.plant.side sd).dram ∧
        (t.core sd).out = .spm q.master (some answer) :: c.out ∧
        (store = none → (t.side sd).spm = m) ∧ (∀ o, store = some o → (t.side sd).spm = m.writeBytes q.addr o) ∧
        (∀ a, a < q.addr ∨ q.addr + n ≤ a → (t.side sd).spm.read a = m.read a) ∧
        (∀ k, q.op = .lr k → SMap.getD (t.core sd).spmRes q.master 0 = q.addr / 8 + 1) ∧
        c.counts (t.core sd) (Reg.spm_accesses q.master) 1 ∧
        ({ d with out := (t.core sd).out, spmPointer := (c.spmPointer + 1) % 14, spmMerging := (t.core sd).spmMerging,
                  spmRes := (t.core sd).spmRes, spmBad := (t.core sd).spmBad } : Core).onlySlotsAndReports (t.core sd)
          [Reg.spm_accesses q.master])) ∧
    (¬ issues → Completes (.scratchpadRequest sd [q] 0) s (fun t => s.plant.onlyCore t sd ∧
      ({ d with spmPointer := (c.spmPointer + 1) % 14 } : Core).onlySlots (t.core sd) [])) ∧
    (issues → q.ok = false ∨ q.op.atomic = true ∧ q.aligned = false →
      Completes (.scratchpadRequest sd [q] 0) s (fun t => s.plant.onlyCore t sd ∧
        ({ d with
            out := (if q.master < 8 then
              [.accessFault (c.mhartid q.master) (some (if load then 5 else 7)) (0x10000000 + q.addr)] else []) ++ .spm q.master none :: c.out
            spmPointer := (c.spmPointer + 1) % 14 } : Core).onlySlots (t.core sd) []))) ∧
  (∀ (sd : SideId) (w : BitVec 21) (ecc : Fin 3) (s : State), (s.core sd).alive = true →
    let c := s.core sd
    c.spmFenced (8 * w.toNat) 8 = false →
    Completes (.spmScrub sd w ecc) s (fun t => s.plant.onlyCore t sd ∧
      (ecc = 2 → SMap.find? (t.core sd).spmBad w.toNat = some 1 ∧ c.counts (t.core sd) Reg.spm_uncorrectable 1 ∧
        c.reports (t.core sd) 395 2 (8 * w.toNat)) ∧
      (ecc = 1 → SMap.find? c.spmBad w.toNat = none → c.counts (t.core sd) Reg.spm_corrected 1 ∧
        (t.core sd).rates.any (fun m => decide (m.src = 395) && decide (m.kind = 1)) = true) ∧
      (ecc = 0 → SMap.find? c.spmBad w.toNat = none → c.onlySlots (t.core sd) []) ∧
      (∀ j, j ≠ w.toNat → SMap.find? (t.core sd).spmBad j = SMap.find? c.spmBad j) ∧
      ({ c with spmBad := (t.core sd).spmBad } : Core).onlySlotsAndReports (t.core sd) [Reg.spm_uncorrectable, Reg.spm_corrected])) ∧
  (∀ (sd : SideId) (v : Fin 64) (k : Fin 36) (j : RxJob) (s : State), (s.core sd).alive = true → (s.core sd).rd (Reg.vport_state v) ≠ 5 →
    (s.core sd).rxJobs.find? (fun x => decide (x.v = v.val) && decide (x.host = false)) = some j →
    let c := s.core sd
    let w := (s.plant.side sd).bufPut j.v (bits j.addr 62 60) (j.addr % 2 ^ 40) j.buffer
    (w.2 = true → (w.1.endDelivery j).r.rd Reg.power_state = c.rd Reg.power_state →
      Completes (.ldWriteComplete sd v ⟨0, k⟩) s (fun t => s.plant.onlySide t sd ∧
        (t.core sd).rxJobs = w.1.r.rxJobs.erase j ∧ (t.core sd).copy j.copy = none ∧
        (t.side sd).spm = (w.1.endDelivery j).spm ∧ (t.side sd).dram = (w.1.endDelivery j).dram ∧
        (w.1.endDelivery j).r.onlySlots (t.core sd) [])) ∧
    (∀ x, c.copy j.copy = some x →
      let e := c.deliveryEcc j ⟨2, k⟩
      (e.abandon j Reg.sc_drop_ecc).rd Reg.power_state = c.rd Reg.power_state →
      Completes (.ldWriteComplete sd v ⟨2, k⟩) s (fun t => s.plant.onlyCore t sd ∧ (t.core sd).rxJobs = c.rxJobs.erase j ∧
        (t.core sd).copy j.copy = none ∧ c.counts (t.core sd) Reg.sc_drop_ecc 1 ∧
        c.reports (t.core sd) (320 + x.target.slice) 2 (SMap.getD x.cells k.val 0) ∧
        (e.abandon j Reg.sc_drop_ecc).onlySlots (t.core sd) [])))

/-- A requester that may write it, with no training running, starts a full training or a restore: dram_train and dram_state read 1. On
a running side its end sets fsp_trained to the set points that did not fail, reports each failure by kind 2 of E+420+c, and reads
2 with the boot set point active, or 3 with dram_state 4. RETRAIN_STEP starts a gathering, for rank 0 at its interval and for the
next rank in turn, and counts; RETRAIN_UPDATE ends it and the steps of unfenced ranks, which serve from then on, and reports under
the rate rule. FSP_REQUEST of a trained set point that is not active is deferred while a step gathers, else begins once no rank
owes a refresh; FSP_CANCEL takes a deferred one back; FSP_CHANGE_DONE makes it active, counts it, reports kind 1 of E+428 and, as
a cancel does, starts the steps of unfenced ranks that waited. Where the spec leaves a point open, the model's own choice is in
log entries 6, 41 and 51. -/
def Obligations.TheDramTrainsAndChangesSetPoint : Prop :=
  (∀ (q : Requester) (sd : SideId) (s : State), s.plant.mayWriteSide q sd Reg.dram_train = true → (s.core sd).rd Reg.dram_train ≠ 1 →
    let c := s.core sd
    ∀ r ∈ [(Instr.dramTrainFull q sd, 1), (Instr.dramTrainRestore q sd, 2)],
    Completes r.1 s (fun t => s.plant.wroteSide t sd ∧ (t.core sd).rd Reg.dram_train = 1 ∧ (t.core sd).rd Reg.dram_state = 1 ∧
      ({ c with dm := { c.dm with trainKind := r.2 } } : Core).onlySlots (t.core sd) [Reg.dram_train, Reg.dram_state])) ∧
  (∀ (sd : SideId) (fails : List (Fin 3 × Fin 4 × Fin 2)) (s : State), (s.core sd).alive = true →
    let c := s.core sd
    let ok := fails.foldl (fun m f => putBit m f.1 false) 7
    let good := bitOf ok (c.rd Reg.fsp_boot)
    c.rd Reg.dram_train = 1 →
    Completes (.dramTrainDone sd fails) s (fun t => s.plant.onlyCore t sd ∧ (t.core sd).rd Reg.fsp_trained = ok ∧
      (t.core sd).rd Reg.dram_train = (if good then 2 else 3) ∧ (t.core sd).rd Reg.dram_state = (if good then 2 else 4) ∧
      (t.core sd).rd Reg.fsp_active = (if good then c.rd Reg.fsp_boot else c.rd Reg.fsp_active) ∧
      (∀ f ∈ fails, c.reports (t.core sd) (420 + f.2.1) 2 (f.1.val + 4 * f.2.2.val)) ∧
      (∀ k, (t.core sd).owed k = 0) ∧
      (∀ j, j / 2 ^ 32 ≠ wTrain → j / 2 ^ 32 ≠ wFaultStat → (t.core sd).tabAt j = c.tabAt j) ∧
      (c.dm.trainKind = 1 → (t.core sd).free = c.free + 1 ∧ (t.core sd).dm.trainings = c.free + 1) ∧
      ({ c with dm := (t.core sd).dm, tabs := (t.core sd).tabs, free := (t.core sd).free } : Core).onlySlotsAndReports (t.core sd)
        [Reg.fsp_trained, Reg.dram_train, Reg.dram_state, Reg.fsp_active])) ∧
  (∀ (sd : SideId) (r0 r1 r2 r3 : Fin 4) (s : State), (s.core sd).alive = true →
    let c := s.core sd
    let f := c.rd Reg.fsp_request
    let i := c.rd Reg.dram_retrain_interval_ms
    let d := if c.dm.stepRank = 0 then c.advanceTo (c.dm.stepAt + msTicks i) else c
    (c.rd Reg.dram_state = 2 → i ≠ 0 → c.dm.gathering = false → f ≠ 1 → f ≠ 2 →
      Completes (.retrainStep sd) s (fun t => s.plant.onlyCore t sd ∧ d.counts (t.core sd) Reg.dram_retrain_steps 1 ∧
        ({ d with dm := { c.dm with gathering := true, stepAt := if c.dm.stepRank = 0 then d.now else c.dm.stepAt } } : Core).onlySlotsAndReports (t.core sd)
          [Reg.dram_retrain_steps])) ∧
    (c.stepRuns = true → f ≠ 1 →
      Completes (.retrainUpdate sd r0 r1 r2 r3) s (fun t => s.plant.onlyCore t sd ∧
        (∀ k, k < 8 → (c.dm.gathering = true ∧ k % 2 = c.dm.stepRank ∨ bitOf c.dm.unfencing k = true) →
          ∀ x ∈ [(r0, 0), (r1, 1), (r2, 2), (r3, 3)], x.2 = k / 2 → x.1 ≠ 0 → (t.core sd).rates.any (fun m =>
            decide (m.src = 420 + x.2) && decide (m.kind = if x.1 = 3 then 3 else 1)) = true) ∧
        (t.core sd).rd Reg.dram_ranks_fenced = c.rd Reg.dram_ranks_fenced - (c.rd Reg.dram_ranks_fenced &&& c.dm.unfencing) ∧
        ({ c with dm := { c.dm with
            gathering := false, unfencing := 0
            stepRank := if c.dm.gathering then (c.dm.stepRank + 1) % max 1 (c.rd Reg.dram_ranks) else c.dm.stepRank } } : Core).onlySlotsAndReports
          (t.core sd) [Reg.dram_ranks_fenced]))) ∧
  (∀ (q : Requester) (sd : SideId) (n : Fin 3) (s : State), s.plant.mayWriteSide q sd Reg.fsp_request = true →
    let c := s.core sd
    let f := c.rd Reg.fsp_request
    (f ≠ 1 → f ≠ 2 → c.rd Reg.dram_state = 2 → bitOf (c.rd Reg.fsp_trained) n = true → c.rd Reg.fsp_active ≠ n.val →
      Completes (.fspRequest q sd n) s (fun t => s.plant.wroteSide t sd ∧ (t.core sd).dm.fspTarget = n.val ∧
        (c.stepRuns = true → (t.core sd).rd Reg.fsp_request = 1 ∧ c.counts (t.core sd) Reg.fsp_deferrals 1 ∧
          c.reports (t.core sd) 428 2 n ∧ (t.core sd).dm = { c.dm with fspTarget := n.val }) ∧
        (c.stepRuns = false → (t.core sd).rd Reg.fsp_request = 2 ∧ (∀ k ∈ c.ranks, (t.core sd).owed k ≤ 0) ∧
          (t.core sd).dm.rq = c.dm.rq ∧ (t.core sd).dm.wq = c.dm.wq) ∧
        ({ c with dm := (t.core sd).dm } : Core).onlySlotsAndReports (t.core sd)
          [Reg.fsp_request, if c.stepRuns then Reg.fsp_deferrals else Reg.dram_refreshes])) ∧
    (f = 1 → Completes (.fspCancel q sd) s (fun t => s.plant.wroteSide t sd ∧ (t.core sd).rd Reg.fsp_request = 0 ∧
      c.counts (t.core sd) Reg.dram_retrain_steps (popCount 8 c.dm.unfenceWait) ∧
      ({ c with dm := { c.dm with unfencing := c.dm.unfencing ||| c.dm.unfenceWait, unfenceWait := 0 } } : Core).onlySlotsAndReports (t.core sd)
        [Reg.fsp_request, Reg.dram_retrain_steps]))) ∧
  (∀ (sd : SideId) (s : State), (s.core sd).alive = true →
    let c := s.core sd
    c.rd Reg.fsp_request = 2 → c.dm.fspTarget < 3 →
    Completes (.fspChangeDone sd) s (fun t => s.plant.onlyCore t sd ∧ (t.core sd).rd Reg.fsp_active = c.dm.fspTarget ∧
      (t.core sd).rd Reg.fsp_request = 3 ∧ c.counts (t.core sd) Reg.fsp_changes 1 ∧ c.reports (t.core sd) 428 1 c.dm.fspTarget ∧
      (t.core sd).dm.multPend = [] ∧ c.counts (t.core sd) Reg.dram_retrain_steps (popCount 8 c.dm.unfenceWait) ∧
      (c.dm.multPend = [] → (t.core sd).dm = { c.dm with unfencing := c.dm.unfencing ||| c.dm.unfenceWait, unfenceWait := 0 }) ∧
      ({ c with dm := (t.core sd).dm } : Core).onlySlotsAndReports (t.core sd)
        [Reg.fsp_active, Reg.fsp_request, Reg.fsp_changes, Reg.dram_repay_batches, Reg.dram_retrain_steps]))

/-- On a running side whose DRAM serves, from a requestor that issues and has no older read of the line queued: a write within a line
is answered, counted and stands in the write queue, which gives its bytes to later reads; a read that queued writes cover is
answered by them, one whose line has none joins the read queue. A command slot takes the errors that arise and the thresholds of
MR27; without a rank that must refresh it manages a bank whose activates have reached the threshold, else issues its one queued
write, whose masked bytes alone change in the DRAM and whose whole words end good, or answers its one queued read, with an error
for a word that is not good. REG_WINDOW ends the regulators' window and every demotion; REFRESH_INTERVAL adds one owed refresh;
estimates and MR4 polls set their rank's multiplier as R435 says; idle in Den for 10 µs, the DRAM goes into self-refresh. Where
the spec leaves a point open, the model's own choice is in log entry 41. -/
def Obligations.TheDramServesAndRefreshes : Prop :=
  (∀ (sd : SideId) (u : DramUser) (addr : BitVec 40) (len : Fin 65) (o : Octets) (tag : BitVec 16) (s : State),
    (s.core sd).alive = true →
    let c := s.core sd
    let a := addr.toNat
    let line := a / 64
    let port := c.dramPort u
    let core : Option Nat := match u with | .core k => some k.val | _ => none
    let older := c.dm.rq.any (fun r => decide (r.port = port) && decide (r.addr / 64 = line))
    let b (n : Nat) : Core := (((c.leaveSelfRefresh.inc (Reg.port_requests port)).add (Reg.port_bytes port) n).modDram
      (fun y => { y with lastRequest := c.now }))
    let g (n : Nat) : Core × Nat := (b n).regulate port n
    c.userIssues u = true → c.dramServes = true → bitOf (c.rd Reg.dram_ranks_fenced) (c.dramRank a) = false → c.dm.wait = [] →
    (older = false → 0 < o.length → a % 64 + o.length ≤ 64 → a + o.length ≤ c.dramUsable → (g o.length).1.dramRoom ⟨port, 0, a, 0, 0, some o, core⟩ = true →
      Completes (.dramWrite sd u addr o tag) s (fun t => s.plant.onlyCore t sd ∧
        (t.core sd).out = .dram port tag.toNat (some []) :: c.out ∧ c.counts (t.core sd) Reg.dram_writes 1 ∧
        c.counts (t.core sd) (Reg.port_requests port) 1 ∧ c.counts (t.core sd) (Reg.port_bytes port) o.length ∧
        slice ((t.side sd).lineView line) (a % 64) o.length = o ∧
        (t.core sd).dm = { (g o.length).1.dm with wq := (t.core sd).dm.wq, no := (t.core sd).dm.no } ∧
        ({ (g o.length).1 with dm := (t.core sd).dm, out := (t.core sd).out } : Core).onlySlotsAndReports (t.core sd)
          [Reg.dram_writes, Reg.dram_write_merges])) ∧
    (0 < len.val → a % 64 + len.val ≤ 64 → a + len.val ≤ c.dramUsable → (g len.val).1.dramRoom ⟨port, 0, a, len.val, 0, none, core⟩ = true →
      Completes (.dramRead sd u addr len tag) s (fun t => s.plant.onlyCore t sd ∧
        c.counts (t.core sd) (Reg.port_requests port) 1 ∧ c.counts (t.core sd) (Reg.port_bytes port) len.val ∧
        (((c.lineWrites line).foldl (fun m e => m ||| e.mask) 0) &&& maskOf (a % 64) len.val = maskOf (a % 64) len.val → older = false →
          (t.core sd).out = .dram port tag.toNat (some (slice ((s.plant.side sd).lineView line) (a % 64) len.val)) :: c.out ∧
          c.counts (t.core sd) Reg.dram_forwarded 1 ∧ c.counts (t.core sd) Reg.dram_reads 1 ∧
          ({ (g len.val).1 with out := (t.core sd).out } : Core).onlySlotsAndReports (t.core sd) [Reg.dram_forwarded, Reg.dram_reads]) ∧
        (c.lineWrites line = [] →
          ({ (g len.val).1 with dm := { (g len.val).1.dm with
              rq := c.dm.rq ++ [⟨a, len.val, port, tag.toNat, (g len.val).2, c.now, false, c.dm.no, core, none⟩]
              no := c.dm.no + 1 } } : Core).onlySlots (t.core sd) [])))) ∧
  (∀ (sd : SideId) (ch : Fin 4) (s : State), (s.core sd).alive = true →
    let c := s.core sd
    let m := (s.plant.side sd).dram
    let errs := [Reg.dram_ecc_corrected, Reg.dram_ecc_uncorrectable, Reg.dram_link_corrected, Reg.dram_link_uncorrectable]
    (∀ (w : BitVec 33) (r : Fin 2) (n : Nat), c.rd Reg.dram_state ≠ 2 → c.flag Reg.dram_inline_ecc = true → c.dramChannel (8 * w.toNat) = ch.val →
      8 * w.toNat + 8 ≤ c.dramUsable →
      Completes (.dramCommandIssue sd ch [(w, .hard)] [(r, n)]) s (fun t => s.plant.onlyCore t sd ∧
        SMap.find? (t.core sd).dm.bad w.toNat = some 1 ∧ SMap.getD (t.core sd).dm.rfmAt (2 * ch.val + r.val) 0 = n ∧
        ({ c with dm := { c.dm with bad := (t.core sd).dm.bad, rfmAt := (t.core sd).dm.rfmAt } } : Core).onlySlots (t.core sd) [])) ∧
    (c.rd Reg.dram_state = 2 → c.rd Reg.fsp_request ≠ 2 → c.mustRefresh ch = [] → c.dm.wait = [] →
    (∀ k, c.rfmBank ch = some k → Completes (.dramCommandIssue sd ch [] []) s (fun t => s.plant.onlyCore t sd ∧
      c.counts (t.core sd) Reg.dram_rfm_issued 1 ∧
      SMap.getD (t.core sd).dm.activates k 0 = SMap.getD c.dm.activates k 0 - SMap.getD c.dm.rfmAt (k / 16) 0 ∧
      ({ c with dm := { c.dm with activates := (t.core sd).dm.activates } } : Core).onlySlotsAndReports (t.core sd) [Reg.dram_rfm_issued])) ∧
    (c.rfmBank ch = none →
    (∀ e : DramWrite, c.dm.wq = [e] → c.dm.rq = [] → c.dramChannel (64 * e.line) = ch.val →
      Completes (.dramCommandIssue sd ch [] []) s (fun t => s.plant.onlySide t sd ∧ (t.side sd).spm = (s.plant.side sd).spm ∧
        (∀ x, (t.side sd).dram.read x =
          if x / 64 = e.line ∧ bitOf e.mask (x % 64) = true then e.data.getD (x % 64) 0 else m.read x) ∧
        (t.core sd).dm.wq = [] ∧
        (∀ k < 8, bits e.mask (8 * k + 7) (8 * k) = 255 → SMap.find? (t.core sd).dm.bad (8 * e.line + k) = none) ∧
        ({ c with dm := (t.core sd).dm } : Core).onlySlotsAndReports (t.core sd) (Reg.dram_poisoned_writes :: errs))) ∧
    (∀ q : DramRead, c.dm.rq = [q] → c.dm.wq = [] → c.dramChannel q.addr = ch.val → q.prio ≤ 8 → q.port < 8 → q.fwd = none → q.tag < 65536 →
      let ans := if (c.readWords q.addr q.len).2 then some (m.readBytes q.addr q.len) else none
      Completes (.dramCommandIssue sd ch [] []) s (fun t => s.plant.onlyCore t sd ∧
        (t.core sd).out = (match q.core, ans with | some k, none => [.accessFault (c.mhartid k) (some 5) (0x800000000 + q.addr)] | _, _ => []) ++
          .dram q.port q.tag ans :: c.out ∧ (t.core sd).dm.rq = [] ∧
        c.counts (t.core sd) Reg.dram_reads 1 ∧
        ({ c with dm := (t.core sd).dm, out := (t.core sd).out } : Core).onlySlotsAndReports (t.core sd)
          ([Reg.dram_reads, Reg.age_promotions q.port] ++ errs)))))) ∧
  (∀ (sd : SideId) (s : State), (s.core sd).alive = true →
    let c := s.core sd
    let next := (c.dm.windowAt / usTicks 1 + 1) * usTicks 1
    Completes (.regWindow sd) s (fun t => s.plant.onlyCore t sd ∧
      ({ c.advanceTo next with dm := { c.dm with
          spent := [], demoted := 0, windowAt := max next c.now
          rq := c.dm.rq.map (fun q => { q with prio := q.port }), wait := c.dm.wait.map (fun q => { q with prio := q.port }) } } : Core).onlySlots
        (t.core sd) []) ∧
    (c.rd Reg.power_state = 2 → c.flag Reg.den_dram_sr = true → c.rd Reg.dram_state = 2 → c.dm.rq = [] → c.dm.wq = [] → c.dm.wait = [] →
      Completes (.dramSrIdle sd) s (fun t => s.plant.onlyCore t sd ∧ (t.core sd).rd Reg.dram_state = 3 ∧
        (c.advanceTo (c.dm.lastRequest + usTicks 10)).onlySlots (t.core sd) [Reg.dram_state]))) ∧
  (∀ (sd : SideId) (ch : Fin 4) (rank : Fin 2) (temp : Int) (code : Fin 5) (s : State), (s.core sd).alive = true →
    let c := s.core sd
    let k := 2 * ch.val + rank.val
    let mult (d : Core) : Nat := SMap.getD d.dm.mult k 0
    k ∈ c.ranks →
    (c.rd Reg.dram_state = 2 →
      let d := c.advanceTo (SMap.getD c.dm.due k 0)
      Completes (.refreshInterval sd ch rank) s (fun t => s.plant.onlyCore t sd ∧ (t.core sd).owed k = c.owed k + 16 ∧
        (∀ j, j ≠ k → (t.core sd).owed j = c.owed j) ∧
        SMap.getD (t.core sd).dm.due k 0 = d.now + nsTicks 3906 / 2 ^ mult c ∧
        ({ d with dm := { c.dm with owed := (t.core sd).dm.owed, due := (t.core sd).dm.due, perBank := (t.core sd).dm.perBank } } : Core).onlySlots
          (t.core sd) [])) ∧
    (c.rd Reg.fsp_request ≠ 2 →
      let e := temp + signedOf 32 (c.rd Reg.dram_temp_offset_c)
      Completes (.dramTempEstimate sd ch temp) s (fun t => s.plant.onlyCore t sd ∧ SMap.getD (t.core sd).dm.est ch 0 = e ∧
        mult (t.core sd) = ({ c with dm := { c.dm with est := SMap.insert c.dm.est ch e } } : Core).chooseMult k ∧
        ({ c with dm := (t.core sd).dm } : Core).onlySlotsAndReports (t.core sd) [Reg.dram_repay_batches])) ∧
    (c.rd Reg.fsp_request ≠ 2 → c.dramServes = true →
      Completes (.mr4Poll sd ch rank code) s (fun t => s.plant.onlyCore t sd ∧
        (code.val < 3 → SMap.getD (t.core sd).dm.mr4 k 0 = code.val ∧ bitOf (t.core sd).dm.hot k = false ∧
          mult (t.core sd) = ({ c with dm := { c.dm with mr4 := SMap.put c.dm.mr4 k 0 code.val
                                                         hot := putBit c.dm.hot k false } } : Core).chooseMult k) ∧
        (code = 3 → (t.core sd).dm = c.dm ∧
          (t.core sd).rates.any (fun m => decide (m.src = 420 + ch.val) && decide (m.kind = 3)) = true) ∧
        (code = 4 → bitOf (t.core sd).dm.hot k = true ∧ mult (t.core sd) = 2 ∧ c.reports (t.core sd) (424 + ch) 3 rank) ∧
        ({ c with dm := (t.core sd).dm } : Core).onlySlotsAndReports (t.core sd) [Reg.dram_repay_batches])))

/-- Out of PORST_N: an unsupported request is answered with UR and counted; its error and those that follow stand in the AER status;
malformed TLPs and poisoned writes are counted and reported by kind 3 of device source 13; an unexpected completion is counted.
The link comes up with its speed and width; a reset of the host port takes it down, resets every function, and reports kind 2 of
source 13 for a link that was up, but for a hot reset. An FLR gives a function its reset state, clears what it has pending, and
begins the reset of its vport; a physical function's takes all virtual functions' along. With the link up, a configuration write
sets its field, a table write its word, unless the side is unavailable to a virtual function, and pending vectors that may now be
sent are. Where the spec leaves a point open, the model's own choice is in log entries 44 and 54. -/
def Obligations.TheHostLinkCommandsTakeEffect : Prop :=
  (∀ (sd : SideId) (fn : Fin 64) (s : State), s.plant.dev.porst = false →
    let d := s.plant.dev
    let aer (t : Plant) (ids : List Nat) (bit : Nat) (slots : List Nat) : Prop :=
      (∀ i ∈ ids, SMap.getD t.dev.aer i 0 = putBit (SMap.getD d.aer i 0) bit true) ∧
      (∀ i, i ∉ ids → SMap.getD t.dev.aer i 0 = SMap.getD d.aer i 0) ∧ ({ d with aer := t.dev.aer } : Dev).onlySlotsAndReports t.dev slots
    let said (t : Plant) (kind : Nat) : Prop := (⟨13, kind, 0, d.aon, d.aon⟩ : FaultMsg) ∈ t.dev.faultQ ∨ 64 ≤ t.dev.faultQ.length
    Completes (.pcieUnsupportedRequest sd fn) s (fun t => s.plant.sameMemories t ∧ t.side sd.other = s.plant.side sd.other ∧
      d.counts t.dev Reg.pcie_ur_sent 1 ∧ aer t [routingId sd fn] 20 [Reg.pcie_ur_sent] ∧
      (t.core sd).out = .cpl (routingId sd fn) 1 :: (s.core sd).out ∧
      ({ s.core sd with out := (t.core sd).out } : Core).onlySlots (t.core sd) []) ∧
    Completes .pcieMalformedTlp s (fun t => s.plant.onlyDev t ∧ d.counts t.dev Reg.pcie_malformed 1 ∧ said t 3 ∧
      aer t [0, 1] 18 [Reg.pcie_malformed]) ∧
    Completes .pciePoisonedWrite s (fun t => s.plant.onlyDev t ∧ d.counts t.dev Reg.pcie_poisoned_rx 1 ∧ said t 3 ∧
      aer t [0, 1] 12 [Reg.pcie_poisoned_rx]) ∧
    Completes .pcieUnexpectedCpl s (fun t => s.plant.onlyDev t ∧ d.counts t.dev Reg.pcie_unexpected_cpl 1 ∧
      aer t [0, 1] 16 [Reg.pcie_unexpected_cpl]) ∧
    (∀ (speed : Fin 5) (width : Fin 9), d.vddOff = false →
      Completes (.pcieLinkUp speed width) s (fun t => s.plant.onlyDev t ∧ t.dev.rd Reg.link_speed = speed.val ∧
        t.dev.rd Reg.link_width = width.val ∧
        ({ d with linkUp := true, perst := false } : Dev).onlySlots t.dev [Reg.link_speed, Reg.link_width])) ∧
    (∀ cause : Fin 3, Completes (.hostPortReset cause) s (fun t => s.plant.sameMemories t ∧ t.dev.linkUp = false ∧
      t.dev.rd Reg.link_speed = 0 ∧ t.dev.rd Reg.link_width = 0 ∧ t.dev.perst = (decide (cause = 0) || d.perst) ∧
      (t.core .a).fns = [] ∧ (t.core .b).fns = [] ∧ (d.linkUp = true → cause ≠ 1 → said t 2)))) ∧
  (∀ (sd : SideId) (fn : Fin 64) (s : State), s.plant.dev.porst = false →
    let c := s.core sd
    (fn ≠ 0 → Completes (.flr sd fn) s (fun t => s.plant.sameMemories t ∧ t.side sd.other = s.plant.side sd.other ∧
      (t.core sd).rd (Reg.vf_refusal_record fn) = 0 ∧ (t.core sd).pfn fn = FnDyn.zero ∧
      (∀ m, m ≠ fn.val → (t.core sd).pfn m = c.pfn m) ∧
      (c.alive = true → (t.core sd).rd (Reg.vport_state fn) = 2 ∧ (t.core sd).rd (Reg.vport_ctl fn) = 1) ∧
      (c.alive = false →
        ({ c with fns := (t.core sd).fns } : Core).onlySlots (t.core sd) [Reg.vf_refusal_record fn]) ∧
      SMap.find? t.dev.pend (2 + 64 * sd.num + fn.val) = none ∧
      ({ s.plant.dev with pend := t.dev.pend, snaps := t.dev.snaps } : Dev).onlySlotsAndReports t.dev [])) ∧
    Completes (.flr sd 0) s (fun t => s.plant.sameMemories t ∧ t.side sd.other = s.plant.side sd.other ∧ (t.core sd).fns = [] ∧
      (∀ k, k < 16 → t.dev.rd (Reg.aperture_object (16 * sd.num + k)) = 0 ∧ t.dev.rd (Reg.aperture_base (16 * sd.num + k)) = 0) ∧
      (c.alive = true → ∀ v ∈ c.created, v = 0 ∨ c.hostPlaced v = true → (t.core sd).rd (Reg.vport_state v) = 2) ∧
      ({ s.plant.dev with pend := t.dev.pend, snaps := t.dev.snaps } : Dev).onlySlotsAndReports t.dev
        ((if sd.num = 0 then Reg.refusal_record_pf0 else Reg.refusal_record_pf1) ::
         ((List.range 16).map (fun k => Reg.aperture_object (16 * sd.num + k)) ++
          (List.range 16).map (fun k => Reg.aperture_base (16 * sd.num + k)))))) ∧
  (∀ (sd : SideId) (fn : Fin 64) (field : CfgField) (v : BitVec 64) (s : State), s.plant.dev.porst = false → s.plant.dev.linkUp = true →
    let c := s.core sd
    let d := s.plant.dev
    let on := decide (v.toNat % 2 = 1)
    let id := routingId sd fn
    let old := SMap.getD d.aer id 0
    (field = .aerStatus → Completes (.pcieConfigWrite sd fn field v) s (fun t => s.plant.onlyDev t ∧
      SMap.getD t.dev.aer id 0 = old - (old &&& v.toNat) ∧ (∀ i, i ≠ id → SMap.getD t.dev.aer i 0 = SMap.getD d.aer i 0) ∧
      ({ d with aer := t.dev.aer } : Dev).onlySlots t.dev [])) ∧
    (field ≠ .aerStatus → Completes (.pcieConfigWrite sd fn field v) s (fun t =>
      let g := (t.core sd).pfn fn
      s.plant.onlyCore t sd ∧
      (field = .busMaster → g.bme = on) ∧ (field = .msixEnable → g.msixEnable = on) ∧ (field = .msixMask → g.msixMaskAll = on) ∧
      (field = .vfEnable → fn = 0 → g.vfEnable = on) ∧
      (field = .powerState → v.toNat = 0 ∨ v.toNat = 3 → g.d3hot = decide (v.toNat = 3)) ∧
      (field = .maxPayload → v.toNat < 3 → g.maxPayload = v.toNat) ∧ (field = .maxReadRequest → v.toNat < 6 → g.maxRead = v.toNat) ∧
      (field = .numVfs → fn = 0 → v.toNat < 64 → (c.pfn 0).vfEnable = false → g.numVfs = v.toNat) ∧
      (field = .ecrcGenerate → g.ecrcGen = on) ∧ (field = .ecrcCheck → g.ecrcCheck = on) ∧
      (∀ i : Fin 3, field = .bar i → barBytes fn i ≠ 0 →
        SMap.getD g.bars i 0 = v.toNat / barBytes fn i * barBytes fn i) ∧
      (∀ m, m ≠ fn.val → field ≠ .vfEnable ∨ on = true ∨ fn ≠ 0 → (t.core sd).pfn m = c.pfn m) ∧
      (field = .vfEnable → fn = 0 → on = false → ∀ m, m ≠ 0 → (t.core sd).pfn m = FnDyn.zero) ∧
      ({ c with fns := (t.core sd).fns, out := (t.core sd).out } : Core).onlySlots (t.core sd) []))) ∧
  (∀ (sd : SideId) (fn entry : Fin 64) (word : Fin 4) (v : BitVec 32) (s : State), s.plant.dev.porst = false → s.plant.dev.linkUp = true →
    let c := s.core sd
    (entry.val < (if fn = 0 then 64 else 4) → fn = 0 ∨ c.noAccess = false →
      Completes (.msixTableWrite sd fn entry word v) s (fun t => s.plant.onlyCore t sd ∧
        SMap.getD ((t.core sd).pfn fn).table (4 * entry.val + word.val) (if word = 3 then 1 else 0) =
          (if word = 3 then v.toNat % 2 else if word = 0 then v.toNat / 4 * 4 else v.toNat) ∧
        (∀ m, m ≠ fn.val → (t.core sd).pfn m = c.pfn m) ∧
        ({ c with fns := (t.core sd).fns, out := (t.core sd).out } : Core).onlySlots (t.core sd) [])) ∧
    (fn ≠ 0 → c.noAccess = true → Completes (.msixTableWrite sd fn entry word v) s (fun t => s.plant.onlyCore t sd ∧
      (t.core sd).rd (Reg.vf_refusal_record fn) = refusalRecord (c.rd (Reg.vf_refusal_record fn)) 0 0 .sideUnavailable true % 2 ^ 64 ∧
      c.onlySlotsAndReports (t.core sd) [Reg.vf_refusal_record fn])))

/-- A vport's owner may write: a tail that moves forward within its ring is taken; a consumer head within the records held is taken,
returns as many credits and arms its ring. On a running side: a good host descriptor for which the vport's meter has tokens is
fetched into a job with its staging buffer, and takes them and a credit; its read's data stages it; an error or a timeout ends it
with status 3 and is counted, and a read of a vport in reset ends flushed, with status 1; an ended job's completion is written to
its ring for the host, and its credit moves on; a stamp that has not come after 1 ms is waited for no more. A host delivery writes
its buffer and its record, or with an uncorrectable cell drops the frame in sc_drop_ecc. IRQ_DELAY_EXPIRY of an armed ring disarms
it and sends its vector. Where the spec leaves a point open, the model's own choice is in log entries 42, 43, 44 and 55. -/
def Obligations.VportEnginesMoveFrames : Prop :=
  (∀ (q : Requester) (sd : SideId) (v : Fin 64) (n : BitVec 32) (r : Ring) (s : State), (s.core sd).takesDoorbells v = true →
    let c := s.core sd
    let x := n.toNat
    (s.plant.mayWriteSide q sd (Reg.tx_tail v) = true → gap x (c.rd (Reg.tx_tail v)) < 2 ^ 31 →
      gap x (c.rd (Reg.tx_head v)) ≤ c.ringSize v 20 →
      Completes (.txTailWrite q sd v n) s (fun t => s.plant.wroteSide t sd ∧ (t.core sd).rd (Reg.tx_tail v) = x ∧
        c.onlySlots (t.core sd) [Reg.tx_tail v])) ∧
    (s.plant.mayWriteSide q sd (Reg.fill_tail v) = true → gap x (c.rd (Reg.fill_tail v)) < 2 ^ 31 →
      gap x (c.rd (Reg.fill_head v)) ≤ c.ringSize v 12 →
      Completes (.fillTailWrite q sd v n) s (fun t => s.plant.wroteSide t sd ∧ (t.core sd).rd (Reg.fill_tail v) = x ∧
        c.onlySlots (t.core sd) [Reg.fill_tail v])) ∧
    (let k := gap x (c.rd (r.head v))
     s.plant.mayWriteSide q sd (r.head v) = true → k ≤ c.ringHeld r v → ((c.vp v).times r).drop k = [] →
      Completes (.consumerHeadWrite q sd v r n) s (fun t => s.plant.wroteSide t sd ∧ (t.core sd).rd (r.head v) = x ∧
        (t.core sd).rd (Reg.credits_unreturned v) = c.rd (Reg.credits_unreturned v) - k ∧
        (t.core sd).vp v = { (c.vp v).setTimes r [] with armed := putBit (c.vp v).armed r.num true } ∧
        ({ c with vps := (t.core sd).vps } : Core).onlySlots (t.core sd) [r.head v, Reg.credits_unreturned v]))) ∧
  (∀ (sd : SideId) (v : Fin 64) (r : Ring) (s : State), (s.core sd).alive = true →
    let c := s.core sd
    ∀ (u : Nat) (l : List Nat), (c.vp v).times r = u :: l → bitOf (c.vp v).armed r.num = true →
      let d := (c.advanceTo (u + nsTicks (c.rd (Reg.irq_delay_ns v)))).modVp v (fun y => { y with armed := putBit y.armed r.num false })
      Completes (.irqDelayExpiry sd v r) s (fun t => s.plant.onlyCore t sd ∧ bitOf ((t.core sd).vp v).armed r.num = false ∧
        (d.vportIrq v r.num).onlySlots (t.core sd) [] ∧
        (c.hostPlaced v = true → (c.pfn v).msixEnable = true → (c.pfn v).master = true → (c.pfn v).masked r.num = false →
          (t.core sd).out = .msix v r.num :: c.out))) ∧
  (∀ (sd : SideId) (v : Fin 64) (desc : Octets) (s : State), (s.core sd).alive = true →
    let c := s.core sd
    let w := leNat (padTo 32 desc)
    let len := bits w 191 176
    c.rd (Reg.vport_state v) = 1 → c.enginesRun = true → 0 < c.creditsFree v → c.rd (Reg.tx_head v) ≠ c.rd (Reg.tx_tail v) →
    c.mayWrite v = true → c.hostPlaced v = true → c.readsOut < 256 → 14 ≤ len → len ≤ 9212 →
    let m := if c.rd (Reg.tx_meter v) < 2048 then c.txMeter (c.rd (Reg.tx_meter v)) (len + 4) else (c, true)
    m.2 = true →
    c.windowOk v (bits w 255 192) len = true →
    ∀ pool, c.poolFor (c.rd (Reg.tx_pool v)) len 8 = some pool → bitOf (c.poolAlloc pool v).2 63 = false →
      let d := (m.1.poolAlloc pool v).1
      Completes (.txDescriptorFetch ⟨sd, []⟩ v desc) s (fun t => s.plant.onlyCore t sd ∧
        (t.core sd).rd (Reg.tx_head v) = (d.rd (Reg.tx_head v) + 1) % 2 ^ 32 ∧
        (t.core sd).rd (Reg.credits_in_flight v) = (d.rd (Reg.credits_in_flight v) + 1) % 2 ^ 64 ∧
        (∃ j, (t.core sd).txJobs = c.txJobs ++ [j] ∧ j.v = v.val ∧ j.addr = bits w 255 192 ∧ j.len = len ∧ j.tag = bits w 175 160 ∧
          j.tsReq = bitOf w 159 ∧ j.keep = bitOf w 158 ∧ j.host = true ∧ j.state = 0 ∧ j.handle = (c.poolAlloc pool v).2 ∧
          j.gen = c.rd (Reg.generation v)) ∧
        ({ d with txJobs := (t.core sd).txJobs } : Core).onlySlots (t.core sd) [Reg.tx_head v, Reg.credits_in_flight v])) ∧
  (∀ (sd : SideId) (v : Fin 64) (outcome : Fin 3) (o : Octets) (j : TxJob) (s : State), (s.core sd).alive = true →
    let c := s.core sd
    let e := c.advanceTo (j.since + msTicks (s.plant.dev.rd Reg.pcie_cpl_timeout_ms))
    c.reading v = some j →
    (outcome = 0 → c.rd (Reg.vport_state v) ≠ 2 → Completes (.dmaReadCompletion sd v outcome o) s (fun t => s.plant.onlyCore t sd ∧
      ({ c with txJobs := c.txJobs.map (fun x => if x = j then { j with state := 1, data := padTo j.len o } else x) } : Core).onlySlots
        (t.core sd) [])) ∧
    (outcome ≠ 0 → c.rd (Reg.vport_state v) ≠ 2 → Completes (.dmaReadCompletion sd v outcome o) s (fun t => s.plant.onlyCore t sd ∧
      c.counts (t.core sd) (Reg.host_dma_errors v) 1 ∧
      (t.core sd).rates.any (fun m => decide (m.src = 434) && decide (m.kind = if outcome = 1 then 1 else 3)) = true ∧
      (c.readFailed j (if outcome = 1 then 1 else 3)).onlySlots (t.core sd) [])) ∧
    (c.rd (Reg.vport_state v) = 2 → Completes (.dmaReadCompletion sd v outcome o) s (fun t => s.plant.onlyCore t sd ∧
      c.counts (t.core sd) (Reg.flushed_descriptors v) 1 ∧ (c.flushJob j).onlySlots (t.core sd) [])) ∧
    Completes (.pcieCplTimeout sd v) s (fun t => s.plant.sameMemories t ∧ t.side sd.other = s.plant.side sd.other ∧
      s.plant.dev.counts t.dev Reg.pcie_cpl_timeouts 1 ∧ bitOf (SMap.getD t.dev.aer (routingId sd v) 0) 14 = true ∧
      ({ s.plant.dev with aer := t.dev.aer } : Dev).onlySlotsAndReports t.dev [Reg.pcie_cpl_timeouts] ∧
      (c.rd (Reg.vport_state v) ≠ 2 → e.counts (t.core sd) (Reg.host_dma_errors v) 1 ∧ (e.readFailed j 2).onlySlots (t.core sd) []) ∧
      (c.rd (Reg.vport_state v) = 2 → e.counts (t.core sd) (Reg.flushed_descriptors v) 1 ∧ (e.flushJob j).onlySlots (t.core sd) []))) ∧
  (∀ (sd : SideId) (v : Fin 64) (j : TxJob) (s : State), (s.core sd).alive = true →
    let c := s.core sd
    let i := c.rd (Reg.txc_tail v)
    (c.txJobs.find? (fun x => decide (x.v = v.val)) = some j → (∀ x ∈ c.txJobs, x.v = v.val → x.state ≠ 2) → j.state = 3 →
      j.gen = c.rd (Reg.generation v) → j.tsPort = 0 → c.rd (Reg.vport_state v) ≠ 5 → c.ringHeld .txc v < c.ringSize v 16 →
      c.hostPlaced v = true → (c.pfn v).master = true → c.rd (Reg.credits_unreturned v) + 1 < 2 ^ 64 →
      Completes (.txCompletion ⟨sd, []⟩ v) s (fun t => s.plant.onlyCore t sd ∧ (t.core sd).txJobs = c.txJobs.erase j ∧
        (t.core sd).rd (Reg.txc_tail v) = (i + 1) % 2 ^ 32 ∧
        (t.core sd).rd (Reg.credits_in_flight v) = c.rd (Reg.credits_in_flight v) - 1 ∧
        (t.core sd).rd (Reg.credits_unreturned v) = c.rd (Reg.credits_unreturned v) + 1 ∧
        (∃ l, (t.core sd).out = l ++ .hostWrite v (c.rd (Reg.txc_ring_base v) + i % c.ringSize v 16 * 32)
          (Completion.octets ⟨j.addr, if j.tsValid then j.ts else 0, j.len, j.tag, j.gen, 0, true, 0, j.status, j.tsValid, j.noTs⟩) ::
          c.out ∧ ∀ x ∈ l, x = .msix v 1) ∧
        ({ c with txJobs := (t.core sd).txJobs, out := (t.core sd).out, vps := (t.core sd).vps, fns := (t.core sd).fns } : Core).onlySlots
          (t.core sd) [Reg.txc_tail v, Reg.credits_in_flight v, Reg.credits_unreturned v])) ∧
    (c.txJobs.find? (fun x => decide (x.v = v.val) && decide (x.state = 2) && x.tsWait) = some j →
      Completes (.txStampTimeout sd v) s (fun t => s.plant.onlyCore t sd ∧
        ({ c.advanceTo (j.since + msTicks 1) with
            txJobs := c.txJobs.map (fun x => if x = j then { j with tsWait := false } else x) } : Core).onlySlots (t.core sd) []))) ∧
  (∀ (sd : SideId) (v : Fin 64) (k : Fin 36) (j : RxJob) (s : State), (s.core sd).alive = true →
    let c := s.core sd
    let d : Side := { s.plant.side sd with r := c.emit (.hostWrite v j.addr j.buffer) }
    c.rd (Reg.vport_state v) ≠ 5 → c.rxJobs.find? (fun x => decide (x.v = v.val) && decide (x.host = true)) = some j →
    ((c.pfn v).master = true → (d.endDelivery j).r.rd Reg.power_state = c.rd Reg.power_state →
      Completes (.hostDeliveryComplete sd v ⟨0, k⟩) s (fun t => s.plant.onlySide t sd ∧ (t.core sd).rxJobs = c.rxJobs.erase j ∧
        (t.core sd).copy j.copy = none ∧ .hostWrite v j.addr j.buffer ∈ (t.core sd).out ∧
        (t.side sd).spm = (d.endDelivery j).spm ∧ (t.side sd).dram = (d.endDelivery j).dram ∧
        (d.endDelivery j).r.onlySlots (t.core sd) [])) ∧
    (∀ x, c.copy j.copy = some x →
      let e := c.deliveryEcc j ⟨2, k⟩
      (e.abandon j Reg.sc_drop_ecc).rd Reg.power_state = c.rd Reg.power_state →
      Completes (.hostDeliveryComplete sd v ⟨2, k⟩) s (fun t => s.plant.onlyCore t sd ∧ (t.core sd).rxJobs = c.rxJobs.erase j ∧
        (t.core sd).copy j.copy = none ∧ c.counts (t.core sd) Reg.sc_drop_ecc 1 ∧
        c.reports (t.core sd) (320 + x.target.slice) 2 (SMap.getD x.cells k.val 0) ∧
        (e.abandon j Reg.sc_drop_ecc).onlySlots (t.core sd) [])))

/-- By a requester that may write vport_ctl: creation of a vport that passes the checks opens it in state 1 with generation 1 and its
indices and counters 0; a reset or a destroy puts it into state 2 and discards its queued frames, and one of an absent vport is to
leave it absent; a freeze puts it into state 3, a thaw of a frozen one into state 1 with a new generation when it was changed; a
save stores its image and check in vport_state_image; a restore of a good image makes it frozen with the generation after the
image's and is reported. On a running side a reset without items ends in state 1, or 0 for a destroy, with no buffer left to the
vport, and a freeze ends in state 4 when no credit is in flight or at its deadline; both are reported by E+432. Where the spec
leaves a point open, the model's own choice is in log entries 43 and 58. -/
def Obligations.VportsAreMadeAndEnded : Prop :=
  (∀ (q : Requester) (sd : SideId) (v : Fin 64) (s : State), s.plant.mayWriteSide q sd (Reg.vport_ctl v) = true →
    let c := s.core sd
    let st := c.rd (Reg.vport_state v)
    let indices := [Reg.tx_tail v, Reg.tx_head v, Reg.fill_tail v, Reg.fill_head v, Reg.rx_tail v, Reg.rx_head v, Reg.txc_tail v,
      Reg.txc_head v, Reg.stale_tail v, Reg.stale_head v]
    let zeros := indices ++ [Reg.credits_in_flight v, Reg.credits_unreturned v] ++
      (List.range 13).map (fun k => Reg.vp_vport_frames_sent v + k)
    let rev := s.plant.dev.rd Reg.silicon_revision / 256 % 256
    (c.fieldHolds = false → c.vportChecks v = .ok → Completes (.vportCreate q sd v) s (fun t => s.plant.wroteSide t sd ∧
      (t.core sd).rd (Reg.vport_state v) = 1 ∧ (t.core sd).rd (Reg.vport_ctl v) = 2 ∧ (t.core sd).rd (Reg.generation v) = 1 ∧
      (∀ k ∈ zeros, (t.core sd).rd k = 0) ∧ ((t.core sd).vp v).armed = 7 ∧
      ({ c with vps := (t.core sd).vps, reclaimed := c.reclaimed.filter (fun o => decide (o ≠ v.val)) } : Core).onlySlots (t.core sd)
        (zeros ++ [Reg.vport_state v, Reg.vport_ctl v, Reg.generation v]))) ∧
    (∀ x ∈ [(Instr.vportReset q sd v, false), (Instr.vportDestroy q sd v, true)], (x.2 = true → v ≠ 0) →
      Completes x.1 s (fun t => s.plant.wroteSide t sd ∧ (t.core sd).rd (Reg.vport_state v) = 2 ∧
        (t.core sd).rd (Reg.vport_ctl v) = 1 ∧ (x.2 = true ∨ st = 0 → ((t.core sd).vp v).destroying = true) ∧
        (∀ y ∈ c.copies, y.target = .vport v → y.held = false → y.mgmt = false → y.dead = false →
          ((t.core sd).copy y.id).all (fun z => z.dead) = true) ∧
        (c.vportReset v x.2).onlySlots (t.core sd) [])) ∧
    (st = 1 → Completes (.vportFreeze q sd v) s (fun t => s.plant.wroteSide t sd ∧ (t.core sd).rd (Reg.vport_state v) = 3 ∧
      (t.core sd).rd (Reg.vport_ctl v) = 1 ∧ (t.core sd).vp v = { c.vp v with freezeAt := c.now, changed := false } ∧
      ({ c with vps := (t.core sd).vps } : Core).onlySlots (t.core sd) [Reg.vport_state v, Reg.vport_ctl v])) ∧
    (st = 4 → Completes (.vportThaw q sd v) s (fun t => s.plant.wroteSide t sd ∧ (t.core sd).rd (Reg.vport_state v) = 1 ∧
      (t.core sd).rd (Reg.vport_ctl v) = 2 ∧
      (t.core sd).rd (Reg.generation v) = (if (c.vp v).changed then (c.rd (Reg.generation v) + 1) % 2 ^ 32 else c.rd (Reg.generation v)) ∧
      ({ c with vps := (t.core sd).vps } : Core).onlySlots (t.core sd) [Reg.vport_state v, Reg.vport_ctl v, Reg.generation v])) ∧
    (st = 4 →
      let b := c.imageBody v rev
      Completes (.vportSave q sd v) s (fun t => s.plant.wroteSide t sd ∧ (t.core sd).rd (Reg.vport_ctl v) = 2 ∧
        (t.core sd).tab wVport v = beNat (b ++ sha3_256 b) ∧
        (c.setTab wVport v (beNat (b ++ sha3_256 b))).onlySlots (t.core sd) [Reg.vport_ctl v])) ∧
    (let o := toBe 512 (c.tab wVport v)
     let d := (c.wr (Reg.restore_detail v) 0).imageObjects v o
     c.fieldHolds = false → v ≠ 0 → st = 0 → imageDetail o rev = 0 → d.vportChecks v = .ok →
      Completes (.vportRestore q sd v) s (fun t => s.plant.wroteSide t sd ∧ (t.core sd).rd (Reg.vport_state v) = 4 ∧
        (t.core sd).rd (Reg.vport_ctl v) = 2 ∧ (t.core sd).rd (Reg.restore_detail v) = 0 ∧
        (t.core sd).rd (Reg.generation v) = (beNat (slice o 8 4) + 1) % 2 ^ 32 ∧ c.reports (t.core sd) 432 3 v ∧
        (d.imageState v o).onlySlotsAndReports (t.core sd) [Reg.vport_ctl v]))) ∧
  (∀ (sd : SideId) (v : Fin 64) (s : State), (s.core sd).alive = true →
    let c := s.core sd
    let d := (((c.clearIndices v).wr (Reg.credits_unreturned v) 0).wr (Reg.credits_in_flight v) 0).scanOwner v
    let e := c.advanceTo ((c.vp v).freezeAt + usTicks (c.rd (Reg.freeze_deadline_us v)))
    (c.rd (Reg.vport_state v) = 2 → (∀ j ∈ c.rxJobs, j.v ≠ v.val) → (∀ j ∈ c.txJobs, j.v ≠ v.val) →
      Completes (.vportResetComplete sd v) s (fun t => s.plant.onlyCore t sd ∧
        (t.core sd).rd (Reg.vport_state v) = (if (c.vp v).destroying then 0 else 1) ∧ (t.core sd).rd (Reg.vport_ctl v) = 2 ∧
        (∀ k, SMap.find? (t.core sd).poolUsed k = some 1 → SMap.getD (t.core sd).poolTags k 0 ≠ v.val + 1) ∧
        c.reports (t.core sd) 350 1 v ∧ c.reports (t.core sd) 432 1 v ∧
        ({ d with vps := (t.core sd).vps, out := (t.core sd).out, fns := (t.core sd).fns, imsic := (t.core sd).imsic } : Core).onlySlotsAndReports
          (t.core sd) [Reg.vport_state v, Reg.vport_ctl v, Reg.msi_discarded])) ∧
    (∀ x ∈ [(Instr.freezeComplete sd v, c, c.rd (Reg.credits_in_flight v) = 0),
            (Instr.freezeDeadline sd v, e, c.rd (Reg.freeze_deadline_us v) ≠ 0)],
      c.rd (Reg.vport_state v) = 3 → x.2.2 →
      Completes x.1 s (fun t => s.plant.onlyCore t sd ∧ (t.core sd).rd (Reg.vport_state v) = 4 ∧
        (t.core sd).rd (Reg.vport_ctl v) = 2 ∧ (t.core sd).rd (Reg.in_flight_left v) = c.rd (Reg.credits_in_flight v) ∧
        x.2.1.reports (t.core sd) 432 2 v ∧
        ({ x.2.1 with out := (t.core sd).out, fns := (t.core sd).fns, imsic := (t.core sd).imsic } : Core).onlySlotsAndReports
          (t.core sd) [Reg.vport_state v, Reg.vport_ctl v, Reg.in_flight_left v, Reg.msi_discarded])))

/-- By a requester that may write the object: a snapshot that none precedes latches every counter of the side, the crossing's and the
two gauges, with its time, and counter_snapshot reads 1. On a running side its end puts the latched counters into the window and
the terms of the identity into their objects, whose balance closes the sum modulo 2^64; it reads 2 and snapshot_seq counts. A
clear of 1 leaves every counter of the set 0, the crossing's too; a clear of 2 the counts of frer_counts, stream_filter_counts and
meter_state. Where the spec leaves a point open, the model's own choice is in log entry 45. -/
def Obligations.CountersAreLatchedAndCleared : Prop :=
  (∀ (q : Requester) (sd : SideId) (s : State), s.plant.mayWriteSide q sd Reg.counter_snapshot = true →
    let c := s.core sd
    let cross := match sd with | .a => Reg.crossing_drops_ab | .b => Reg.crossing_drops_ba
    c.rd Reg.counter_snapshot ≠ 1 → Completes (.counterSnapshot q sd) s (fun t => s.plant.wroteSide t sd ∧
      (t.core sd).rd Reg.counter_snapshot = 1 ∧ (t.core sd).rd Reg.snapshot_time = c.sideTime % 2 ^ 64 ∧
      (∀ k, snapKey k = true → k ≠ crossKey → k ≠ Reg.frames_queued → k ≠ Reg.frames_in_flight →
        SMap.getD (t.core sd).snapLatch k 0 = c.rd k) ∧
      SMap.getD (t.core sd).snapLatch crossKey 0 = s.plant.dev.rd cross ∧
      SMap.getD (t.core sd).snapLatch Reg.frames_queued 0 = c.framesQueued ∧
      SMap.getD (t.core sd).snapLatch Reg.frames_in_flight 0 = c.framesInFlight ∧
      ({ c with snapLatch := (t.core sd).snapLatch } : Core).onlySlots (t.core sd) [Reg.counter_snapshot, Reg.snapshot_time])) ∧
  (∀ (sd : SideId) (s : State), (s.core sd).alive = true →
    let c := s.core sd
    let terms := snapTerms c.snapLatch
    c.rd Reg.counter_snapshot = 1 → Completes (.snapshotWritten sd) s (fun t => s.plant.onlyCore t sd ∧
      let e := t.core sd
      e.rd Reg.counter_snapshot = 2 ∧ e.rd Reg.snapshot_seq = (c.rd Reg.snapshot_seq + 1) % 2 ^ 32 ∧ e.snapLatch = [] ∧
      (∀ k, snapKey k = true → SMap.getD e.snapImage k 0 = SMap.getD c.snapLatch k 0) ∧
      (∀ x ∈ terms, e.rd x.1 = x.2 % 2 ^ 64) ∧
      (e.rd Reg.identity_balance + e.rd Reg.port_frames_transmitted + e.rd Reg.vport_frames_delivered + e.rd Reg.drops_total +
        e.rd Reg.frames_queued + e.rd Reg.frames_in_flight) % 2 ^ 64 =
      (e.rd Reg.port_frames_received + e.rd Reg.vport_frames_sent + e.rd Reg.copies_created) % 2 ^ 64 ∧
      ({ c with snapLatch := [], snapImage := e.snapImage } : Core).onlySlots e
        ([Reg.counter_snapshot, Reg.snapshot_seq] ++ terms.map (fun x => x.1)))) ∧
  (∀ (q : Requester) (sd : SideId) (s : State), s.plant.mayWriteSide q sd Reg.counters_clear = true →
    let c := s.core sd
    let cross := match sd with | .a => Reg.crossing_drops_ab | .b => Reg.crossing_drops_ba
    Completes (.countersClear q sd) s (fun t => s.plant.sameMemories t ∧
      (s.plant.dev.joined = false → t.side sd.other = s.plant.side sd.other) ∧
      (t.core sd).rd Reg.counters_clear = 2 ∧ (∀ k, snapKey k = true → (t.core sd).rd k = 0) ∧
      (∀ k, snapKey k = false → k ≠ Reg.counters_clear → (t.core sd).rd k = c.rd k) ∧
      ({ c with regs := (t.core sd).regs } : Core).onlySlots (t.core sd) [] ∧ t.dev.rd cross = 0 ∧
      ∀ k, k ≠ cross → k ≠ Reg.host_config_writes → t.dev.rd k = s.plant.dev.rd k) ∧
    (s.plant.tablesRising = true → Completes (.windowCountersClear q sd) s (fun t => s.plant.wroteSide t sd ∧
      (t.core sd).rd Reg.counters_clear = 2 ∧ (∀ e, e < 1024 → (t.core sd).tab wFrerCnt e = 0) ∧
      (∀ e, e < 4096 → (t.core sd).tab wFilterCnt e = b2n (bitOf (c.tab wFilterCnt e) 319) * 2 ^ 319) ∧
      (t.core sd).meters = c.meters.map (fun x => (x.1, { x.2 with green := 0, yellow := 0, red := 0 })) ∧
      (∀ j, j / 2 ^ 32 ≠ wFrerCnt → j / 2 ^ 32 ≠ wFilterCnt → (t.core sd).tabAt j = c.tabAt j) ∧
      ({ c with tabs := (t.core sd).tabs, meters := (t.core sd).meters } : Core).onlySlots (t.core sd) [Reg.counters_clear])))

/-- On a running side with one message waiting: it is counted and classified; its status entry takes its fields; with reaction bit 0
it is logged under the next log_seq; it fills an empty first-fault record when its class reaches ffr_min_class; a state it reports
is live while it holds; bit 1 sets the pending bit and asserts the source at the APLIC where it is routed there; bit 2 fences its
unit, bit 3 degrades a Normal side, bit 4 stops the side, bit 5 drives the pair, each held by the source. The device collector
does the same, without fence and degrade, to both sides. The findings that come with FAULT_MESSAGE join the collectors' queues
first, as their sources send them: an uncorrectable word of the Owl's memory ends the Owl's services, a fault of the PCIe core the
link. A lost heartbeat, a pair mismatch, a stalled epoch and the Owl's watchdog are reported by their sources; a lapsed promotion
is no longer live. Where the spec leaves a point open, the model's own choice is in log entries 46, 47 and 65. -/
def Obligations.CollectorsClassifyAndReact : Prop :=
  (∀ (sd : SideId) (s : State) (m : FaultMsg), (s.core sd).alive = true → (s.core sd).faultQ = [m] →
    let c := s.core sd
    let e := m.src - c.eBase
    let cfg := c.tab wFaultCfg e
    let r := classify cfg (c.tab wFaultStat e) (m.clock / 3) m.kind
    let x : Classed := ⟨m, e, r.2.1, r.2.2.1, r.2.2.2⟩
    let a := reactionByte cfg x.cls
    let y := recordStatus r.1 x
    let seq := (c.rd Reg.log_seq + 1) % 2 ^ 32
    e < 480 → x.cls ≠ 3 ∨ s.plant.dev.joined = false →
    (a / 4 % 16 = 0 → Completes (.faultMessage ⟨sd, [], []⟩) s (fun t => s.plant.onlyCore t sd ∧
      let d := t.core sd
      c.counts d Reg.collector_messages 1 ∧ d.tab wFaultStat e = (if bitOf a 1 then putBit y 263 true else y) ∧
      (∀ i, i < 480 → i ≠ e → d.tab wFaultStat i = c.tab wFaultStat i) ∧
      (bitOf a 0 = true → d.rd Reg.log_seq = seq ∧
        d.tab wFaultLog ((seq + 255) % 256) = logRecord c.num x false (a % 4) seq (m.clock / 3)) ∧
      (bitOf a 0 = false → d.rd Reg.log_seq = c.rd Reg.log_seq) ∧
      (c.rd Reg.ffr_min_class ≤ x.cls → bitOf (c.rd Reg.ffr_status) 63 = false →
        d.rd Reg.ffr_status = 2 ^ 63 + (if bitOf a 0 then seq else 0) ∧
        d.rdOctets Reg.ffr_record 32 = toBe 32 (logRecord c.num x false (a % 4) (if bitOf a 0 then seq else 0) (m.clock / 3))) ∧
      (stateKind e m.kind = true → c.stateHolds ⟨e, m.kind, x.cls, m.addr⟩ = true → d.live e x.cls = true) ∧
      (bitOf a 1 = false → c.withInterrupts d = c) ∧ (bitOf a 1 = true → bitOf d.aplicIn (e + 1) = bitOf cfg 69) ∧
      (∀ j, j / 2 ^ 32 ≠ wFaultStat → j / 2 ^ 32 ≠ wFaultLog → d.tabAt j = c.tabAt j) ∧
      ({ c.withInterrupts d with tabs := d.tabs } : Core).onlySlotsAndReports d
        [Reg.msi_discarded, Reg.collector_messages, Reg.promotions, Reg.log_seq, Reg.log_overwritten, Reg.ffr_status, Reg.ffr_record,
          Reg.ffr_record + 1, Reg.ffr_record + 2, Reg.ffr_record + 3])) ∧
    (∀ u, bitOf a 2 = true → bitOf a 4 = false → c.fenceUnitOf x = some u → u.1 ≠ 12 → c.fenceStands u = false →
      Completes (.faultMessage ⟨sd, [], []⟩) s (fun t => s.plant.onlyCore t sd ∧ (t.core sd).fenceState u.1 u.2 = 1 ∧
        (⟨u.1, u.2, e, x.cls⟩ ∈ (t.core sd).holds))) ∧
    (bitOf a 3 = true → bitOf a 4 = false → c.rd Reg.side_state = 0 →
      Completes (.faultMessage ⟨sd, [], []⟩) s (fun t => s.plant.onlyCore t sd ∧ (t.core sd).rd Reg.side_state = 1 ∧
        (⟨9, 0, e, x.cls⟩ ∈ (t.core sd).holds))) ∧
    (bitOf a 4 = true → Completes (.faultMessage ⟨sd, [], []⟩) s (fun t => s.plant.onlyCore t sd ∧ (t.core sd).rd Reg.side_state = 2 ∧
      (t.core sd).rd Reg.power_state = 7 ∧ (t.core sd).rd Reg.last_transition = (if c.rd Reg.power_state = 7 then
        c.rd Reg.last_transition else s.plant.dev.aon % 2 ^ 64) ∧ bitOf (t.core sd).pairCauses 2 = true ∧ (t.core sd).ports = [] ∧
      (⟨11, 0, e, x.cls⟩ ∈ (t.core sd).holds))) ∧
    (bitOf a 5 = true → Completes (.faultMessage ⟨sd, [], []⟩) s (fun t => s.plant.onlyCore t sd ∧ bitOf (t.core sd).pairCauses 2 = true ∧
      (⟨10, 0, e, x.cls⟩ ∈ (t.core sd).holds)))) ∧
  (∀ (s : State) (m : FaultMsg) (rest : List FaultMsg), s.plant.dev.porst = false → s.plant.dev.faultQ = m :: rest →
    let d := s.plant.dev
    let cfg := d.tab wDevCfg m.src
    let r := classify cfg (d.tab wDevStat m.src) m.clock m.kind
    let x : Classed := ⟨m, m.src, r.2.1, r.2.2.1, r.2.2.2⟩
    let a := reactionByte cfg x.cls
    let seq := (d.logSeq + 1) % 2 ^ 32
    m.src < 64 → Completes .deviceFaultMessage s (fun t => s.plant.sameMemories t ∧ (∃ l, t.dev.faultQ = rest ++ l) ∧
      (bitOf a 0 = true → t.dev.logSeq = seq ∧ t.dev.tab wDevLog ((seq + 63) % 64) = logRecord 2 x false a seq m.clock) ∧
      (bitOf a 0 = false → t.dev.logSeq = d.logSeq) ∧
      (d.rd Reg.device_ffr_min_class ≤ x.cls → bitOf (d.rd Reg.device_ffr_status) 63 = false →
        t.dev.rd Reg.device_ffr_status = 2 ^ 63 + (if bitOf a 0 then seq else 0)) ∧
      (bitOf a 1 = true → bitOf (t.dev.tab wDevStat m.src) 263 = true) ∧
      (bitOf a 4 = true → ∀ sd, (t.core sd).rd Reg.side_state = 2 ∧ (⟨11, sd.num, m.src, x.cls⟩ ∈ t.dev.holds)) ∧
      (bitOf a 5 = true → ∀ sd, bitOf (t.core sd).pairCauses (if x.cls = 3 then 4 else 2) = true ∧
        (⟨10, sd.num, m.src, x.cls⟩ ∈ t.dev.holds)) ∧
      (bitOf a 1 = false → bitOf a 4 = false → bitOf a 5 = false → s.plant.onlyDev t ∧ t.dev.faultQ = rest ∧
        t.dev.tab wDevStat m.src = recordStatus r.1 x ∧
        ({ d with faultQ := rest, tabs := t.dev.tabs, logSeq := t.dev.logSeq } : Dev).onlySlots t.dev
          [Reg.device_ffr_status, Reg.device_ffr_record, Reg.device_ffr_record + 1, Reg.device_ffr_record + 2,
            Reg.device_ffr_record + 3]))) ∧
  (∀ (m : CollectorTurn) (s : State), (s.core m.side).alive = true →
    let p := ((s.plant.liveDev (fun d => m.shared.foldl Dev.finding d)).owlGone).onCore m.side (fun c => m.found.foldl Core.finding c)
    exec (.faultMessage m) s = exec (.faultMessage ⟨m.side, [], []⟩) { s with plant := p }) ∧
  (∀ (sd : SideId) (a : BitVec 48) (s : State), s.plant.dev.porst = false →
    Completes (.faultMessage ⟨sd, [], [.owlMemory true a]⟩) s (fun t => t.dev.owlDown = true) ∧
    Completes (.faultMessage ⟨sd, [], [.pcieCore]⟩) s (fun t => t.dev.linkUp = false)) ∧
  (∀ (sd : SideId) (e : Fin 480) (pn : Fin 4) (jade : Bool) (s : State),
    let c := s.core sd
    let st := c.tab wFaultStat e
    (c.released = true → Completes (.heartbeatLoss sd) s (fun t => s.plant.onlyCore t sd ∧
      (t.core sd).pairState = (if bitOf c.pairCauses 5 then 5 else if bitOf c.pairCauses 4 then 4 else 3) ∧
      ((⟨11 + c.num, 1, 0, s.plant.dev.aon, s.plant.dev.aon⟩ : FaultMsg) ∈ t.dev.faultQ ∨ 64 ≤ t.dev.faultQ.length) ∧
      ({ c with pairCauses := putBit c.pairCauses 3 true } : Core).onlySlots (t.core sd) [])) ∧
    (c.alive = true → pn ≠ 0 → Completes (.pairReadbackMismatch sd pn) s (fun t => s.plant.onlyCore t sd ∧
      c.reported (t.core sd) 467 1 pn ∧ ({ c with conds := putBits c.conds 5 4 pn } : Core).onlySlotsAndReports (t.core sd) [])) ∧
    (c.alive = true → Completes (.pairReadbackMismatch sd 0) s (fun t => s.plant.onlyCore t sd ∧
      ({ c with conds := putBits c.conds 5 4 0 } : Core).onlySlots (t.core sd) [])) ∧
    (c.alive = true → c.rd (inflightKey (b2n jade)) ≠ 0 → Completes (.stallDetect sd jade) s (fun t => s.plant.onlyCore t sd ∧
      c.reported (t.core sd) 471 1 (b2n jade) ∧ c.onlySlotsAndReports (t.core sd) [])) ∧
    (c.alive = true → bitOf st 262 = true → Completes (.promotionLapse sd e) s (fun t => s.plant.onlyCore t sd ∧
      (t.core sd).tab wFaultStat e = putBit st 262 false ∧ (t.core sd).promotedNow e = false ∧
      ((c.advanceTo (3 * bits st 127 64)).setTab wFaultStat e (putBit st 262 false)).onlySlots (t.core sd) []))) ∧
  (∀ s : State, s.plant.dev.porst = false → Completes .owlWatchdogExpiry s (fun t => s.plant.sameMemories t ∧ t.dev.owlDown = true ∧
    (∀ sd, ({ s.core sd with deaf := true } : Core).onlySlots (t.core sd) []) ∧
    ((⟨9, 1, 0, s.plant.dev.aon, s.plant.dev.aon⟩ : FaultMsg) ∈ t.dev.faultQ ∨ 64 ≤ t.dev.faultQ.length) ∧
    ({ s.plant.dev with owlDown := true } : Dev).onlySlotsAndReports t.dev []))

/-- On a running side a fence that acts completes, and a slice, a rank and a scratchpad bank report it. By a requester that may write
unfence, for a unit of the kind whose fence is complete, on a side that is not Stopped, and for a slice that no middle holds cells
of: the unit is no longer fenced, nothing is held on its behalf, and its effect is that of R524; a rank of a DRAM that serves runs
its training step first. degrade_release with no middle removed and no degrading cause live makes a Degraded or Normal side
Normal; pair_release with no cause live, of the side or the device, returns the pair from state 2 to healthy. Where the spec
leaves a point open, the model's own choice is in log entry 46. -/
def Obligations.FencedUnitsReturn : Prop :=
  (∀ (sd : SideId) (kind : Fin 9) (num : BitVec 16) (s : State), (s.core sd).alive = true →
    let c := s.core sd
    let n := num.toNat
    c.fenceState kind n = 1 → Completes (.fenceComplete sd kind num) s (fun t => s.plant.onlyCore t sd ∧
      (t.core sd).fenceState kind n = 2 ∧
      (kind.val = 3 → c.reported (t.core sd) (320 + n) 5 0) ∧ (kind.val = 5 → c.reported (t.core sd) 429 1 n) ∧
      (kind.val = 7 → c.reported (t.core sd) 395 3 n) ∧
      (kind.val ≠ 3 → kind.val ≠ 5 → kind.val ≠ 7 → (t.core sd).faultQ = c.faultQ) ∧
      ({ c with fences := SMap.insert c.fences (fenceKey kind n) 2 } : Core).onlySlotsAndReports (t.core sd) [])) ∧
  (∀ (q : Requester) (sd : SideId) (num : BitVec 16) (s : State), s.plant.mayWriteSide q sd Reg.unfence = true →
    let c := s.core sd
    let n := num.toNat
    ∀ x ∈ [(Instr.unfencePort q sd num, 1), (.unfenceBank q sd num, 2), (.unfenceSlice q sd num, 3), (.unfenceMiddle q sd num, 4),
        (.unfenceRank q sd num, 5), (.unfenceCorePair q sd num, 6), (.unfenceSpmBank q sd num, 7), (.unfenceVport q sd num, 8)],
    n < unitCount x.2 → c.rd Reg.side_state ≠ 2 → c.fenceState x.2 n = 2 → (x.2 = 3 → c.sliceBusy n = false) →
    Completes x.1 s (fun t => s.plant.wroteSide t sd ∧
      let d := t.core sd
      d.fenceState x.2 n = 0 ∧ (∀ h ∈ d.holds, h.kind ≠ x.2 ∨ h.num ≠ n) ∧ (c.unfenceDo x.2 n).onlySlots d [] ∧
      (x.2 = 1 → bitOf (d.rd Reg.ports_fenced) n = false) ∧ (x.2 = 2 → bitOf d.banksFenced n = false) ∧
      (x.2 = 3 → bitOf (d.rd Reg.slices_fenced) n = false) ∧ (x.2 = 4 → bitOf (d.rd Reg.middles_degraded) n = false) ∧
      (x.2 = 5 → c.rd Reg.dram_state ≠ 2 → bitOf (d.rd Reg.dram_ranks_fenced) n = false) ∧
      (x.2 = 5 → c.rd Reg.dram_state = 2 → d.rd Reg.dram_ranks_fenced = c.rd Reg.dram_ranks_fenced ∧
        (c.rd Reg.fsp_request = 1 ∨ c.rd Reg.fsp_request = 2 → bitOf d.dm.unfenceWait n = true) ∧
        (c.rd Reg.fsp_request ≠ 1 → c.rd Reg.fsp_request ≠ 2 → bitOf d.dm.unfencing n = true ∧
          c.counts d Reg.dram_retrain_steps (popCount 8 (putBit c.dm.unfenceWait n true)))) ∧
      (x.2 = 6 → bitOf d.coresFenced (2 * n) = false ∧ bitOf d.coresFenced (2 * n + 1) = false) ∧
      (x.2 = 7 → bitOf (d.rd Reg.spm_banks_fenced) n = false) ∧
      (x.2 = 8 → bitOf (d.rd Reg.vports_fenced) n = false ∧
        d.rd (Reg.vport_state n) = 2 ∧ d.rd (Reg.vport_ctl n) = 1))) ∧
  (∀ (q : Requester) (sd : SideId) (s : State),
    let c := s.core sd
    (s.plant.mayWriteSide q sd Reg.degrade_release = true → c.rd Reg.middles_degraded = 0 → c.rd Reg.side_state ≠ 2 →
      (∀ h ∈ c.holds, h.kind = 9 → c.liveBut h.src h.cls 9 = false) →
      Completes (.degradeRelease q sd) s (fun t => s.plant.wroteSide t sd ∧ (t.core sd).rd Reg.side_state = 0 ∧
        ({ c with holds := c.holds.filter (fun h => decide (h.kind ≠ 9)) } : Core).onlySlots (t.core sd) [Reg.side_state])) ∧
    (s.plant.mayWriteSide q sd Reg.pair_release = true → c.rd Reg.side_state ≠ 2 → c.pairState = 2 → s.plant.dev.pairLive sd.num = false →
      (∀ h ∈ c.holds, h.kind = 10 → c.liveBut h.src h.cls 10 = false) →
      Completes (.pairRelease q sd) s (fun t => s.plant.wroteSide t sd ∧ (t.core sd).pairState = 1 ∧
        (∀ h ∈ t.dev.holds, h.kind ≠ 10 ∨ h.num ≠ sd.num) ∧
        ({ c with holds := c.holds.filter (fun h => decide (h.kind ≠ 10)), pairCauses := putBit c.pairCauses 2 false } : Core).onlySlots
          (t.core sd) [])))

/-- By a requester that may write the object: a fault_clear of classes of a source, none of them live, clears these sticky bits and
leaves the others; an event_ack clears the source's pending bit, takes its level at the APLIC away, and sends function 0's vector
again when the bit was set, the source is routed to it, another source on that vector is pending and the vector may be sent; an
ffr_clear of a record that is empty or whose source is not live empties it. At the device level the same holds of the device
sources. Where the spec leaves a point open, the model's own choice is in log entries 47 and 65. -/
def Obligations.FaultRecordsAreClearedAndAcknowledged : Prop :=
  (∀ (q : Requester) (sd : SideId) (e : Fin 480) (cls : Fin 16) (v : BitVec 32) (s : State),
    let c := s.core sd
    let st := c.tab wFaultStat e
    let cfg := c.tab wFaultCfg e
    let vec := bits cfg 67 62
    (s.plant.mayWriteSide q sd Reg.fault_clear = true → v.toNat = (c.eBase + e) * 65536 + cls →
      (∀ k, k < 4 → bitOf cls k = true → c.live e k = false) →
      Completes (.faultClear q sd v) s (fun t => s.plant.wroteSide t sd ∧
        (∀ k, k < 4 → bitOf ((t.core sd).tab wFaultStat e) (252 + k) = (bitOf st (252 + k) && !bitOf cls k)) ∧
        (c.setTab wFaultStat e (clearSticky st cls)).onlySlots (t.core sd) [])) ∧
    (s.plant.mayWriteSide q sd Reg.event_ack = true → v.toNat = (c.eBase + e) * 65536 →
      Completes (.eventAck q sd v) s (fun t => s.plant.wroteSide t sd ∧
        let d := c.setTab wFaultStat e (putBit st 263 false)
        let quiet := bitOf c.aplicIn (e + 1) = false ∨ (c.aplicM.ie = false ∧ c.aplicS.ie = false)
        bitOf ((t.core sd).tab wFaultStat e) 263 = false ∧ bitOf (t.core sd).aplicIn (e + 1) = false ∧
        (quiet → (t.core sd).tab wFaultStat e = putBit st 263 false) ∧
        (d.withInterrupts (t.core sd)).onlySlotsAndReports (t.core sd) [Reg.msi_discarded] ∧
        (bitOf c.aplicIn (e + 1) = false → ({ d with fns := (t.core sd).fns, out := (t.core sd).out } : Core).onlySlots (t.core sd) []) ∧
        (bitOf st 263 = false ∨ bitOf cfg 68 = false → quiet → (t.core sd).out = c.out) ∧
        (bitOf st 263 = true → bitOf cfg 68 = true → quiet → d.vectorPending vec e = true ∨ s.plant.devPending sd vec = true →
          (c.pfn 0).msixEnable = true → (c.pfn 0).master = true → (c.pfn 0).masked vec = false →
          (t.core sd).out = .msix 0 vec :: c.out))) ∧
    (let rec' := beNat (c.rdOctets Reg.ffr_record 32)
     s.plant.mayWriteSide q sd Reg.ffr_clear = true →
     (bitOf (c.rd Reg.ffr_status) 63 = false ∨ c.live (bits rec' 141 132 - c.eBase) (bits rec' 123 122) = false) →
      Completes (.ffrClear q sd) s (fun t => s.plant.wroteSide t sd ∧ (t.core sd).rd Reg.ffr_status = 0 ∧
        (∀ i, i < 4 → (t.core sd).rd (Reg.ffr_record + i) = 0) ∧
        c.onlySlots (t.core sd) [Reg.ffr_status, Reg.ffr_record, Reg.ffr_record + 1, Reg.ffr_record + 2, Reg.ffr_record + 3]))) ∧
  (∀ (q : Requester) (e : Fin 64) (cls : Fin 16) (v : BitVec 32) (s : State),
    let d := s.plant.dev
    let st := d.tab wDevStat e
    (s.plant.mayWriteDev q Reg.device_fault_clear = true → v.toNat = e * 65536 + cls →
      (∀ k, k < 4 → bitOf cls k = true → d.live e k = false) →
      Completes (.deviceFaultClear q v) s (fun t => s.plant.onlyDev t ∧
        (e.val ≠ 20 → t.dev.tab wDevStat e = clearSticky st cls) ∧
        (∀ i, i < 64 → i ≠ 20 → i ≠ e.val → t.dev.tab wDevStat i = d.tab wDevStat i) ∧
        d.onlySlotsAndReports t.dev [Reg.host_config_writes])) ∧
    (s.plant.mayWriteDev q Reg.device_event_ack = true → v.toNat = e * 65536 →
      Completes (.deviceEventAck q v) s (fun t => s.plant.sameMemories t ∧ bitOf (t.dev.tab wDevStat e) 263 = false ∧
        (∀ sd, bitOf (t.core sd).aplicIn (481 + e) = false ∧
          ((s.core sd).withInterrupts (t.core sd)).onlySlotsAndReports (t.core sd) [Reg.msi_discarded]) ∧
        (bitOf st 263 = false → (∀ sd, bitOf (s.core sd).aplicIn (481 + e) = false) →
          ∀ sd, ∃ l, t.side sd = { s.plant.side sd with r := { s.core sd with stateLive := l, toDev := [] } }) ∧ d.onlySlotsAndReports t.dev [Reg.host_config_writes])) ∧
    (let r := beNat (d.rdOctets Reg.device_ffr_record 32)
     s.plant.mayWriteDev q Reg.device_ffr_clear = true →
     (bitOf (d.rd Reg.device_ffr_status) 63 = false ∨ d.live (bits r 141 132) (bits r 123 122) = false) →
      Completes (.deviceFfrClear q) s (fun t => s.plant.onlyDev t ∧ t.dev.rd Reg.device_ffr_status = 0 ∧
        (∀ i, i < 4 → t.dev.rd (Reg.device_ffr_record + i) = 0) ∧
        d.onlySlotsAndReports t.dev [Reg.device_ffr_status, Reg.device_ffr_record, Reg.device_ffr_record + 1,
          Reg.device_ffr_record + 2, Reg.device_ffr_record + 3, Reg.host_config_writes])))

/-- Of a side that the Owl starts, a PLL that does not lock is retried once, which starts it again, and is kept as failed for the
release. On a running side a PLL that locks sets its bit of pll_locked, one that does not is retried once, which starts it again,
and then reported, a lost lock is reported. A writer sets the core clock or divider. With the Owl running, a request that R545
allows begins: power_request reads 1 and the side, or both in Joined mode, enters, or leaves. A drain that ends, or is cut short,
takes the entry on; entered Den reads 2 and entered Burrow 5, with the side's DRAM kept when burrow_dram asks for it; DEN_EXIT
starts the PLLs and returns to Run with the fabric restarted and the held ports on their way to full rate, which then come up or
fall back. A Burrow exit starts the PLLs, with VDD raised under adaptive voltage, and holds the side in reset, and its completion
releases it. Where the spec leaves a point open, the model's own choice is in log entry 48. -/
def Obligations.SidesEnterAndLeaveLowPower : Prop :=
  (∀ (sd : SideId) (n : Fin 6) (s : State), s.plant.pllStarting sd = true →
    let c := s.core sd
    Completes (.pllLock sd n) s (fun t => s.plant.onlyCore t sd ∧
      ({ c with pllBad := putBit (putBit c.pllBad n false) (n + 8) false, pllTry := putBit c.pllTry n false } : Core).onlySlots (t.core sd) []) ∧
    (bitOf c.pllBad n = false → bitOf c.pllBad (n + 8) = false →
      Completes (.pllLockTimeout sd n true) s (fun t => s.plant.onlyCore t sd ∧
        ({ c with pllBad := putBit c.pllBad (n + 8) true, pllTry := putBit c.pllTry n false } : Core).onlySlots (t.core sd) []) ∧
      (bitOf c.pllTry n = true → Completes (.pllLockTimeout sd n false) s (fun t => s.plant.onlyCore t sd ∧
        ({ c with pllBad := putBit c.pllBad n true, pllTry := putBit c.pllTry n false } : Core).onlySlots (t.core sd) [])) ∧
      (bitOf c.pllTry n = false → Completes (.pllLockTimeout sd n false) s (fun t => s.plant.sameMemories t ∧
        t.side sd.other = s.plant.side sd.other ∧ s.plant.dev.pllStart.onlySlotsAndReports t.dev [] ∧
        c.counts (t.core sd) Reg.pll_retries 1 ∧
        ({ c with pllTry := putBit c.pllTry n true } : Core).onlySlotsAndReports (t.core sd) [Reg.pll_retries])))) ∧
  (∀ (sd : SideId) (n : Fin 6) (s : State), (s.core sd).alive = true →
    let c := s.core sd
    let bad := putBit c.pllBad n false
    (bitOf (c.rd Reg.pll_locked) n = false →
      Completes (.pllLockTimeout sd n true) s (fun t => s.plant.onlyCore t sd ∧ c.reported (t.core sd) 465 2 0 ∧
        ({ c with conds := putBit c.conds 1 true, pllTry := putBit c.pllTry n false } : Core).onlySlotsAndReports (t.core sd) []) ∧
      (bitOf c.pllTry n = false → Completes (.pllLockTimeout sd n false) s (fun t => s.plant.sameMemories t ∧
        t.side sd.other = s.plant.side sd.other ∧ s.plant.dev.pllStart.onlySlotsAndReports t.dev [] ∧
        c.counts (t.core sd) Reg.pll_retries 1 ∧
        ({ c with pllTry := putBit c.pllTry n true } : Core).onlySlotsAndReports (t.core sd) [Reg.pll_retries])) ∧
      (bitOf c.pllTry n = true → Completes (.pllLockTimeout sd n false) s (fun t => s.plant.onlyCore t sd ∧
        c.reported (t.core sd) 465 1 0 ∧
        ({ c with pllTry := putBit c.pllTry n false, pllBad := putBit c.pllBad n true, conds := putBit c.conds 0 true } : Core).onlySlotsAndReports
          (t.core sd) []))) ∧
    Completes (.pllLock sd n) s (fun t => s.plant.onlyCore t sd ∧
      (t.core sd).rd Reg.pll_locked = putBit (c.rd Reg.pll_locked) n true ∧
      ({ c with pllBad := bad, pllTry := putBit c.pllTry n false,
                conds := putBit (putBit c.conds 0 (decide (bad ≠ 0))) 1 false } : Core).onlySlots (t.core sd) [Reg.pll_locked]) ∧
    (bitOf (c.rd Reg.pll_locked) n = true → Completes (.pllLockLoss sd n) s (fun t => s.plant.onlyCore t sd ∧
      (t.core sd).rd Reg.pll_locked = putBit (c.rd Reg.pll_locked) n false ∧ c.reported (t.core sd) 465 1 0 ∧
      ({ c with pllBad := putBit c.pllBad n true, conds := putBit c.conds 0 true } : Core).onlySlotsAndReports (t.core sd)
        [Reg.pll_locked]))) ∧
  (∀ (q : Requester) (sd : SideId) (divider : Bool) (v : BitVec 16) (s : State),
    let key := if divider then Reg.core_divider else Reg.core_pll_mhz
    s.plant.mayWriteSide q sd key = true → divider = true ∨ (1000 ≤ v.toNat ∧ v.toNat ≤ 3000 ∧ v.toNat % 100 = 0) →
    Completes (.coreFreqChange q sd divider v) s (fun t => s.plant.wroteSide t sd ∧ (t.core sd).rd key = v.toNat ∧
      (divider = false → (s.core sd).rd key < v.toNat → t.dev.avsLowered = false) ∧ (s.core sd).onlySlots (t.core sd) [key])) ∧
  (∀ (q : Requester) (sd : SideId) (s : State), s.plant.mayWriteSide q sd Reg.power_request = true → s.plant.dev.owlDown = false →
    let d := s.plant.dev
    let may (x : SideId) (v : Nat) : Prop := (s.core x).powerCheck v (decide (d.rd Reg.boot_slot = 2))
      (decide ((s.core x).rd Reg.field_test_request = 2)) = .ok
    let slots := [Reg.power_request, Reg.power_state, Reg.last_transition, Reg.wake_cause]
    ∀ r ∈ [(Instr.powerRequestRun q sd, 0), (.powerRequestDen q sd, 1), (.powerRequestBurrow q sd, 2)],
    may sd r.2 → d.joined = false ∨ (sd = .a ∧ may .b r.2) →
    Completes r.1 s (fun t => s.plant.wroteSide t sd ∧ ∀ x, x = sd ∨ d.joined = true →
      let e := t.core x
      let was := (s.core x).rd Reg.power_state
      let deaf := (s.core x).deaf
      e.rd Reg.power_request = 1 ∧ (r.2 ≠ 0 ∨ deaf = false → e.rd Reg.last_transition = d.aon % 2 ^ 64) ∧
      (r.2 = 0 → e.rd Reg.power_state = (if deaf then was else was + 1) ∧ e.rd Reg.wake_cause = putBit ((s.core x).rd Reg.wake_cause) 5 true ∧
        (s.core x).onlySlots e slots) ∧
      (r.2 ≠ 0 → e.rd Reg.power_state = (if r.2 = 1 then 1 else 4) ∧ e.rd Reg.wake_cause = (s.core x).rd Reg.wake_cause ∧
        ({ s.core x with entryStep := if was = 2 then 4 else 1, entryAt := (s.core x).now } : Core).onlySlots e slots))) ∧
  (∀ (sd : SideId) (s : State), (s.core sd).alive = true →
    let c := s.core sd
    let d := c.idlePorts true
    let said (t : Plant) (kind addr : Nat) : Prop := (⟨23, kind, addr, s.plant.dev.aon, s.plant.dev.aon⟩ : FaultMsg) ∈ t.dev.faultQ ∨ 64 ≤ t.dev.faultQ.length
    (c.entryStep = 1 → c.rd Reg.power_state = 1 ∨ c.rd Reg.power_state = 4 →
      (c.framesQueued = 0 → c.framesInFlight = 0 → (∀ f ∈ c.rx, f.dropAs ≠ 0) → c.rd Reg.epoch_flip = 0 →
        Completes (.entryDrainDone sd) s (fun t => s.plant.onlyCore t sd ∧ (t.core sd).entryStep = 2 ∧ (t.core sd).xoffs = [] ∧
          c.entryDrained.onlySlots (t.core sd) [])) ∧
      (let e := (c.advanceTo (c.entryAt + usTicks (c.rd Reg.den_drain_us))).discardAll
       let f := (e.flipComplete (s.plant.drainingElse sd)).entryDrained
       f.rd Reg.power_state = c.rd Reg.power_state → Completes (.entryDrainTimeout sd) s (fun t => s.plant.sameMemories t ∧
         (c.crossIn.all (fun x => x.head.isNone) = true → s.plant.onlyCore t sd) ∧ (t.core sd).copies = [] ∧ (t.core sd).middles = [] ∧
         (t.core sd).crossIn = [] ∧ (t.core sd).crossOut = [] ∧ (t.core sd).entryStep = 2 ∧ (t.core sd).xoffs = [] ∧ (∀ f ∈ (t.core sd).rx, f.dropAs ≠ 0) ∧ (t.core sd).recirc = [] ∧
         (t.core sd).mgmtWait = [] ∧ f.onlySlots (t.core sd) []))) ∧
    (c.rd Reg.power_state = 1 → c.entryStep = 2 →
      (bitOf c.wakePend 5 = true → c.deaf = false → Completes (.denEntered sd) s (fun t => s.plant.onlyCore t sd ∧ (t.core sd).rd Reg.power_state = 3)) ∧
      (c.wakePend = 0 → Completes (.denEntered sd) s (fun t => s.plant.onlyCore t sd ∧ (t.core sd).rd Reg.power_state = 2 ∧
        (t.core sd).rd Reg.power_request = 2 ∧ d.counts (t.core sd) Reg.den_entries 1 ∧ said t 1 (c.num + 4) ∧
        (t.core sd).rd Reg.pll_locked = d.rd Reg.pll_locked / 4 * 4 ∧ (t.core sd).rd Reg.last_transition = s.plant.dev.aon % 2 ^ 64 ∧
        ({ d with entryStep := 0, entryAt := d.now } : Core).onlySlotsAndReports (t.core sd)
          [Reg.power_state, Reg.power_request, Reg.den_entries, Reg.pll_locked, Reg.last_transition]))) ∧
    (c.rd Reg.power_state = 3 → s.plant.dev.owlDown = false → Completes (.denExit sd) s (fun t => s.plant.sameMemories t ∧ t.side sd.other = s.plant.side sd.other ∧
      s.plant.dev.pllStart.onlySlotsAndReports t.dev [] ∧ (t.core sd).rd Reg.power_state = 0 ∧
      (t.core sd).rd Reg.pll_locked = c.rd Reg.pll_locked ||| (3 ^^^ c.pllBad % 4) ∧ said t 2 c.num ∧
      (t.core sd).rd Reg.power_request = (if c.rd Reg.power_request = 1 then 2 else c.rd Reg.power_request) ∧
      (∀ p, (t.core sd).port p = if p < 64 ∧ c.flag (Reg.den_hold p) = true ∧ c.mayRun p = true then
          { c.port p with signal := false, locked := false, up := false, shown := 0, holdoff := none, denSince := none,
                          fallbackAt := some (c.now + msTicks 100) } else c.port p) ∧
      ({ c with slotBase := c.now, middleSlot := 0, groupSlot := [], streams := [], ports := (t.core sd).ports } : Core).onlySlots
        (t.core sd) [Reg.power_state, Reg.pll_locked, Reg.power_request, Reg.last_transition])) ∧
    (∀ p : Fin 64, (c.port p).fallbackAt.isSome = true → c.rd Reg.power_state = 0 → c.mayRun p = true →
      Completes (.heldPortFullRate sd p) s (fun t => s.plant.onlyCore t sd ∧ (t.core sd).linkState p = 1 ∧
        ((t.core sd).port p).fallbackAt = none ∧ c.counts (t.core sd) (Reg.link_changes p) 1 ∧ c.reports (t.core sd) (4 * p) 2 p ∧
        c.onlyPort (t.core sd) p [Reg.link_changes p])) ∧
    (∀ (p : Fin 64) (u : Nat), (c.port p).fallbackAt = some u → (c.port p).up = false → c.inDen = false →
      Completes (.heldPortFallback sd p) s (fun t => s.plant.onlyCore t sd ∧ ((t.core sd).port p).fallbackAt = none ∧
        (c.advanceTo u).reports (t.core sd) (4 * p) 1 p ∧ (c.advanceTo u).onlyPort (t.core sd) p []))) ∧
  (∀ (sd : SideId) (train : TrainOutcome) (s : State), s.plant.dev.porst = false →
    let p := s.plant
    let c := s.core sd
    let d := ((c.idlePorts false).coreRun 0).1
    let keep := d.flag Reg.burrow_dram
    (c.rd Reg.power_state = 4 → c.entryStep = 2 ∨ c.entryStep = 4 → c.wakePend = 0 →
      Completes (.burrowEntered sd) s (fun t => t.side sd.other = p.side sd.other ∧ (t.core sd).rd Reg.power_state = 5 ∧
        (t.core sd).released = false ∧ (t.core sd).rd Reg.power_request = 2 ∧ (t.core sd).rd Reg.pll_locked = 0 ∧
        d.counts (t.core sd) Reg.burrow_entries 1 ∧ (t.side sd).spm = [] ∧
        (t.side sd).dram = (if keep then (p.side sd).dram else []) ∧
        (t.core sd).rd Reg.dram_state = (if keep = false then 0 else if d.rd Reg.dram_state = 2 then 3 else d.rd Reg.dram_state) ∧
        t.dev.vddOff = (p.dev.vddOff || (decide ((s.core sd.other).rd Reg.power_state = 5) && p.dev.flag Reg.burrow_rail_off)) ∧
        ({ d with entryStep := 0, released := false, spmBad := [], pllBad := 0, pllTry := 0, ppsOut := false, fieldWakeId := d.rd Reg.field_node_id } : Core).onlySlotsAndReports
          (t.core sd) [Reg.power_state, Reg.power_request, Reg.burrow_entries, Reg.pll_locked, Reg.dram_state, Reg.last_transition])) ∧
    (c.rd Reg.power_state = 6 → p.dev.owlDown = false →
      Completes (.burrowExit sd) s (fun t => p.sameMemories t ∧ t.side sd.other = p.side sd.other ∧
        ({ c with entryStep := 3 } : Core).onlySlots (t.core sd) [] ∧
        ({ p.dev with vddOff := false } : Dev).pllStart.onlySlotsAndReports t.dev []) ∧
      (c.entryStep = 3 → bitOf (p.dev.rd Reg.rail_status) 0 = true →
        (∀ q, p.reapply sd train.plain = some q → Completes (.burrowExitComplete sd train) s (fun t =>
          t.side sd.other = q.side sd.other ∧ (t.side sd).spm = (q.side sd).spm ∧ (t.side sd).dram = (q.side sd).dram ∧
          (q.core sd).onlySlots (t.core sd) [Reg.side_reset_cause, Reg.power_request] ∧ (t.core sd).rd Reg.side_reset_cause = 4)) ∧
        (p.emptyConfig = true → p.dev.rd Reg.boot_slot ≠ 2 → train = .absent → c.pllBad = 0 → Completes (.burrowExitComplete sd train) s (fun t =>
          p.sameMemories t ∧ t.side sd.other = p.side sd.other ∧ (t.core sd).fresh p.dev ∧
          (t.core sd).rd Reg.side_reset_cause = 4 ∧
          (t.core sd).rd Reg.power_request = (if c.rd Reg.power_request = 1 then 2 else c.rd Reg.power_request))) ∧
        (p.reapply sd train.plain = none → Completes (.burrowExitComplete sd train) s (fun t => t.side sd.other = p.side sd.other ∧
          (t.core sd).rd Reg.power_state = 7 ∧ (t.core sd).released = false ∧ (t.core sd).inReset = true ∧
          ((⟨16, 5, sd.num, p.dev.aon, p.dev.aon⟩ : FaultMsg) ∈ t.dev.faultQ ∨ 64 ≤ t.dev.faultQ.length))))))

/-- A glitch on a watched WAKE_IN line counts; a new level that holds is taken, and an edge that its configuration selects wakes every
side whose mask names the line and that has left Run or is leaving it. The wake timer wakes a side in Den or Burrow, a frame on
its identifier a side in Burrow. A side waking from Burrow reads 6, one waking from Den with den_wake_exit 3. A margin reading
sets the voltage that R556 asks for, with the raise of a PLL start begun or ended, if the regulator confirms, and lowers the core
clocks when it cannot rise. A powered hour counts, records the shifts and persists them. A rail or clock sets its status bit, and
its loss is reported. A temperature is held with its maximum, and crossing its limits is reported. Where the spec leaves a point
open, the model's own choice is in log entries 48 and 49. -/
def Obligations.WakesRailsAndLifeTakeEffect : Prop :=
  (∀ (n : Fin 8) (high : Bool) (s : State),
    let d := s.plant.dev
    let cfg := bits (d.rd Reg.wake_in_config) (2 * n + 1) (2 * n)
    (cfg ≠ 0 → Completes (.wakeInEdge n high false) s (fun t => s.plant.onlyDev t ∧ d.counts t.dev Reg.wake_in_glitches 1 ∧
      d.onlySlotsAndReports t.dev [Reg.wake_in_glitches])) ∧
    (bitOf d.wakeLevel n ≠ high → Completes (.wakeInEdge n high true) s (fun t => s.plant.sameMemories t ∧
      ({ d with wakeLevel := putBit d.wakeLevel n high } : Dev).onlySlotsAndReports t.dev [] ∧
      ∀ sd : SideId,
        let c := s.core sd
        let e := t.core sd
        let ps := c.rd Reg.power_state
        let wakes := bitOf cfg (if high then 0 else 1) && bitOf (c.rd Reg.wake_in_mask) n && decide (ps ∈ [1, 2, 4, 5])
        (wakes = false → c.onlySlots e []) ∧
        (wakes = true → (c.wake 2).onlySlots e [Reg.last_transition] ∧ bitOf (e.rd Reg.wake_cause) 2 = true ∧
          (ps = 5 → c.deaf = false → e.rd Reg.power_state = 6) ∧ (ps = 2 → c.flag Reg.den_wake_exit = true → c.deaf = false → e.rd Reg.power_state = 3) ∧
          (ps = 1 ∨ ps = 4 → e.rd Reg.power_state = ps ∧ bitOf e.wakePend 2 = true))))) ∧
  (∀ (sd : SideId) (ident : BitVec 11) (s : State), s.plant.dev.porst = false →
    let c := s.core sd
    let ms := c.rd Reg.wake_timer_ms
    let ps := c.rd Reg.power_state
    (ms ≠ 0 → ps = 2 ∨ ps = 5 → Completes (.wakeTimerExpiry sd) s (fun t => s.plant.onlyCore t sd ∧
      ((c.advanceTo (c.entryAt + msTicks ms)).wake 4).onlySlots (t.core sd) [Reg.last_transition] ∧
      bitOf ((t.core sd).rd Reg.wake_cause) 4 = true ∧
      (ps = 5 ∨ c.flag Reg.den_wake_exit = true → c.deaf = false → (t.core sd).rd Reg.power_state = ps + 1))) ∧
    (ps = 5 → c.flag Reg.field_wake = true → ident.toNat = 0x2C0 + c.fieldWakeId →
      Completes (.fieldWakeFrame sd ident) s (fun t => s.plant.onlyCore t sd ∧ (t.core sd).rd Reg.power_state = (if c.deaf then 5 else 6) ∧
        (t.core sd).rd Reg.wake_cause = putBit (c.rd Reg.wake_cause) 3 true ∧
        (c.deaf = false → (t.core sd).rd Reg.last_transition = s.plant.dev.aon % 2 ^ 64) ∧
        c.onlySlots (t.core sd) [Reg.wake_cause, Reg.power_state, Reg.last_transition]))) ∧
  (∀ (margins : List (BitVec 16)) (ack : Bool) (shifts : List (BitVec 32)) (s : State), s.plant.dev.porst = false →
    s.plant.dev.owlDown = false →
    let d := s.plant.dev
    let l := margins.map BitVec.toNat
    let x := shifts.map BitVec.toInt
    let d0 := d.runTo (d.aon + 1000000)
    let v := d0.rd Reg.vdd_core_mv
    let g := d0.avsTarget l
    let m := (lowestMargin l).1
    let within := d.rd Reg.avs_margin_low ≤ m ∧ m ≤ d.rd Reg.avs_margin_high
    Completes (.avsMonitorRead margins ack) s (fun t => s.plant.sameMemories t ∧
      t.dev.rd Reg.vdd_core_mv = (if ack then g.1 % 2 ^ 64 else v) ∧
      (ack = true → d.flag Reg.avs_enable = true →
        (d.avsRaise = 0 → d.avsGain = 0 → m < d.rd Reg.avs_margin_low → t.dev.rd Reg.vdd_core_mv = min 850 (max 650 v + 5)) ∧
        (d.avsRaise ≠ 0 → d0.raiseOver = false → d.avsGain = 0 → within → 650 ≤ v → v ≤ 850 →
          t.dev.rd Reg.vdd_core_mv = min 850 (v + 20)) ∧
        (d0.raiseOver = true → within → t.dev.rd Reg.vdd_core_mv = max 650 (v - d.avsGain)) ∧
        t.dev.avsGain = d0.raiseGain ∧ t.dev.avsRaise = (if d0.raiseOver then 0 else d.avsRaise)) ∧
      (ack = false → g.1 ≠ v → d.counts t.dev Reg.avs_errors 1 ∧ t.dev.avsGain = d.avsGain ∧ t.dev.avsRaise = d.avsRaise) ∧
      ({ d0 with avsHigh := g.2.2, avsLowered := d.avsLowered || g.2.1, avsGain := t.dev.avsGain, avsRaise := t.dev.avsRaise } : Dev).onlySlotsAndReports
        t.dev [Reg.vdd_core_mv, Reg.avs_errors] ∧
      ∀ sd, (t.core sd).rd Reg.core_pll_mhz =
          (if g.2.1 = true ∧ 1000 < (s.core sd).rd Reg.core_pll_mhz then (s.core sd).rd Reg.core_pll_mhz - 100
            else (s.core sd).rd Reg.core_pll_mhz) ∧
        (s.core sd).onlySlots (t.core sd) [Reg.core_pll_mhz]) ∧
    (x.length = 32 → Completes (.poweredHour shifts) s (fun t => s.plant.onlyDev t ∧
      t.dev.rd Reg.powered_hours = min (2 ^ 32 - 1) (d.rd Reg.powered_hours + 1) ∧ t.dev.rd Reg.persist_lost = 0 ∧
      (∀ k, k < 32 → t.dev.rd (Reg.age_shift k) = unsignedOf 64 (x.getD k 0)) ∧
      t.dev.rd Reg.life_shift_max = unsignedOf 64 (largestShift x).1 ∧
      (∀ a, a < 0x20000 ∨ 0x60000 ≤ a → t.dev.flash.read a = d.flash.read a) ∧
      ({ d.poweredHour x with flash := t.dev.flash } : Dev).onlySlots t.dev [Reg.persist_lost]))) ∧
  (∀ (k : Fin 9) (j : Fin 2) (s : State),
    let d := s.plant.dev
    let said (t : Plant) (src kind : Nat) : Prop := (⟨src, kind, 0, d.aon, d.aon⟩ : FaultMsg) ∈ t.dev.faultQ ∨ 64 ≤ t.dev.faultQ.length
    Completes (.railOutOfRange k) s (fun t => s.plant.onlyDev t ∧ t.dev.rd Reg.rail_status = putBit (d.rd Reg.rail_status) k false ∧
      (k ≠ 8 → k ≠ 0 ∨ d.vddOff = false → said t k 1) ∧
      ({ d with bootDead := d.bootDead || (!d.porst && decide (k.val < 8) && decide (d.bootPhase < 3)) } : Dev).onlySlotsAndReports
        t.dev [Reg.rail_status]) ∧
    Completes (.railInRange k) s (fun t => s.plant.onlyDev t ∧ t.dev.rd Reg.rail_status = putBit (d.rd Reg.rail_status) k true ∧
      d.onlySlots t.dev [Reg.rail_status]) ∧
    Completes (.aonClockLoss j) s (fun t => s.plant.onlyDev t ∧ t.dev.rd Reg.aon_status = putBit (d.rd Reg.aon_status) j false ∧
      said t 15 (j + 1) ∧ d.onlySlotsAndReports t.dev [Reg.aon_status]) ∧
    Completes (.aonClockReturn j) s (fun t => s.plant.onlyDev t ∧ t.dev.rd Reg.aon_status = putBit (d.rd Reg.aon_status) j true ∧
      d.onlySlots t.dev [Reg.aon_status])) ∧
  (∀ (sd : SideId) (x : Int) (s : State), (s.core sd).alive = true →
    let c := s.core sd
    let w : Int := 16 * (c.rd Reg.tj_warning_c : Nat)
    let was := signedOf 64 (c.rd Reg.side_tj)
    Completes (.tjSample sd x) s (fun t => s.plant.onlyCore t sd ∧
      let e := t.core sd
      e.rd Reg.side_tj = unsignedOf 64 x ∧
      e.rd Reg.side_tj_max = (if signedOf 64 (c.rd Reg.side_tj_max) < x then unsignedOf 64 x else c.rd Reg.side_tj_max) ∧
      bitOf e.conds 2 = (if w ≤ x then true else if x ≤ w - 48 then false else bitOf c.conds 2) ∧
      bitOf e.conds 3 = (if x < 2160 then false else if 2160 ≤ was then true else bitOf c.conds 3) ∧
      (∀ i, i ≠ 2 → i ≠ 3 → bitOf e.conds i = bitOf c.conds i) ∧
      (w ≤ x → bitOf c.conds 2 = false → c.reports e 466 1 (unsignedOf 16 x)) ∧
      (2160 ≤ x → 2160 ≤ was → bitOf c.conds 3 = false → c.reports e 466 2 (unsignedOf 16 x)) ∧
      ({ c with conds := e.conds } : Core).onlySlotsAndReports e [Reg.side_tj, Reg.side_tj_max]))

/-- PORST_N low resets all but fuses, flash and the rails' and clocks' bits; both sides read power_state 7, and the balls show that
column of R632. Its rise samples the straps, reads the fuses into their objects and absent ports, and reports fuse words in error.
Verification picks the slot: a good one gives boot_slot, security_version and phase 1; a check that fails keeps its code and goes
on under R580 and R581. The firmware, when its octets match, reads the persistent state; a hash mismatch fails the slot with 9, a
time-out with 11. With a default configuration without records and no core images, SIDE_RELEASE sets boot_status 3 or 4, starts
the PLLs, fixes the device mode, and releases each side after its training, but for one whose boot test fails, with the device
sources' levels at its APLIC; a bad configuration fails the slot with 9 or 10. Deferred work ends in boot_status 4. Where the spec
leaves a point open, the model's own choice is in log entries 9, 11, 50 and 51. -/
def Obligations.TheDeviceBootsItsSides : Prop :=
  (∀ s : State, Completes .porstAssert s (fun t =>
    let d := s.plant.dev
    t.dev = { Dev.porst0 with
      regs := t.dev.regs
      fuses := d.fuses
      flash := d.flash
      free := d.free
      wakeLevel := d.wakeLevel
      perst := d.perst } ∧
    (∀ x, t.ball x = x.underPorst) ∧
    (∀ k, t.dev.rd k = if k = Reg.aon_status ∨ k = Reg.rail_status then d.rd k else devDefault k) ∧
    ∀ sd, (t.core sd).rd Reg.power_state = 7 ∧ t.side sd =
      { Side.porst sd with r := { (Side.porst sd).r with free := (s.core sd).free, out := (s.core sd).out } })) ∧
  (∀ (straps : BitVec 15) (fuses : BitVec 2048) (flash : List (BitVec 27 × Octets)) (bad : List (Fin 32 × Bool)) (s : State),
    s.plant.dev.porst = true → Completes (.porstRelease straps fuses flash bad) s (fun t =>
      let d := s.plant.dev
      let e := t.dev
      e.porst = false ∧ e.testMode = bitOf straps.toNat 14 ∧ e.fuses = d.fuses ||| fuses.toNat ∧
      e.flash = (flash.foldl (fun (a : Dev) x => a.flashWrite x.1.toNat x.2) d).flash ∧
      e.rd Reg.straps_sampled = straps.toNat ∧
      (∀ r ∈ [(Reg.part_number, 511, 496), (Reg.silicon_revision, 495, 480), (Reg.grade, 479, 472), (Reg.ports_per_side, 471, 464),
          (Reg.cores_per_side, 463, 456), (Reg.pcie_vendor_id, 455, 440), (Reg.avs_fixed_mv, 439, 430), (Reg.vdd_core_mv, 439, 430)],
        e.rd r.1 = e.fuse r.2.1 r.2.2) ∧
      e.rd Reg.device_serial = (if e.lifecycle = 3 then 0 else e.fuse 623 560) ∧
      e.rd Reg.life_profile_hours = (if e.fuse 479 472 = 2 then 219000 else 40000) ∧
      (∀ b ∈ bad, (⟨19, if b.2 then 2 else 1, b.1, d.aon, d.aon⟩ : FaultMsg) ∈ e.faultQ ∨ 64 ≤ e.faultQ.length) ∧
      (e.fuseFail ≠ 0 ↔ ∃ b ∈ bad, b.2 = true ∧ fuseWordCode b.1 ≠ 0) ∧
      ({ d with porst := false, testMode := e.testMode, fuses := e.fuses, flash := e.flash, fuseFail := e.fuseFail } : Dev).onlySlotsAndReports e
        [Reg.straps_sampled, Reg.part_number, Reg.silicon_revision, Reg.grade, Reg.ports_per_side, Reg.cores_per_side,
         Reg.pcie_vendor_id, Reg.avs_fixed_mv, Reg.vdd_core_mv, Reg.device_serial, Reg.life_profile_hours, Reg.life_projected_hours] ∧
      ∀ sd,
        let n := (s.core sd).num
        let strap := bits straps.toNat (7 * n + 6) (7 * n)
        (t.side sd).spm = (s.plant.side sd).spm ∧ (t.side sd).dram = (s.plant.side sd).dram ∧
        (t.core sd).rd Reg.field_node_id = (if strap = 0 then 127 else strap) ∧
        (t.core sd).rd Reg.mgmt_mac = (e.fuse 559 512 + n) % 2 ^ 48 ∧
        ({ s.core sd with absentPorts := if e.fuse 471 464 = 32 then 0xFFFFFFFF00000000 else 0 } : Core).onlySlots (t.core sd)
          [Reg.field_node_id, Reg.mgmt_mac])) ∧
  (∀ (flash : Fin 3) (s : State),
    let p := s.plant
    let d := p.dev
    d.boots = true → d.bootPhase = 0 → d.rd Reg.boot_status ≠ 5 →
    let h := if flash = 1 then none else d.bootHeader
    let slot := if d.bootSource = 2 then 2 else if d.bootTried = 0 then octetAt (h.getD []) 11 % 2 else if bitOf d.bootTried 0 then 1 else 0
    let base := match h with | some x => slotOffset x slot | none => 0
    let q := p.onDev (fun x => { x.wr Reg.boot_status (if slot = 2 then 6 else 1) with
      bootSource := slot
      bootBase := base })
    let code := if d.fuseFail ≠ 0 then d.fuseFail else if slot ≠ 2 ∧ h.isNone = true then 1 else if slot ≠ 2 ∧ flash = 2 then 2 else q.verifySlot
    let m := q.slotRead 0 (3924 + 64 * 32)
    Completes (.bootSlotVerify flash) s (fun t => (code ≠ 0 → q.slotFailed t code) ∧
      (code = 0 → p.onlyDev t ∧ t.dev.rd Reg.boot_slot = slot ∧ t.dev.rd Reg.security_version = (octetAt m 14) ∧
        t.dev.rd Reg.boot_status = (if slot = 2 then 6 else 1) ∧ t.dev.rdOctets Reg.fw_measure 32 = fwMeasure m ∧
        (∀ k : Fin 4, t.dev.rdOctets (Reg.owner_key_hash k) 32 = slice m (32 + 32 * k) 32) ∧
        (slot ≠ 2 → d.bootTried ≠ 0 →
          (⟨16, 1, bits (d.rd Reg.boot_detail) (8 * (1 - slot) + 7) (8 * (1 - slot)), d.aon, d.aon⟩ : FaultMsg) ∈ t.dev.faultQ ∨
          64 ≤ t.dev.faultQ.length) ∧
        ({ d with bootSource := slot, bootBase := base, bootPhase := 1, manifest := m } : Dev).onlySlotsAndReports t.dev
          ([Reg.boot_status, Reg.boot_slot, Reg.security_version] ++ (List.range 4).map (Reg.fw_measure + ·) ++
            (List.range 4).flatMap (fun k => (List.range 4).map (Reg.owner_key_hash k + ·)))))) ∧
  (∀ s : State,
    let p := s.plant
    let d := p.dev
    d.boots = true →
    (∀ x, d.bootPhase = 1 → (segmentsOf d.manifest).find? (fun y => decide (y.type = 1)) = some x →
      Completes .firmwareStart s (fun t =>
        ((p.readSegment x).isSome = true → p.onlyDev t ∧ ({ d.readPersistent with bootPhase := 2 } : Dev).onlySlots t.dev [] ∧
          ∀ o, d.snapshotInUse = some o → t.dev.rd Reg.powered_hours = be32 o.2 16) ∧
        ((p.readSegment x).isNone = true → p.slotFailed t 9))) ∧
    (d.bootPhase = 2 → Completes .bootFirmwareTimeout s (fun t => p.slotFailed t 11))) ∧
  (∀ (ta tb : TrainOutcome) (fa fb : BitVec 5 × BitVec 16) (s : State),
    let p := s.plant
    let d := p.dev
    let fast := d.fastStart
    d.boots = true → d.bootPhase = 2 →
    (p.configSegment = none → Completes (.sideRelease ta tb fa fb) s (fun t => p.slotFailed t 9)) ∧
    (∀ o, p.configSegment = some o → configParts o = none → Completes (.sideRelease ta tb fa fb) s (fun t => p.slotFailed t 10)) ∧
    (p.emptyConfig = true →
      let p1 := p.onDev (fun x => ((x.wr Reg.boot_status 2).identity).wrOctets Reg.config_measure (sha3_256 (p.configSegment.getD [])))
      let p2 := if fast then p1 else (p1.trainSide .a ta.plain).trainSide .b tb.plain
      let e := if d.programming then p2.programStaged else p2
      Completes (.sideRelease ta tb fa fb) s (fun t =>
        t.dev.bootPhase = 3 ∧ t.dev.rd Reg.boot_status = (if fast then 3 else 4) ∧ t.dev.rd Reg.release_time = d.aon % 2 ^ 64 ∧
        (d.bootSource = 2 → t.dev.rd Reg.recovery_apply = 2) ∧
        ({ e.dev.pllStart with bootPhase := 3, modeWritten := true } : Dev).onlySlotsAndReports t.dev [Reg.boot_status, Reg.release_time, Reg.recovery_apply] ∧
        ∀ sd,
          let c := e.core sd
          let x := match sd with | .a => fa | .b => fb
          let b := if fast then c else c.bootTest d.aon (x.1.toNat, x.2.toNat)
          let f := t.core sd
          (t.side sd).spm = (p.side sd).spm ∧ (t.side sd).dram = (p.side sd).dram ∧
          (∀ k : Fin 64, bitOf f.aplicIn (481 + k) = (bitOf (e.dev.tab wDevStat k) 263 && bitOf (e.dev.tab wDevCfg k) 69 &&
            bitOf (e.dev.tab wDevCfg k) (58 + sd.num))) ∧
          (b.rd Reg.field_test_request = 4 → f.released = c.released ∧
            (b.withInterrupts f).onlySlotsAndReports f [Reg.last_transition, Reg.msi_discarded]) ∧
          (b.rd Reg.field_test_request ≠ 4 → f.released = true ∧ f.now = 0 ∧ f.rd Reg.power_state = 0 ∧ (c.pllBad = 0 → f.rd Reg.pll_locked = 0x3F) ∧
            f.rd (Reg.vport_state 0) = 1 ∧ (b.release.withInterrupts f).onlySlotsAndReports f [Reg.last_transition, Reg.msi_discarded])))) ∧
  (∀ (ta tb : TrainOutcome) (s : State),
    let p := s.plant
    let e := (p.trainSide .a ta.plain).trainSide .b tb.plain
    p.dev.porst = false → p.dev.rd Reg.boot_status = 3 → p.dev.owlDown = false → p.emptyConfig = true →
    Completes (.deferredBootComplete ta tb) s (fun t => t.a = e.a ∧ t.b = e.b ∧ (ta = .absent → t.a = p.a) ∧ (tb = .absent → t.b = p.b) ∧
      t.dev.rd Reg.boot_status = 4 ∧ e.dev.onlySlots t.dev [Reg.boot_status]))

/-- A commit that R572 allows programs the rollback bits up to security_version and reads 2, or 3 with a report when the rail is lost.
In recovery recovery_apply boots the staged image. Three quarters of the log gone, a snapshot goes into the other half and the log
is erased. A busy flash counts. A nonce makes its writer the owner; a request that R588 allows takes the present state, its
report, where the lifecycle has an identity key, carries it and the signature, a late one is dropped and reported; ownership
lapses. A side reset empties the side and its DRAM, takes the other along in Joined mode, counts and names its cause; in Burrow
the side stays there until its end. The device's holds on a side end with its reset. Its end re-applies the configuration, starts
the PLLs and releases the side, or holds it and reports. A trained crossing takes mode_status to 1, a failure is reported. Where
the spec leaves a point open, the model's own choice is in log entries 4, 50, 51, 52 and 57. -/
def Obligations.ResetsRecoveryAndAttestation : Prop :=
  (∀ (q : Requester) (v : BitVec 8) (part : Option (Fin 2048)) (s : State),
    let d := s.plant.dev
    let n := d.rd Reg.security_version
    let mask := (2 ^ n - 1) * 2 ^ 1152
    let slots := [Reg.version_commit, Reg.host_config_writes]
    s.plant.mayWriteDev q Reg.version_commit = true → v = 1 → bitOf (d.rd Reg.rail_status) 8 = true → d.lifecycle = 2 →
    d.fuses ||| mask ≠ d.fuses → Completes (.versionCommit q v part) s (fun t => s.plant.onlyDev t ∧
      t.dev.fuses = programBits d.fuses mask (part.map Fin.val) ∧
      (part = none → t.dev.rd Reg.version_commit = 2 ∧
        ∀ i, i < 2048 → bitOf t.dev.fuses i = (bitOf d.fuses i || decide (1152 ≤ i ∧ i < 1152 + n))) ∧
      (part.isSome = true → t.dev.rd Reg.version_commit = 3 ∧
        ((⟨8, 1, 0, d.aon, d.aon⟩ : FaultMsg) ∈ t.dev.faultQ ∨ 64 ≤ t.dev.faultQ.length)) ∧
      ({ d with fuses := t.dev.fuses } : Dev).onlySlotsAndReports t.dev slots)) ∧
  (∀ (q : Requester) (s : State),
    let d := s.plant.dev
    s.plant.mayWriteDev q Reg.recovery_apply = true → d.rd Reg.boot_status = 5 →
    ∀ r ∈ [(Instr.recoveryBoot q, false), (.recoveryProgram q, true)], Completes r.1 s (fun t => s.plant.onlyDev t ∧
      t.dev.rd Reg.recovery_apply = 1 ∧ t.dev.rd Reg.boot_status = 6 ∧
      ({ d with bootSource := 2, bootPhase := 0, programming := r.2 } : Dev).onlySlotsAndReports t.dev
        [Reg.recovery_apply, Reg.boot_status, Reg.host_config_writes])) ∧
  (∀ s : State,
    let p := s.plant
    let d := p.dev
    let half := match d.snapshotInUse with | some x => 1 - x.1 | none => 0
    let gen := match d.snapshotInUse with | some x => (be32 x.2 4 + 1) % 2 ^ 32 | none => 1
    d.porst = false → d.owlDown = false →
    ((List.range 3072).all (fun i => !d.logErased d.logActive i) = true →
      Completes .persistSnapshot s (fun t => p.onlyDev t ∧ t.dev.rd Reg.persist_lost = 0 ∧ t.dev.logActive = 1 - d.logActive ∧
        t.dev.flashRead (snapBase half) 65824 = p.snapshotOctets gen ∧ (∀ i, i < 4096 → t.dev.logErased d.logActive i = true) ∧
        (∀ a, a < snapBase half ∨ snapBase half + 0x20000 ≤ a → a < logBase d.logActive ∨ logBase d.logActive + 0x10000 ≤ a →
          t.dev.flash.read a = d.flash.read a) ∧
        ({ d with flash := t.dev.flash, logActive := 1 - d.logActive } : Dev).onlySlots t.dev [Reg.persist_lost])) ∧
    Completes .flashBusyTimeout s (fun t => p.onlyDev t ∧ d.counts t.dev Reg.flash_errors 1 ∧
      t.dev.rates.any (fun m => m.src == 16 && m.kind == 6) = true ∧
      ({ d with rates := t.dev.rates } : Dev).onlySlotsAndReports t.dev [Reg.flash_errors]) ∧
    (d.rd Reg.attest_request = 1 →
      (d.lifecycle = 1 ∨ d.lifecycle = 2 → Completes .attestReportReady s (fun t => p.onlyDev t ∧ t.dev.rd Reg.attest_request = 2 ∧
        t.dev.attestReport = d.attestFrom ++ mldsaSign (toBe 32 (d.fuse 1535 1280)) (sha3_256 d.attestFrom)
          (toBe 32 (Config.signRandom d.free).toNat) ∧
        ({ d with attestReport := t.dev.attestReport, attestFrom := [], attestDone := d.aon, attestSeen := 0, free := d.free + 1 } : Dev).onlySlots
          t.dev [Reg.attest_request])) ∧
      Completes .attestTimeout s (fun t => p.onlyDev t ∧ t.dev.rd Reg.attest_request = 3 ∧ d.counts t.dev Reg.attest_failures 1 ∧
        t.dev.aon = max d.aon (ceilDiv (d.attestAt + 20000000) 40 * 40) ∧
        ((⟨18, 2, d.rd Reg.attest_owner % 2 ^ 48, t.dev.aon, t.dev.aon⟩ : FaultMsg) ∈ t.dev.faultQ ∨ 64 ≤ t.dev.faultQ.length) ∧
        ({ d with aon := t.dev.aon, attestFrom := [] } : Dev).onlySlotsAndReports t.dev [Reg.attest_request, Reg.attest_failures])) ∧
    (d.rd Reg.attest_owner ≠ 0 → d.rd Reg.attest_request ≠ 1 →
      Completes .attestOwnerTimeout s (fun t => p.onlyDev t ∧ t.dev.rd Reg.attest_owner = 0 ∧
        t.dev.aon = max d.aon (ceilDiv ((if d.rd Reg.attest_request = 2 then d.attestDone else d.attestAt) + 1000000000) 40 * 40) ∧
        ({ d with aon := t.dev.aon } : Dev).onlySlots t.dev [Reg.attest_owner]))) ∧
  (∀ (q : Requester) (v : BitVec 256) (s : State),
    let d := s.plant.dev
    d.attestFree q = true →
    (s.plant.mayWriteDev q Reg.attest_nonce = true → Completes (.attestNonceWrite q v) s (fun t => s.plant.onlyDev t ∧
      t.dev.rdOctets Reg.attest_nonce 32 = toLe 32 v.toNat ∧ t.dev.rd Reg.attest_owner = ownerCode q ∧
      ({ d with attestAt := d.aon } : Dev).onlySlotsAndReports t.dev
        ((List.range 4).map (Reg.attest_nonce + ·) ++ [Reg.attest_owner, Reg.host_config_writes]))) ∧
    (s.plant.mayWriteDev q Reg.attest_request = true → d.rd Reg.attest_owner ≠ 0 → d.rd Reg.attest_request ≠ 1 → d.lifecycle ≠ 3 →
      d.rd Reg.boot_status = 3 ∨ d.rd Reg.boot_status = 4 → d.owlDown = false → Completes (.attestRequest q) s (fun t =>
        s.plant.onlyDev t ∧ t.dev.rd Reg.attest_request = 1 ∧ t.dev.attestFrom = s.plant.reportBody ∧
        ({ d with attestFrom := t.dev.attestFrom, attestAt := d.aon } : Dev).onlySlotsAndReports t.dev
          [Reg.attest_request, Reg.host_config_writes]))) ∧
  (∀ (q : Requester) (sd : SideId) (s : State),
    let p := s.plant
    let d := p.dev
    let took (t : Plant) (x : SideId) (cause : Nat) : Prop :=
      let c := s.core x
      let e := t.core x
      let slots := [Reg.side_reset_cause, Reg.side_resets]
      (t.side x).spm = (p.side x).spm ∧ (t.side x).dram = [] ∧ e.rd Reg.side_reset_cause = cause ∧
      (c.rd Reg.power_state = 5 → c.counts e Reg.side_resets 1 ∧
        ({ c with inReset := true, released := false } : Core).onlySlotsAndReports e slots) ∧
      (c.rd Reg.power_state ≠ 5 → e.cleared ∧ e.rd Reg.pll_locked = 0 ∧ c.emptied.counts e Reg.side_resets 1 ∧
        ({ c.emptied with inReset := true, released := false } : Core).onlySlotsAndReports e
          (slots ++ [Reg.power_state, Reg.pll_locked, Reg.last_transition]))
    d.porst = false → (∀ x, x = sd ∨ d.joined = true → (s.core x).inReset = false) →
    ∀ r ∈ [(Instr.sideResetAssert sd, 1), (.sideResetWrite q sd, 2)], (r.2 = 2 → p.mayWriteSide q sd Reg.side_reset = true) →
    Completes r.1 s (fun t => took t sd r.2 ∧ (d.joined = true → took t sd.other 3) ∧ (d.joined = false → t.side sd.other = p.side sd.other) ∧
      t.dev.xfers = d.xfers.filter (fun x => decide (x.via.side ≠ sd) && !d.joined) ∧
      t.dev.holds = d.holds.filter (fun h => decide ¬((h.num = sd.num ∨ (d.joined = true ∧ h.num = sd.other.num)) ∧ (h.kind = 10 ∨ h.kind = 11))) ∧
      ({ d with xfers := t.dev.xfers, holds := t.dev.holds } : Dev).onlySlotsAndReports t.dev (if r.2 = 2 then [Reg.host_config_writes] else []))) ∧
  (∀ (sd : SideId) (a o : TrainOutcome) (s : State),
    let p := s.plant
    let d := p.dev
    d.porst = false → d.owlDown = false → (∀ x, x = sd ∨ d.joined = true → (s.core x).inReset = true) →
    (d.joined = false → (s.core sd).rd Reg.power_state = 5 → Completes (.sideResetRelease sd a o) s (fun t => p.sameMemories t ∧
      t.side sd.other = p.side sd.other ∧ (t.core sd).rd Reg.power_state = 6 ∧
      ({ s.core sd with inReset := false, entryStep := 3 } : Core).onlySlots (t.core sd) [Reg.power_state, Reg.last_transition] ∧
      ({ d with vddOff := false } : Dev).pllStart.onlySlotsAndReports t.dev [])) ∧
    ((∀ x, x = sd ∨ d.joined = true → (s.core x).rd Reg.power_state ≠ 5) →
      (d.bootPhase < 3 → Completes (.sideResetRelease sd a o) s (fun t => p.sameMemories t ∧ d.onlySlotsAndReports t.dev [] ∧
        (d.joined = false → t.side sd.other = p.side sd.other) ∧
        ∀ x, x = sd ∨ d.joined = true → ({ s.core x with inReset := false } : Core).onlySlots (t.core x) [])) ∧
      (3 ≤ d.bootPhase → p.emptyConfig = true → d.rd Reg.boot_slot ≠ 2 → a = .absent → o = .absent → (∀ x, x = sd ∨ d.joined = true → (s.core x).pllBad = 0) →
        Completes (.sideResetRelease sd a o) s (fun t => p.sameMemories t ∧ d.pllStart.onlySlotsAndReports t.dev [] ∧
          (d.joined = false → t.side sd.other = p.side sd.other) ∧ ∀ x, x = sd ∨ d.joined = true → (t.core x).fresh d)) ∧
      (3 ≤ d.bootPhase → d.joined = false →
        (∀ e, p.reapply sd a.plain = some e → Completes (.sideResetRelease sd a o) s (fun t => t = e.onDev Dev.pllStart)) ∧
        (p.reapply sd a.plain = none → Completes (.sideResetRelease sd a o) s (fun t => p.sameMemories t ∧
          t.side sd.other = p.side sd.other ∧ ({ s.core sd with inReset := true, released := false } : Core).onlySlots (t.core sd) [] ∧
          d.onlySlotsAndReports t.dev [] ∧ ((⟨16, 5, sd.num, d.aon, d.aon⟩ : FaultMsg) ∈ t.dev.faultQ ∨ 64 ≤ t.dev.faultQ.length)))))) ∧
  (∀ (ok : Bool) (s : State), s.plant.dev.porst = false → s.plant.dev.rd Reg.mode_status = 2 →
    Completes (.crossingTrainingDone ok) s (fun t => s.plant.onlyDev t ∧
      (ok = true → t.dev.rd Reg.mode_status = 1 ∧ s.plant.dev.onlySlots t.dev [Reg.mode_status]) ∧
      (ok = false → ((⟨21, 1, 0, s.plant.dev.aon, s.plant.dev.aon⟩ : FaultMsg) ∈ t.dev.faultQ ∨ 64 ≤ t.dev.faultQ.length) ∧
        s.plant.dev.onlySlotsAndReports t.dev [])))

/-- A writer takes a port that is administratively down in and out of port test; leaving ends its generator and the locks of its
lanes. In test, a checker that runs locks; its loss counts the bits compared and the errors given with 1,024 more. gen_cmd 1
starts the generator unless loopback 2 ignores it; gen_cmd 2, or the last of gen_count frames, ends it: gen_cmd reads 2 and
gen_frames counts what it sent. A frame received in test counts in chk_frames and, by its FCS, payload and sequence, in the error
counters, and sets the sequence expected next. An eye scan of a lane that runs begins, and its end fills the 2,048 counts of the
image. All else stays. Where the spec leaves a point open, the model's own choice is in log entries 53 and 55. -/
def Obligations.PortsAndLanesAreTested : Prop :=
  (∀ (q : Requester) (sd : SideId) (p : Fin 64) (s : State),
    let c := s.core sd
    s.plant.mayWriteSide q sd (Reg.port_test p) = true → c.member p = false →
    (c.flag (Reg.admin_up p) = false → c.rd Reg.field_test_request ≠ 2 → c.flag (Reg.port_test p) = false →
      Completes (.portTestWrite q sd p 1) s (fun t => s.plant.wroteSide t sd ∧ (t.core sd).rd (Reg.port_test p) = 1 ∧
        ((t.core sd).testOf p).expect = none ∧ (∀ l, l ≠ p.val → (t.core sd).testOf l = c.testOf l) ∧
        ({ c with test := (t.core sd).test } : Core).onlySlots (t.core sd) [Reg.port_test p])) ∧
    Completes (.portTestWrite q sd p 0) s (fun t =>
      let e := t.core sd
      let lanes : List Nat := if c.rd (Reg.port_mode p) = 7 then [p.val, p.val + 1, p.val + 2, p.val + 3] else [p.val]
      s.plant.wroteSide t sd ∧ e.rd (Reg.port_test p) = 0 ∧ (e.testOf p).genAt = none ∧
      (∀ l ∈ lanes, (e.testOf l).lockAt = none ∧ c.counts e (Reg.prbs_bits l) (c.lockedBits l)) ∧
      (∀ l, l ∉ lanes → e.testOf l = c.testOf l) ∧
      ((c.testOf p).genAt = none → e.out = c.out ∧ e.rd (Reg.gen_cmd p) = c.rd (Reg.gen_cmd p)) ∧
      ((c.testOf p).genAt.isSome = true → e.out = .generated p (c.genSent p) :: c.out ∧ e.rd (Reg.gen_cmd p) = 2 ∧
        c.counts e (Reg.gen_frames p) (c.genSent p - (c.testOf p).genClear)) ∧
      ({ c with test := e.test, out := e.out } : Core).onlySlotsAndReports e
        ([Reg.port_test p, Reg.gen_cmd p, Reg.gen_frames p] ++ lanes.map Reg.prbs_bits))) ∧
  (∀ (sd : SideId) (p : Fin 64) (s : State), (s.core sd).alive = true →
    let c := s.core sd
    (c.prbsRuns p = true → (c.testOf p).lockAt = none → Completes (.prbsLock sd p) s (fun t => s.plant.onlyCore t sd ∧
      (t.core sd).testOf p = { c.testOf p with lockAt := some c.now } ∧ (∀ l, l ≠ p.val → (t.core sd).testOf l = c.testOf l) ∧
      ({ c with test := (t.core sd).test } : Core).onlySlots (t.core sd) [])) ∧
    (∀ errors : BitVec 16, (c.testOf p).lockAt.isSome = true → Completes (.prbsLockLoss sd p errors) s (fun t => s.plant.onlyCore t sd ∧
      (t.core sd).testOf p = { c.testOf p with lockAt := none } ∧ (∀ l, l ≠ p.val → (t.core sd).testOf l = c.testOf l) ∧
      c.counts (t.core sd) (Reg.prbs_bits p) (c.lockedBits p) ∧ c.counts (t.core sd) (Reg.prbs_errors p) (errors.toNat + 1024) ∧
      ({ c with test := (t.core sd).test } : Core).onlySlotsAndReports (t.core sd) [Reg.prbs_bits p, Reg.prbs_errors p])) ∧
    (∀ u, (c.testOf p).genAt = some u → c.rd (Reg.gen_count p) ≠ 0 → c.modeMbps p ≠ 0 →
      let a := c.advanceTo (u + c.genTicks p)
      Completes (.genCountReached sd p) s (fun t => s.plant.onlyCore t sd ∧
        (t.core sd).testOf p = { a.testOf p with genAt := none } ∧ (∀ l, l ≠ p.val → (t.core sd).testOf l = a.testOf l) ∧
        (t.core sd).out = .generated p (c.rd (Reg.gen_count p)) :: a.out ∧ (t.core sd).rd (Reg.gen_cmd p) = 2 ∧
        a.counts (t.core sd) (Reg.gen_frames p) (c.rd (Reg.gen_count p) - (a.testOf p).genClear) ∧
        ({ a with test := (t.core sd).test, out := (t.core sd).out } : Core).onlySlotsAndReports (t.core sd)
          [Reg.gen_frames p, Reg.gen_cmd p])) ∧
    (∀ counts : List (BitVec 16), (c.testOf p).scanning = true → counts.length = 2048 →
      Completes (.eyeScanDone sd p counts) s (fun t => s.plant.onlyCore t sd ∧ (t.core sd).rd (Reg.eye_cmd p) = 2 ∧
        (t.core sd).testOf p = { c.testOf p with scanning := false } ∧ (∀ l, l ≠ p.val → (t.core sd).testOf l = c.testOf l) ∧
        (∀ i, i < 2048 → (t.core sd).tab wEye (2048 * p + i) = (counts.getD i 0).toNat) ∧
        (∀ j, (∀ i, i < 2048 → j ≠ tabKey wEye (2048 * p + i)) → (t.core sd).tabAt j = c.tabAt j) ∧
        ({ c with test := (t.core sd).test, tabs := (t.core sd).tabs } : Core).onlySlots (t.core sd) [Reg.eye_cmd p])) ∧
    (∀ (o : Octets) (codeError : Bool), c.flag (Reg.port_test p) = true → c.member p = false →
      let body := o.take (o.length - 4)
      let bad := codeError || decide (o.length < 4) || crc32 body != leNat (o.drop (o.length - 4))
      let ours := !bad && !(decide (o.length < 22) || be16 o 12 != 0x88B7)
      let seq := be32 o 14
      let unseen := match (c.testOf p).expect with | none => false | some x => seq != x
      Completes (.checkerFrame sd p o codeError) s (fun t => s.plant.onlyCore t sd ∧ c.counts (t.core sd) (Reg.chk_frames p) 1 ∧
        (∀ r ∈ [(Reg.chk_fcs_errors p, bad), (Reg.chk_payload_errors p, ours && body.drop 18 != c.genPayload p (body.length - 18)),
            (Reg.chk_seq_errors p, ours && unseen)],
          (r.2 = true → c.counts (t.core sd) r.1 1) ∧ (r.2 = false → (t.core sd).rd r.1 = c.rd r.1)) ∧
        (t.core sd).testOf p = (if ours then { c.testOf p with expect := some ((seq + 1) % 2 ^ 32) } else c.testOf p) ∧
        (∀ l, l ≠ p.val → (t.core sd).testOf l = c.testOf l) ∧
        ({ c with test := (t.core sd).test } : Core).onlySlotsAndReports (t.core sd)
          [Reg.chk_frames p, Reg.chk_fcs_errors p, Reg.chk_payload_errors p, Reg.chk_seq_errors p]))) ∧
  (∀ (q : Requester) (sd : SideId) (p : Fin 64) (s : State),
    let c := s.core sd
    (s.plant.mayWriteSide q sd (Reg.eye_cmd p) = true → (c.testOf p).scanning = false → c.laneRuns p = true →
      c.member p = false ∨ c.flag (Reg.port_test (c.testPort p)) = true →
      Completes (.eyeScan q sd p) s (fun t => s.plant.wroteSide t sd ∧ (t.core sd).rd (Reg.eye_cmd p) = 1 ∧
        (t.core sd).testOf p = { c.testOf p with scanning := true } ∧ (∀ l, l ≠ p.val → (t.core sd).testOf l = c.testOf l) ∧
        ({ c with test := (t.core sd).test } : Core).onlySlots (t.core sd) [Reg.eye_cmd p])) ∧
    (s.plant.mayWriteSide q sd (Reg.gen_cmd p) = true → c.member p = false → c.flag (Reg.port_test p) = true →
      ((c.testOf p).genAt = none → Completes (.genStart q sd p) s (fun t => s.plant.wroteSide t sd ∧
        (c.rd (Reg.loopback p) = 2 → c.onlySlots (t.core sd) []) ∧
        (c.rd (Reg.loopback p) ≠ 2 → (t.core sd).rd (Reg.gen_cmd p) = 1 ∧
          (t.core sd).testOf p = { c.testOf p with genAt := some c.now, genClear := 0 } ∧
          (∀ l, l ≠ p.val → (t.core sd).testOf l = c.testOf l) ∧
          ({ c with test := (t.core sd).test } : Core).onlySlots (t.core sd) [Reg.gen_cmd p]))) ∧
      ((c.testOf p).genAt.isSome = true → Completes (.genStop q sd p) s (fun t => s.plant.wroteSide t sd ∧
        (t.core sd).rd (Reg.gen_cmd p) = 2 ∧ (t.core sd).testOf p = { c.testOf p with genAt := none } ∧
        (∀ l, l ≠ p.val → (t.core sd).testOf l = c.testOf l) ∧ (t.core sd).out = .generated p (c.genSent p) :: c.out ∧
        c.counts (t.core sd) (Reg.gen_frames p) (c.genSent p - (c.testOf p).genClear) ∧
        ({ c with test := (t.core sd).test, out := (t.core sd).out } : Core).onlySlotsAndReports (t.core sd)
          [Reg.gen_cmd p, Reg.gen_frames p]))))

/-- A TAP instruction that the lifecycle or test_unlock opens is selected, another selects the bypass register; one that controls
balls stops forwarding on both sides. A scan answers with IDCODE, the results, the repair stage or the levels captured, loads
cells or the stage, starts MBIST, or makes a bus access. MBIST starts when a side is open to it, and its end gives each macro its
result and clears the scratchpads of those sides. repair_program programs the staged bits and reads 2, or 3 when they read back
wrong or the rail is lost. A field test asked for or due waits and is reported when the side is not quiet; it can be cancelled; it
starts when quiet; its end gives the parts' results, the failing unit and time, counts and is reported. Where the spec leaves a
point open, the model's own choice is in log entries 1, 7, 51, 53 and 54. -/
def Obligations.TapBistRepairAndFieldTestsRun : Prop :=
  (∀ (code : BitVec 8) (s : State), s.plant.dev.porst = false →
    let d := s.plant.dev
    let n := code.toNat
    let opens := (decide (d.lifecycle ≠ 2) && decide (d.lifecycle < 4)) || d.flag Reg.test_unlock
    let i := if n = 1 ∨ n = 2 ∨ (n ∈ [3, 4, 5, 6, 7, 0x20, 0x21, 0x30] ∧ opens = true) then n else 0xFF
    let stop := decide (3 ≤ i ∧ i ≤ 7)
    Completes (.jtagInstruction code) s (fun t => s.plant.sameMemories t ∧
      ({ d with tapIr := i, tapStopped := d.tapStopped || stop } : Dev).onlySlotsAndReports t.dev [] ∧
      (stop = false → s.plant.onlyDev t) ∧
      (stop = true → ∀ sd, ({ s.core sd with tapStop := true } : Core).onlySlots (t.core sd) []))) ∧
  (∀ s : State, s.plant.dev.porst = false →
    let p := s.plant
    let d := p.dev
    let tells (t : Plant) (o : Output) : Prop := p.sameMemories t ∧ t.b = p.b ∧ d.onlySlotsAndReports t.dev [] ∧
      ({ s.core .a with out := o :: (s.core .a).out } : Core).onlySlots (t.core .a) []
    (∀ x, d.tapIr = 1 → Completes (.jtagDataScan x) s (fun t => tells t (.tap d.idcode))) ∧
    (d.tapIr = 0x20 → Completes (.jtagDataScan (.mbist 0)) s (fun t => tells t (.tapBus (some d.mbistOctets))) ∧
      ∀ v ∈ [1, 2], d.mbistRun = 0 → d.lifecycle ≠ 2 ∨ d.flag Reg.test_unlock = true →
        Completes (.jtagDataScan (.mbist v)) s (fun t => p.onlyDev t ∧ t.dev.rd Reg.mbist_cmd = 1 ∧
          ({ d with mbistRun := 2 } : Dev).onlySlots t.dev [Reg.mbist_cmd])) ∧
    (d.tapIr = 0x21 → Completes (.jtagDataScan (.repair none)) s (fun t => tells t (.tapBus (some (d.rdOctets Reg.repair_stage 56)))) ∧
      ∀ o : Octets, o.length = 56 → Completes (.jtagDataScan (.repair (some o))) s (fun t => p.onlyDev t ∧
        t.dev.rdOctets Reg.repair_stage 56 = o ∧ d.onlySlots t.dev ((List.range 7).map (Reg.repair_stage + ·)))) ∧
    (∀ l : List (Nat × Bool), 2 ≤ d.tapIr → d.tapIr ≤ 5 →
      let v := (l.foldl (fun (a : Nat × Nat) c => (a.1 + b2n (Config.ballLevel d.free c.1) * 2 ^ a.2, a.2 + 1)) (0, 0)).1
      Completes (.jtagDataScan (.cells l)) s (fun t => p.sameMemories t ∧ t.b = p.b ∧
        (∀ c, (∀ x ∈ l, x.1 ≠ c) → SMap.getD t.dev.tapBsr c 0 = SMap.getD d.tapBsr c 0) ∧
        (∀ c x, l.getLast? = some (c, x) → SMap.getD t.dev.tapBsr c 0 = b2n x) ∧
        ({ d with tapBsr := t.dev.tapBsr, free := d.free + 1 } : Dev).onlySlotsAndReports t.dev [] ∧
        ({ s.core .a with out := .tap v :: (s.core .a).out } : Core).onlySlots (t.core .a) [])) ∧
    (∀ (sd : SideId) (a n : Nat) (o : Option Octets), d.tapIr = 0x30 →
      ((s.core sd).released = false → Completes (.jtagDataScan (.bus sd a n o)) s (fun t => tells t (.tapBus none))) ∧
      ((s.core sd).released = true → ∀ x y : Nat, x < 0x8000 → y < 256 → a = 0x40000000 + 2048 * x + 8 * y →
        (o = none → n = 8 → Completes (.jtagDataScan (.bus sd a n o)) s (fun t => t = p.objectRead (.pf sd) (.slot x y) 2)) ∧
        (∀ v, o = some v → v.length = 8 → Completes (.jtagDataScan (.bus sd a n o)) s (fun t => t = p.objectWrite (.pf sd) x y 2 (leNat v)))))) ∧
  (∀ (q : Requester) (s : State),
    let p := s.plant
    let d := p.dev
    p.mayWriteDev q Reg.mbist_cmd = true → d.mbistRun = 0 → (∃ sd, (s.core sd).bistOpen = true) →
    d.lifecycle ≠ 2 ∨ d.flag Reg.test_unlock = true →
    ∀ r ∈ [Instr.mbistRun q, .mbistRunStaged q], Completes r s (fun t => p.onlyDev t ∧ t.dev.rd Reg.mbist_cmd = 1 ∧
      ({ d with mbistRun := 1 } : Dev).onlySlotsAndReports t.dev [Reg.mbist_cmd, Reg.host_config_writes])) ∧
  (∀ (fails : List MbistFail) (s : State),
    let p := s.plant
    let d := p.dev
    d.porst = false → d.mbistRun ≠ 0 →
    let tested (m : Nat) : Bool := p.bistMacro (decide (d.mbistRun = 2)) m
    let bad := fails.filter (fun f => tested f.num)
    Completes (.mbistDone fails) s (fun t => t.dev.mbistRun = 0 ∧
      t.dev.rd Reg.mbist_cmd = (if bad.any (fun f => !f.repairable) then 4 else if bad.isEmpty then 2 else 3) ∧
      t.dev.rd Reg.mbist_fail_count = ((List.range 2048).filter (fun m => bad.any (fun f => decide (f.num = m)))).length ∧
      (∀ m, m < 2048 → SMap.getD t.dev.mbistRes m mbistNone =
        if tested m = false then mbistNone else match bad.find? (fun f => decide (f.num = m)) with | none => 0 | some f => mbistWord f) ∧
      (∀ sd, (t.side sd).dram = (p.side sd).dram ∧ (t.side sd).spm = (if (s.core sd).bistOpen then [] else (p.side sd).spm) ∧
        ({ s.core sd with spmBad := if (s.core sd).bistOpen then [] else (s.core sd).spmBad } : Core).onlySlots (t.core sd) []) ∧
      ({ d with mbistRun := 0, mbistRes := t.dev.mbistRes } : Dev).onlySlotsAndReports t.dev [Reg.mbist_cmd, Reg.mbist_fail_count])) ∧
  (∀ (q : Requester) (part : Option (Fin 2048)) (misread : Bool) (s : State),
    let d := s.plant.dev
    let st := d.repairStage
    let now := bits d.fuses 419 0
    s.plant.mayWriteDev q Reg.repair_program = true → bitOf (d.rd Reg.rail_status) 8 = true → d.lifecycle = 1 →
    (∀ i, i < 20 → bitOf (repairRecord now i) 20 = true → repairRecord st i = 0 ∨ repairRecord st i = repairRecord now i) →
    repairClash (now ||| st) = false →
    Completes (.repairProgram q 1 part misread) s (fun t => s.plant.onlyDev t ∧
      t.dev.fuses = programBits d.fuses st (part.map Fin.val) ∧
      (part = none → t.dev.rd Reg.repair_program = (if misread then 3 else 2) ∧
        ∀ i, i < 2048 → bitOf t.dev.fuses i = (bitOf d.fuses i || bitOf st i)) ∧
      (part.isSome = true → t.dev.rd Reg.repair_program = 3 ∧
        ((⟨8, 1, 0, d.aon, d.aon⟩ : FaultMsg) ∈ t.dev.faultQ ∨ 64 ≤ t.dev.faultQ.length)) ∧
      ({ d with fuses := t.dev.fuses } : Dev).onlySlotsAndReports t.dev [Reg.repair_program, Reg.host_config_writes])) ∧
  (∀ (q : Requester) (sd : SideId) (s : State),
    let c := s.core sd
    let d := s.plant.dev
    let st := c.rd Reg.field_test_request
    let said (t : Plant) (kind : Nat) : Prop :=
      let f := t.core sd
      (⟨22, kind, (c.num + 2 * f.rd Reg.field_test_result + 2 ^ 17 * f.rd Reg.field_test_fail_unit) % 2 ^ 48, d.aon, d.aon⟩ : FaultMsg) ∈ t.dev.faultQ ∨
      64 ≤ t.dev.faultQ.length
    let asks (t : Plant) : Prop := (t.core sd).rd Reg.field_test_request = 1 ∧ (c.quiet = false → said t 1) ∧
      c.onlySlots (t.core sd) [Reg.field_test_request]
    (s.plant.mayWriteSide q sd Reg.field_test_request = true →
      (st ≠ 1 → st ≠ 2 → Completes (.fieldTestRequest q sd) s (fun t => s.plant.wroteSide t sd ∧ asks t)) ∧
      (st = 1 → Completes (.fieldTestCancel q sd) s (fun t => s.plant.wroteSide t sd ∧ (t.core sd).rd Reg.field_test_request = 0 ∧
        c.onlySlots (t.core sd) [Reg.field_test_request]))) ∧
    (d.porst = false → d.owlDown = false →
      (c.rd Reg.field_test_period_h ≠ 0 → st ≠ 1 → st ≠ 2 → Completes (.fieldTestDue sd) s (fun t => s.plant.onlyCore t sd ∧ asks t)) ∧
      (st = 1 → c.quiet = true → Completes (.fieldTestStart sd) s (fun t => s.plant.onlyCore t sd ∧
        (t.core sd).rd Reg.field_test_request = 2 ∧ c.onlySlots (t.core sd) [Reg.field_test_request])) ∧
      (∀ (failed : BitVec 5) (unit : BitVec 16), st = 2 →
        let part (k : Nat) : Nat := if bitOf (c.rd Reg.field_test_scope) k = false then 0
          else if k = 4 ∧ c.rd Reg.core_run ≠ 0 then 3 else if bitOf failed.toNat k then 2 else 1
        let bad := (List.range 5).any (fun k => decide (part k = 2))
        let b := if part 4 = 1 ∨ part 4 = 2 then c.fieldPools else c
        Completes (.fieldTestDone sd failed unit) s (fun t =>
          let e := t.core sd
          s.plant.onlyCore t sd ∧ e.rd Reg.field_test_request = (if bad then 4 else 3) ∧
          (∀ k, k < 5 → bits (e.rd Reg.field_test_result) (2 * k + 1) (2 * k) = part k) ∧
          e.rd Reg.field_test_fail_unit = (if bad then unit.toNat else 0) ∧ e.rd Reg.field_test_last = d.aon % 2 ^ 64 ∧
          b.counts e Reg.field_test_runs 1 ∧ said t (if bad then 2 else 3) ∧
          b.onlySlotsAndReports e [Reg.field_test_request, Reg.field_test_result, Reg.field_test_fail_unit, Reg.field_test_last,
            Reg.field_test_runs]))))
end

