-- ==== Sys2Proof/Laws/Store.lean ====
section
/-! SUPPORT. Store.lean: what reading a sparse store gives after a write to it, and that every write keeps the canonical form, so
that a memory's stays canonical. -/

namespace Sys2Proof.Machine

/-! ### Reading after writing -/

theorem SMap.find?_insert_same {α : Type} (m : SMap α) (k : Nat) (v : α) : SMap.find? (SMap.insert m k v) k = some v := by
  induction m with
  | nil => simp [SMap.insert, SMap.find?]
  | cons e r ih =>
    unfold SMap.insert
    split
    · simp [SMap.find?]
    · split
      · simp [SMap.find?]
      · rw [SMap.find?, if_neg (by omega)]; exact ih

theorem SMap.find?_insert_ne {α : Type} (m : SMap α) {k j : Nat} (v : α) (h : j ≠ k) :
    SMap.find? (SMap.insert m k v) j = SMap.find? m j := by
  induction m with
  | nil => simp [SMap.insert, SMap.find?, Ne.symm h]
  | cons e r ih =>
    unfold SMap.insert
    split
    · simp [SMap.find?, Ne.symm h]
    · split
      · rename_i _ hk; subst hk; simp [SMap.find?, Ne.symm h]
      · simp only [SMap.find?]; split
        · rfl
        · exact ih

theorem SMap.find?_erase_same {α : Type} (m : SMap α) (k : Nat) : SMap.find? (SMap.erase m k) k = none := by
  induction m with
  | nil => rfl
  | cons e r ih =>
    unfold SMap.erase at *
    by_cases h : e.1 = k
    · rw [List.filter_cons_of_neg (by simpa using h)]; exact ih
    · rw [List.filter_cons_of_pos (by simpa using h)]; simp only [SMap.find?, if_neg h]; exact ih

theorem SMap.find?_erase_ne {α : Type} (m : SMap α) {k j : Nat} (h : j ≠ k) :
    SMap.find? (SMap.erase m k) j = SMap.find? m j := by
  induction m with
  | nil => rfl
  | cons e r ih =>
    unfold SMap.erase at *
    by_cases hk : e.1 = k
    · rw [List.filter_cons_of_neg (by simpa using hk)]
      simp only [SMap.find?, if_neg (show e.1 ≠ j by omega)]; exact ih
    · rw [List.filter_cons_of_pos (by simpa using hk)]; simp only [SMap.find?]; split
      · rfl
      · exact ih

theorem SMap.find?_put_ne {α : Type} [DecidableEq α] (m : SMap α) {k j : Nat} (d v : α) (h : j ≠ k) :
    SMap.find? (SMap.put m k d v) j = SMap.find? m j := by
  unfold SMap.put; split
  · exact SMap.find?_erase_ne m h
  · exact SMap.find?_insert_ne m v h

theorem SMap.find?_put_same {α : Type} [DecidableEq α] (m : SMap α) (k : Nat) (d v : α) :
    SMap.find? (SMap.put m k d v) k = if v = d then none else some v := by
  unfold SMap.put; split
  · exact SMap.find?_erase_same m k
  · exact SMap.find?_insert_same m k v

theorem SMap.getD_put_same {α : Type} [DecidableEq α] (m : SMap α) (k : Nat) (d v : α) : SMap.getD (SMap.put m k d v) k d = v := by
  unfold SMap.getD SMap.put; split
  · rename_i h; rw [SMap.find?_erase_same, h]; rfl
  · rw [SMap.find?_insert_same]; rfl

theorem SMap.getD_put_ne {α : Type} [DecidableEq α] (m : SMap α) {k j : Nat} (d v e : α) (h : j ≠ k) :
    SMap.getD (SMap.put m k d v) j e = SMap.getD m j e := by
  unfold SMap.getD; rw [SMap.find?_put_ne m d v h]

theorem SMap.getD_insert_same {α : Type} (m : SMap α) (k : Nat) (v d : α) : SMap.getD (SMap.insert m k v) k d = v := by
  unfold SMap.getD; rw [SMap.find?_insert_same]; rfl

theorem SMap.getD_insert_ne {α : Type} (m : SMap α) {k j : Nat} (v d : α) (h : j ≠ k) :
    SMap.getD (SMap.insert m k v) j d = SMap.getD m j d := by
  unfold SMap.getD; rw [SMap.find?_insert_ne m v h]

theorem SMap.getD_erase_same {α : Type} (m : SMap α) (k : Nat) (d : α) : SMap.getD (SMap.erase m k) k d = d := by
  unfold SMap.getD; rw [SMap.find?_erase_same]; rfl

theorem SMap.getD_erase_ne {α : Type} (m : SMap α) {k j : Nat} (d : α) (h : j ≠ k) :
    SMap.getD (SMap.erase m k) j d = SMap.getD m j d := by
  unfold SMap.getD; rw [SMap.find?_erase_ne m h]

/-! ### The canonical form -/

/-- The keys rise, said of a list: the form that Mathlib's lemmas take. -/
theorem SMap.rising_iff {α : Type} (m : SMap α) : SMap.rising m = true ↔ (m.map Prod.fst).Pairwise (· < ·) := by
  induction m with
  | nil => simp [SMap.rising]
  | cons e r ih =>
    cases r with
    | nil => simp [SMap.rising]
    | cons f r =>
      obtain ⟨k, v⟩ := e; obtain ⟨k', v'⟩ := f
      simp only [SMap.rising, Bool.and_eq_true, decide_eq_true_eq, ih, List.map_cons, List.pairwise_cons, List.mem_cons]
      constructor
      · rintro ⟨h, h1, h2⟩
        exact ⟨fun a ha => ha.elim (fun e => e ▸ h) (fun e => Nat.lt_trans h (h1 a e)), h1, h2⟩
      · rintro ⟨h, h1, h2⟩; exact ⟨h k' (.inl rfl), h1, h2⟩

theorem SMap.mem_insert {α : Type} (m : SMap α) (k : Nat) (v : α) : ∀ e ∈ SMap.insert m k v, e = (k, v) ∨ e ∈ m := by
  induction m with
  | nil => simp [SMap.insert]
  | cons f r ih =>
    unfold SMap.insert; intro e he
    split at he
    · simpa using he
    · split at he
      · simp only [List.mem_cons] at he ⊢; rcases he with he | he <;> simp [he]
      · simp only [List.mem_cons] at he ⊢
        rcases he with he | he
        · exact .inr (.inl he)
        · rcases ih e he with h | h <;> simp [h]

theorem SMap.rising_insert {α : Type} (m : SMap α) (k : Nat) (v : α) (h : SMap.rising m = true) :
    SMap.rising (SMap.insert m k v) = true := by
  rw [SMap.rising_iff] at *
  induction m with
  | nil => simp [SMap.insert]
  | cons f r ih =>
    obtain ⟨k', v'⟩ := f
    simp only [List.map_cons, List.pairwise_cons, List.mem_map] at h
    unfold SMap.insert
    split
    · rename_i hk
      simp only [List.map_cons, List.pairwise_cons, List.mem_cons, List.mem_map]
      exact ⟨fun a ha => by
        rcases ha with rfl | ⟨e, he, rfl⟩
        · exact hk
        · exact Nat.lt_trans hk (h.1 _ ⟨e, he, rfl⟩), fun a ha => h.1 a ha, h.2⟩
    · split
      · rename_i _ hk; subst hk
        simp only [List.map_cons, List.pairwise_cons, List.mem_map]; exact h
      · rename_i h1 h2
        simp only [List.map_cons, List.pairwise_cons, List.mem_map]
        refine ⟨fun a ha => ?_, ih h.2⟩
        obtain ⟨e, he, rfl⟩ := ha
        rcases SMap.mem_insert r k v e he with rfl | he
        · show k' < k; omega
        · exact h.1 _ ⟨e, he, rfl⟩

theorem SMap.rising_erase {α : Type} (m : SMap α) (k : Nat) (h : SMap.rising m = true) : SMap.rising (SMap.erase m k) = true := by
  rw [SMap.rising_iff] at *
  exact h.sublist (List.Sublist.map _ List.filter_sublist)

/-- A memory write keeps the canonical form. -/
theorem Memory.wf_write (m : Memory) (a : Nat) (b : BitVec 8) (h : m.wf = true) : (m.write a b).wf = true := by
  unfold Memory.wf Memory.write SMap.put at *
  simp only [Bool.and_eq_true, List.all_eq_true] at *
  split
  · refine ⟨SMap.rising_erase m a h.1, fun e he => h.2 e ?_⟩
    exact (List.mem_filter.mp he).1
  · rename_i hb
    refine ⟨SMap.rising_insert m a b h.1, fun e he => ?_⟩
    rcases SMap.mem_insert m a b e he with rfl | he
    · simpa using hb
    · exact h.2 e he

/-- So does a write of several octets. -/
theorem Memory.wf_writeBytes (o : Octets) : ∀ (m : Memory) (a : Nat), m.wf = true → (m.writeBytes a o).wf = true := by
  induction o with
  | nil => exact fun m a h => h
  | cons b r ih => exact fun m a h => ih (m.write a b) (a + 1) (Memory.wf_write m a b h)

theorem Memory.wf_nil : Memory.wf [] = true := rfl

theorem Memory.read_write_same (m : Memory) (a : Nat) (b : BitVec 8) : (m.write a b).read a = b :=
  SMap.getD_put_same m a Memory.blank b

theorem Memory.read_write_ne (m : Memory) {a c : Nat} (b : BitVec 8) (h : c ≠ a) : (m.write a b).read c = m.read c :=
  SMap.getD_put_ne m Memory.blank b Memory.blank h

/-- A write of several octets leaves every octet outside them. -/
theorem Memory.read_writeBytes_out (o : Octets) :
    ∀ (m : Memory) (a c : Nat), (c < a ∨ a + o.length ≤ c) → (m.writeBytes a o).read c = m.read c := by
  induction o with
  | nil => exact fun m a c _ => rfl
  | cons b r ih =>
    intro m a c h
    simp only [List.length_cons] at h
    unfold Memory.writeBytes
    rw [ih (m.write a b) (a + 1) c (by omega)]
    exact Memory.read_write_ne m b (by omega)

/-- And puts each of them at its place. -/
theorem Memory.read_writeBytes_in (o : Octets) :
    ∀ (m : Memory) (a i : Nat), (h : i < o.length) → (m.writeBytes a o).read (a + i) = o[i] := by
  induction o with
  | nil => intro m a i h; exact absurd h (Nat.not_lt_zero i)
  | cons b r ih =>
    intro m a i h
    unfold Memory.writeBytes
    cases i with
    | zero =>
      rw [Nat.add_zero, Memory.read_writeBytes_out r _ _ _ (by omega)]
      exact Memory.read_write_same m a b
    | succ i =>
      have := ih (m.write a b) (a + 1) i (by simpa using h)
      rw [show a + (i + 1) = a + 1 + i by omega]; simpa using this

end Sys2Proof.Machine
end

