-- ==== Sys2Proof/Laws/State.lean ====
section
/-! SUPPORT. State.lean: what each update of a side's or the device's part leaves as it was, one lemma for each field, and what a
register reads after a write. -/

namespace Sys2Proof.Machine

-- one theorem at a time: each one in work holds a stack of its own
set_option Elab.async false

/-! ### One-field updates of a side -/

@[simp] theorem Core.wr_id (c : Core) (k v : Nat) : (c.wr k v).id = c.id := rfl
@[simp] theorem Core.wr_tabs (c : Core) (k v : Nat) : (c.wr k v).tabs = c.tabs := rfl
@[simp] theorem Core.wr_marks (c : Core) (k v : Nat) : (c.wr k v).marks = c.marks := rfl
@[simp] theorem Core.wr_released (c : Core) (k v : Nat) : (c.wr k v).released = c.released := rfl
@[simp] theorem Core.wr_now (c : Core) (k v : Nat) : (c.wr k v).now = c.now := rfl
@[simp] theorem Core.wr_free (c : Core) (k v : Nat) : (c.wr k v).free = c.free := rfl
@[simp] theorem Core.wr_doms (c : Core) (k v : Nat) : (c.wr k v).doms = c.doms := rfl
@[simp] theorem Core.wr_ppsOut (c : Core) (k v : Nat) : (c.wr k v).ppsOut = c.ppsOut := rfl
@[simp] theorem Core.wr_ppsEnd (c : Core) (k v : Nat) : (c.wr k v).ppsEnd = c.ppsEnd := rfl
@[simp] theorem Core.wr_ppsPrev (c : Core) (k v : Nat) : (c.wr k v).ppsPrev = c.ppsPrev := rfl
@[simp] theorem Core.wr_ppsBase (c : Core) (k v : Nat) : (c.wr k v).ppsBase = c.ppsBase := rfl
@[simp] theorem Core.wr_faultQ (c : Core) (k v : Nat) : (c.wr k v).faultQ = c.faultQ := rfl
@[simp] theorem Core.wr_rates (c : Core) (k v : Nat) : (c.wr k v).rates = c.rates := rfl
@[simp] theorem Core.wr_out (c : Core) (k v : Nat) : (c.wr k v).out = c.out := rfl
@[simp] theorem Core.wr_ports (c : Core) (k v : Nat) : (c.wr k v).ports = c.ports := rfl
@[simp] theorem Core.wr_rx (c : Core) (k v : Nat) : (c.wr k v).rx = c.rx := rfl
@[simp] theorem Core.wr_frameNo (c : Core) (k v : Nat) : (c.wr k v).frameNo = c.frameNo := rfl
@[simp] theorem Core.wr_recirc (c : Core) (k v : Nat) : (c.wr k v).recirc = c.recirc := rfl
@[simp] theorem Core.wr_rrPort (c : Core) (k v : Nat) : (c.wr k v).rrPort = c.rrPort := rfl
@[simp] theorem Core.wr_rrVport (c : Core) (k v : Nat) : (c.wr k v).rrVport = c.rrVport := rfl
@[simp] theorem Core.wr_vportWait (c : Core) (k v : Nat) : (c.wr k v).vportWait = c.vportWait := rfl
@[simp] theorem Core.wr_txJobs (c : Core) (k v : Nat) : (c.wr k v).txJobs = c.txJobs := rfl
@[simp] theorem Core.wr_rxJobs (c : Core) (k v : Nat) : (c.wr k v).rxJobs = c.rxJobs := rfl
@[simp] theorem Core.wr_vps (c : Core) (k v : Nat) : (c.wr k v).vps = c.vps := rfl
@[simp] theorem Core.wr_fns (c : Core) (k v : Nat) : (c.wr k v).fns = c.fns := rfl
@[simp] theorem Core.wr_badgerQ (c : Core) (k v : Nat) : (c.wr k v).badgerQ = c.badgerQ := rfl
@[simp] theorem Core.wr_badgerRun (c : Core) (k v : Nat) : (c.wr k v).badgerRun = c.badgerRun := rfl
@[simp] theorem Core.wr_probes (c : Core) (k v : Nat) : (c.wr k v).probes = c.probes := rfl
@[simp] theorem Core.wr_banksFenced (c : Core) (k v : Nat) : (c.wr k v).banksFenced = c.banksFenced := rfl
@[simp] theorem Core.wr_learnQ (c : Core) (k v : Nat) : (c.wr k v).learnQ = c.learnQ := rfl
@[simp] theorem Core.wr_sendQ (c : Core) (k v : Nat) : (c.wr k v).sendQ = c.sendQ := rfl
@[simp] theorem Core.wr_lastMsg (c : Core) (k v : Nat) : (c.wr k v).lastMsg = c.lastMsg := rfl
@[simp] theorem Core.wr_learnSeq (c : Core) (k v : Nat) : (c.wr k v).learnSeq = c.learnSeq := rfl
@[simp] theorem Core.wr_rehashQ (c : Core) (k v : Nat) : (c.wr k v).rehashQ = c.rehashQ := rfl
@[simp] theorem Core.wr_crossRecs (c : Core) (k v : Nat) : (c.wr k v).crossRecs = c.crossRecs := rfl
@[simp] theorem Core.wr_learnRx (c : Core) (k v : Nat) : (c.wr k v).learnRx = c.learnRx := rfl
@[simp] theorem Core.wr_flipTarget (c : Core) (k v : Nat) : (c.wr k v).flipTarget = c.flipTarget := rfl
@[simp] theorem Core.wr_flipAt (c : Core) (k v : Nat) : (c.wr k v).flipAt = c.flipAt := rfl
@[simp] theorem Core.wr_flipEff (c : Core) (k v : Nat) : (c.wr k v).flipEff = c.flipEff := rfl
@[simp] theorem Core.wr_copyTo (c : Core) (k v : Nat) : (c.wr k v).copyTo = c.copyTo := rfl
@[simp] theorem Core.wr_frer (c : Core) (k v : Nat) : (c.wr k v).frer = c.frer := rfl
@[simp] theorem Core.wr_gates (c : Core) (k v : Nat) : (c.wr k v).gates = c.gates := rfl
@[simp] theorem Core.wr_meters (c : Core) (k v : Nat) : (c.wr k v).meters = c.meters := rfl
@[simp] theorem Core.wr_mgmtMeter (c : Core) (k v : Nat) : (c.wr k v).mgmtMeter = c.mgmtMeter := rfl
@[simp] theorem Core.wr_sweptAt (c : Core) (k v : Nat) : (c.wr k v).sweptAt = c.sweptAt := rfl
@[simp] theorem Core.wr_shapers (c : Core) (k v : Nat) : (c.wr k v).shapers = c.shapers := rfl
@[simp] theorem Core.wr_copies (c : Core) (k v : Nat) : (c.wr k v).copies = c.copies := rfl
@[simp] theorem Core.wr_copyNo (c : Core) (k v : Nat) : (c.wr k v).copyNo = c.copyNo := rfl
@[simp] theorem Core.wr_spent (c : Core) (k v : Nat) : (c.wr k v).spent = c.spent := rfl
@[simp] theorem Core.wr_middles (c : Core) (k v : Nat) : (c.wr k v).middles = c.middles := rfl
@[simp] theorem Core.wr_middleSlot (c : Core) (k v : Nat) : (c.wr k v).middleSlot = c.middleSlot := rfl
@[simp] theorem Core.wr_returning (c : Core) (k v : Nat) : (c.wr k v).returning = c.returning := rfl
@[simp] theorem Core.wr_arriving (c : Core) (k v : Nat) : (c.wr k v).arriving = c.arriving := rfl
@[simp] theorem Core.wr_streams (c : Core) (k v : Nat) : (c.wr k v).streams = c.streams := rfl
@[simp] theorem Core.wr_groupSlot (c : Core) (k v : Nat) : (c.wr k v).groupSlot = c.groupSlot := rfl
@[simp] theorem Core.wr_sliceRr (c : Core) (k v : Nat) : (c.wr k v).sliceRr = c.sliceRr := rfl
@[simp] theorem Core.wr_queues (c : Core) (k v : Nat) : (c.wr k v).queues = c.queues := rfl
@[simp] theorem Core.wr_xoffs (c : Core) (k v : Nat) : (c.wr k v).xoffs = c.xoffs := rfl
@[simp] theorem Core.wr_mgmtWait (c : Core) (k v : Nat) : (c.wr k v).mgmtWait = c.mgmtWait := rfl
@[simp] theorem Core.wr_crossOut (c : Core) (k v : Nat) : (c.wr k v).crossOut = c.crossOut := rfl
@[simp] theorem Core.wr_crossIn (c : Core) (k v : Nat) : (c.wr k v).crossIn = c.crossIn := rfl
@[simp] theorem Core.wr_crossRr (c : Core) (k v : Nat) : (c.wr k v).crossRr = c.crossRr := rfl
@[simp] theorem Core.wr_crossMap (c : Core) (k v : Nat) : (c.wr k v).crossMap = c.crossMap := rfl
@[simp] theorem Core.wr_crossHold (c : Core) (k v : Nat) : (c.wr k v).crossHold = c.crossHold := rfl
@[simp] theorem Core.wr_vportBind (c : Core) (k v : Nat) : (c.wr k v).vportBind = c.vportBind := rfl
@[simp] theorem Core.wr_pairs (c : Core) (k v : Nat) : (c.wr k v).pairs = c.pairs := rfl
@[simp] theorem Core.wr_pairsWritten (c : Core) (k v : Nat) : (c.wr k v).pairsWritten = c.pairsWritten := rfl
@[simp] theorem Core.wr_halted (c : Core) (k v : Nat) : (c.wr k v).halted = c.halted := rfl
@[simp] theorem Core.wr_coresFenced (c : Core) (k v : Nat) : (c.wr k v).coresFenced = c.coresFenced := rfl
@[simp] theorem Core.wr_coreStart (c : Core) (k v : Nat) : (c.wr k v).coreStart = c.coreStart := rfl
@[simp] theorem Core.wr_imsic (c : Core) (k v : Nat) : (c.wr k v).imsic = c.imsic := rfl
@[simp] theorem Core.wr_vpSlopes (c : Core) (k v : Nat) : (c.wr k v).vpSlopes = c.vpSlopes := rfl
@[simp] theorem Core.wr_stampsBack (c : Core) (k v : Nat) : (c.wr k v).stampsBack = c.stampsBack := rfl
@[simp] theorem Core.wr_deaf (c : Core) (k v : Nat) : (c.wr k v).deaf = c.deaf := rfl
@[simp] theorem Core.wr_aplicIn (c : Core) (k v : Nat) : (c.wr k v).aplicIn = c.aplicIn := rfl
@[simp] theorem Core.wr_aplicM (c : Core) (k v : Nat) : (c.wr k v).aplicM = c.aplicM := rfl
@[simp] theorem Core.wr_aplicS (c : Core) (k v : Nat) : (c.wr k v).aplicS = c.aplicS := rfl
@[simp] theorem Core.wr_mtimecmp (c : Core) (k v : Nat) : (c.wr k v).mtimecmp = c.mtimecmp := rfl
@[simp] theorem Core.wr_spmPointer (c : Core) (k v : Nat) : (c.wr k v).spmPointer = c.spmPointer := rfl
@[simp] theorem Core.wr_spmWait (c : Core) (k v : Nat) : (c.wr k v).spmWait = c.spmWait := rfl
@[simp] theorem Core.wr_spmMerging (c : Core) (k v : Nat) : (c.wr k v).spmMerging = c.spmMerging := rfl
@[simp] theorem Core.wr_spmRes (c : Core) (k v : Nat) : (c.wr k v).spmRes = c.spmRes := rfl
@[simp] theorem Core.wr_spmBad (c : Core) (k v : Nat) : (c.wr k v).spmBad = c.spmBad := rfl
@[simp] theorem Core.wr_dm (c : Core) (k v : Nat) : (c.wr k v).dm = c.dm := rfl
@[simp] theorem Core.wr_poolUsed (c : Core) (k v : Nat) : (c.wr k v).poolUsed = c.poolUsed := rfl
@[simp] theorem Core.wr_poolTags (c : Core) (k v : Nat) : (c.wr k v).poolTags = c.poolTags := rfl
@[simp] theorem Core.wr_lastLane (c : Core) (k v : Nat) : (c.wr k v).lastLane = c.lastLane := rfl
@[simp] theorem Core.wr_reclaimed (c : Core) (k v : Nat) : (c.wr k v).reclaimed = c.reclaimed := rfl
@[simp] theorem Core.wr_reclaiming (c : Core) (k v : Nat) : (c.wr k v).reclaiming = c.reclaiming := rfl
@[simp] theorem Core.wr_lastErrs (c : Core) (k v : Nat) : (c.wr k v).lastErrs = c.lastErrs := rfl
@[simp] theorem Core.wr_toDev (c : Core) (k v : Nat) : (c.wr k v).toDev = c.toDev := rfl
@[simp] theorem Core.wr_wakePend (c : Core) (k v : Nat) : (c.wr k v).wakePend = c.wakePend := rfl
@[simp] theorem Core.wr_slotBase (c : Core) (k v : Nat) : (c.wr k v).slotBase = c.slotBase := rfl
@[simp] theorem Core.wr_pllTry (c : Core) (k v : Nat) : (c.wr k v).pllTry = c.pllTry := rfl
@[simp] theorem Core.wr_pllBad (c : Core) (k v : Nat) : (c.wr k v).pllBad = c.pllBad := rfl
@[simp] theorem Core.wr_entryStep (c : Core) (k v : Nat) : (c.wr k v).entryStep = c.entryStep := rfl
@[simp] theorem Core.wr_entryAt (c : Core) (k v : Nat) : (c.wr k v).entryAt = c.entryAt := rfl
@[simp] theorem Core.wr_inReset (c : Core) (k v : Nat) : (c.wr k v).inReset = c.inReset := rfl
@[simp] theorem Core.wr_fieldWakeId (c : Core) (k v : Nat) : (c.wr k v).fieldWakeId = c.fieldWakeId := rfl
@[simp] theorem Core.wr_holds (c : Core) (k v : Nat) : (c.wr k v).holds = c.holds := rfl
@[simp] theorem Core.wr_fences (c : Core) (k v : Nat) : (c.wr k v).fences = c.fences := rfl
@[simp] theorem Core.wr_stateLive (c : Core) (k v : Nat) : (c.wr k v).stateLive = c.stateLive := rfl
@[simp] theorem Core.wr_qLost (c : Core) (k v : Nat) : (c.wr k v).qLost = c.qLost := rfl
@[simp] theorem Core.wr_pairCauses (c : Core) (k v : Nat) : (c.wr k v).pairCauses = c.pairCauses := rfl
@[simp] theorem Core.wr_conds (c : Core) (k v : Nat) : (c.wr k v).conds = c.conds := rfl
@[simp] theorem Core.wr_hpm (c : Core) (k v : Nat) : (c.wr k v).hpm = c.hpm := rfl
@[simp] theorem Core.wr_sampAt (c : Core) (k v : Nat) : (c.wr k v).sampAt = c.sampAt := rfl
@[simp] theorem Core.wr_sampSent (c : Core) (k v : Nat) : (c.wr k v).sampSent = c.sampSent := rfl
@[simp] theorem Core.wr_sampLost (c : Core) (k v : Nat) : (c.wr k v).sampLost = c.sampLost := rfl
@[simp] theorem Core.wr_snapLatch (c : Core) (k v : Nat) : (c.wr k v).snapLatch = c.snapLatch := rfl
@[simp] theorem Core.wr_snapImage (c : Core) (k v : Nat) : (c.wr k v).snapImage = c.snapImage := rfl
@[simp] theorem Core.wr_test (c : Core) (k v : Nat) : (c.wr k v).test = c.test := rfl
@[simp] theorem Core.wr_tapStop (c : Core) (k v : Nat) : (c.wr k v).tapStop = c.tapStop := rfl
@[simp] theorem Core.wr_absentPorts (c : Core) (k v : Nat) : (c.wr k v).absentPorts = c.absentPorts := rfl
@[simp] theorem Core.wr_busOff (c : Core) (k v : Nat) : (c.wr k v).busOff = c.busOff := rfl

@[simp] theorem Core.setTab_id (c : Core) (w e v : Nat) : (c.setTab w e v).id = c.id := rfl
@[simp] theorem Core.setTab_regs (c : Core) (w e v : Nat) : (c.setTab w e v).regs = c.regs := rfl
@[simp] theorem Core.setTab_marks (c : Core) (w e v : Nat) : (c.setTab w e v).marks = c.marks := rfl
@[simp] theorem Core.setTab_released (c : Core) (w e v : Nat) : (c.setTab w e v).released = c.released := rfl
@[simp] theorem Core.setTab_now (c : Core) (w e v : Nat) : (c.setTab w e v).now = c.now := rfl
@[simp] theorem Core.setTab_free (c : Core) (w e v : Nat) : (c.setTab w e v).free = c.free := rfl
@[simp] theorem Core.setTab_doms (c : Core) (w e v : Nat) : (c.setTab w e v).doms = c.doms := rfl
@[simp] theorem Core.setTab_ppsOut (c : Core) (w e v : Nat) : (c.setTab w e v).ppsOut = c.ppsOut := rfl
@[simp] theorem Core.setTab_ppsEnd (c : Core) (w e v : Nat) : (c.setTab w e v).ppsEnd = c.ppsEnd := rfl
@[simp] theorem Core.setTab_ppsPrev (c : Core) (w e v : Nat) : (c.setTab w e v).ppsPrev = c.ppsPrev := rfl
@[simp] theorem Core.setTab_ppsBase (c : Core) (w e v : Nat) : (c.setTab w e v).ppsBase = c.ppsBase := rfl
@[simp] theorem Core.setTab_faultQ (c : Core) (w e v : Nat) : (c.setTab w e v).faultQ = c.faultQ := rfl
@[simp] theorem Core.setTab_rates (c : Core) (w e v : Nat) : (c.setTab w e v).rates = c.rates := rfl
@[simp] theorem Core.setTab_out (c : Core) (w e v : Nat) : (c.setTab w e v).out = c.out := rfl
@[simp] theorem Core.setTab_ports (c : Core) (w e v : Nat) : (c.setTab w e v).ports = c.ports := rfl
@[simp] theorem Core.setTab_rx (c : Core) (w e v : Nat) : (c.setTab w e v).rx = c.rx := rfl
@[simp] theorem Core.setTab_frameNo (c : Core) (w e v : Nat) : (c.setTab w e v).frameNo = c.frameNo := rfl
@[simp] theorem Core.setTab_recirc (c : Core) (w e v : Nat) : (c.setTab w e v).recirc = c.recirc := rfl
@[simp] theorem Core.setTab_rrPort (c : Core) (w e v : Nat) : (c.setTab w e v).rrPort = c.rrPort := rfl
@[simp] theorem Core.setTab_rrVport (c : Core) (w e v : Nat) : (c.setTab w e v).rrVport = c.rrVport := rfl
@[simp] theorem Core.setTab_vportWait (c : Core) (w e v : Nat) : (c.setTab w e v).vportWait = c.vportWait := rfl
@[simp] theorem Core.setTab_txJobs (c : Core) (w e v : Nat) : (c.setTab w e v).txJobs = c.txJobs := rfl
@[simp] theorem Core.setTab_rxJobs (c : Core) (w e v : Nat) : (c.setTab w e v).rxJobs = c.rxJobs := rfl
@[simp] theorem Core.setTab_vps (c : Core) (w e v : Nat) : (c.setTab w e v).vps = c.vps := rfl
@[simp] theorem Core.setTab_fns (c : Core) (w e v : Nat) : (c.setTab w e v).fns = c.fns := rfl
@[simp] theorem Core.setTab_badgerQ (c : Core) (w e v : Nat) : (c.setTab w e v).badgerQ = c.badgerQ := rfl
@[simp] theorem Core.setTab_badgerRun (c : Core) (w e v : Nat) : (c.setTab w e v).badgerRun = c.badgerRun := rfl
@[simp] theorem Core.setTab_probes (c : Core) (w e v : Nat) : (c.setTab w e v).probes = c.probes := rfl
@[simp] theorem Core.setTab_banksFenced (c : Core) (w e v : Nat) : (c.setTab w e v).banksFenced = c.banksFenced := rfl
@[simp] theorem Core.setTab_learnQ (c : Core) (w e v : Nat) : (c.setTab w e v).learnQ = c.learnQ := rfl
@[simp] theorem Core.setTab_sendQ (c : Core) (w e v : Nat) : (c.setTab w e v).sendQ = c.sendQ := rfl
@[simp] theorem Core.setTab_lastMsg (c : Core) (w e v : Nat) : (c.setTab w e v).lastMsg = c.lastMsg := rfl
@[simp] theorem Core.setTab_learnSeq (c : Core) (w e v : Nat) : (c.setTab w e v).learnSeq = c.learnSeq := rfl
@[simp] theorem Core.setTab_rehashQ (c : Core) (w e v : Nat) : (c.setTab w e v).rehashQ = c.rehashQ := rfl
@[simp] theorem Core.setTab_crossRecs (c : Core) (w e v : Nat) : (c.setTab w e v).crossRecs = c.crossRecs := rfl
@[simp] theorem Core.setTab_learnRx (c : Core) (w e v : Nat) : (c.setTab w e v).learnRx = c.learnRx := rfl
@[simp] theorem Core.setTab_flipTarget (c : Core) (w e v : Nat) : (c.setTab w e v).flipTarget = c.flipTarget := rfl
@[simp] theorem Core.setTab_flipAt (c : Core) (w e v : Nat) : (c.setTab w e v).flipAt = c.flipAt := rfl
@[simp] theorem Core.setTab_flipEff (c : Core) (w e v : Nat) : (c.setTab w e v).flipEff = c.flipEff := rfl
@[simp] theorem Core.setTab_copyTo (c : Core) (w e v : Nat) : (c.setTab w e v).copyTo = c.copyTo := rfl
@[simp] theorem Core.setTab_frer (c : Core) (w e v : Nat) : (c.setTab w e v).frer = c.frer := rfl
@[simp] theorem Core.setTab_gates (c : Core) (w e v : Nat) : (c.setTab w e v).gates = c.gates := rfl
@[simp] theorem Core.setTab_meters (c : Core) (w e v : Nat) : (c.setTab w e v).meters = c.meters := rfl
@[simp] theorem Core.setTab_mgmtMeter (c : Core) (w e v : Nat) : (c.setTab w e v).mgmtMeter = c.mgmtMeter := rfl
@[simp] theorem Core.setTab_sweptAt (c : Core) (w e v : Nat) : (c.setTab w e v).sweptAt = c.sweptAt := rfl
@[simp] theorem Core.setTab_shapers (c : Core) (w e v : Nat) : (c.setTab w e v).shapers = c.shapers := rfl
@[simp] theorem Core.setTab_copies (c : Core) (w e v : Nat) : (c.setTab w e v).copies = c.copies := rfl
@[simp] theorem Core.setTab_copyNo (c : Core) (w e v : Nat) : (c.setTab w e v).copyNo = c.copyNo := rfl
@[simp] theorem Core.setTab_spent (c : Core) (w e v : Nat) : (c.setTab w e v).spent = c.spent := rfl
@[simp] theorem Core.setTab_middles (c : Core) (w e v : Nat) : (c.setTab w e v).middles = c.middles := rfl
@[simp] theorem Core.setTab_middleSlot (c : Core) (w e v : Nat) : (c.setTab w e v).middleSlot = c.middleSlot := rfl
@[simp] theorem Core.setTab_returning (c : Core) (w e v : Nat) : (c.setTab w e v).returning = c.returning := rfl
@[simp] theorem Core.setTab_arriving (c : Core) (w e v : Nat) : (c.setTab w e v).arriving = c.arriving := rfl
@[simp] theorem Core.setTab_streams (c : Core) (w e v : Nat) : (c.setTab w e v).streams = c.streams := rfl
@[simp] theorem Core.setTab_groupSlot (c : Core) (w e v : Nat) : (c.setTab w e v).groupSlot = c.groupSlot := rfl
@[simp] theorem Core.setTab_sliceRr (c : Core) (w e v : Nat) : (c.setTab w e v).sliceRr = c.sliceRr := rfl
@[simp] theorem Core.setTab_queues (c : Core) (w e v : Nat) : (c.setTab w e v).queues = c.queues := rfl
@[simp] theorem Core.setTab_xoffs (c : Core) (w e v : Nat) : (c.setTab w e v).xoffs = c.xoffs := rfl
@[simp] theorem Core.setTab_mgmtWait (c : Core) (w e v : Nat) : (c.setTab w e v).mgmtWait = c.mgmtWait := rfl
@[simp] theorem Core.setTab_crossOut (c : Core) (w e v : Nat) : (c.setTab w e v).crossOut = c.crossOut := rfl
@[simp] theorem Core.setTab_crossIn (c : Core) (w e v : Nat) : (c.setTab w e v).crossIn = c.crossIn := rfl
@[simp] theorem Core.setTab_crossRr (c : Core) (w e v : Nat) : (c.setTab w e v).crossRr = c.crossRr := rfl
@[simp] theorem Core.setTab_crossMap (c : Core) (w e v : Nat) : (c.setTab w e v).crossMap = c.crossMap := rfl
@[simp] theorem Core.setTab_crossHold (c : Core) (w e v : Nat) : (c.setTab w e v).crossHold = c.crossHold := rfl
@[simp] theorem Core.setTab_vportBind (c : Core) (w e v : Nat) : (c.setTab w e v).vportBind = c.vportBind := rfl
@[simp] theorem Core.setTab_pairs (c : Core) (w e v : Nat) : (c.setTab w e v).pairs = c.pairs := rfl
@[simp] theorem Core.setTab_pairsWritten (c : Core) (w e v : Nat) : (c.setTab w e v).pairsWritten = c.pairsWritten := rfl
@[simp] theorem Core.setTab_halted (c : Core) (w e v : Nat) : (c.setTab w e v).halted = c.halted := rfl
@[simp] theorem Core.setTab_coresFenced (c : Core) (w e v : Nat) : (c.setTab w e v).coresFenced = c.coresFenced := rfl
@[simp] theorem Core.setTab_coreStart (c : Core) (w e v : Nat) : (c.setTab w e v).coreStart = c.coreStart := rfl
@[simp] theorem Core.setTab_imsic (c : Core) (w e v : Nat) : (c.setTab w e v).imsic = c.imsic := rfl
@[simp] theorem Core.setTab_vpSlopes (c : Core) (w e v : Nat) : (c.setTab w e v).vpSlopes = c.vpSlopes := rfl
@[simp] theorem Core.setTab_stampsBack (c : Core) (w e v : Nat) : (c.setTab w e v).stampsBack = c.stampsBack := rfl
@[simp] theorem Core.setTab_deaf (c : Core) (w e v : Nat) : (c.setTab w e v).deaf = c.deaf := rfl
@[simp] theorem Core.setTab_aplicIn (c : Core) (w e v : Nat) : (c.setTab w e v).aplicIn = c.aplicIn := rfl
@[simp] theorem Core.setTab_aplicM (c : Core) (w e v : Nat) : (c.setTab w e v).aplicM = c.aplicM := rfl
@[simp] theorem Core.setTab_aplicS (c : Core) (w e v : Nat) : (c.setTab w e v).aplicS = c.aplicS := rfl
@[simp] theorem Core.setTab_mtimecmp (c : Core) (w e v : Nat) : (c.setTab w e v).mtimecmp = c.mtimecmp := rfl
@[simp] theorem Core.setTab_spmPointer (c : Core) (w e v : Nat) : (c.setTab w e v).spmPointer = c.spmPointer := rfl
@[simp] theorem Core.setTab_spmWait (c : Core) (w e v : Nat) : (c.setTab w e v).spmWait = c.spmWait := rfl
@[simp] theorem Core.setTab_spmMerging (c : Core) (w e v : Nat) : (c.setTab w e v).spmMerging = c.spmMerging := rfl
@[simp] theorem Core.setTab_spmRes (c : Core) (w e v : Nat) : (c.setTab w e v).spmRes = c.spmRes := rfl
@[simp] theorem Core.setTab_spmBad (c : Core) (w e v : Nat) : (c.setTab w e v).spmBad = c.spmBad := rfl
@[simp] theorem Core.setTab_dm (c : Core) (w e v : Nat) : (c.setTab w e v).dm = c.dm := rfl
@[simp] theorem Core.setTab_poolUsed (c : Core) (w e v : Nat) : (c.setTab w e v).poolUsed = c.poolUsed := rfl
@[simp] theorem Core.setTab_poolTags (c : Core) (w e v : Nat) : (c.setTab w e v).poolTags = c.poolTags := rfl
@[simp] theorem Core.setTab_lastLane (c : Core) (w e v : Nat) : (c.setTab w e v).lastLane = c.lastLane := rfl
@[simp] theorem Core.setTab_reclaimed (c : Core) (w e v : Nat) : (c.setTab w e v).reclaimed = c.reclaimed := rfl
@[simp] theorem Core.setTab_reclaiming (c : Core) (w e v : Nat) : (c.setTab w e v).reclaiming = c.reclaiming := rfl
@[simp] theorem Core.setTab_lastErrs (c : Core) (w e v : Nat) : (c.setTab w e v).lastErrs = c.lastErrs := rfl
@[simp] theorem Core.setTab_toDev (c : Core) (w e v : Nat) : (c.setTab w e v).toDev = c.toDev := rfl
@[simp] theorem Core.setTab_wakePend (c : Core) (w e v : Nat) : (c.setTab w e v).wakePend = c.wakePend := rfl
@[simp] theorem Core.setTab_slotBase (c : Core) (w e v : Nat) : (c.setTab w e v).slotBase = c.slotBase := rfl
@[simp] theorem Core.setTab_pllTry (c : Core) (w e v : Nat) : (c.setTab w e v).pllTry = c.pllTry := rfl
@[simp] theorem Core.setTab_pllBad (c : Core) (w e v : Nat) : (c.setTab w e v).pllBad = c.pllBad := rfl
@[simp] theorem Core.setTab_entryStep (c : Core) (w e v : Nat) : (c.setTab w e v).entryStep = c.entryStep := rfl
@[simp] theorem Core.setTab_entryAt (c : Core) (w e v : Nat) : (c.setTab w e v).entryAt = c.entryAt := rfl
@[simp] theorem Core.setTab_inReset (c : Core) (w e v : Nat) : (c.setTab w e v).inReset = c.inReset := rfl
@[simp] theorem Core.setTab_fieldWakeId (c : Core) (w e v : Nat) : (c.setTab w e v).fieldWakeId = c.fieldWakeId := rfl
@[simp] theorem Core.setTab_holds (c : Core) (w e v : Nat) : (c.setTab w e v).holds = c.holds := rfl
@[simp] theorem Core.setTab_fences (c : Core) (w e v : Nat) : (c.setTab w e v).fences = c.fences := rfl
@[simp] theorem Core.setTab_stateLive (c : Core) (w e v : Nat) : (c.setTab w e v).stateLive = c.stateLive := rfl
@[simp] theorem Core.setTab_qLost (c : Core) (w e v : Nat) : (c.setTab w e v).qLost = c.qLost := rfl
@[simp] theorem Core.setTab_pairCauses (c : Core) (w e v : Nat) : (c.setTab w e v).pairCauses = c.pairCauses := rfl
@[simp] theorem Core.setTab_conds (c : Core) (w e v : Nat) : (c.setTab w e v).conds = c.conds := rfl
@[simp] theorem Core.setTab_hpm (c : Core) (w e v : Nat) : (c.setTab w e v).hpm = c.hpm := rfl
@[simp] theorem Core.setTab_sampAt (c : Core) (w e v : Nat) : (c.setTab w e v).sampAt = c.sampAt := rfl
@[simp] theorem Core.setTab_sampSent (c : Core) (w e v : Nat) : (c.setTab w e v).sampSent = c.sampSent := rfl
@[simp] theorem Core.setTab_sampLost (c : Core) (w e v : Nat) : (c.setTab w e v).sampLost = c.sampLost := rfl
@[simp] theorem Core.setTab_snapLatch (c : Core) (w e v : Nat) : (c.setTab w e v).snapLatch = c.snapLatch := rfl
@[simp] theorem Core.setTab_snapImage (c : Core) (w e v : Nat) : (c.setTab w e v).snapImage = c.snapImage := rfl
@[simp] theorem Core.setTab_test (c : Core) (w e v : Nat) : (c.setTab w e v).test = c.test := rfl
@[simp] theorem Core.setTab_tapStop (c : Core) (w e v : Nat) : (c.setTab w e v).tapStop = c.tapStop := rfl
@[simp] theorem Core.setTab_absentPorts (c : Core) (w e v : Nat) : (c.setTab w e v).absentPorts = c.absentPorts := rfl
@[simp] theorem Core.setTab_busOff (c : Core) (w e v : Nat) : (c.setTab w e v).busOff = c.busOff := rfl

@[simp] theorem Core.modPort_id (c : Core) (p : Nat) (g : PortDyn → PortDyn) : (c.modPort p g).id = c.id := rfl
@[simp] theorem Core.modPort_regs (c : Core) (p : Nat) (g : PortDyn → PortDyn) : (c.modPort p g).regs = c.regs := rfl
@[simp] theorem Core.modPort_tabs (c : Core) (p : Nat) (g : PortDyn → PortDyn) : (c.modPort p g).tabs = c.tabs := rfl
@[simp] theorem Core.modPort_marks (c : Core) (p : Nat) (g : PortDyn → PortDyn) : (c.modPort p g).marks = c.marks := rfl
@[simp] theorem Core.modPort_released (c : Core) (p : Nat) (g : PortDyn → PortDyn) : (c.modPort p g).released = c.released := rfl
@[simp] theorem Core.modPort_now (c : Core) (p : Nat) (g : PortDyn → PortDyn) : (c.modPort p g).now = c.now := rfl
@[simp] theorem Core.modPort_free (c : Core) (p : Nat) (g : PortDyn → PortDyn) : (c.modPort p g).free = c.free := rfl
@[simp] theorem Core.modPort_doms (c : Core) (p : Nat) (g : PortDyn → PortDyn) : (c.modPort p g).doms = c.doms := rfl
@[simp] theorem Core.modPort_ppsOut (c : Core) (p : Nat) (g : PortDyn → PortDyn) : (c.modPort p g).ppsOut = c.ppsOut := rfl
@[simp] theorem Core.modPort_ppsEnd (c : Core) (p : Nat) (g : PortDyn → PortDyn) : (c.modPort p g).ppsEnd = c.ppsEnd := rfl
@[simp] theorem Core.modPort_ppsPrev (c : Core) (p : Nat) (g : PortDyn → PortDyn) : (c.modPort p g).ppsPrev = c.ppsPrev := rfl
@[simp] theorem Core.modPort_ppsBase (c : Core) (p : Nat) (g : PortDyn → PortDyn) : (c.modPort p g).ppsBase = c.ppsBase := rfl
@[simp] theorem Core.modPort_faultQ (c : Core) (p : Nat) (g : PortDyn → PortDyn) : (c.modPort p g).faultQ = c.faultQ := rfl
@[simp] theorem Core.modPort_rates (c : Core) (p : Nat) (g : PortDyn → PortDyn) : (c.modPort p g).rates = c.rates := rfl
@[simp] theorem Core.modPort_out (c : Core) (p : Nat) (g : PortDyn → PortDyn) : (c.modPort p g).out = c.out := rfl
@[simp] theorem Core.modPort_rx (c : Core) (p : Nat) (g : PortDyn → PortDyn) : (c.modPort p g).rx = c.rx := rfl
@[simp] theorem Core.modPort_frameNo (c : Core) (p : Nat) (g : PortDyn → PortDyn) : (c.modPort p g).frameNo = c.frameNo := rfl
@[simp] theorem Core.modPort_recirc (c : Core) (p : Nat) (g : PortDyn → PortDyn) : (c.modPort p g).recirc = c.recirc := rfl
@[simp] theorem Core.modPort_rrPort (c : Core) (p : Nat) (g : PortDyn → PortDyn) : (c.modPort p g).rrPort = c.rrPort := rfl
@[simp] theorem Core.modPort_rrVport (c : Core) (p : Nat) (g : PortDyn → PortDyn) : (c.modPort p g).rrVport = c.rrVport := rfl
@[simp] theorem Core.modPort_vportWait (c : Core) (p : Nat) (g : PortDyn → PortDyn) : (c.modPort p g).vportWait = c.vportWait := rfl
@[simp] theorem Core.modPort_txJobs (c : Core) (p : Nat) (g : PortDyn → PortDyn) : (c.modPort p g).txJobs = c.txJobs := rfl
@[simp] theorem Core.modPort_rxJobs (c : Core) (p : Nat) (g : PortDyn → PortDyn) : (c.modPort p g).rxJobs = c.rxJobs := rfl
@[simp] theorem Core.modPort_vps (c : Core) (p : Nat) (g : PortDyn → PortDyn) : (c.modPort p g).vps = c.vps := rfl
@[simp] theorem Core.modPort_fns (c : Core) (p : Nat) (g : PortDyn → PortDyn) : (c.modPort p g).fns = c.fns := rfl
@[simp] theorem Core.modPort_badgerQ (c : Core) (p : Nat) (g : PortDyn → PortDyn) : (c.modPort p g).badgerQ = c.badgerQ := rfl
@[simp] theorem Core.modPort_badgerRun (c : Core) (p : Nat) (g : PortDyn → PortDyn) : (c.modPort p g).badgerRun = c.badgerRun := rfl
@[simp] theorem Core.modPort_probes (c : Core) (p : Nat) (g : PortDyn → PortDyn) : (c.modPort p g).probes = c.probes := rfl
@[simp] theorem Core.modPort_banksFenced (c : Core) (p : Nat) (g : PortDyn → PortDyn) : (c.modPort p g).banksFenced = c.banksFenced := rfl
@[simp] theorem Core.modPort_learnQ (c : Core) (p : Nat) (g : PortDyn → PortDyn) : (c.modPort p g).learnQ = c.learnQ := rfl
@[simp] theorem Core.modPort_sendQ (c : Core) (p : Nat) (g : PortDyn → PortDyn) : (c.modPort p g).sendQ = c.sendQ := rfl
@[simp] theorem Core.modPort_lastMsg (c : Core) (p : Nat) (g : PortDyn → PortDyn) : (c.modPort p g).lastMsg = c.lastMsg := rfl
@[simp] theorem Core.modPort_learnSeq (c : Core) (p : Nat) (g : PortDyn → PortDyn) : (c.modPort p g).learnSeq = c.learnSeq := rfl
@[simp] theorem Core.modPort_rehashQ (c : Core) (p : Nat) (g : PortDyn → PortDyn) : (c.modPort p g).rehashQ = c.rehashQ := rfl
@[simp] theorem Core.modPort_crossRecs (c : Core) (p : Nat) (g : PortDyn → PortDyn) : (c.modPort p g).crossRecs = c.crossRecs := rfl
@[simp] theorem Core.modPort_learnRx (c : Core) (p : Nat) (g : PortDyn → PortDyn) : (c.modPort p g).learnRx = c.learnRx := rfl
@[simp] theorem Core.modPort_flipTarget (c : Core) (p : Nat) (g : PortDyn → PortDyn) : (c.modPort p g).flipTarget = c.flipTarget := rfl
@[simp] theorem Core.modPort_flipAt (c : Core) (p : Nat) (g : PortDyn → PortDyn) : (c.modPort p g).flipAt = c.flipAt := rfl
@[simp] theorem Core.modPort_flipEff (c : Core) (p : Nat) (g : PortDyn → PortDyn) : (c.modPort p g).flipEff = c.flipEff := rfl
@[simp] theorem Core.modPort_copyTo (c : Core) (p : Nat) (g : PortDyn → PortDyn) : (c.modPort p g).copyTo = c.copyTo := rfl
@[simp] theorem Core.modPort_frer (c : Core) (p : Nat) (g : PortDyn → PortDyn) : (c.modPort p g).frer = c.frer := rfl
@[simp] theorem Core.modPort_gates (c : Core) (p : Nat) (g : PortDyn → PortDyn) : (c.modPort p g).gates = c.gates := rfl
@[simp] theorem Core.modPort_meters (c : Core) (p : Nat) (g : PortDyn → PortDyn) : (c.modPort p g).meters = c.meters := rfl
@[simp] theorem Core.modPort_mgmtMeter (c : Core) (p : Nat) (g : PortDyn → PortDyn) : (c.modPort p g).mgmtMeter = c.mgmtMeter := rfl
@[simp] theorem Core.modPort_sweptAt (c : Core) (p : Nat) (g : PortDyn → PortDyn) : (c.modPort p g).sweptAt = c.sweptAt := rfl
@[simp] theorem Core.modPort_shapers (c : Core) (p : Nat) (g : PortDyn → PortDyn) : (c.modPort p g).shapers = c.shapers := rfl
@[simp] theorem Core.modPort_copies (c : Core) (p : Nat) (g : PortDyn → PortDyn) : (c.modPort p g).copies = c.copies := rfl
@[simp] theorem Core.modPort_copyNo (c : Core) (p : Nat) (g : PortDyn → PortDyn) : (c.modPort p g).copyNo = c.copyNo := rfl
@[simp] theorem Core.modPort_spent (c : Core) (p : Nat) (g : PortDyn → PortDyn) : (c.modPort p g).spent = c.spent := rfl
@[simp] theorem Core.modPort_middles (c : Core) (p : Nat) (g : PortDyn → PortDyn) : (c.modPort p g).middles = c.middles := rfl
@[simp] theorem Core.modPort_middleSlot (c : Core) (p : Nat) (g : PortDyn → PortDyn) : (c.modPort p g).middleSlot = c.middleSlot := rfl
@[simp] theorem Core.modPort_returning (c : Core) (p : Nat) (g : PortDyn → PortDyn) : (c.modPort p g).returning = c.returning := rfl
@[simp] theorem Core.modPort_arriving (c : Core) (p : Nat) (g : PortDyn → PortDyn) : (c.modPort p g).arriving = c.arriving := rfl
@[simp] theorem Core.modPort_streams (c : Core) (p : Nat) (g : PortDyn → PortDyn) : (c.modPort p g).streams = c.streams := rfl
@[simp] theorem Core.modPort_groupSlot (c : Core) (p : Nat) (g : PortDyn → PortDyn) : (c.modPort p g).groupSlot = c.groupSlot := rfl
@[simp] theorem Core.modPort_sliceRr (c : Core) (p : Nat) (g : PortDyn → PortDyn) : (c.modPort p g).sliceRr = c.sliceRr := rfl
@[simp] theorem Core.modPort_queues (c : Core) (p : Nat) (g : PortDyn → PortDyn) : (c.modPort p g).queues = c.queues := rfl
@[simp] theorem Core.modPort_xoffs (c : Core) (p : Nat) (g : PortDyn → PortDyn) : (c.modPort p g).xoffs = c.xoffs := rfl
@[simp] theorem Core.modPort_mgmtWait (c : Core) (p : Nat) (g : PortDyn → PortDyn) : (c.modPort p g).mgmtWait = c.mgmtWait := rfl
@[simp] theorem Core.modPort_crossOut (c : Core) (p : Nat) (g : PortDyn → PortDyn) : (c.modPort p g).crossOut = c.crossOut := rfl
@[simp] theorem Core.modPort_crossIn (c : Core) (p : Nat) (g : PortDyn → PortDyn) : (c.modPort p g).crossIn = c.crossIn := rfl
@[simp] theorem Core.modPort_crossRr (c : Core) (p : Nat) (g : PortDyn → PortDyn) : (c.modPort p g).crossRr = c.crossRr := rfl
@[simp] theorem Core.modPort_crossMap (c : Core) (p : Nat) (g : PortDyn → PortDyn) : (c.modPort p g).crossMap = c.crossMap := rfl
@[simp] theorem Core.modPort_crossHold (c : Core) (p : Nat) (g : PortDyn → PortDyn) : (c.modPort p g).crossHold = c.crossHold := rfl
@[simp] theorem Core.modPort_vportBind (c : Core) (p : Nat) (g : PortDyn → PortDyn) : (c.modPort p g).vportBind = c.vportBind := rfl
@[simp] theorem Core.modPort_pairs (c : Core) (p : Nat) (g : PortDyn → PortDyn) : (c.modPort p g).pairs = c.pairs := rfl
@[simp] theorem Core.modPort_pairsWritten (c : Core) (p : Nat) (g : PortDyn → PortDyn) : (c.modPort p g).pairsWritten = c.pairsWritten := rfl
@[simp] theorem Core.modPort_halted (c : Core) (p : Nat) (g : PortDyn → PortDyn) : (c.modPort p g).halted = c.halted := rfl
@[simp] theorem Core.modPort_coresFenced (c : Core) (p : Nat) (g : PortDyn → PortDyn) : (c.modPort p g).coresFenced = c.coresFenced := rfl
@[simp] theorem Core.modPort_coreStart (c : Core) (p : Nat) (g : PortDyn → PortDyn) : (c.modPort p g).coreStart = c.coreStart := rfl
@[simp] theorem Core.modPort_imsic (c : Core) (p : Nat) (g : PortDyn → PortDyn) : (c.modPort p g).imsic = c.imsic := rfl
@[simp] theorem Core.modPort_vpSlopes (c : Core) (p : Nat) (g : PortDyn → PortDyn) : (c.modPort p g).vpSlopes = c.vpSlopes := rfl
@[simp] theorem Core.modPort_stampsBack (c : Core) (p : Nat) (g : PortDyn → PortDyn) : (c.modPort p g).stampsBack = c.stampsBack := rfl
@[simp] theorem Core.modPort_deaf (c : Core) (p : Nat) (g : PortDyn → PortDyn) : (c.modPort p g).deaf = c.deaf := rfl
@[simp] theorem Core.modPort_aplicIn (c : Core) (p : Nat) (g : PortDyn → PortDyn) : (c.modPort p g).aplicIn = c.aplicIn := rfl
@[simp] theorem Core.modPort_aplicM (c : Core) (p : Nat) (g : PortDyn → PortDyn) : (c.modPort p g).aplicM = c.aplicM := rfl
@[simp] theorem Core.modPort_aplicS (c : Core) (p : Nat) (g : PortDyn → PortDyn) : (c.modPort p g).aplicS = c.aplicS := rfl
@[simp] theorem Core.modPort_mtimecmp (c : Core) (p : Nat) (g : PortDyn → PortDyn) : (c.modPort p g).mtimecmp = c.mtimecmp := rfl
@[simp] theorem Core.modPort_spmPointer (c : Core) (p : Nat) (g : PortDyn → PortDyn) : (c.modPort p g).spmPointer = c.spmPointer := rfl
@[simp] theorem Core.modPort_spmWait (c : Core) (p : Nat) (g : PortDyn → PortDyn) : (c.modPort p g).spmWait = c.spmWait := rfl
@[simp] theorem Core.modPort_spmMerging (c : Core) (p : Nat) (g : PortDyn → PortDyn) : (c.modPort p g).spmMerging = c.spmMerging := rfl
@[simp] theorem Core.modPort_spmRes (c : Core) (p : Nat) (g : PortDyn → PortDyn) : (c.modPort p g).spmRes = c.spmRes := rfl
@[simp] theorem Core.modPort_spmBad (c : Core) (p : Nat) (g : PortDyn → PortDyn) : (c.modPort p g).spmBad = c.spmBad := rfl
@[simp] theorem Core.modPort_dm (c : Core) (p : Nat) (g : PortDyn → PortDyn) : (c.modPort p g).dm = c.dm := rfl
@[simp] theorem Core.modPort_poolUsed (c : Core) (p : Nat) (g : PortDyn → PortDyn) : (c.modPort p g).poolUsed = c.poolUsed := rfl
@[simp] theorem Core.modPort_poolTags (c : Core) (p : Nat) (g : PortDyn → PortDyn) : (c.modPort p g).poolTags = c.poolTags := rfl
@[simp] theorem Core.modPort_lastLane (c : Core) (p : Nat) (g : PortDyn → PortDyn) : (c.modPort p g).lastLane = c.lastLane := rfl
@[simp] theorem Core.modPort_reclaimed (c : Core) (p : Nat) (g : PortDyn → PortDyn) : (c.modPort p g).reclaimed = c.reclaimed := rfl
@[simp] theorem Core.modPort_reclaiming (c : Core) (p : Nat) (g : PortDyn → PortDyn) : (c.modPort p g).reclaiming = c.reclaiming := rfl
@[simp] theorem Core.modPort_lastErrs (c : Core) (p : Nat) (g : PortDyn → PortDyn) : (c.modPort p g).lastErrs = c.lastErrs := rfl
@[simp] theorem Core.modPort_toDev (c : Core) (p : Nat) (g : PortDyn → PortDyn) : (c.modPort p g).toDev = c.toDev := rfl
@[simp] theorem Core.modPort_wakePend (c : Core) (p : Nat) (g : PortDyn → PortDyn) : (c.modPort p g).wakePend = c.wakePend := rfl
@[simp] theorem Core.modPort_slotBase (c : Core) (p : Nat) (g : PortDyn → PortDyn) : (c.modPort p g).slotBase = c.slotBase := rfl
@[simp] theorem Core.modPort_pllTry (c : Core) (p : Nat) (g : PortDyn → PortDyn) : (c.modPort p g).pllTry = c.pllTry := rfl
@[simp] theorem Core.modPort_pllBad (c : Core) (p : Nat) (g : PortDyn → PortDyn) : (c.modPort p g).pllBad = c.pllBad := rfl
@[simp] theorem Core.modPort_entryStep (c : Core) (p : Nat) (g : PortDyn → PortDyn) : (c.modPort p g).entryStep = c.entryStep := rfl
@[simp] theorem Core.modPort_entryAt (c : Core) (p : Nat) (g : PortDyn → PortDyn) : (c.modPort p g).entryAt = c.entryAt := rfl
@[simp] theorem Core.modPort_inReset (c : Core) (p : Nat) (g : PortDyn → PortDyn) : (c.modPort p g).inReset = c.inReset := rfl
@[simp] theorem Core.modPort_fieldWakeId (c : Core) (p : Nat) (g : PortDyn → PortDyn) : (c.modPort p g).fieldWakeId = c.fieldWakeId := rfl
@[simp] theorem Core.modPort_holds (c : Core) (p : Nat) (g : PortDyn → PortDyn) : (c.modPort p g).holds = c.holds := rfl
@[simp] theorem Core.modPort_fences (c : Core) (p : Nat) (g : PortDyn → PortDyn) : (c.modPort p g).fences = c.fences := rfl
@[simp] theorem Core.modPort_stateLive (c : Core) (p : Nat) (g : PortDyn → PortDyn) : (c.modPort p g).stateLive = c.stateLive := rfl
@[simp] theorem Core.modPort_qLost (c : Core) (p : Nat) (g : PortDyn → PortDyn) : (c.modPort p g).qLost = c.qLost := rfl
@[simp] theorem Core.modPort_pairCauses (c : Core) (p : Nat) (g : PortDyn → PortDyn) : (c.modPort p g).pairCauses = c.pairCauses := rfl
@[simp] theorem Core.modPort_conds (c : Core) (p : Nat) (g : PortDyn → PortDyn) : (c.modPort p g).conds = c.conds := rfl
@[simp] theorem Core.modPort_hpm (c : Core) (p : Nat) (g : PortDyn → PortDyn) : (c.modPort p g).hpm = c.hpm := rfl
@[simp] theorem Core.modPort_sampAt (c : Core) (p : Nat) (g : PortDyn → PortDyn) : (c.modPort p g).sampAt = c.sampAt := rfl
@[simp] theorem Core.modPort_sampSent (c : Core) (p : Nat) (g : PortDyn → PortDyn) : (c.modPort p g).sampSent = c.sampSent := rfl
@[simp] theorem Core.modPort_sampLost (c : Core) (p : Nat) (g : PortDyn → PortDyn) : (c.modPort p g).sampLost = c.sampLost := rfl
@[simp] theorem Core.modPort_snapLatch (c : Core) (p : Nat) (g : PortDyn → PortDyn) : (c.modPort p g).snapLatch = c.snapLatch := rfl
@[simp] theorem Core.modPort_snapImage (c : Core) (p : Nat) (g : PortDyn → PortDyn) : (c.modPort p g).snapImage = c.snapImage := rfl
@[simp] theorem Core.modPort_test (c : Core) (p : Nat) (g : PortDyn → PortDyn) : (c.modPort p g).test = c.test := rfl
@[simp] theorem Core.modPort_tapStop (c : Core) (p : Nat) (g : PortDyn → PortDyn) : (c.modPort p g).tapStop = c.tapStop := rfl
@[simp] theorem Core.modPort_absentPorts (c : Core) (p : Nat) (g : PortDyn → PortDyn) : (c.modPort p g).absentPorts = c.absentPorts := rfl
@[simp] theorem Core.modPort_busOff (c : Core) (p : Nat) (g : PortDyn → PortDyn) : (c.modPort p g).busOff = c.busOff := rfl

@[simp] theorem Core.emit_id (c : Core) (o : Output) : (c.emit o).id = c.id := rfl
@[simp] theorem Core.emit_regs (c : Core) (o : Output) : (c.emit o).regs = c.regs := rfl
@[simp] theorem Core.emit_tabs (c : Core) (o : Output) : (c.emit o).tabs = c.tabs := rfl
@[simp] theorem Core.emit_marks (c : Core) (o : Output) : (c.emit o).marks = c.marks := rfl
@[simp] theorem Core.emit_released (c : Core) (o : Output) : (c.emit o).released = c.released := rfl
@[simp] theorem Core.emit_now (c : Core) (o : Output) : (c.emit o).now = c.now := rfl
@[simp] theorem Core.emit_free (c : Core) (o : Output) : (c.emit o).free = c.free := rfl
@[simp] theorem Core.emit_doms (c : Core) (o : Output) : (c.emit o).doms = c.doms := rfl
@[simp] theorem Core.emit_ppsOut (c : Core) (o : Output) : (c.emit o).ppsOut = c.ppsOut := rfl
@[simp] theorem Core.emit_ppsEnd (c : Core) (o : Output) : (c.emit o).ppsEnd = c.ppsEnd := rfl
@[simp] theorem Core.emit_ppsPrev (c : Core) (o : Output) : (c.emit o).ppsPrev = c.ppsPrev := rfl
@[simp] theorem Core.emit_ppsBase (c : Core) (o : Output) : (c.emit o).ppsBase = c.ppsBase := rfl
@[simp] theorem Core.emit_faultQ (c : Core) (o : Output) : (c.emit o).faultQ = c.faultQ := rfl
@[simp] theorem Core.emit_rates (c : Core) (o : Output) : (c.emit o).rates = c.rates := rfl
@[simp] theorem Core.emit_ports (c : Core) (o : Output) : (c.emit o).ports = c.ports := rfl
@[simp] theorem Core.emit_rx (c : Core) (o : Output) : (c.emit o).rx = c.rx := rfl
@[simp] theorem Core.emit_frameNo (c : Core) (o : Output) : (c.emit o).frameNo = c.frameNo := rfl
@[simp] theorem Core.emit_recirc (c : Core) (o : Output) : (c.emit o).recirc = c.recirc := rfl
@[simp] theorem Core.emit_rrPort (c : Core) (o : Output) : (c.emit o).rrPort = c.rrPort := rfl
@[simp] theorem Core.emit_rrVport (c : Core) (o : Output) : (c.emit o).rrVport = c.rrVport := rfl
@[simp] theorem Core.emit_vportWait (c : Core) (o : Output) : (c.emit o).vportWait = c.vportWait := rfl
@[simp] theorem Core.emit_txJobs (c : Core) (o : Output) : (c.emit o).txJobs = c.txJobs := rfl
@[simp] theorem Core.emit_rxJobs (c : Core) (o : Output) : (c.emit o).rxJobs = c.rxJobs := rfl
@[simp] theorem Core.emit_vps (c : Core) (o : Output) : (c.emit o).vps = c.vps := rfl
@[simp] theorem Core.emit_fns (c : Core) (o : Output) : (c.emit o).fns = c.fns := rfl
@[simp] theorem Core.emit_badgerQ (c : Core) (o : Output) : (c.emit o).badgerQ = c.badgerQ := rfl
@[simp] theorem Core.emit_badgerRun (c : Core) (o : Output) : (c.emit o).badgerRun = c.badgerRun := rfl
@[simp] theorem Core.emit_probes (c : Core) (o : Output) : (c.emit o).probes = c.probes := rfl
@[simp] theorem Core.emit_banksFenced (c : Core) (o : Output) : (c.emit o).banksFenced = c.banksFenced := rfl
@[simp] theorem Core.emit_learnQ (c : Core) (o : Output) : (c.emit o).learnQ = c.learnQ := rfl
@[simp] theorem Core.emit_sendQ (c : Core) (o : Output) : (c.emit o).sendQ = c.sendQ := rfl
@[simp] theorem Core.emit_lastMsg (c : Core) (o : Output) : (c.emit o).lastMsg = c.lastMsg := rfl
@[simp] theorem Core.emit_learnSeq (c : Core) (o : Output) : (c.emit o).learnSeq = c.learnSeq := rfl
@[simp] theorem Core.emit_rehashQ (c : Core) (o : Output) : (c.emit o).rehashQ = c.rehashQ := rfl
@[simp] theorem Core.emit_crossRecs (c : Core) (o : Output) : (c.emit o).crossRecs = c.crossRecs := rfl
@[simp] theorem Core.emit_learnRx (c : Core) (o : Output) : (c.emit o).learnRx = c.learnRx := rfl
@[simp] theorem Core.emit_flipTarget (c : Core) (o : Output) : (c.emit o).flipTarget = c.flipTarget := rfl
@[simp] theorem Core.emit_flipAt (c : Core) (o : Output) : (c.emit o).flipAt = c.flipAt := rfl
@[simp] theorem Core.emit_flipEff (c : Core) (o : Output) : (c.emit o).flipEff = c.flipEff := rfl
@[simp] theorem Core.emit_copyTo (c : Core) (o : Output) : (c.emit o).copyTo = c.copyTo := rfl
@[simp] theorem Core.emit_frer (c : Core) (o : Output) : (c.emit o).frer = c.frer := rfl
@[simp] theorem Core.emit_gates (c : Core) (o : Output) : (c.emit o).gates = c.gates := rfl
@[simp] theorem Core.emit_meters (c : Core) (o : Output) : (c.emit o).meters = c.meters := rfl
@[simp] theorem Core.emit_mgmtMeter (c : Core) (o : Output) : (c.emit o).mgmtMeter = c.mgmtMeter := rfl
@[simp] theorem Core.emit_sweptAt (c : Core) (o : Output) : (c.emit o).sweptAt = c.sweptAt := rfl
@[simp] theorem Core.emit_shapers (c : Core) (o : Output) : (c.emit o).shapers = c.shapers := rfl
@[simp] theorem Core.emit_copies (c : Core) (o : Output) : (c.emit o).copies = c.copies := rfl
@[simp] theorem Core.emit_copyNo (c : Core) (o : Output) : (c.emit o).copyNo = c.copyNo := rfl
@[simp] theorem Core.emit_spent (c : Core) (o : Output) : (c.emit o).spent = c.spent := rfl
@[simp] theorem Core.emit_middles (c : Core) (o : Output) : (c.emit o).middles = c.middles := rfl
@[simp] theorem Core.emit_middleSlot (c : Core) (o : Output) : (c.emit o).middleSlot = c.middleSlot := rfl
@[simp] theorem Core.emit_returning (c : Core) (o : Output) : (c.emit o).returning = c.returning := rfl
@[simp] theorem Core.emit_arriving (c : Core) (o : Output) : (c.emit o).arriving = c.arriving := rfl
@[simp] theorem Core.emit_streams (c : Core) (o : Output) : (c.emit o).streams = c.streams := rfl
@[simp] theorem Core.emit_groupSlot (c : Core) (o : Output) : (c.emit o).groupSlot = c.groupSlot := rfl
@[simp] theorem Core.emit_sliceRr (c : Core) (o : Output) : (c.emit o).sliceRr = c.sliceRr := rfl
@[simp] theorem Core.emit_queues (c : Core) (o : Output) : (c.emit o).queues = c.queues := rfl
@[simp] theorem Core.emit_xoffs (c : Core) (o : Output) : (c.emit o).xoffs = c.xoffs := rfl
@[simp] theorem Core.emit_mgmtWait (c : Core) (o : Output) : (c.emit o).mgmtWait = c.mgmtWait := rfl
@[simp] theorem Core.emit_crossOut (c : Core) (o : Output) : (c.emit o).crossOut = c.crossOut := rfl
@[simp] theorem Core.emit_crossIn (c : Core) (o : Output) : (c.emit o).crossIn = c.crossIn := rfl
@[simp] theorem Core.emit_crossRr (c : Core) (o : Output) : (c.emit o).crossRr = c.crossRr := rfl
@[simp] theorem Core.emit_crossMap (c : Core) (o : Output) : (c.emit o).crossMap = c.crossMap := rfl
@[simp] theorem Core.emit_crossHold (c : Core) (o : Output) : (c.emit o).crossHold = c.crossHold := rfl
@[simp] theorem Core.emit_vportBind (c : Core) (o : Output) : (c.emit o).vportBind = c.vportBind := rfl
@[simp] theorem Core.emit_pairs (c : Core) (o : Output) : (c.emit o).pairs = c.pairs := rfl
@[simp] theorem Core.emit_pairsWritten (c : Core) (o : Output) : (c.emit o).pairsWritten = c.pairsWritten := rfl
@[simp] theorem Core.emit_halted (c : Core) (o : Output) : (c.emit o).halted = c.halted := rfl
@[simp] theorem Core.emit_coresFenced (c : Core) (o : Output) : (c.emit o).coresFenced = c.coresFenced := rfl
@[simp] theorem Core.emit_coreStart (c : Core) (o : Output) : (c.emit o).coreStart = c.coreStart := rfl
@[simp] theorem Core.emit_imsic (c : Core) (o : Output) : (c.emit o).imsic = c.imsic := rfl
@[simp] theorem Core.emit_vpSlopes (c : Core) (o : Output) : (c.emit o).vpSlopes = c.vpSlopes := rfl
@[simp] theorem Core.emit_stampsBack (c : Core) (o : Output) : (c.emit o).stampsBack = c.stampsBack := rfl
@[simp] theorem Core.emit_deaf (c : Core) (o : Output) : (c.emit o).deaf = c.deaf := rfl
@[simp] theorem Core.emit_aplicIn (c : Core) (o : Output) : (c.emit o).aplicIn = c.aplicIn := rfl
@[simp] theorem Core.emit_aplicM (c : Core) (o : Output) : (c.emit o).aplicM = c.aplicM := rfl
@[simp] theorem Core.emit_aplicS (c : Core) (o : Output) : (c.emit o).aplicS = c.aplicS := rfl
@[simp] theorem Core.emit_mtimecmp (c : Core) (o : Output) : (c.emit o).mtimecmp = c.mtimecmp := rfl
@[simp] theorem Core.emit_spmPointer (c : Core) (o : Output) : (c.emit o).spmPointer = c.spmPointer := rfl
@[simp] theorem Core.emit_spmWait (c : Core) (o : Output) : (c.emit o).spmWait = c.spmWait := rfl
@[simp] theorem Core.emit_spmMerging (c : Core) (o : Output) : (c.emit o).spmMerging = c.spmMerging := rfl
@[simp] theorem Core.emit_spmRes (c : Core) (o : Output) : (c.emit o).spmRes = c.spmRes := rfl
@[simp] theorem Core.emit_spmBad (c : Core) (o : Output) : (c.emit o).spmBad = c.spmBad := rfl
@[simp] theorem Core.emit_dm (c : Core) (o : Output) : (c.emit o).dm = c.dm := rfl
@[simp] theorem Core.emit_poolUsed (c : Core) (o : Output) : (c.emit o).poolUsed = c.poolUsed := rfl
@[simp] theorem Core.emit_poolTags (c : Core) (o : Output) : (c.emit o).poolTags = c.poolTags := rfl
@[simp] theorem Core.emit_lastLane (c : Core) (o : Output) : (c.emit o).lastLane = c.lastLane := rfl
@[simp] theorem Core.emit_reclaimed (c : Core) (o : Output) : (c.emit o).reclaimed = c.reclaimed := rfl
@[simp] theorem Core.emit_reclaiming (c : Core) (o : Output) : (c.emit o).reclaiming = c.reclaiming := rfl
@[simp] theorem Core.emit_lastErrs (c : Core) (o : Output) : (c.emit o).lastErrs = c.lastErrs := rfl
@[simp] theorem Core.emit_toDev (c : Core) (o : Output) : (c.emit o).toDev = c.toDev := rfl
@[simp] theorem Core.emit_wakePend (c : Core) (o : Output) : (c.emit o).wakePend = c.wakePend := rfl
@[simp] theorem Core.emit_slotBase (c : Core) (o : Output) : (c.emit o).slotBase = c.slotBase := rfl
@[simp] theorem Core.emit_pllTry (c : Core) (o : Output) : (c.emit o).pllTry = c.pllTry := rfl
@[simp] theorem Core.emit_pllBad (c : Core) (o : Output) : (c.emit o).pllBad = c.pllBad := rfl
@[simp] theorem Core.emit_entryStep (c : Core) (o : Output) : (c.emit o).entryStep = c.entryStep := rfl
@[simp] theorem Core.emit_entryAt (c : Core) (o : Output) : (c.emit o).entryAt = c.entryAt := rfl
@[simp] theorem Core.emit_inReset (c : Core) (o : Output) : (c.emit o).inReset = c.inReset := rfl
@[simp] theorem Core.emit_fieldWakeId (c : Core) (o : Output) : (c.emit o).fieldWakeId = c.fieldWakeId := rfl
@[simp] theorem Core.emit_holds (c : Core) (o : Output) : (c.emit o).holds = c.holds := rfl
@[simp] theorem Core.emit_fences (c : Core) (o : Output) : (c.emit o).fences = c.fences := rfl
@[simp] theorem Core.emit_stateLive (c : Core) (o : Output) : (c.emit o).stateLive = c.stateLive := rfl
@[simp] theorem Core.emit_qLost (c : Core) (o : Output) : (c.emit o).qLost = c.qLost := rfl
@[simp] theorem Core.emit_pairCauses (c : Core) (o : Output) : (c.emit o).pairCauses = c.pairCauses := rfl
@[simp] theorem Core.emit_conds (c : Core) (o : Output) : (c.emit o).conds = c.conds := rfl
@[simp] theorem Core.emit_hpm (c : Core) (o : Output) : (c.emit o).hpm = c.hpm := rfl
@[simp] theorem Core.emit_sampAt (c : Core) (o : Output) : (c.emit o).sampAt = c.sampAt := rfl
@[simp] theorem Core.emit_sampSent (c : Core) (o : Output) : (c.emit o).sampSent = c.sampSent := rfl
@[simp] theorem Core.emit_sampLost (c : Core) (o : Output) : (c.emit o).sampLost = c.sampLost := rfl
@[simp] theorem Core.emit_snapLatch (c : Core) (o : Output) : (c.emit o).snapLatch = c.snapLatch := rfl
@[simp] theorem Core.emit_snapImage (c : Core) (o : Output) : (c.emit o).snapImage = c.snapImage := rfl
@[simp] theorem Core.emit_test (c : Core) (o : Output) : (c.emit o).test = c.test := rfl
@[simp] theorem Core.emit_tapStop (c : Core) (o : Output) : (c.emit o).tapStop = c.tapStop := rfl
@[simp] theorem Core.emit_absentPorts (c : Core) (o : Output) : (c.emit o).absentPorts = c.absentPorts := rfl
@[simp] theorem Core.emit_busOff (c : Core) (o : Output) : (c.emit o).busOff = c.busOff := rfl

/-! ### What larger updates change -/

theorem Core.reportRate_shape (c : Core) (e k a : Nat) : ∃ l, c.reportRate e k a = { c with rates := l } := by
  unfold Core.reportRate; split
  · exact ⟨c.rates, rfl⟩
  · exact ⟨_, rfl⟩

/-- A counter's saturation is recorded in registers. -/
theorem Core.recordSaturated_shape (c : Core) (v : Nat) : ∃ r, c.recordSaturated v = { c with regs := r } := by
  unfold Core.recordSaturated; dsimp only; split
  · exact ⟨_, rfl⟩
  · split <;> exact ⟨_, rfl⟩

theorem Core.dropMsg_shape (c : Core) (e k : Nat) : ∃ t n, c.dropMsg e k = { c with tabs := t, qLost := n } := ⟨_, _, rfl⟩
theorem Core.queueMsg_shape (c : Core) (e k a : Nat) : ∃ q, c.queueMsg e k a = { c with faultQ := q } := ⟨_, rfl⟩
theorem Core.wr_shape (c : Core) (k v : Nat) : ∃ r, c.wr k v = { c with regs := r } := ⟨_, rfl⟩

/-- A message that is lost leaves its sticky bits and is counted, and the count's saturation may be reported. -/
theorem Core.loseMsg_shape (c : Core) (e k : Nat) :
    ∃ q t r n, c.loseMsg e k = { c with faultQ := q, tabs := t, regs := r, qLost := n } := by
  obtain ⟨t, n, hd⟩ := c.dropMsg_shape e k
  unfold Core.loseMsg; dsimp only; split
  · exact ⟨c.faultQ, t, c.regs, n, hd⟩
  · split
    · generalize (c.dropMsg e k).rd Reg.collector_queue_overflow + 1 = m
      obtain ⟨r0, h0⟩ := (c.dropMsg e k).wr_shape Reg.collector_queue_overflow m
      rw [h0, hd]
      generalize Core.counterRec _ _ = v
      obtain ⟨r, h⟩ := Core.recordSaturated_shape ({ ({ c with tabs := t, qLost := n } : Core) with regs := r0 } : Core) v
      rw [h]; split
      · obtain ⟨q, hq⟩ := Core.queueMsg_shape ({ ({ ({ c with tabs := t, qLost := n } : Core) with regs := r0 } : Core) with regs := r } : Core) 396 3 v
        exact ⟨q, t, r, n, hq⟩
      · obtain ⟨t1, n1, hq⟩ := Core.dropMsg_shape ({ ({ ({ c with tabs := t, qLost := n } : Core) with regs := r0 } : Core) with regs := r } : Core) 396 3
        exact ⟨c.faultQ, t1, r, n1, hq⟩
    · generalize (c.dropMsg e k).rd Reg.collector_queue_overflow + 1 = m
      obtain ⟨r0, h0⟩ := (c.dropMsg e k).wr_shape Reg.collector_queue_overflow m
      rw [h0, hd]
      exact ⟨c.faultQ, t, r0, n, rfl⟩

/-- A message goes into the queue, or is lost and counted; a register changes only by its being lost. -/
theorem Core.report_shape (c : Core) (e k a : Nat) :
    ∃ q t r n, c.report e k a = { c with faultQ := q, tabs := t, regs := r, qLost := n } := by
  unfold Core.report; split
  · exact ⟨_, c.tabs, c.regs, c.qLost, rfl⟩
  · exact c.loseMsg_shape e k

/-- A saturation is recorded, and reported with that of its count. -/
theorem Core.saySaturated_shape (c : Core) (v a : Nat) :
    ∃ q t r m, c.saySaturated v a = { c with faultQ := q, tabs := t, regs := r, qLost := m } := by
  unfold Core.saySaturated; dsimp only
  obtain ⟨r0, h0⟩ := c.recordSaturated_shape v
  rw [h0]
  obtain ⟨q, t, r, m, h⟩ := ({ c with regs := r0 } : Core).report_shape 396 3 a
  rw [h]; split
  · obtain ⟨q1, t1, r1, m1, h1⟩ := ({ ({ c with regs := r0 } : Core) with faultQ := q, tabs := t, regs := r, qLost := m } : Core).report_shape
      396 3 (c.counterRec Reg.saturated_count)
    exact ⟨q1, t1, r1, m1, h1⟩
  · exact ⟨q, t, r, m, rfl⟩

/-- A counter at all ones is recorded and reported. -/
theorem Core.saturated_shape (c : Core) (k : Nat) :
    ∃ q t r m x, c.saturated k = { c with faultQ := q, tabs := t, regs := r, qLost := m, toDev := x } := by
  unfold Core.saturated; split
  · exact ⟨c.faultQ, c.tabs, c.regs, c.qLost, _, rfl⟩
  · obtain ⟨q, t, r, m, h⟩ := c.saySaturated_shape (c.counterRec k) (c.counterRec k)
    exact ⟨q, t, r, m, c.toDev, h⟩

/-- A counter counts, or reaches all ones and is reported. -/
theorem Core.add_shape (c : Core) (k n : Nat) :
    ∃ q t r m x, c.add k n = { c with faultQ := q, tabs := t, regs := r, qLost := m, toDev := x } := by
  unfold Core.add; dsimp only; split
  · exact ⟨c.faultQ, c.tabs, _, c.qLost, c.toDev, rfl⟩
  · split
    · exact ⟨c.faultQ, c.tabs, c.regs, c.qLost, c.toDev, rfl⟩
    · obtain ⟨q, t, r, m, x, h⟩ := (c.wr k (counterMax k)).saturated_shape k
      exact ⟨q, t, r, m, x, h⟩

theorem Core.moveCells_shape (c : Core) (x y : CellTerm) (n : Nat) : ∃ r, c.moveCells x y n = { c with regs := r } := by
  unfold Core.moveCells; split
  · exact ⟨c.regs, rfl⟩
  · exact ⟨_, rfl⟩

theorem Core.advance_shape (c : Core) (n : Nat) : ∃ t l, c.advance n = { c with now := t, doms := l } := by
  unfold Core.advance; split
  · exact ⟨c.now, c.doms, rfl⟩
  · exact ⟨_, _, rfl⟩

@[simp] theorem Core.reportRate_id (c : Core) (e k a : Nat) : (c.reportRate e k a).id = c.id := by
  obtain ⟨_, h⟩ := c.reportRate_shape e k a; rw [h]
@[simp] theorem Core.reportRate_regs (c : Core) (e k a : Nat) : (c.reportRate e k a).regs = c.regs := by
  obtain ⟨_, h⟩ := c.reportRate_shape e k a; rw [h]
@[simp] theorem Core.reportRate_tabs (c : Core) (e k a : Nat) : (c.reportRate e k a).tabs = c.tabs := by
  obtain ⟨_, h⟩ := c.reportRate_shape e k a; rw [h]
@[simp] theorem Core.reportRate_marks (c : Core) (e k a : Nat) : (c.reportRate e k a).marks = c.marks := by
  obtain ⟨_, h⟩ := c.reportRate_shape e k a; rw [h]
@[simp] theorem Core.reportRate_released (c : Core) (e k a : Nat) : (c.reportRate e k a).released = c.released := by
  obtain ⟨_, h⟩ := c.reportRate_shape e k a; rw [h]
@[simp] theorem Core.reportRate_now (c : Core) (e k a : Nat) : (c.reportRate e k a).now = c.now := by
  obtain ⟨_, h⟩ := c.reportRate_shape e k a; rw [h]
@[simp] theorem Core.reportRate_free (c : Core) (e k a : Nat) : (c.reportRate e k a).free = c.free := by
  obtain ⟨_, h⟩ := c.reportRate_shape e k a; rw [h]
@[simp] theorem Core.reportRate_doms (c : Core) (e k a : Nat) : (c.reportRate e k a).doms = c.doms := by
  obtain ⟨_, h⟩ := c.reportRate_shape e k a; rw [h]
@[simp] theorem Core.reportRate_ppsOut (c : Core) (e k a : Nat) : (c.reportRate e k a).ppsOut = c.ppsOut := by
  obtain ⟨_, h⟩ := c.reportRate_shape e k a; rw [h]
@[simp] theorem Core.reportRate_ppsEnd (c : Core) (e k a : Nat) : (c.reportRate e k a).ppsEnd = c.ppsEnd := by
  obtain ⟨_, h⟩ := c.reportRate_shape e k a; rw [h]
@[simp] theorem Core.reportRate_ppsPrev (c : Core) (e k a : Nat) : (c.reportRate e k a).ppsPrev = c.ppsPrev := by
  obtain ⟨_, h⟩ := c.reportRate_shape e k a; rw [h]
@[simp] theorem Core.reportRate_ppsBase (c : Core) (e k a : Nat) : (c.reportRate e k a).ppsBase = c.ppsBase := by
  obtain ⟨_, h⟩ := c.reportRate_shape e k a; rw [h]
@[simp] theorem Core.reportRate_faultQ (c : Core) (e k a : Nat) : (c.reportRate e k a).faultQ = c.faultQ := by
  obtain ⟨_, h⟩ := c.reportRate_shape e k a; rw [h]
@[simp] theorem Core.reportRate_out (c : Core) (e k a : Nat) : (c.reportRate e k a).out = c.out := by
  obtain ⟨_, h⟩ := c.reportRate_shape e k a; rw [h]
@[simp] theorem Core.reportRate_ports (c : Core) (e k a : Nat) : (c.reportRate e k a).ports = c.ports := by
  obtain ⟨_, h⟩ := c.reportRate_shape e k a; rw [h]
@[simp] theorem Core.reportRate_rx (c : Core) (e k a : Nat) : (c.reportRate e k a).rx = c.rx := by
  obtain ⟨_, h⟩ := c.reportRate_shape e k a; rw [h]
@[simp] theorem Core.reportRate_frameNo (c : Core) (e k a : Nat) : (c.reportRate e k a).frameNo = c.frameNo := by
  obtain ⟨_, h⟩ := c.reportRate_shape e k a; rw [h]
@[simp] theorem Core.reportRate_recirc (c : Core) (e k a : Nat) : (c.reportRate e k a).recirc = c.recirc := by
  obtain ⟨_, h⟩ := c.reportRate_shape e k a; rw [h]
@[simp] theorem Core.reportRate_rrPort (c : Core) (e k a : Nat) : (c.reportRate e k a).rrPort = c.rrPort := by
  obtain ⟨_, h⟩ := c.reportRate_shape e k a; rw [h]
@[simp] theorem Core.reportRate_rrVport (c : Core) (e k a : Nat) : (c.reportRate e k a).rrVport = c.rrVport := by
  obtain ⟨_, h⟩ := c.reportRate_shape e k a; rw [h]
@[simp] theorem Core.reportRate_vportWait (c : Core) (e k a : Nat) : (c.reportRate e k a).vportWait = c.vportWait := by
  obtain ⟨_, h⟩ := c.reportRate_shape e k a; rw [h]
@[simp] theorem Core.reportRate_txJobs (c : Core) (e k a : Nat) : (c.reportRate e k a).txJobs = c.txJobs := by
  obtain ⟨_, h⟩ := c.reportRate_shape e k a; rw [h]
@[simp] theorem Core.reportRate_rxJobs (c : Core) (e k a : Nat) : (c.reportRate e k a).rxJobs = c.rxJobs := by
  obtain ⟨_, h⟩ := c.reportRate_shape e k a; rw [h]
@[simp] theorem Core.reportRate_vps (c : Core) (e k a : Nat) : (c.reportRate e k a).vps = c.vps := by
  obtain ⟨_, h⟩ := c.reportRate_shape e k a; rw [h]
@[simp] theorem Core.reportRate_fns (c : Core) (e k a : Nat) : (c.reportRate e k a).fns = c.fns := by
  obtain ⟨_, h⟩ := c.reportRate_shape e k a; rw [h]
@[simp] theorem Core.reportRate_badgerQ (c : Core) (e k a : Nat) : (c.reportRate e k a).badgerQ = c.badgerQ := by
  obtain ⟨_, h⟩ := c.reportRate_shape e k a; rw [h]
@[simp] theorem Core.reportRate_badgerRun (c : Core) (e k a : Nat) : (c.reportRate e k a).badgerRun = c.badgerRun := by
  obtain ⟨_, h⟩ := c.reportRate_shape e k a; rw [h]
@[simp] theorem Core.reportRate_probes (c : Core) (e k a : Nat) : (c.reportRate e k a).probes = c.probes := by
  obtain ⟨_, h⟩ := c.reportRate_shape e k a; rw [h]
@[simp] theorem Core.reportRate_banksFenced (c : Core) (e k a : Nat) : (c.reportRate e k a).banksFenced = c.banksFenced := by
  obtain ⟨_, h⟩ := c.reportRate_shape e k a; rw [h]
@[simp] theorem Core.reportRate_learnQ (c : Core) (e k a : Nat) : (c.reportRate e k a).learnQ = c.learnQ := by
  obtain ⟨_, h⟩ := c.reportRate_shape e k a; rw [h]
@[simp] theorem Core.reportRate_sendQ (c : Core) (e k a : Nat) : (c.reportRate e k a).sendQ = c.sendQ := by
  obtain ⟨_, h⟩ := c.reportRate_shape e k a; rw [h]
@[simp] theorem Core.reportRate_lastMsg (c : Core) (e k a : Nat) : (c.reportRate e k a).lastMsg = c.lastMsg := by
  obtain ⟨_, h⟩ := c.reportRate_shape e k a; rw [h]
@[simp] theorem Core.reportRate_learnSeq (c : Core) (e k a : Nat) : (c.reportRate e k a).learnSeq = c.learnSeq := by
  obtain ⟨_, h⟩ := c.reportRate_shape e k a; rw [h]
@[simp] theorem Core.reportRate_rehashQ (c : Core) (e k a : Nat) : (c.reportRate e k a).rehashQ = c.rehashQ := by
  obtain ⟨_, h⟩ := c.reportRate_shape e k a; rw [h]
@[simp] theorem Core.reportRate_crossRecs (c : Core) (e k a : Nat) : (c.reportRate e k a).crossRecs = c.crossRecs := by
  obtain ⟨_, h⟩ := c.reportRate_shape e k a; rw [h]
@[simp] theorem Core.reportRate_learnRx (c : Core) (e k a : Nat) : (c.reportRate e k a).learnRx = c.learnRx := by
  obtain ⟨_, h⟩ := c.reportRate_shape e k a; rw [h]
@[simp] theorem Core.reportRate_flipTarget (c : Core) (e k a : Nat) : (c.reportRate e k a).flipTarget = c.flipTarget := by
  obtain ⟨_, h⟩ := c.reportRate_shape e k a; rw [h]
@[simp] theorem Core.reportRate_flipAt (c : Core) (e k a : Nat) : (c.reportRate e k a).flipAt = c.flipAt := by
  obtain ⟨_, h⟩ := c.reportRate_shape e k a; rw [h]
@[simp] theorem Core.reportRate_flipEff (c : Core) (e k a : Nat) : (c.reportRate e k a).flipEff = c.flipEff := by
  obtain ⟨_, h⟩ := c.reportRate_shape e k a; rw [h]
@[simp] theorem Core.reportRate_copyTo (c : Core) (e k a : Nat) : (c.reportRate e k a).copyTo = c.copyTo := by
  obtain ⟨_, h⟩ := c.reportRate_shape e k a; rw [h]
@[simp] theorem Core.reportRate_frer (c : Core) (e k a : Nat) : (c.reportRate e k a).frer = c.frer := by
  obtain ⟨_, h⟩ := c.reportRate_shape e k a; rw [h]
@[simp] theorem Core.reportRate_gates (c : Core) (e k a : Nat) : (c.reportRate e k a).gates = c.gates := by
  obtain ⟨_, h⟩ := c.reportRate_shape e k a; rw [h]
@[simp] theorem Core.reportRate_meters (c : Core) (e k a : Nat) : (c.reportRate e k a).meters = c.meters := by
  obtain ⟨_, h⟩ := c.reportRate_shape e k a; rw [h]
@[simp] theorem Core.reportRate_mgmtMeter (c : Core) (e k a : Nat) : (c.reportRate e k a).mgmtMeter = c.mgmtMeter := by
  obtain ⟨_, h⟩ := c.reportRate_shape e k a; rw [h]
@[simp] theorem Core.reportRate_sweptAt (c : Core) (e k a : Nat) : (c.reportRate e k a).sweptAt = c.sweptAt := by
  obtain ⟨_, h⟩ := c.reportRate_shape e k a; rw [h]
@[simp] theorem Core.reportRate_shapers (c : Core) (e k a : Nat) : (c.reportRate e k a).shapers = c.shapers := by
  obtain ⟨_, h⟩ := c.reportRate_shape e k a; rw [h]
@[simp] theorem Core.reportRate_copies (c : Core) (e k a : Nat) : (c.reportRate e k a).copies = c.copies := by
  obtain ⟨_, h⟩ := c.reportRate_shape e k a; rw [h]
@[simp] theorem Core.reportRate_copyNo (c : Core) (e k a : Nat) : (c.reportRate e k a).copyNo = c.copyNo := by
  obtain ⟨_, h⟩ := c.reportRate_shape e k a; rw [h]
@[simp] theorem Core.reportRate_spent (c : Core) (e k a : Nat) : (c.reportRate e k a).spent = c.spent := by
  obtain ⟨_, h⟩ := c.reportRate_shape e k a; rw [h]
@[simp] theorem Core.reportRate_middles (c : Core) (e k a : Nat) : (c.reportRate e k a).middles = c.middles := by
  obtain ⟨_, h⟩ := c.reportRate_shape e k a; rw [h]
@[simp] theorem Core.reportRate_middleSlot (c : Core) (e k a : Nat) : (c.reportRate e k a).middleSlot = c.middleSlot := by
  obtain ⟨_, h⟩ := c.reportRate_shape e k a; rw [h]
@[simp] theorem Core.reportRate_returning (c : Core) (e k a : Nat) : (c.reportRate e k a).returning = c.returning := by
  obtain ⟨_, h⟩ := c.reportRate_shape e k a; rw [h]
@[simp] theorem Core.reportRate_arriving (c : Core) (e k a : Nat) : (c.reportRate e k a).arriving = c.arriving := by
  obtain ⟨_, h⟩ := c.reportRate_shape e k a; rw [h]
@[simp] theorem Core.reportRate_streams (c : Core) (e k a : Nat) : (c.reportRate e k a).streams = c.streams := by
  obtain ⟨_, h⟩ := c.reportRate_shape e k a; rw [h]
@[simp] theorem Core.reportRate_groupSlot (c : Core) (e k a : Nat) : (c.reportRate e k a).groupSlot = c.groupSlot := by
  obtain ⟨_, h⟩ := c.reportRate_shape e k a; rw [h]
@[simp] theorem Core.reportRate_sliceRr (c : Core) (e k a : Nat) : (c.reportRate e k a).sliceRr = c.sliceRr := by
  obtain ⟨_, h⟩ := c.reportRate_shape e k a; rw [h]
@[simp] theorem Core.reportRate_queues (c : Core) (e k a : Nat) : (c.reportRate e k a).queues = c.queues := by
  obtain ⟨_, h⟩ := c.reportRate_shape e k a; rw [h]
@[simp] theorem Core.reportRate_xoffs (c : Core) (e k a : Nat) : (c.reportRate e k a).xoffs = c.xoffs := by
  obtain ⟨_, h⟩ := c.reportRate_shape e k a; rw [h]
@[simp] theorem Core.reportRate_mgmtWait (c : Core) (e k a : Nat) : (c.reportRate e k a).mgmtWait = c.mgmtWait := by
  obtain ⟨_, h⟩ := c.reportRate_shape e k a; rw [h]
@[simp] theorem Core.reportRate_crossOut (c : Core) (e k a : Nat) : (c.reportRate e k a).crossOut = c.crossOut := by
  obtain ⟨_, h⟩ := c.reportRate_shape e k a; rw [h]
@[simp] theorem Core.reportRate_crossIn (c : Core) (e k a : Nat) : (c.reportRate e k a).crossIn = c.crossIn := by
  obtain ⟨_, h⟩ := c.reportRate_shape e k a; rw [h]
@[simp] theorem Core.reportRate_crossRr (c : Core) (e k a : Nat) : (c.reportRate e k a).crossRr = c.crossRr := by
  obtain ⟨_, h⟩ := c.reportRate_shape e k a; rw [h]
@[simp] theorem Core.reportRate_crossMap (c : Core) (e k a : Nat) : (c.reportRate e k a).crossMap = c.crossMap := by
  obtain ⟨_, h⟩ := c.reportRate_shape e k a; rw [h]
@[simp] theorem Core.reportRate_crossHold (c : Core) (e k a : Nat) : (c.reportRate e k a).crossHold = c.crossHold := by
  obtain ⟨_, h⟩ := c.reportRate_shape e k a; rw [h]
@[simp] theorem Core.reportRate_vportBind (c : Core) (e k a : Nat) : (c.reportRate e k a).vportBind = c.vportBind := by
  obtain ⟨_, h⟩ := c.reportRate_shape e k a; rw [h]
@[simp] theorem Core.reportRate_pairs (c : Core) (e k a : Nat) : (c.reportRate e k a).pairs = c.pairs := by
  obtain ⟨_, h⟩ := c.reportRate_shape e k a; rw [h]
@[simp] theorem Core.reportRate_pairsWritten (c : Core) (e k a : Nat) : (c.reportRate e k a).pairsWritten = c.pairsWritten := by
  obtain ⟨_, h⟩ := c.reportRate_shape e k a; rw [h]
@[simp] theorem Core.reportRate_halted (c : Core) (e k a : Nat) : (c.reportRate e k a).halted = c.halted := by
  obtain ⟨_, h⟩ := c.reportRate_shape e k a; rw [h]
@[simp] theorem Core.reportRate_coresFenced (c : Core) (e k a : Nat) : (c.reportRate e k a).coresFenced = c.coresFenced := by
  obtain ⟨_, h⟩ := c.reportRate_shape e k a; rw [h]
@[simp] theorem Core.reportRate_coreStart (c : Core) (e k a : Nat) : (c.reportRate e k a).coreStart = c.coreStart := by
  obtain ⟨_, h⟩ := c.reportRate_shape e k a; rw [h]
@[simp] theorem Core.reportRate_imsic (c : Core) (e k a : Nat) : (c.reportRate e k a).imsic = c.imsic := by
  obtain ⟨_, h⟩ := c.reportRate_shape e k a; rw [h]
@[simp] theorem Core.reportRate_vpSlopes (c : Core) (e k a : Nat) : (c.reportRate e k a).vpSlopes = c.vpSlopes := by
  obtain ⟨_, h⟩ := c.reportRate_shape e k a; rw [h]
@[simp] theorem Core.reportRate_stampsBack (c : Core) (e k a : Nat) : (c.reportRate e k a).stampsBack = c.stampsBack := by
  obtain ⟨_, h⟩ := c.reportRate_shape e k a; rw [h]
@[simp] theorem Core.reportRate_deaf (c : Core) (e k a : Nat) : (c.reportRate e k a).deaf = c.deaf := by
  obtain ⟨_, h⟩ := c.reportRate_shape e k a; rw [h]
@[simp] theorem Core.reportRate_aplicIn (c : Core) (e k a : Nat) : (c.reportRate e k a).aplicIn = c.aplicIn := by
  obtain ⟨_, h⟩ := c.reportRate_shape e k a; rw [h]
@[simp] theorem Core.reportRate_aplicM (c : Core) (e k a : Nat) : (c.reportRate e k a).aplicM = c.aplicM := by
  obtain ⟨_, h⟩ := c.reportRate_shape e k a; rw [h]
@[simp] theorem Core.reportRate_aplicS (c : Core) (e k a : Nat) : (c.reportRate e k a).aplicS = c.aplicS := by
  obtain ⟨_, h⟩ := c.reportRate_shape e k a; rw [h]
@[simp] theorem Core.reportRate_mtimecmp (c : Core) (e k a : Nat) : (c.reportRate e k a).mtimecmp = c.mtimecmp := by
  obtain ⟨_, h⟩ := c.reportRate_shape e k a; rw [h]
@[simp] theorem Core.reportRate_spmPointer (c : Core) (e k a : Nat) : (c.reportRate e k a).spmPointer = c.spmPointer := by
  obtain ⟨_, h⟩ := c.reportRate_shape e k a; rw [h]
@[simp] theorem Core.reportRate_spmWait (c : Core) (e k a : Nat) : (c.reportRate e k a).spmWait = c.spmWait := by
  obtain ⟨_, h⟩ := c.reportRate_shape e k a; rw [h]
@[simp] theorem Core.reportRate_spmMerging (c : Core) (e k a : Nat) : (c.reportRate e k a).spmMerging = c.spmMerging := by
  obtain ⟨_, h⟩ := c.reportRate_shape e k a; rw [h]
@[simp] theorem Core.reportRate_spmRes (c : Core) (e k a : Nat) : (c.reportRate e k a).spmRes = c.spmRes := by
  obtain ⟨_, h⟩ := c.reportRate_shape e k a; rw [h]
@[simp] theorem Core.reportRate_spmBad (c : Core) (e k a : Nat) : (c.reportRate e k a).spmBad = c.spmBad := by
  obtain ⟨_, h⟩ := c.reportRate_shape e k a; rw [h]
@[simp] theorem Core.reportRate_dm (c : Core) (e k a : Nat) : (c.reportRate e k a).dm = c.dm := by
  obtain ⟨_, h⟩ := c.reportRate_shape e k a; rw [h]
@[simp] theorem Core.reportRate_poolUsed (c : Core) (e k a : Nat) : (c.reportRate e k a).poolUsed = c.poolUsed := by
  obtain ⟨_, h⟩ := c.reportRate_shape e k a; rw [h]
@[simp] theorem Core.reportRate_poolTags (c : Core) (e k a : Nat) : (c.reportRate e k a).poolTags = c.poolTags := by
  obtain ⟨_, h⟩ := c.reportRate_shape e k a; rw [h]
@[simp] theorem Core.reportRate_lastLane (c : Core) (e k a : Nat) : (c.reportRate e k a).lastLane = c.lastLane := by
  obtain ⟨_, h⟩ := c.reportRate_shape e k a; rw [h]
@[simp] theorem Core.reportRate_reclaimed (c : Core) (e k a : Nat) : (c.reportRate e k a).reclaimed = c.reclaimed := by
  obtain ⟨_, h⟩ := c.reportRate_shape e k a; rw [h]
@[simp] theorem Core.reportRate_reclaiming (c : Core) (e k a : Nat) : (c.reportRate e k a).reclaiming = c.reclaiming := by
  obtain ⟨_, h⟩ := c.reportRate_shape e k a; rw [h]
@[simp] theorem Core.reportRate_lastErrs (c : Core) (e k a : Nat) : (c.reportRate e k a).lastErrs = c.lastErrs := by
  obtain ⟨_, h⟩ := c.reportRate_shape e k a; rw [h]
@[simp] theorem Core.reportRate_toDev (c : Core) (e k a : Nat) : (c.reportRate e k a).toDev = c.toDev := by
  obtain ⟨_, h⟩ := c.reportRate_shape e k a; rw [h]
@[simp] theorem Core.reportRate_wakePend (c : Core) (e k a : Nat) : (c.reportRate e k a).wakePend = c.wakePend := by
  obtain ⟨_, h⟩ := c.reportRate_shape e k a; rw [h]
@[simp] theorem Core.reportRate_slotBase (c : Core) (e k a : Nat) : (c.reportRate e k a).slotBase = c.slotBase := by
  obtain ⟨_, h⟩ := c.reportRate_shape e k a; rw [h]
@[simp] theorem Core.reportRate_pllTry (c : Core) (e k a : Nat) : (c.reportRate e k a).pllTry = c.pllTry := by
  obtain ⟨_, h⟩ := c.reportRate_shape e k a; rw [h]
@[simp] theorem Core.reportRate_pllBad (c : Core) (e k a : Nat) : (c.reportRate e k a).pllBad = c.pllBad := by
  obtain ⟨_, h⟩ := c.reportRate_shape e k a; rw [h]
@[simp] theorem Core.reportRate_entryStep (c : Core) (e k a : Nat) : (c.reportRate e k a).entryStep = c.entryStep := by
  obtain ⟨_, h⟩ := c.reportRate_shape e k a; rw [h]
@[simp] theorem Core.reportRate_entryAt (c : Core) (e k a : Nat) : (c.reportRate e k a).entryAt = c.entryAt := by
  obtain ⟨_, h⟩ := c.reportRate_shape e k a; rw [h]
@[simp] theorem Core.reportRate_inReset (c : Core) (e k a : Nat) : (c.reportRate e k a).inReset = c.inReset := by
  obtain ⟨_, h⟩ := c.reportRate_shape e k a; rw [h]
@[simp] theorem Core.reportRate_fieldWakeId (c : Core) (e k a : Nat) : (c.reportRate e k a).fieldWakeId = c.fieldWakeId := by
  obtain ⟨_, h⟩ := c.reportRate_shape e k a; rw [h]
@[simp] theorem Core.reportRate_holds (c : Core) (e k a : Nat) : (c.reportRate e k a).holds = c.holds := by
  obtain ⟨_, h⟩ := c.reportRate_shape e k a; rw [h]
@[simp] theorem Core.reportRate_fences (c : Core) (e k a : Nat) : (c.reportRate e k a).fences = c.fences := by
  obtain ⟨_, h⟩ := c.reportRate_shape e k a; rw [h]
@[simp] theorem Core.reportRate_stateLive (c : Core) (e k a : Nat) : (c.reportRate e k a).stateLive = c.stateLive := by
  obtain ⟨_, h⟩ := c.reportRate_shape e k a; rw [h]
@[simp] theorem Core.reportRate_qLost (c : Core) (e k a : Nat) : (c.reportRate e k a).qLost = c.qLost := by
  obtain ⟨_, h⟩ := c.reportRate_shape e k a; rw [h]
@[simp] theorem Core.reportRate_pairCauses (c : Core) (e k a : Nat) : (c.reportRate e k a).pairCauses = c.pairCauses := by
  obtain ⟨_, h⟩ := c.reportRate_shape e k a; rw [h]
@[simp] theorem Core.reportRate_conds (c : Core) (e k a : Nat) : (c.reportRate e k a).conds = c.conds := by
  obtain ⟨_, h⟩ := c.reportRate_shape e k a; rw [h]
@[simp] theorem Core.reportRate_hpm (c : Core) (e k a : Nat) : (c.reportRate e k a).hpm = c.hpm := by
  obtain ⟨_, h⟩ := c.reportRate_shape e k a; rw [h]
@[simp] theorem Core.reportRate_sampAt (c : Core) (e k a : Nat) : (c.reportRate e k a).sampAt = c.sampAt := by
  obtain ⟨_, h⟩ := c.reportRate_shape e k a; rw [h]
@[simp] theorem Core.reportRate_sampSent (c : Core) (e k a : Nat) : (c.reportRate e k a).sampSent = c.sampSent := by
  obtain ⟨_, h⟩ := c.reportRate_shape e k a; rw [h]
@[simp] theorem Core.reportRate_sampLost (c : Core) (e k a : Nat) : (c.reportRate e k a).sampLost = c.sampLost := by
  obtain ⟨_, h⟩ := c.reportRate_shape e k a; rw [h]
@[simp] theorem Core.reportRate_snapLatch (c : Core) (e k a : Nat) : (c.reportRate e k a).snapLatch = c.snapLatch := by
  obtain ⟨_, h⟩ := c.reportRate_shape e k a; rw [h]
@[simp] theorem Core.reportRate_snapImage (c : Core) (e k a : Nat) : (c.reportRate e k a).snapImage = c.snapImage := by
  obtain ⟨_, h⟩ := c.reportRate_shape e k a; rw [h]
@[simp] theorem Core.reportRate_test (c : Core) (e k a : Nat) : (c.reportRate e k a).test = c.test := by
  obtain ⟨_, h⟩ := c.reportRate_shape e k a; rw [h]
@[simp] theorem Core.reportRate_tapStop (c : Core) (e k a : Nat) : (c.reportRate e k a).tapStop = c.tapStop := by
  obtain ⟨_, h⟩ := c.reportRate_shape e k a; rw [h]
@[simp] theorem Core.reportRate_absentPorts (c : Core) (e k a : Nat) : (c.reportRate e k a).absentPorts = c.absentPorts := by
  obtain ⟨_, h⟩ := c.reportRate_shape e k a; rw [h]
@[simp] theorem Core.reportRate_busOff (c : Core) (e k a : Nat) : (c.reportRate e k a).busOff = c.busOff := by
  obtain ⟨_, h⟩ := c.reportRate_shape e k a; rw [h]

@[simp] theorem Core.report_id (c : Core) (e k a : Nat) : (c.report e k a).id = c.id := by
  obtain ⟨_, _, _, _, h⟩ := c.report_shape e k a; rw [h]
@[simp] theorem Core.report_marks (c : Core) (e k a : Nat) : (c.report e k a).marks = c.marks := by
  obtain ⟨_, _, _, _, h⟩ := c.report_shape e k a; rw [h]
@[simp] theorem Core.report_released (c : Core) (e k a : Nat) : (c.report e k a).released = c.released := by
  obtain ⟨_, _, _, _, h⟩ := c.report_shape e k a; rw [h]
@[simp] theorem Core.report_now (c : Core) (e k a : Nat) : (c.report e k a).now = c.now := by
  obtain ⟨_, _, _, _, h⟩ := c.report_shape e k a; rw [h]
@[simp] theorem Core.report_free (c : Core) (e k a : Nat) : (c.report e k a).free = c.free := by
  obtain ⟨_, _, _, _, h⟩ := c.report_shape e k a; rw [h]
@[simp] theorem Core.report_doms (c : Core) (e k a : Nat) : (c.report e k a).doms = c.doms := by
  obtain ⟨_, _, _, _, h⟩ := c.report_shape e k a; rw [h]
@[simp] theorem Core.report_ppsOut (c : Core) (e k a : Nat) : (c.report e k a).ppsOut = c.ppsOut := by
  obtain ⟨_, _, _, _, h⟩ := c.report_shape e k a; rw [h]
@[simp] theorem Core.report_ppsEnd (c : Core) (e k a : Nat) : (c.report e k a).ppsEnd = c.ppsEnd := by
  obtain ⟨_, _, _, _, h⟩ := c.report_shape e k a; rw [h]
@[simp] theorem Core.report_ppsPrev (c : Core) (e k a : Nat) : (c.report e k a).ppsPrev = c.ppsPrev := by
  obtain ⟨_, _, _, _, h⟩ := c.report_shape e k a; rw [h]
@[simp] theorem Core.report_ppsBase (c : Core) (e k a : Nat) : (c.report e k a).ppsBase = c.ppsBase := by
  obtain ⟨_, _, _, _, h⟩ := c.report_shape e k a; rw [h]
@[simp] theorem Core.report_rates (c : Core) (e k a : Nat) : (c.report e k a).rates = c.rates := by
  obtain ⟨_, _, _, _, h⟩ := c.report_shape e k a; rw [h]
@[simp] theorem Core.report_out (c : Core) (e k a : Nat) : (c.report e k a).out = c.out := by
  obtain ⟨_, _, _, _, h⟩ := c.report_shape e k a; rw [h]
@[simp] theorem Core.report_ports (c : Core) (e k a : Nat) : (c.report e k a).ports = c.ports := by
  obtain ⟨_, _, _, _, h⟩ := c.report_shape e k a; rw [h]
@[simp] theorem Core.report_rx (c : Core) (e k a : Nat) : (c.report e k a).rx = c.rx := by
  obtain ⟨_, _, _, _, h⟩ := c.report_shape e k a; rw [h]
@[simp] theorem Core.report_frameNo (c : Core) (e k a : Nat) : (c.report e k a).frameNo = c.frameNo := by
  obtain ⟨_, _, _, _, h⟩ := c.report_shape e k a; rw [h]
@[simp] theorem Core.report_recirc (c : Core) (e k a : Nat) : (c.report e k a).recirc = c.recirc := by
  obtain ⟨_, _, _, _, h⟩ := c.report_shape e k a; rw [h]
@[simp] theorem Core.report_rrPort (c : Core) (e k a : Nat) : (c.report e k a).rrPort = c.rrPort := by
  obtain ⟨_, _, _, _, h⟩ := c.report_shape e k a; rw [h]
@[simp] theorem Core.report_rrVport (c : Core) (e k a : Nat) : (c.report e k a).rrVport = c.rrVport := by
  obtain ⟨_, _, _, _, h⟩ := c.report_shape e k a; rw [h]
@[simp] theorem Core.report_vportWait (c : Core) (e k a : Nat) : (c.report e k a).vportWait = c.vportWait := by
  obtain ⟨_, _, _, _, h⟩ := c.report_shape e k a; rw [h]
@[simp] theorem Core.report_txJobs (c : Core) (e k a : Nat) : (c.report e k a).txJobs = c.txJobs := by
  obtain ⟨_, _, _, _, h⟩ := c.report_shape e k a; rw [h]
@[simp] theorem Core.report_rxJobs (c : Core) (e k a : Nat) : (c.report e k a).rxJobs = c.rxJobs := by
  obtain ⟨_, _, _, _, h⟩ := c.report_shape e k a; rw [h]
@[simp] theorem Core.report_vps (c : Core) (e k a : Nat) : (c.report e k a).vps = c.vps := by
  obtain ⟨_, _, _, _, h⟩ := c.report_shape e k a; rw [h]
@[simp] theorem Core.report_fns (c : Core) (e k a : Nat) : (c.report e k a).fns = c.fns := by
  obtain ⟨_, _, _, _, h⟩ := c.report_shape e k a; rw [h]
@[simp] theorem Core.report_badgerQ (c : Core) (e k a : Nat) : (c.report e k a).badgerQ = c.badgerQ := by
  obtain ⟨_, _, _, _, h⟩ := c.report_shape e k a; rw [h]
@[simp] theorem Core.report_badgerRun (c : Core) (e k a : Nat) : (c.report e k a).badgerRun = c.badgerRun := by
  obtain ⟨_, _, _, _, h⟩ := c.report_shape e k a; rw [h]
@[simp] theorem Core.report_probes (c : Core) (e k a : Nat) : (c.report e k a).probes = c.probes := by
  obtain ⟨_, _, _, _, h⟩ := c.report_shape e k a; rw [h]
@[simp] theorem Core.report_banksFenced (c : Core) (e k a : Nat) : (c.report e k a).banksFenced = c.banksFenced := by
  obtain ⟨_, _, _, _, h⟩ := c.report_shape e k a; rw [h]
@[simp] theorem Core.report_learnQ (c : Core) (e k a : Nat) : (c.report e k a).learnQ = c.learnQ := by
  obtain ⟨_, _, _, _, h⟩ := c.report_shape e k a; rw [h]
@[simp] theorem Core.report_sendQ (c : Core) (e k a : Nat) : (c.report e k a).sendQ = c.sendQ := by
  obtain ⟨_, _, _, _, h⟩ := c.report_shape e k a; rw [h]
@[simp] theorem Core.report_lastMsg (c : Core) (e k a : Nat) : (c.report e k a).lastMsg = c.lastMsg := by
  obtain ⟨_, _, _, _, h⟩ := c.report_shape e k a; rw [h]
@[simp] theorem Core.report_learnSeq (c : Core) (e k a : Nat) : (c.report e k a).learnSeq = c.learnSeq := by
  obtain ⟨_, _, _, _, h⟩ := c.report_shape e k a; rw [h]
@[simp] theorem Core.report_rehashQ (c : Core) (e k a : Nat) : (c.report e k a).rehashQ = c.rehashQ := by
  obtain ⟨_, _, _, _, h⟩ := c.report_shape e k a; rw [h]
@[simp] theorem Core.report_crossRecs (c : Core) (e k a : Nat) : (c.report e k a).crossRecs = c.crossRecs := by
  obtain ⟨_, _, _, _, h⟩ := c.report_shape e k a; rw [h]
@[simp] theorem Core.report_learnRx (c : Core) (e k a : Nat) : (c.report e k a).learnRx = c.learnRx := by
  obtain ⟨_, _, _, _, h⟩ := c.report_shape e k a; rw [h]
@[simp] theorem Core.report_flipTarget (c : Core) (e k a : Nat) : (c.report e k a).flipTarget = c.flipTarget := by
  obtain ⟨_, _, _, _, h⟩ := c.report_shape e k a; rw [h]
@[simp] theorem Core.report_flipAt (c : Core) (e k a : Nat) : (c.report e k a).flipAt = c.flipAt := by
  obtain ⟨_, _, _, _, h⟩ := c.report_shape e k a; rw [h]
@[simp] theorem Core.report_flipEff (c : Core) (e k a : Nat) : (c.report e k a).flipEff = c.flipEff := by
  obtain ⟨_, _, _, _, h⟩ := c.report_shape e k a; rw [h]
@[simp] theorem Core.report_copyTo (c : Core) (e k a : Nat) : (c.report e k a).copyTo = c.copyTo := by
  obtain ⟨_, _, _, _, h⟩ := c.report_shape e k a; rw [h]
@[simp] theorem Core.report_frer (c : Core) (e k a : Nat) : (c.report e k a).frer = c.frer := by
  obtain ⟨_, _, _, _, h⟩ := c.report_shape e k a; rw [h]
@[simp] theorem Core.report_gates (c : Core) (e k a : Nat) : (c.report e k a).gates = c.gates := by
  obtain ⟨_, _, _, _, h⟩ := c.report_shape e k a; rw [h]
@[simp] theorem Core.report_meters (c : Core) (e k a : Nat) : (c.report e k a).meters = c.meters := by
  obtain ⟨_, _, _, _, h⟩ := c.report_shape e k a; rw [h]
@[simp] theorem Core.report_mgmtMeter (c : Core) (e k a : Nat) : (c.report e k a).mgmtMeter = c.mgmtMeter := by
  obtain ⟨_, _, _, _, h⟩ := c.report_shape e k a; rw [h]
@[simp] theorem Core.report_sweptAt (c : Core) (e k a : Nat) : (c.report e k a).sweptAt = c.sweptAt := by
  obtain ⟨_, _, _, _, h⟩ := c.report_shape e k a; rw [h]
@[simp] theorem Core.report_shapers (c : Core) (e k a : Nat) : (c.report e k a).shapers = c.shapers := by
  obtain ⟨_, _, _, _, h⟩ := c.report_shape e k a; rw [h]
@[simp] theorem Core.report_copies (c : Core) (e k a : Nat) : (c.report e k a).copies = c.copies := by
  obtain ⟨_, _, _, _, h⟩ := c.report_shape e k a; rw [h]
@[simp] theorem Core.report_copyNo (c : Core) (e k a : Nat) : (c.report e k a).copyNo = c.copyNo := by
  obtain ⟨_, _, _, _, h⟩ := c.report_shape e k a; rw [h]
@[simp] theorem Core.report_spent (c : Core) (e k a : Nat) : (c.report e k a).spent = c.spent := by
  obtain ⟨_, _, _, _, h⟩ := c.report_shape e k a; rw [h]
@[simp] theorem Core.report_middles (c : Core) (e k a : Nat) : (c.report e k a).middles = c.middles := by
  obtain ⟨_, _, _, _, h⟩ := c.report_shape e k a; rw [h]
@[simp] theorem Core.report_middleSlot (c : Core) (e k a : Nat) : (c.report e k a).middleSlot = c.middleSlot := by
  obtain ⟨_, _, _, _, h⟩ := c.report_shape e k a; rw [h]
@[simp] theorem Core.report_returning (c : Core) (e k a : Nat) : (c.report e k a).returning = c.returning := by
  obtain ⟨_, _, _, _, h⟩ := c.report_shape e k a; rw [h]
@[simp] theorem Core.report_arriving (c : Core) (e k a : Nat) : (c.report e k a).arriving = c.arriving := by
  obtain ⟨_, _, _, _, h⟩ := c.report_shape e k a; rw [h]
@[simp] theorem Core.report_streams (c : Core) (e k a : Nat) : (c.report e k a).streams = c.streams := by
  obtain ⟨_, _, _, _, h⟩ := c.report_shape e k a; rw [h]
@[simp] theorem Core.report_groupSlot (c : Core) (e k a : Nat) : (c.report e k a).groupSlot = c.groupSlot := by
  obtain ⟨_, _, _, _, h⟩ := c.report_shape e k a; rw [h]
@[simp] theorem Core.report_sliceRr (c : Core) (e k a : Nat) : (c.report e k a).sliceRr = c.sliceRr := by
  obtain ⟨_, _, _, _, h⟩ := c.report_shape e k a; rw [h]
@[simp] theorem Core.report_queues (c : Core) (e k a : Nat) : (c.report e k a).queues = c.queues := by
  obtain ⟨_, _, _, _, h⟩ := c.report_shape e k a; rw [h]
@[simp] theorem Core.report_xoffs (c : Core) (e k a : Nat) : (c.report e k a).xoffs = c.xoffs := by
  obtain ⟨_, _, _, _, h⟩ := c.report_shape e k a; rw [h]
@[simp] theorem Core.report_mgmtWait (c : Core) (e k a : Nat) : (c.report e k a).mgmtWait = c.mgmtWait := by
  obtain ⟨_, _, _, _, h⟩ := c.report_shape e k a; rw [h]
@[simp] theorem Core.report_crossOut (c : Core) (e k a : Nat) : (c.report e k a).crossOut = c.crossOut := by
  obtain ⟨_, _, _, _, h⟩ := c.report_shape e k a; rw [h]
@[simp] theorem Core.report_crossIn (c : Core) (e k a : Nat) : (c.report e k a).crossIn = c.crossIn := by
  obtain ⟨_, _, _, _, h⟩ := c.report_shape e k a; rw [h]
@[simp] theorem Core.report_crossRr (c : Core) (e k a : Nat) : (c.report e k a).crossRr = c.crossRr := by
  obtain ⟨_, _, _, _, h⟩ := c.report_shape e k a; rw [h]
@[simp] theorem Core.report_crossMap (c : Core) (e k a : Nat) : (c.report e k a).crossMap = c.crossMap := by
  obtain ⟨_, _, _, _, h⟩ := c.report_shape e k a; rw [h]
@[simp] theorem Core.report_crossHold (c : Core) (e k a : Nat) : (c.report e k a).crossHold = c.crossHold := by
  obtain ⟨_, _, _, _, h⟩ := c.report_shape e k a; rw [h]
@[simp] theorem Core.report_vportBind (c : Core) (e k a : Nat) : (c.report e k a).vportBind = c.vportBind := by
  obtain ⟨_, _, _, _, h⟩ := c.report_shape e k a; rw [h]
@[simp] theorem Core.report_pairs (c : Core) (e k a : Nat) : (c.report e k a).pairs = c.pairs := by
  obtain ⟨_, _, _, _, h⟩ := c.report_shape e k a; rw [h]
@[simp] theorem Core.report_pairsWritten (c : Core) (e k a : Nat) : (c.report e k a).pairsWritten = c.pairsWritten := by
  obtain ⟨_, _, _, _, h⟩ := c.report_shape e k a; rw [h]
@[simp] theorem Core.report_halted (c : Core) (e k a : Nat) : (c.report e k a).halted = c.halted := by
  obtain ⟨_, _, _, _, h⟩ := c.report_shape e k a; rw [h]
@[simp] theorem Core.report_coresFenced (c : Core) (e k a : Nat) : (c.report e k a).coresFenced = c.coresFenced := by
  obtain ⟨_, _, _, _, h⟩ := c.report_shape e k a; rw [h]
@[simp] theorem Core.report_coreStart (c : Core) (e k a : Nat) : (c.report e k a).coreStart = c.coreStart := by
  obtain ⟨_, _, _, _, h⟩ := c.report_shape e k a; rw [h]
@[simp] theorem Core.report_imsic (c : Core) (e k a : Nat) : (c.report e k a).imsic = c.imsic := by
  obtain ⟨_, _, _, _, h⟩ := c.report_shape e k a; rw [h]
@[simp] theorem Core.report_vpSlopes (c : Core) (e k a : Nat) : (c.report e k a).vpSlopes = c.vpSlopes := by
  obtain ⟨_, _, _, _, h⟩ := c.report_shape e k a; rw [h]
@[simp] theorem Core.report_stampsBack (c : Core) (e k a : Nat) : (c.report e k a).stampsBack = c.stampsBack := by
  obtain ⟨_, _, _, _, h⟩ := c.report_shape e k a; rw [h]
@[simp] theorem Core.report_deaf (c : Core) (e k a : Nat) : (c.report e k a).deaf = c.deaf := by
  obtain ⟨_, _, _, _, h⟩ := c.report_shape e k a; rw [h]
@[simp] theorem Core.report_aplicIn (c : Core) (e k a : Nat) : (c.report e k a).aplicIn = c.aplicIn := by
  obtain ⟨_, _, _, _, h⟩ := c.report_shape e k a; rw [h]
@[simp] theorem Core.report_aplicM (c : Core) (e k a : Nat) : (c.report e k a).aplicM = c.aplicM := by
  obtain ⟨_, _, _, _, h⟩ := c.report_shape e k a; rw [h]
@[simp] theorem Core.report_aplicS (c : Core) (e k a : Nat) : (c.report e k a).aplicS = c.aplicS := by
  obtain ⟨_, _, _, _, h⟩ := c.report_shape e k a; rw [h]
@[simp] theorem Core.report_mtimecmp (c : Core) (e k a : Nat) : (c.report e k a).mtimecmp = c.mtimecmp := by
  obtain ⟨_, _, _, _, h⟩ := c.report_shape e k a; rw [h]
@[simp] theorem Core.report_spmPointer (c : Core) (e k a : Nat) : (c.report e k a).spmPointer = c.spmPointer := by
  obtain ⟨_, _, _, _, h⟩ := c.report_shape e k a; rw [h]
@[simp] theorem Core.report_spmWait (c : Core) (e k a : Nat) : (c.report e k a).spmWait = c.spmWait := by
  obtain ⟨_, _, _, _, h⟩ := c.report_shape e k a; rw [h]
@[simp] theorem Core.report_spmMerging (c : Core) (e k a : Nat) : (c.report e k a).spmMerging = c.spmMerging := by
  obtain ⟨_, _, _, _, h⟩ := c.report_shape e k a; rw [h]
@[simp] theorem Core.report_spmRes (c : Core) (e k a : Nat) : (c.report e k a).spmRes = c.spmRes := by
  obtain ⟨_, _, _, _, h⟩ := c.report_shape e k a; rw [h]
@[simp] theorem Core.report_spmBad (c : Core) (e k a : Nat) : (c.report e k a).spmBad = c.spmBad := by
  obtain ⟨_, _, _, _, h⟩ := c.report_shape e k a; rw [h]
@[simp] theorem Core.report_dm (c : Core) (e k a : Nat) : (c.report e k a).dm = c.dm := by
  obtain ⟨_, _, _, _, h⟩ := c.report_shape e k a; rw [h]
@[simp] theorem Core.report_poolUsed (c : Core) (e k a : Nat) : (c.report e k a).poolUsed = c.poolUsed := by
  obtain ⟨_, _, _, _, h⟩ := c.report_shape e k a; rw [h]
@[simp] theorem Core.report_poolTags (c : Core) (e k a : Nat) : (c.report e k a).poolTags = c.poolTags := by
  obtain ⟨_, _, _, _, h⟩ := c.report_shape e k a; rw [h]
@[simp] theorem Core.report_lastLane (c : Core) (e k a : Nat) : (c.report e k a).lastLane = c.lastLane := by
  obtain ⟨_, _, _, _, h⟩ := c.report_shape e k a; rw [h]
@[simp] theorem Core.report_reclaimed (c : Core) (e k a : Nat) : (c.report e k a).reclaimed = c.reclaimed := by
  obtain ⟨_, _, _, _, h⟩ := c.report_shape e k a; rw [h]
@[simp] theorem Core.report_reclaiming (c : Core) (e k a : Nat) : (c.report e k a).reclaiming = c.reclaiming := by
  obtain ⟨_, _, _, _, h⟩ := c.report_shape e k a; rw [h]
@[simp] theorem Core.report_lastErrs (c : Core) (e k a : Nat) : (c.report e k a).lastErrs = c.lastErrs := by
  obtain ⟨_, _, _, _, h⟩ := c.report_shape e k a; rw [h]
@[simp] theorem Core.report_toDev (c : Core) (e k a : Nat) : (c.report e k a).toDev = c.toDev := by
  obtain ⟨_, _, _, _, h⟩ := c.report_shape e k a; rw [h]
@[simp] theorem Core.report_wakePend (c : Core) (e k a : Nat) : (c.report e k a).wakePend = c.wakePend := by
  obtain ⟨_, _, _, _, h⟩ := c.report_shape e k a; rw [h]
@[simp] theorem Core.report_slotBase (c : Core) (e k a : Nat) : (c.report e k a).slotBase = c.slotBase := by
  obtain ⟨_, _, _, _, h⟩ := c.report_shape e k a; rw [h]
@[simp] theorem Core.report_pllTry (c : Core) (e k a : Nat) : (c.report e k a).pllTry = c.pllTry := by
  obtain ⟨_, _, _, _, h⟩ := c.report_shape e k a; rw [h]
@[simp] theorem Core.report_pllBad (c : Core) (e k a : Nat) : (c.report e k a).pllBad = c.pllBad := by
  obtain ⟨_, _, _, _, h⟩ := c.report_shape e k a; rw [h]
@[simp] theorem Core.report_entryStep (c : Core) (e k a : Nat) : (c.report e k a).entryStep = c.entryStep := by
  obtain ⟨_, _, _, _, h⟩ := c.report_shape e k a; rw [h]
@[simp] theorem Core.report_entryAt (c : Core) (e k a : Nat) : (c.report e k a).entryAt = c.entryAt := by
  obtain ⟨_, _, _, _, h⟩ := c.report_shape e k a; rw [h]
@[simp] theorem Core.report_inReset (c : Core) (e k a : Nat) : (c.report e k a).inReset = c.inReset := by
  obtain ⟨_, _, _, _, h⟩ := c.report_shape e k a; rw [h]
@[simp] theorem Core.report_fieldWakeId (c : Core) (e k a : Nat) : (c.report e k a).fieldWakeId = c.fieldWakeId := by
  obtain ⟨_, _, _, _, h⟩ := c.report_shape e k a; rw [h]
@[simp] theorem Core.report_holds (c : Core) (e k a : Nat) : (c.report e k a).holds = c.holds := by
  obtain ⟨_, _, _, _, h⟩ := c.report_shape e k a; rw [h]
@[simp] theorem Core.report_fences (c : Core) (e k a : Nat) : (c.report e k a).fences = c.fences := by
  obtain ⟨_, _, _, _, h⟩ := c.report_shape e k a; rw [h]
@[simp] theorem Core.report_stateLive (c : Core) (e k a : Nat) : (c.report e k a).stateLive = c.stateLive := by
  obtain ⟨_, _, _, _, h⟩ := c.report_shape e k a; rw [h]
@[simp] theorem Core.report_pairCauses (c : Core) (e k a : Nat) : (c.report e k a).pairCauses = c.pairCauses := by
  obtain ⟨_, _, _, _, h⟩ := c.report_shape e k a; rw [h]
@[simp] theorem Core.report_conds (c : Core) (e k a : Nat) : (c.report e k a).conds = c.conds := by
  obtain ⟨_, _, _, _, h⟩ := c.report_shape e k a; rw [h]
@[simp] theorem Core.report_hpm (c : Core) (e k a : Nat) : (c.report e k a).hpm = c.hpm := by
  obtain ⟨_, _, _, _, h⟩ := c.report_shape e k a; rw [h]
@[simp] theorem Core.report_sampAt (c : Core) (e k a : Nat) : (c.report e k a).sampAt = c.sampAt := by
  obtain ⟨_, _, _, _, h⟩ := c.report_shape e k a; rw [h]
@[simp] theorem Core.report_sampSent (c : Core) (e k a : Nat) : (c.report e k a).sampSent = c.sampSent := by
  obtain ⟨_, _, _, _, h⟩ := c.report_shape e k a; rw [h]
@[simp] theorem Core.report_sampLost (c : Core) (e k a : Nat) : (c.report e k a).sampLost = c.sampLost := by
  obtain ⟨_, _, _, _, h⟩ := c.report_shape e k a; rw [h]
@[simp] theorem Core.report_snapLatch (c : Core) (e k a : Nat) : (c.report e k a).snapLatch = c.snapLatch := by
  obtain ⟨_, _, _, _, h⟩ := c.report_shape e k a; rw [h]
@[simp] theorem Core.report_snapImage (c : Core) (e k a : Nat) : (c.report e k a).snapImage = c.snapImage := by
  obtain ⟨_, _, _, _, h⟩ := c.report_shape e k a; rw [h]
@[simp] theorem Core.report_test (c : Core) (e k a : Nat) : (c.report e k a).test = c.test := by
  obtain ⟨_, _, _, _, h⟩ := c.report_shape e k a; rw [h]
@[simp] theorem Core.report_tapStop (c : Core) (e k a : Nat) : (c.report e k a).tapStop = c.tapStop := by
  obtain ⟨_, _, _, _, h⟩ := c.report_shape e k a; rw [h]
@[simp] theorem Core.report_absentPorts (c : Core) (e k a : Nat) : (c.report e k a).absentPorts = c.absentPorts := by
  obtain ⟨_, _, _, _, h⟩ := c.report_shape e k a; rw [h]
@[simp] theorem Core.report_busOff (c : Core) (e k a : Nat) : (c.report e k a).busOff = c.busOff := by
  obtain ⟨_, _, _, _, h⟩ := c.report_shape e k a; rw [h]

@[simp] theorem Core.add_id (c : Core) (k n : Nat) : (c.add k n).id = c.id := by
  obtain ⟨_, _, _, _, _, h⟩ := c.add_shape k n; rw [h]
@[simp] theorem Core.add_marks (c : Core) (k n : Nat) : (c.add k n).marks = c.marks := by
  obtain ⟨_, _, _, _, _, h⟩ := c.add_shape k n; rw [h]
@[simp] theorem Core.add_released (c : Core) (k n : Nat) : (c.add k n).released = c.released := by
  obtain ⟨_, _, _, _, _, h⟩ := c.add_shape k n; rw [h]
@[simp] theorem Core.add_now (c : Core) (k n : Nat) : (c.add k n).now = c.now := by
  obtain ⟨_, _, _, _, _, h⟩ := c.add_shape k n; rw [h]
@[simp] theorem Core.add_free (c : Core) (k n : Nat) : (c.add k n).free = c.free := by
  obtain ⟨_, _, _, _, _, h⟩ := c.add_shape k n; rw [h]
@[simp] theorem Core.add_doms (c : Core) (k n : Nat) : (c.add k n).doms = c.doms := by
  obtain ⟨_, _, _, _, _, h⟩ := c.add_shape k n; rw [h]
@[simp] theorem Core.add_ppsOut (c : Core) (k n : Nat) : (c.add k n).ppsOut = c.ppsOut := by
  obtain ⟨_, _, _, _, _, h⟩ := c.add_shape k n; rw [h]
@[simp] theorem Core.add_ppsEnd (c : Core) (k n : Nat) : (c.add k n).ppsEnd = c.ppsEnd := by
  obtain ⟨_, _, _, _, _, h⟩ := c.add_shape k n; rw [h]
@[simp] theorem Core.add_ppsPrev (c : Core) (k n : Nat) : (c.add k n).ppsPrev = c.ppsPrev := by
  obtain ⟨_, _, _, _, _, h⟩ := c.add_shape k n; rw [h]
@[simp] theorem Core.add_ppsBase (c : Core) (k n : Nat) : (c.add k n).ppsBase = c.ppsBase := by
  obtain ⟨_, _, _, _, _, h⟩ := c.add_shape k n; rw [h]
@[simp] theorem Core.add_rates (c : Core) (k n : Nat) : (c.add k n).rates = c.rates := by
  obtain ⟨_, _, _, _, _, h⟩ := c.add_shape k n; rw [h]
@[simp] theorem Core.add_out (c : Core) (k n : Nat) : (c.add k n).out = c.out := by
  obtain ⟨_, _, _, _, _, h⟩ := c.add_shape k n; rw [h]
@[simp] theorem Core.add_ports (c : Core) (k n : Nat) : (c.add k n).ports = c.ports := by
  obtain ⟨_, _, _, _, _, h⟩ := c.add_shape k n; rw [h]
@[simp] theorem Core.add_rx (c : Core) (k n : Nat) : (c.add k n).rx = c.rx := by
  obtain ⟨_, _, _, _, _, h⟩ := c.add_shape k n; rw [h]
@[simp] theorem Core.add_frameNo (c : Core) (k n : Nat) : (c.add k n).frameNo = c.frameNo := by
  obtain ⟨_, _, _, _, _, h⟩ := c.add_shape k n; rw [h]
@[simp] theorem Core.add_recirc (c : Core) (k n : Nat) : (c.add k n).recirc = c.recirc := by
  obtain ⟨_, _, _, _, _, h⟩ := c.add_shape k n; rw [h]
@[simp] theorem Core.add_rrPort (c : Core) (k n : Nat) : (c.add k n).rrPort = c.rrPort := by
  obtain ⟨_, _, _, _, _, h⟩ := c.add_shape k n; rw [h]
@[simp] theorem Core.add_rrVport (c : Core) (k n : Nat) : (c.add k n).rrVport = c.rrVport := by
  obtain ⟨_, _, _, _, _, h⟩ := c.add_shape k n; rw [h]
@[simp] theorem Core.add_vportWait (c : Core) (k n : Nat) : (c.add k n).vportWait = c.vportWait := by
  obtain ⟨_, _, _, _, _, h⟩ := c.add_shape k n; rw [h]
@[simp] theorem Core.add_txJobs (c : Core) (k n : Nat) : (c.add k n).txJobs = c.txJobs := by
  obtain ⟨_, _, _, _, _, h⟩ := c.add_shape k n; rw [h]
@[simp] theorem Core.add_rxJobs (c : Core) (k n : Nat) : (c.add k n).rxJobs = c.rxJobs := by
  obtain ⟨_, _, _, _, _, h⟩ := c.add_shape k n; rw [h]
@[simp] theorem Core.add_vps (c : Core) (k n : Nat) : (c.add k n).vps = c.vps := by
  obtain ⟨_, _, _, _, _, h⟩ := c.add_shape k n; rw [h]
@[simp] theorem Core.add_fns (c : Core) (k n : Nat) : (c.add k n).fns = c.fns := by
  obtain ⟨_, _, _, _, _, h⟩ := c.add_shape k n; rw [h]
@[simp] theorem Core.add_badgerQ (c : Core) (k n : Nat) : (c.add k n).badgerQ = c.badgerQ := by
  obtain ⟨_, _, _, _, _, h⟩ := c.add_shape k n; rw [h]
@[simp] theorem Core.add_badgerRun (c : Core) (k n : Nat) : (c.add k n).badgerRun = c.badgerRun := by
  obtain ⟨_, _, _, _, _, h⟩ := c.add_shape k n; rw [h]
@[simp] theorem Core.add_probes (c : Core) (k n : Nat) : (c.add k n).probes = c.probes := by
  obtain ⟨_, _, _, _, _, h⟩ := c.add_shape k n; rw [h]
@[simp] theorem Core.add_banksFenced (c : Core) (k n : Nat) : (c.add k n).banksFenced = c.banksFenced := by
  obtain ⟨_, _, _, _, _, h⟩ := c.add_shape k n; rw [h]
@[simp] theorem Core.add_learnQ (c : Core) (k n : Nat) : (c.add k n).learnQ = c.learnQ := by
  obtain ⟨_, _, _, _, _, h⟩ := c.add_shape k n; rw [h]
@[simp] theorem Core.add_sendQ (c : Core) (k n : Nat) : (c.add k n).sendQ = c.sendQ := by
  obtain ⟨_, _, _, _, _, h⟩ := c.add_shape k n; rw [h]
@[simp] theorem Core.add_lastMsg (c : Core) (k n : Nat) : (c.add k n).lastMsg = c.lastMsg := by
  obtain ⟨_, _, _, _, _, h⟩ := c.add_shape k n; rw [h]
@[simp] theorem Core.add_learnSeq (c : Core) (k n : Nat) : (c.add k n).learnSeq = c.learnSeq := by
  obtain ⟨_, _, _, _, _, h⟩ := c.add_shape k n; rw [h]
@[simp] theorem Core.add_rehashQ (c : Core) (k n : Nat) : (c.add k n).rehashQ = c.rehashQ := by
  obtain ⟨_, _, _, _, _, h⟩ := c.add_shape k n; rw [h]
@[simp] theorem Core.add_crossRecs (c : Core) (k n : Nat) : (c.add k n).crossRecs = c.crossRecs := by
  obtain ⟨_, _, _, _, _, h⟩ := c.add_shape k n; rw [h]
@[simp] theorem Core.add_learnRx (c : Core) (k n : Nat) : (c.add k n).learnRx = c.learnRx := by
  obtain ⟨_, _, _, _, _, h⟩ := c.add_shape k n; rw [h]
@[simp] theorem Core.add_flipTarget (c : Core) (k n : Nat) : (c.add k n).flipTarget = c.flipTarget := by
  obtain ⟨_, _, _, _, _, h⟩ := c.add_shape k n; rw [h]
@[simp] theorem Core.add_flipAt (c : Core) (k n : Nat) : (c.add k n).flipAt = c.flipAt := by
  obtain ⟨_, _, _, _, _, h⟩ := c.add_shape k n; rw [h]
@[simp] theorem Core.add_flipEff (c : Core) (k n : Nat) : (c.add k n).flipEff = c.flipEff := by
  obtain ⟨_, _, _, _, _, h⟩ := c.add_shape k n; rw [h]
@[simp] theorem Core.add_copyTo (c : Core) (k n : Nat) : (c.add k n).copyTo = c.copyTo := by
  obtain ⟨_, _, _, _, _, h⟩ := c.add_shape k n; rw [h]
@[simp] theorem Core.add_frer (c : Core) (k n : Nat) : (c.add k n).frer = c.frer := by
  obtain ⟨_, _, _, _, _, h⟩ := c.add_shape k n; rw [h]
@[simp] theorem Core.add_gates (c : Core) (k n : Nat) : (c.add k n).gates = c.gates := by
  obtain ⟨_, _, _, _, _, h⟩ := c.add_shape k n; rw [h]
@[simp] theorem Core.add_meters (c : Core) (k n : Nat) : (c.add k n).meters = c.meters := by
  obtain ⟨_, _, _, _, _, h⟩ := c.add_shape k n; rw [h]
@[simp] theorem Core.add_mgmtMeter (c : Core) (k n : Nat) : (c.add k n).mgmtMeter = c.mgmtMeter := by
  obtain ⟨_, _, _, _, _, h⟩ := c.add_shape k n; rw [h]
@[simp] theorem Core.add_sweptAt (c : Core) (k n : Nat) : (c.add k n).sweptAt = c.sweptAt := by
  obtain ⟨_, _, _, _, _, h⟩ := c.add_shape k n; rw [h]
@[simp] theorem Core.add_shapers (c : Core) (k n : Nat) : (c.add k n).shapers = c.shapers := by
  obtain ⟨_, _, _, _, _, h⟩ := c.add_shape k n; rw [h]
@[simp] theorem Core.add_copies (c : Core) (k n : Nat) : (c.add k n).copies = c.copies := by
  obtain ⟨_, _, _, _, _, h⟩ := c.add_shape k n; rw [h]
@[simp] theorem Core.add_copyNo (c : Core) (k n : Nat) : (c.add k n).copyNo = c.copyNo := by
  obtain ⟨_, _, _, _, _, h⟩ := c.add_shape k n; rw [h]
@[simp] theorem Core.add_spent (c : Core) (k n : Nat) : (c.add k n).spent = c.spent := by
  obtain ⟨_, _, _, _, _, h⟩ := c.add_shape k n; rw [h]
@[simp] theorem Core.add_middles (c : Core) (k n : Nat) : (c.add k n).middles = c.middles := by
  obtain ⟨_, _, _, _, _, h⟩ := c.add_shape k n; rw [h]
@[simp] theorem Core.add_middleSlot (c : Core) (k n : Nat) : (c.add k n).middleSlot = c.middleSlot := by
  obtain ⟨_, _, _, _, _, h⟩ := c.add_shape k n; rw [h]
@[simp] theorem Core.add_returning (c : Core) (k n : Nat) : (c.add k n).returning = c.returning := by
  obtain ⟨_, _, _, _, _, h⟩ := c.add_shape k n; rw [h]
@[simp] theorem Core.add_arriving (c : Core) (k n : Nat) : (c.add k n).arriving = c.arriving := by
  obtain ⟨_, _, _, _, _, h⟩ := c.add_shape k n; rw [h]
@[simp] theorem Core.add_streams (c : Core) (k n : Nat) : (c.add k n).streams = c.streams := by
  obtain ⟨_, _, _, _, _, h⟩ := c.add_shape k n; rw [h]
@[simp] theorem Core.add_groupSlot (c : Core) (k n : Nat) : (c.add k n).groupSlot = c.groupSlot := by
  obtain ⟨_, _, _, _, _, h⟩ := c.add_shape k n; rw [h]
@[simp] theorem Core.add_sliceRr (c : Core) (k n : Nat) : (c.add k n).sliceRr = c.sliceRr := by
  obtain ⟨_, _, _, _, _, h⟩ := c.add_shape k n; rw [h]
@[simp] theorem Core.add_queues (c : Core) (k n : Nat) : (c.add k n).queues = c.queues := by
  obtain ⟨_, _, _, _, _, h⟩ := c.add_shape k n; rw [h]
@[simp] theorem Core.add_xoffs (c : Core) (k n : Nat) : (c.add k n).xoffs = c.xoffs := by
  obtain ⟨_, _, _, _, _, h⟩ := c.add_shape k n; rw [h]
@[simp] theorem Core.add_mgmtWait (c : Core) (k n : Nat) : (c.add k n).mgmtWait = c.mgmtWait := by
  obtain ⟨_, _, _, _, _, h⟩ := c.add_shape k n; rw [h]
@[simp] theorem Core.add_crossOut (c : Core) (k n : Nat) : (c.add k n).crossOut = c.crossOut := by
  obtain ⟨_, _, _, _, _, h⟩ := c.add_shape k n; rw [h]
@[simp] theorem Core.add_crossIn (c : Core) (k n : Nat) : (c.add k n).crossIn = c.crossIn := by
  obtain ⟨_, _, _, _, _, h⟩ := c.add_shape k n; rw [h]
@[simp] theorem Core.add_crossRr (c : Core) (k n : Nat) : (c.add k n).crossRr = c.crossRr := by
  obtain ⟨_, _, _, _, _, h⟩ := c.add_shape k n; rw [h]
@[simp] theorem Core.add_crossMap (c : Core) (k n : Nat) : (c.add k n).crossMap = c.crossMap := by
  obtain ⟨_, _, _, _, _, h⟩ := c.add_shape k n; rw [h]
@[simp] theorem Core.add_crossHold (c : Core) (k n : Nat) : (c.add k n).crossHold = c.crossHold := by
  obtain ⟨_, _, _, _, _, h⟩ := c.add_shape k n; rw [h]
@[simp] theorem Core.add_vportBind (c : Core) (k n : Nat) : (c.add k n).vportBind = c.vportBind := by
  obtain ⟨_, _, _, _, _, h⟩ := c.add_shape k n; rw [h]
@[simp] theorem Core.add_pairs (c : Core) (k n : Nat) : (c.add k n).pairs = c.pairs := by
  obtain ⟨_, _, _, _, _, h⟩ := c.add_shape k n; rw [h]
@[simp] theorem Core.add_pairsWritten (c : Core) (k n : Nat) : (c.add k n).pairsWritten = c.pairsWritten := by
  obtain ⟨_, _, _, _, _, h⟩ := c.add_shape k n; rw [h]
@[simp] theorem Core.add_halted (c : Core) (k n : Nat) : (c.add k n).halted = c.halted := by
  obtain ⟨_, _, _, _, _, h⟩ := c.add_shape k n; rw [h]
@[simp] theorem Core.add_coresFenced (c : Core) (k n : Nat) : (c.add k n).coresFenced = c.coresFenced := by
  obtain ⟨_, _, _, _, _, h⟩ := c.add_shape k n; rw [h]
@[simp] theorem Core.add_coreStart (c : Core) (k n : Nat) : (c.add k n).coreStart = c.coreStart := by
  obtain ⟨_, _, _, _, _, h⟩ := c.add_shape k n; rw [h]
@[simp] theorem Core.add_imsic (c : Core) (k n : Nat) : (c.add k n).imsic = c.imsic := by
  obtain ⟨_, _, _, _, _, h⟩ := c.add_shape k n; rw [h]
@[simp] theorem Core.add_vpSlopes (c : Core) (k n : Nat) : (c.add k n).vpSlopes = c.vpSlopes := by
  obtain ⟨_, _, _, _, _, h⟩ := c.add_shape k n; rw [h]
@[simp] theorem Core.add_stampsBack (c : Core) (k n : Nat) : (c.add k n).stampsBack = c.stampsBack := by
  obtain ⟨_, _, _, _, _, h⟩ := c.add_shape k n; rw [h]
@[simp] theorem Core.add_deaf (c : Core) (k n : Nat) : (c.add k n).deaf = c.deaf := by
  obtain ⟨_, _, _, _, _, h⟩ := c.add_shape k n; rw [h]
@[simp] theorem Core.add_aplicIn (c : Core) (k n : Nat) : (c.add k n).aplicIn = c.aplicIn := by
  obtain ⟨_, _, _, _, _, h⟩ := c.add_shape k n; rw [h]
@[simp] theorem Core.add_aplicM (c : Core) (k n : Nat) : (c.add k n).aplicM = c.aplicM := by
  obtain ⟨_, _, _, _, _, h⟩ := c.add_shape k n; rw [h]
@[simp] theorem Core.add_aplicS (c : Core) (k n : Nat) : (c.add k n).aplicS = c.aplicS := by
  obtain ⟨_, _, _, _, _, h⟩ := c.add_shape k n; rw [h]
@[simp] theorem Core.add_mtimecmp (c : Core) (k n : Nat) : (c.add k n).mtimecmp = c.mtimecmp := by
  obtain ⟨_, _, _, _, _, h⟩ := c.add_shape k n; rw [h]
@[simp] theorem Core.add_spmPointer (c : Core) (k n : Nat) : (c.add k n).spmPointer = c.spmPointer := by
  obtain ⟨_, _, _, _, _, h⟩ := c.add_shape k n; rw [h]
@[simp] theorem Core.add_spmWait (c : Core) (k n : Nat) : (c.add k n).spmWait = c.spmWait := by
  obtain ⟨_, _, _, _, _, h⟩ := c.add_shape k n; rw [h]
@[simp] theorem Core.add_spmMerging (c : Core) (k n : Nat) : (c.add k n).spmMerging = c.spmMerging := by
  obtain ⟨_, _, _, _, _, h⟩ := c.add_shape k n; rw [h]
@[simp] theorem Core.add_spmRes (c : Core) (k n : Nat) : (c.add k n).spmRes = c.spmRes := by
  obtain ⟨_, _, _, _, _, h⟩ := c.add_shape k n; rw [h]
@[simp] theorem Core.add_spmBad (c : Core) (k n : Nat) : (c.add k n).spmBad = c.spmBad := by
  obtain ⟨_, _, _, _, _, h⟩ := c.add_shape k n; rw [h]
@[simp] theorem Core.add_dm (c : Core) (k n : Nat) : (c.add k n).dm = c.dm := by
  obtain ⟨_, _, _, _, _, h⟩ := c.add_shape k n; rw [h]
@[simp] theorem Core.add_poolUsed (c : Core) (k n : Nat) : (c.add k n).poolUsed = c.poolUsed := by
  obtain ⟨_, _, _, _, _, h⟩ := c.add_shape k n; rw [h]
@[simp] theorem Core.add_poolTags (c : Core) (k n : Nat) : (c.add k n).poolTags = c.poolTags := by
  obtain ⟨_, _, _, _, _, h⟩ := c.add_shape k n; rw [h]
@[simp] theorem Core.add_lastLane (c : Core) (k n : Nat) : (c.add k n).lastLane = c.lastLane := by
  obtain ⟨_, _, _, _, _, h⟩ := c.add_shape k n; rw [h]
@[simp] theorem Core.add_reclaimed (c : Core) (k n : Nat) : (c.add k n).reclaimed = c.reclaimed := by
  obtain ⟨_, _, _, _, _, h⟩ := c.add_shape k n; rw [h]
@[simp] theorem Core.add_reclaiming (c : Core) (k n : Nat) : (c.add k n).reclaiming = c.reclaiming := by
  obtain ⟨_, _, _, _, _, h⟩ := c.add_shape k n; rw [h]
@[simp] theorem Core.add_lastErrs (c : Core) (k n : Nat) : (c.add k n).lastErrs = c.lastErrs := by
  obtain ⟨_, _, _, _, _, h⟩ := c.add_shape k n; rw [h]
@[simp] theorem Core.add_wakePend (c : Core) (k n : Nat) : (c.add k n).wakePend = c.wakePend := by
  obtain ⟨_, _, _, _, _, h⟩ := c.add_shape k n; rw [h]
@[simp] theorem Core.add_slotBase (c : Core) (k n : Nat) : (c.add k n).slotBase = c.slotBase := by
  obtain ⟨_, _, _, _, _, h⟩ := c.add_shape k n; rw [h]
@[simp] theorem Core.add_pllTry (c : Core) (k n : Nat) : (c.add k n).pllTry = c.pllTry := by
  obtain ⟨_, _, _, _, _, h⟩ := c.add_shape k n; rw [h]
@[simp] theorem Core.add_pllBad (c : Core) (k n : Nat) : (c.add k n).pllBad = c.pllBad := by
  obtain ⟨_, _, _, _, _, h⟩ := c.add_shape k n; rw [h]
@[simp] theorem Core.add_entryStep (c : Core) (k n : Nat) : (c.add k n).entryStep = c.entryStep := by
  obtain ⟨_, _, _, _, _, h⟩ := c.add_shape k n; rw [h]
@[simp] theorem Core.add_entryAt (c : Core) (k n : Nat) : (c.add k n).entryAt = c.entryAt := by
  obtain ⟨_, _, _, _, _, h⟩ := c.add_shape k n; rw [h]
@[simp] theorem Core.add_inReset (c : Core) (k n : Nat) : (c.add k n).inReset = c.inReset := by
  obtain ⟨_, _, _, _, _, h⟩ := c.add_shape k n; rw [h]
@[simp] theorem Core.add_fieldWakeId (c : Core) (k n : Nat) : (c.add k n).fieldWakeId = c.fieldWakeId := by
  obtain ⟨_, _, _, _, _, h⟩ := c.add_shape k n; rw [h]
@[simp] theorem Core.add_holds (c : Core) (k n : Nat) : (c.add k n).holds = c.holds := by
  obtain ⟨_, _, _, _, _, h⟩ := c.add_shape k n; rw [h]
@[simp] theorem Core.add_fences (c : Core) (k n : Nat) : (c.add k n).fences = c.fences := by
  obtain ⟨_, _, _, _, _, h⟩ := c.add_shape k n; rw [h]
@[simp] theorem Core.add_stateLive (c : Core) (k n : Nat) : (c.add k n).stateLive = c.stateLive := by
  obtain ⟨_, _, _, _, _, h⟩ := c.add_shape k n; rw [h]
@[simp] theorem Core.add_pairCauses (c : Core) (k n : Nat) : (c.add k n).pairCauses = c.pairCauses := by
  obtain ⟨_, _, _, _, _, h⟩ := c.add_shape k n; rw [h]
@[simp] theorem Core.add_conds (c : Core) (k n : Nat) : (c.add k n).conds = c.conds := by
  obtain ⟨_, _, _, _, _, h⟩ := c.add_shape k n; rw [h]
@[simp] theorem Core.add_hpm (c : Core) (k n : Nat) : (c.add k n).hpm = c.hpm := by
  obtain ⟨_, _, _, _, _, h⟩ := c.add_shape k n; rw [h]
@[simp] theorem Core.add_sampAt (c : Core) (k n : Nat) : (c.add k n).sampAt = c.sampAt := by
  obtain ⟨_, _, _, _, _, h⟩ := c.add_shape k n; rw [h]
@[simp] theorem Core.add_sampSent (c : Core) (k n : Nat) : (c.add k n).sampSent = c.sampSent := by
  obtain ⟨_, _, _, _, _, h⟩ := c.add_shape k n; rw [h]
@[simp] theorem Core.add_sampLost (c : Core) (k n : Nat) : (c.add k n).sampLost = c.sampLost := by
  obtain ⟨_, _, _, _, _, h⟩ := c.add_shape k n; rw [h]
@[simp] theorem Core.add_snapLatch (c : Core) (k n : Nat) : (c.add k n).snapLatch = c.snapLatch := by
  obtain ⟨_, _, _, _, _, h⟩ := c.add_shape k n; rw [h]
@[simp] theorem Core.add_snapImage (c : Core) (k n : Nat) : (c.add k n).snapImage = c.snapImage := by
  obtain ⟨_, _, _, _, _, h⟩ := c.add_shape k n; rw [h]
@[simp] theorem Core.add_test (c : Core) (k n : Nat) : (c.add k n).test = c.test := by
  obtain ⟨_, _, _, _, _, h⟩ := c.add_shape k n; rw [h]
@[simp] theorem Core.add_tapStop (c : Core) (k n : Nat) : (c.add k n).tapStop = c.tapStop := by
  obtain ⟨_, _, _, _, _, h⟩ := c.add_shape k n; rw [h]
@[simp] theorem Core.add_absentPorts (c : Core) (k n : Nat) : (c.add k n).absentPorts = c.absentPorts := by
  obtain ⟨_, _, _, _, _, h⟩ := c.add_shape k n; rw [h]
@[simp] theorem Core.add_busOff (c : Core) (k n : Nat) : (c.add k n).busOff = c.busOff := by
  obtain ⟨_, _, _, _, _, h⟩ := c.add_shape k n; rw [h]

@[simp] theorem Core.advance_id (c : Core) (n : Nat) : (c.advance n).id = c.id := by
  obtain ⟨_, _, h⟩ := c.advance_shape n; rw [h]
@[simp] theorem Core.advance_regs (c : Core) (n : Nat) : (c.advance n).regs = c.regs := by
  obtain ⟨_, _, h⟩ := c.advance_shape n; rw [h]
@[simp] theorem Core.advance_tabs (c : Core) (n : Nat) : (c.advance n).tabs = c.tabs := by
  obtain ⟨_, _, h⟩ := c.advance_shape n; rw [h]
@[simp] theorem Core.advance_marks (c : Core) (n : Nat) : (c.advance n).marks = c.marks := by
  obtain ⟨_, _, h⟩ := c.advance_shape n; rw [h]
@[simp] theorem Core.advance_released (c : Core) (n : Nat) : (c.advance n).released = c.released := by
  obtain ⟨_, _, h⟩ := c.advance_shape n; rw [h]
@[simp] theorem Core.advance_free (c : Core) (n : Nat) : (c.advance n).free = c.free := by
  obtain ⟨_, _, h⟩ := c.advance_shape n; rw [h]
@[simp] theorem Core.advance_ppsOut (c : Core) (n : Nat) : (c.advance n).ppsOut = c.ppsOut := by
  obtain ⟨_, _, h⟩ := c.advance_shape n; rw [h]
@[simp] theorem Core.advance_ppsEnd (c : Core) (n : Nat) : (c.advance n).ppsEnd = c.ppsEnd := by
  obtain ⟨_, _, h⟩ := c.advance_shape n; rw [h]
@[simp] theorem Core.advance_ppsPrev (c : Core) (n : Nat) : (c.advance n).ppsPrev = c.ppsPrev := by
  obtain ⟨_, _, h⟩ := c.advance_shape n; rw [h]
@[simp] theorem Core.advance_ppsBase (c : Core) (n : Nat) : (c.advance n).ppsBase = c.ppsBase := by
  obtain ⟨_, _, h⟩ := c.advance_shape n; rw [h]
@[simp] theorem Core.advance_faultQ (c : Core) (n : Nat) : (c.advance n).faultQ = c.faultQ := by
  obtain ⟨_, _, h⟩ := c.advance_shape n; rw [h]
@[simp] theorem Core.advance_rates (c : Core) (n : Nat) : (c.advance n).rates = c.rates := by
  obtain ⟨_, _, h⟩ := c.advance_shape n; rw [h]
@[simp] theorem Core.advance_out (c : Core) (n : Nat) : (c.advance n).out = c.out := by
  obtain ⟨_, _, h⟩ := c.advance_shape n; rw [h]
@[simp] theorem Core.advance_ports (c : Core) (n : Nat) : (c.advance n).ports = c.ports := by
  obtain ⟨_, _, h⟩ := c.advance_shape n; rw [h]
@[simp] theorem Core.advance_rx (c : Core) (n : Nat) : (c.advance n).rx = c.rx := by
  obtain ⟨_, _, h⟩ := c.advance_shape n; rw [h]
@[simp] theorem Core.advance_frameNo (c : Core) (n : Nat) : (c.advance n).frameNo = c.frameNo := by
  obtain ⟨_, _, h⟩ := c.advance_shape n; rw [h]
@[simp] theorem Core.advance_recirc (c : Core) (n : Nat) : (c.advance n).recirc = c.recirc := by
  obtain ⟨_, _, h⟩ := c.advance_shape n; rw [h]
@[simp] theorem Core.advance_rrPort (c : Core) (n : Nat) : (c.advance n).rrPort = c.rrPort := by
  obtain ⟨_, _, h⟩ := c.advance_shape n; rw [h]
@[simp] theorem Core.advance_rrVport (c : Core) (n : Nat) : (c.advance n).rrVport = c.rrVport := by
  obtain ⟨_, _, h⟩ := c.advance_shape n; rw [h]
@[simp] theorem Core.advance_vportWait (c : Core) (n : Nat) : (c.advance n).vportWait = c.vportWait := by
  obtain ⟨_, _, h⟩ := c.advance_shape n; rw [h]
@[simp] theorem Core.advance_txJobs (c : Core) (n : Nat) : (c.advance n).txJobs = c.txJobs := by
  obtain ⟨_, _, h⟩ := c.advance_shape n; rw [h]
@[simp] theorem Core.advance_rxJobs (c : Core) (n : Nat) : (c.advance n).rxJobs = c.rxJobs := by
  obtain ⟨_, _, h⟩ := c.advance_shape n; rw [h]
@[simp] theorem Core.advance_vps (c : Core) (n : Nat) : (c.advance n).vps = c.vps := by
  obtain ⟨_, _, h⟩ := c.advance_shape n; rw [h]
@[simp] theorem Core.advance_fns (c : Core) (n : Nat) : (c.advance n).fns = c.fns := by
  obtain ⟨_, _, h⟩ := c.advance_shape n; rw [h]
@[simp] theorem Core.advance_badgerQ (c : Core) (n : Nat) : (c.advance n).badgerQ = c.badgerQ := by
  obtain ⟨_, _, h⟩ := c.advance_shape n; rw [h]
@[simp] theorem Core.advance_badgerRun (c : Core) (n : Nat) : (c.advance n).badgerRun = c.badgerRun := by
  obtain ⟨_, _, h⟩ := c.advance_shape n; rw [h]
@[simp] theorem Core.advance_probes (c : Core) (n : Nat) : (c.advance n).probes = c.probes := by
  obtain ⟨_, _, h⟩ := c.advance_shape n; rw [h]
@[simp] theorem Core.advance_banksFenced (c : Core) (n : Nat) : (c.advance n).banksFenced = c.banksFenced := by
  obtain ⟨_, _, h⟩ := c.advance_shape n; rw [h]
@[simp] theorem Core.advance_learnQ (c : Core) (n : Nat) : (c.advance n).learnQ = c.learnQ := by
  obtain ⟨_, _, h⟩ := c.advance_shape n; rw [h]
@[simp] theorem Core.advance_sendQ (c : Core) (n : Nat) : (c.advance n).sendQ = c.sendQ := by
  obtain ⟨_, _, h⟩ := c.advance_shape n; rw [h]
@[simp] theorem Core.advance_lastMsg (c : Core) (n : Nat) : (c.advance n).lastMsg = c.lastMsg := by
  obtain ⟨_, _, h⟩ := c.advance_shape n; rw [h]
@[simp] theorem Core.advance_learnSeq (c : Core) (n : Nat) : (c.advance n).learnSeq = c.learnSeq := by
  obtain ⟨_, _, h⟩ := c.advance_shape n; rw [h]
@[simp] theorem Core.advance_rehashQ (c : Core) (n : Nat) : (c.advance n).rehashQ = c.rehashQ := by
  obtain ⟨_, _, h⟩ := c.advance_shape n; rw [h]
@[simp] theorem Core.advance_crossRecs (c : Core) (n : Nat) : (c.advance n).crossRecs = c.crossRecs := by
  obtain ⟨_, _, h⟩ := c.advance_shape n; rw [h]
@[simp] theorem Core.advance_learnRx (c : Core) (n : Nat) : (c.advance n).learnRx = c.learnRx := by
  obtain ⟨_, _, h⟩ := c.advance_shape n; rw [h]
@[simp] theorem Core.advance_flipTarget (c : Core) (n : Nat) : (c.advance n).flipTarget = c.flipTarget := by
  obtain ⟨_, _, h⟩ := c.advance_shape n; rw [h]
@[simp] theorem Core.advance_flipAt (c : Core) (n : Nat) : (c.advance n).flipAt = c.flipAt := by
  obtain ⟨_, _, h⟩ := c.advance_shape n; rw [h]
@[simp] theorem Core.advance_flipEff (c : Core) (n : Nat) : (c.advance n).flipEff = c.flipEff := by
  obtain ⟨_, _, h⟩ := c.advance_shape n; rw [h]
@[simp] theorem Core.advance_copyTo (c : Core) (n : Nat) : (c.advance n).copyTo = c.copyTo := by
  obtain ⟨_, _, h⟩ := c.advance_shape n; rw [h]
@[simp] theorem Core.advance_frer (c : Core) (n : Nat) : (c.advance n).frer = c.frer := by
  obtain ⟨_, _, h⟩ := c.advance_shape n; rw [h]
@[simp] theorem Core.advance_gates (c : Core) (n : Nat) : (c.advance n).gates = c.gates := by
  obtain ⟨_, _, h⟩ := c.advance_shape n; rw [h]
@[simp] theorem Core.advance_meters (c : Core) (n : Nat) : (c.advance n).meters = c.meters := by
  obtain ⟨_, _, h⟩ := c.advance_shape n; rw [h]
@[simp] theorem Core.advance_mgmtMeter (c : Core) (n : Nat) : (c.advance n).mgmtMeter = c.mgmtMeter := by
  obtain ⟨_, _, h⟩ := c.advance_shape n; rw [h]
@[simp] theorem Core.advance_sweptAt (c : Core) (n : Nat) : (c.advance n).sweptAt = c.sweptAt := by
  obtain ⟨_, _, h⟩ := c.advance_shape n; rw [h]
@[simp] theorem Core.advance_shapers (c : Core) (n : Nat) : (c.advance n).shapers = c.shapers := by
  obtain ⟨_, _, h⟩ := c.advance_shape n; rw [h]
@[simp] theorem Core.advance_copies (c : Core) (n : Nat) : (c.advance n).copies = c.copies := by
  obtain ⟨_, _, h⟩ := c.advance_shape n; rw [h]
@[simp] theorem Core.advance_copyNo (c : Core) (n : Nat) : (c.advance n).copyNo = c.copyNo := by
  obtain ⟨_, _, h⟩ := c.advance_shape n; rw [h]
@[simp] theorem Core.advance_spent (c : Core) (n : Nat) : (c.advance n).spent = c.spent := by
  obtain ⟨_, _, h⟩ := c.advance_shape n; rw [h]
@[simp] theorem Core.advance_middles (c : Core) (n : Nat) : (c.advance n).middles = c.middles := by
  obtain ⟨_, _, h⟩ := c.advance_shape n; rw [h]
@[simp] theorem Core.advance_middleSlot (c : Core) (n : Nat) : (c.advance n).middleSlot = c.middleSlot := by
  obtain ⟨_, _, h⟩ := c.advance_shape n; rw [h]
@[simp] theorem Core.advance_returning (c : Core) (n : Nat) : (c.advance n).returning = c.returning := by
  obtain ⟨_, _, h⟩ := c.advance_shape n; rw [h]
@[simp] theorem Core.advance_arriving (c : Core) (n : Nat) : (c.advance n).arriving = c.arriving := by
  obtain ⟨_, _, h⟩ := c.advance_shape n; rw [h]
@[simp] theorem Core.advance_streams (c : Core) (n : Nat) : (c.advance n).streams = c.streams := by
  obtain ⟨_, _, h⟩ := c.advance_shape n; rw [h]
@[simp] theorem Core.advance_groupSlot (c : Core) (n : Nat) : (c.advance n).groupSlot = c.groupSlot := by
  obtain ⟨_, _, h⟩ := c.advance_shape n; rw [h]
@[simp] theorem Core.advance_sliceRr (c : Core) (n : Nat) : (c.advance n).sliceRr = c.sliceRr := by
  obtain ⟨_, _, h⟩ := c.advance_shape n; rw [h]
@[simp] theorem Core.advance_queues (c : Core) (n : Nat) : (c.advance n).queues = c.queues := by
  obtain ⟨_, _, h⟩ := c.advance_shape n; rw [h]
@[simp] theorem Core.advance_xoffs (c : Core) (n : Nat) : (c.advance n).xoffs = c.xoffs := by
  obtain ⟨_, _, h⟩ := c.advance_shape n; rw [h]
@[simp] theorem Core.advance_mgmtWait (c : Core) (n : Nat) : (c.advance n).mgmtWait = c.mgmtWait := by
  obtain ⟨_, _, h⟩ := c.advance_shape n; rw [h]
@[simp] theorem Core.advance_crossOut (c : Core) (n : Nat) : (c.advance n).crossOut = c.crossOut := by
  obtain ⟨_, _, h⟩ := c.advance_shape n; rw [h]
@[simp] theorem Core.advance_crossIn (c : Core) (n : Nat) : (c.advance n).crossIn = c.crossIn := by
  obtain ⟨_, _, h⟩ := c.advance_shape n; rw [h]
@[simp] theorem Core.advance_crossRr (c : Core) (n : Nat) : (c.advance n).crossRr = c.crossRr := by
  obtain ⟨_, _, h⟩ := c.advance_shape n; rw [h]
@[simp] theorem Core.advance_crossMap (c : Core) (n : Nat) : (c.advance n).crossMap = c.crossMap := by
  obtain ⟨_, _, h⟩ := c.advance_shape n; rw [h]
@[simp] theorem Core.advance_crossHold (c : Core) (n : Nat) : (c.advance n).crossHold = c.crossHold := by
  obtain ⟨_, _, h⟩ := c.advance_shape n; rw [h]
@[simp] theorem Core.advance_vportBind (c : Core) (n : Nat) : (c.advance n).vportBind = c.vportBind := by
  obtain ⟨_, _, h⟩ := c.advance_shape n; rw [h]
@[simp] theorem Core.advance_pairs (c : Core) (n : Nat) : (c.advance n).pairs = c.pairs := by
  obtain ⟨_, _, h⟩ := c.advance_shape n; rw [h]
@[simp] theorem Core.advance_pairsWritten (c : Core) (n : Nat) : (c.advance n).pairsWritten = c.pairsWritten := by
  obtain ⟨_, _, h⟩ := c.advance_shape n; rw [h]
@[simp] theorem Core.advance_halted (c : Core) (n : Nat) : (c.advance n).halted = c.halted := by
  obtain ⟨_, _, h⟩ := c.advance_shape n; rw [h]
@[simp] theorem Core.advance_coresFenced (c : Core) (n : Nat) : (c.advance n).coresFenced = c.coresFenced := by
  obtain ⟨_, _, h⟩ := c.advance_shape n; rw [h]
@[simp] theorem Core.advance_coreStart (c : Core) (n : Nat) : (c.advance n).coreStart = c.coreStart := by
  obtain ⟨_, _, h⟩ := c.advance_shape n; rw [h]
@[simp] theorem Core.advance_imsic (c : Core) (n : Nat) : (c.advance n).imsic = c.imsic := by
  obtain ⟨_, _, h⟩ := c.advance_shape n; rw [h]
@[simp] theorem Core.advance_vpSlopes (c : Core) (n : Nat) : (c.advance n).vpSlopes = c.vpSlopes := by
  obtain ⟨_, _, h⟩ := c.advance_shape n; rw [h]
@[simp] theorem Core.advance_stampsBack (c : Core) (n : Nat) : (c.advance n).stampsBack = c.stampsBack := by
  obtain ⟨_, _, h⟩ := c.advance_shape n; rw [h]
@[simp] theorem Core.advance_deaf (c : Core) (n : Nat) : (c.advance n).deaf = c.deaf := by
  obtain ⟨_, _, h⟩ := c.advance_shape n; rw [h]
@[simp] theorem Core.advance_aplicIn (c : Core) (n : Nat) : (c.advance n).aplicIn = c.aplicIn := by
  obtain ⟨_, _, h⟩ := c.advance_shape n; rw [h]
@[simp] theorem Core.advance_aplicM (c : Core) (n : Nat) : (c.advance n).aplicM = c.aplicM := by
  obtain ⟨_, _, h⟩ := c.advance_shape n; rw [h]
@[simp] theorem Core.advance_aplicS (c : Core) (n : Nat) : (c.advance n).aplicS = c.aplicS := by
  obtain ⟨_, _, h⟩ := c.advance_shape n; rw [h]
@[simp] theorem Core.advance_mtimecmp (c : Core) (n : Nat) : (c.advance n).mtimecmp = c.mtimecmp := by
  obtain ⟨_, _, h⟩ := c.advance_shape n; rw [h]
@[simp] theorem Core.advance_spmPointer (c : Core) (n : Nat) : (c.advance n).spmPointer = c.spmPointer := by
  obtain ⟨_, _, h⟩ := c.advance_shape n; rw [h]
@[simp] theorem Core.advance_spmWait (c : Core) (n : Nat) : (c.advance n).spmWait = c.spmWait := by
  obtain ⟨_, _, h⟩ := c.advance_shape n; rw [h]
@[simp] theorem Core.advance_spmMerging (c : Core) (n : Nat) : (c.advance n).spmMerging = c.spmMerging := by
  obtain ⟨_, _, h⟩ := c.advance_shape n; rw [h]
@[simp] theorem Core.advance_spmRes (c : Core) (n : Nat) : (c.advance n).spmRes = c.spmRes := by
  obtain ⟨_, _, h⟩ := c.advance_shape n; rw [h]
@[simp] theorem Core.advance_spmBad (c : Core) (n : Nat) : (c.advance n).spmBad = c.spmBad := by
  obtain ⟨_, _, h⟩ := c.advance_shape n; rw [h]
@[simp] theorem Core.advance_dm (c : Core) (n : Nat) : (c.advance n).dm = c.dm := by
  obtain ⟨_, _, h⟩ := c.advance_shape n; rw [h]
@[simp] theorem Core.advance_poolUsed (c : Core) (n : Nat) : (c.advance n).poolUsed = c.poolUsed := by
  obtain ⟨_, _, h⟩ := c.advance_shape n; rw [h]
@[simp] theorem Core.advance_poolTags (c : Core) (n : Nat) : (c.advance n).poolTags = c.poolTags := by
  obtain ⟨_, _, h⟩ := c.advance_shape n; rw [h]
@[simp] theorem Core.advance_lastLane (c : Core) (n : Nat) : (c.advance n).lastLane = c.lastLane := by
  obtain ⟨_, _, h⟩ := c.advance_shape n; rw [h]
@[simp] theorem Core.advance_reclaimed (c : Core) (n : Nat) : (c.advance n).reclaimed = c.reclaimed := by
  obtain ⟨_, _, h⟩ := c.advance_shape n; rw [h]
@[simp] theorem Core.advance_reclaiming (c : Core) (n : Nat) : (c.advance n).reclaiming = c.reclaiming := by
  obtain ⟨_, _, h⟩ := c.advance_shape n; rw [h]
@[simp] theorem Core.advance_lastErrs (c : Core) (n : Nat) : (c.advance n).lastErrs = c.lastErrs := by
  obtain ⟨_, _, h⟩ := c.advance_shape n; rw [h]
@[simp] theorem Core.advance_toDev (c : Core) (n : Nat) : (c.advance n).toDev = c.toDev := by
  obtain ⟨_, _, h⟩ := c.advance_shape n; rw [h]
@[simp] theorem Core.advance_wakePend (c : Core) (n : Nat) : (c.advance n).wakePend = c.wakePend := by
  obtain ⟨_, _, h⟩ := c.advance_shape n; rw [h]
@[simp] theorem Core.advance_slotBase (c : Core) (n : Nat) : (c.advance n).slotBase = c.slotBase := by
  obtain ⟨_, _, h⟩ := c.advance_shape n; rw [h]
@[simp] theorem Core.advance_pllTry (c : Core) (n : Nat) : (c.advance n).pllTry = c.pllTry := by
  obtain ⟨_, _, h⟩ := c.advance_shape n; rw [h]
@[simp] theorem Core.advance_pllBad (c : Core) (n : Nat) : (c.advance n).pllBad = c.pllBad := by
  obtain ⟨_, _, h⟩ := c.advance_shape n; rw [h]
@[simp] theorem Core.advance_entryStep (c : Core) (n : Nat) : (c.advance n).entryStep = c.entryStep := by
  obtain ⟨_, _, h⟩ := c.advance_shape n; rw [h]
@[simp] theorem Core.advance_entryAt (c : Core) (n : Nat) : (c.advance n).entryAt = c.entryAt := by
  obtain ⟨_, _, h⟩ := c.advance_shape n; rw [h]
@[simp] theorem Core.advance_inReset (c : Core) (n : Nat) : (c.advance n).inReset = c.inReset := by
  obtain ⟨_, _, h⟩ := c.advance_shape n; rw [h]
@[simp] theorem Core.advance_fieldWakeId (c : Core) (n : Nat) : (c.advance n).fieldWakeId = c.fieldWakeId := by
  obtain ⟨_, _, h⟩ := c.advance_shape n; rw [h]
@[simp] theorem Core.advance_holds (c : Core) (n : Nat) : (c.advance n).holds = c.holds := by
  obtain ⟨_, _, h⟩ := c.advance_shape n; rw [h]
@[simp] theorem Core.advance_fences (c : Core) (n : Nat) : (c.advance n).fences = c.fences := by
  obtain ⟨_, _, h⟩ := c.advance_shape n; rw [h]
@[simp] theorem Core.advance_stateLive (c : Core) (n : Nat) : (c.advance n).stateLive = c.stateLive := by
  obtain ⟨_, _, h⟩ := c.advance_shape n; rw [h]
@[simp] theorem Core.advance_qLost (c : Core) (n : Nat) : (c.advance n).qLost = c.qLost := by
  obtain ⟨_, _, h⟩ := c.advance_shape n; rw [h]
@[simp] theorem Core.advance_pairCauses (c : Core) (n : Nat) : (c.advance n).pairCauses = c.pairCauses := by
  obtain ⟨_, _, h⟩ := c.advance_shape n; rw [h]
@[simp] theorem Core.advance_conds (c : Core) (n : Nat) : (c.advance n).conds = c.conds := by
  obtain ⟨_, _, h⟩ := c.advance_shape n; rw [h]
@[simp] theorem Core.advance_hpm (c : Core) (n : Nat) : (c.advance n).hpm = c.hpm := by
  obtain ⟨_, _, h⟩ := c.advance_shape n; rw [h]
@[simp] theorem Core.advance_sampAt (c : Core) (n : Nat) : (c.advance n).sampAt = c.sampAt := by
  obtain ⟨_, _, h⟩ := c.advance_shape n; rw [h]
@[simp] theorem Core.advance_sampSent (c : Core) (n : Nat) : (c.advance n).sampSent = c.sampSent := by
  obtain ⟨_, _, h⟩ := c.advance_shape n; rw [h]
@[simp] theorem Core.advance_sampLost (c : Core) (n : Nat) : (c.advance n).sampLost = c.sampLost := by
  obtain ⟨_, _, h⟩ := c.advance_shape n; rw [h]
@[simp] theorem Core.advance_snapLatch (c : Core) (n : Nat) : (c.advance n).snapLatch = c.snapLatch := by
  obtain ⟨_, _, h⟩ := c.advance_shape n; rw [h]
@[simp] theorem Core.advance_snapImage (c : Core) (n : Nat) : (c.advance n).snapImage = c.snapImage := by
  obtain ⟨_, _, h⟩ := c.advance_shape n; rw [h]
@[simp] theorem Core.advance_test (c : Core) (n : Nat) : (c.advance n).test = c.test := by
  obtain ⟨_, _, h⟩ := c.advance_shape n; rw [h]
@[simp] theorem Core.advance_tapStop (c : Core) (n : Nat) : (c.advance n).tapStop = c.tapStop := by
  obtain ⟨_, _, h⟩ := c.advance_shape n; rw [h]
@[simp] theorem Core.advance_absentPorts (c : Core) (n : Nat) : (c.advance n).absentPorts = c.absentPorts := by
  obtain ⟨_, _, h⟩ := c.advance_shape n; rw [h]
@[simp] theorem Core.advance_busOff (c : Core) (n : Nat) : (c.advance n).busOff = c.busOff := by
  obtain ⟨_, _, h⟩ := c.advance_shape n; rw [h]

/-! ### The device-level part -/

@[simp] theorem Dev.wr_tabs (d : Dev) (k v : Nat) : (d.wr k v).tabs = d.tabs := rfl
@[simp] theorem Dev.wr_porst (d : Dev) (k v : Nat) : (d.wr k v).porst = d.porst := rfl
@[simp] theorem Dev.wr_testMode (d : Dev) (k v : Nat) : (d.wr k v).testMode = d.testMode := rfl
@[simp] theorem Dev.wr_modeWritten (d : Dev) (k v : Nat) : (d.wr k v).modeWritten = d.modeWritten := rfl
@[simp] theorem Dev.wr_owlDown (d : Dev) (k v : Nat) : (d.wr k v).owlDown = d.owlDown := rfl
@[simp] theorem Dev.wr_aon (d : Dev) (k v : Nat) : (d.wr k v).aon = d.aon := rfl
@[simp] theorem Dev.wr_free (d : Dev) (k v : Nat) : (d.wr k v).free = d.free := rfl
@[simp] theorem Dev.wr_faultQ (d : Dev) (k v : Nat) : (d.wr k v).faultQ = d.faultQ := rfl
@[simp] theorem Dev.wr_stateLive (d : Dev) (k v : Nat) : (d.wr k v).stateLive = d.stateLive := rfl
@[simp] theorem Dev.wr_holds (d : Dev) (k v : Nat) : (d.wr k v).holds = d.holds := rfl
@[simp] theorem Dev.wr_rates (d : Dev) (k v : Nat) : (d.wr k v).rates = d.rates := rfl
@[simp] theorem Dev.wr_logSeq (d : Dev) (k v : Nat) : (d.wr k v).logSeq = d.logSeq := rfl
@[simp] theorem Dev.wr_fuses (d : Dev) (k v : Nat) : (d.wr k v).fuses = d.fuses := rfl
@[simp] theorem Dev.wr_flash (d : Dev) (k v : Nat) : (d.wr k v).flash = d.flash := rfl
@[simp] theorem Dev.wr_bootPhase (d : Dev) (k v : Nat) : (d.wr k v).bootPhase = d.bootPhase := rfl
@[simp] theorem Dev.wr_bootTried (d : Dev) (k v : Nat) : (d.wr k v).bootTried = d.bootTried := rfl
@[simp] theorem Dev.wr_bootSource (d : Dev) (k v : Nat) : (d.wr k v).bootSource = d.bootSource := rfl
@[simp] theorem Dev.wr_bootBase (d : Dev) (k v : Nat) : (d.wr k v).bootBase = d.bootBase := rfl
@[simp] theorem Dev.wr_manifest (d : Dev) (k v : Nat) : (d.wr k v).manifest = d.manifest := rfl
@[simp] theorem Dev.wr_programming (d : Dev) (k v : Nat) : (d.wr k v).programming = d.programming := rfl
@[simp] theorem Dev.wr_stagedLen (d : Dev) (k v : Nat) : (d.wr k v).stagedLen = d.stagedLen := rfl
@[simp] theorem Dev.wr_fuseFail (d : Dev) (k v : Nat) : (d.wr k v).fuseFail = d.fuseFail := rfl
@[simp] theorem Dev.wr_bootDead (d : Dev) (k v : Nat) : (d.wr k v).bootDead = d.bootDead := rfl
@[simp] theorem Dev.wr_logActive (d : Dev) (k v : Nat) : (d.wr k v).logActive = d.logActive := rfl
@[simp] theorem Dev.wr_pend (d : Dev) (k v : Nat) : (d.wr k v).pend = d.pend := rfl
@[simp] theorem Dev.wr_snaps (d : Dev) (k v : Nat) : (d.wr k v).snaps = d.snaps := rfl
@[simp] theorem Dev.wr_xfers (d : Dev) (k v : Nat) : (d.wr k v).xfers = d.xfers := rfl
@[simp] theorem Dev.wr_stage (d : Dev) (k v : Nat) : (d.wr k v).stage = d.stage := rfl
@[simp] theorem Dev.wr_bundleAt (d : Dev) (k v : Nat) : (d.wr k v).bundleAt = d.bundleAt := rfl
@[simp] theorem Dev.wr_bundleReply (d : Dev) (k v : Nat) : (d.wr k v).bundleReply = d.bundleReply := rfl
@[simp] theorem Dev.wr_bundleSender (d : Dev) (k v : Nat) : (d.wr k v).bundleSender = d.bundleSender := rfl
@[simp] theorem Dev.wr_attestAt (d : Dev) (k v : Nat) : (d.wr k v).attestAt = d.attestAt := rfl
@[simp] theorem Dev.wr_attestDone (d : Dev) (k v : Nat) : (d.wr k v).attestDone = d.attestDone := rfl
@[simp] theorem Dev.wr_attestReport (d : Dev) (k v : Nat) : (d.wr k v).attestReport = d.attestReport := rfl
@[simp] theorem Dev.wr_attestSeen (d : Dev) (k v : Nat) : (d.wr k v).attestSeen = d.attestSeen := rfl
@[simp] theorem Dev.wr_attestFrom (d : Dev) (k v : Nat) : (d.wr k v).attestFrom = d.attestFrom := rfl
@[simp] theorem Dev.wr_pubkey (d : Dev) (k v : Nat) : (d.wr k v).pubkey = d.pubkey := rfl
@[simp] theorem Dev.wr_cert (d : Dev) (k v : Nat) : (d.wr k v).cert = d.cert := rfl
@[simp] theorem Dev.wr_wakeLevel (d : Dev) (k v : Nat) : (d.wr k v).wakeLevel = d.wakeLevel := rfl
@[simp] theorem Dev.wr_perst (d : Dev) (k v : Nat) : (d.wr k v).perst = d.perst := rfl
@[simp] theorem Dev.wr_linkUp (d : Dev) (k v : Nat) : (d.wr k v).linkUp = d.linkUp := rfl
@[simp] theorem Dev.wr_vddOff (d : Dev) (k v : Nat) : (d.wr k v).vddOff = d.vddOff := rfl
@[simp] theorem Dev.wr_avsRaise (d : Dev) (k v : Nat) : (d.wr k v).avsRaise = d.avsRaise := rfl
@[simp] theorem Dev.wr_avsHigh (d : Dev) (k v : Nat) : (d.wr k v).avsHigh = d.avsHigh := rfl
@[simp] theorem Dev.wr_avsLowered (d : Dev) (k v : Nat) : (d.wr k v).avsLowered = d.avsLowered := rfl
@[simp] theorem Dev.wr_aonSub (d : Dev) (k v : Nat) : (d.wr k v).aonSub = d.aonSub := rfl
@[simp] theorem Dev.wr_avsGain (d : Dev) (k v : Nat) : (d.wr k v).avsGain = d.avsGain := rfl
@[simp] theorem Dev.wr_aer (d : Dev) (k v : Nat) : (d.wr k v).aer = d.aer := rfl
@[simp] theorem Dev.wr_lifeSaid2 (d : Dev) (k v : Nat) : (d.wr k v).lifeSaid2 = d.lifeSaid2 := rfl
@[simp] theorem Dev.wr_lifeSaid3 (d : Dev) (k v : Nat) : (d.wr k v).lifeSaid3 = d.lifeSaid3 := rfl
@[simp] theorem Dev.wr_tapIr (d : Dev) (k v : Nat) : (d.wr k v).tapIr = d.tapIr := rfl
@[simp] theorem Dev.wr_tapBsr (d : Dev) (k v : Nat) : (d.wr k v).tapBsr = d.tapBsr := rfl
@[simp] theorem Dev.wr_tapStopped (d : Dev) (k v : Nat) : (d.wr k v).tapStopped = d.tapStopped := rfl
@[simp] theorem Dev.wr_mbistRun (d : Dev) (k v : Nat) : (d.wr k v).mbistRun = d.mbistRun := rfl
@[simp] theorem Dev.wr_mbistRes (d : Dev) (k v : Nat) : (d.wr k v).mbistRes = d.mbistRes := rfl

@[simp] theorem Dev.setTab_regs (d : Dev) (w e v : Nat) : (d.setTab w e v).regs = d.regs := rfl
@[simp] theorem Dev.setTab_porst (d : Dev) (w e v : Nat) : (d.setTab w e v).porst = d.porst := rfl
@[simp] theorem Dev.setTab_testMode (d : Dev) (w e v : Nat) : (d.setTab w e v).testMode = d.testMode := rfl
@[simp] theorem Dev.setTab_modeWritten (d : Dev) (w e v : Nat) : (d.setTab w e v).modeWritten = d.modeWritten := rfl
@[simp] theorem Dev.setTab_owlDown (d : Dev) (w e v : Nat) : (d.setTab w e v).owlDown = d.owlDown := rfl
@[simp] theorem Dev.setTab_aon (d : Dev) (w e v : Nat) : (d.setTab w e v).aon = d.aon := rfl
@[simp] theorem Dev.setTab_free (d : Dev) (w e v : Nat) : (d.setTab w e v).free = d.free := rfl
@[simp] theorem Dev.setTab_faultQ (d : Dev) (w e v : Nat) : (d.setTab w e v).faultQ = d.faultQ := rfl
@[simp] theorem Dev.setTab_stateLive (d : Dev) (w e v : Nat) : (d.setTab w e v).stateLive = d.stateLive := rfl
@[simp] theorem Dev.setTab_holds (d : Dev) (w e v : Nat) : (d.setTab w e v).holds = d.holds := rfl
@[simp] theorem Dev.setTab_rates (d : Dev) (w e v : Nat) : (d.setTab w e v).rates = d.rates := rfl
@[simp] theorem Dev.setTab_logSeq (d : Dev) (w e v : Nat) : (d.setTab w e v).logSeq = d.logSeq := rfl
@[simp] theorem Dev.setTab_fuses (d : Dev) (w e v : Nat) : (d.setTab w e v).fuses = d.fuses := rfl
@[simp] theorem Dev.setTab_flash (d : Dev) (w e v : Nat) : (d.setTab w e v).flash = d.flash := rfl
@[simp] theorem Dev.setTab_bootPhase (d : Dev) (w e v : Nat) : (d.setTab w e v).bootPhase = d.bootPhase := rfl
@[simp] theorem Dev.setTab_bootTried (d : Dev) (w e v : Nat) : (d.setTab w e v).bootTried = d.bootTried := rfl
@[simp] theorem Dev.setTab_bootSource (d : Dev) (w e v : Nat) : (d.setTab w e v).bootSource = d.bootSource := rfl
@[simp] theorem Dev.setTab_bootBase (d : Dev) (w e v : Nat) : (d.setTab w e v).bootBase = d.bootBase := rfl
@[simp] theorem Dev.setTab_manifest (d : Dev) (w e v : Nat) : (d.setTab w e v).manifest = d.manifest := rfl
@[simp] theorem Dev.setTab_programming (d : Dev) (w e v : Nat) : (d.setTab w e v).programming = d.programming := rfl
@[simp] theorem Dev.setTab_stagedLen (d : Dev) (w e v : Nat) : (d.setTab w e v).stagedLen = d.stagedLen := rfl
@[simp] theorem Dev.setTab_fuseFail (d : Dev) (w e v : Nat) : (d.setTab w e v).fuseFail = d.fuseFail := rfl
@[simp] theorem Dev.setTab_bootDead (d : Dev) (w e v : Nat) : (d.setTab w e v).bootDead = d.bootDead := rfl
@[simp] theorem Dev.setTab_logActive (d : Dev) (w e v : Nat) : (d.setTab w e v).logActive = d.logActive := rfl
@[simp] theorem Dev.setTab_pend (d : Dev) (w e v : Nat) : (d.setTab w e v).pend = d.pend := rfl
@[simp] theorem Dev.setTab_snaps (d : Dev) (w e v : Nat) : (d.setTab w e v).snaps = d.snaps := rfl
@[simp] theorem Dev.setTab_xfers (d : Dev) (w e v : Nat) : (d.setTab w e v).xfers = d.xfers := rfl
@[simp] theorem Dev.setTab_stage (d : Dev) (w e v : Nat) : (d.setTab w e v).stage = d.stage := rfl
@[simp] theorem Dev.setTab_bundleAt (d : Dev) (w e v : Nat) : (d.setTab w e v).bundleAt = d.bundleAt := rfl
@[simp] theorem Dev.setTab_bundleReply (d : Dev) (w e v : Nat) : (d.setTab w e v).bundleReply = d.bundleReply := rfl
@[simp] theorem Dev.setTab_bundleSender (d : Dev) (w e v : Nat) : (d.setTab w e v).bundleSender = d.bundleSender := rfl
@[simp] theorem Dev.setTab_attestAt (d : Dev) (w e v : Nat) : (d.setTab w e v).attestAt = d.attestAt := rfl
@[simp] theorem Dev.setTab_attestDone (d : Dev) (w e v : Nat) : (d.setTab w e v).attestDone = d.attestDone := rfl
@[simp] theorem Dev.setTab_attestReport (d : Dev) (w e v : Nat) : (d.setTab w e v).attestReport = d.attestReport := rfl
@[simp] theorem Dev.setTab_attestSeen (d : Dev) (w e v : Nat) : (d.setTab w e v).attestSeen = d.attestSeen := rfl
@[simp] theorem Dev.setTab_attestFrom (d : Dev) (w e v : Nat) : (d.setTab w e v).attestFrom = d.attestFrom := rfl
@[simp] theorem Dev.setTab_pubkey (d : Dev) (w e v : Nat) : (d.setTab w e v).pubkey = d.pubkey := rfl
@[simp] theorem Dev.setTab_cert (d : Dev) (w e v : Nat) : (d.setTab w e v).cert = d.cert := rfl
@[simp] theorem Dev.setTab_wakeLevel (d : Dev) (w e v : Nat) : (d.setTab w e v).wakeLevel = d.wakeLevel := rfl
@[simp] theorem Dev.setTab_perst (d : Dev) (w e v : Nat) : (d.setTab w e v).perst = d.perst := rfl
@[simp] theorem Dev.setTab_linkUp (d : Dev) (w e v : Nat) : (d.setTab w e v).linkUp = d.linkUp := rfl
@[simp] theorem Dev.setTab_vddOff (d : Dev) (w e v : Nat) : (d.setTab w e v).vddOff = d.vddOff := rfl
@[simp] theorem Dev.setTab_avsRaise (d : Dev) (w e v : Nat) : (d.setTab w e v).avsRaise = d.avsRaise := rfl
@[simp] theorem Dev.setTab_avsHigh (d : Dev) (w e v : Nat) : (d.setTab w e v).avsHigh = d.avsHigh := rfl
@[simp] theorem Dev.setTab_avsLowered (d : Dev) (w e v : Nat) : (d.setTab w e v).avsLowered = d.avsLowered := rfl
@[simp] theorem Dev.setTab_aonSub (d : Dev) (w e v : Nat) : (d.setTab w e v).aonSub = d.aonSub := rfl
@[simp] theorem Dev.setTab_avsGain (d : Dev) (w e v : Nat) : (d.setTab w e v).avsGain = d.avsGain := rfl
@[simp] theorem Dev.setTab_aer (d : Dev) (w e v : Nat) : (d.setTab w e v).aer = d.aer := rfl
@[simp] theorem Dev.setTab_lifeSaid2 (d : Dev) (w e v : Nat) : (d.setTab w e v).lifeSaid2 = d.lifeSaid2 := rfl
@[simp] theorem Dev.setTab_lifeSaid3 (d : Dev) (w e v : Nat) : (d.setTab w e v).lifeSaid3 = d.lifeSaid3 := rfl
@[simp] theorem Dev.setTab_tapIr (d : Dev) (w e v : Nat) : (d.setTab w e v).tapIr = d.tapIr := rfl
@[simp] theorem Dev.setTab_tapBsr (d : Dev) (w e v : Nat) : (d.setTab w e v).tapBsr = d.tapBsr := rfl
@[simp] theorem Dev.setTab_tapStopped (d : Dev) (w e v : Nat) : (d.setTab w e v).tapStopped = d.tapStopped := rfl
@[simp] theorem Dev.setTab_mbistRun (d : Dev) (w e v : Nat) : (d.setTab w e v).mbistRun = d.mbistRun := rfl
@[simp] theorem Dev.setTab_mbistRes (d : Dev) (w e v : Nat) : (d.setTab w e v).mbistRes = d.mbistRes := rfl

theorem Dev.report_shape (d : Dev) (e k a : Nat) : ∃ q t, d.report e k a = { d with faultQ := q, tabs := t } := by
  unfold Dev.report; split
  · exact ⟨_, d.tabs, rfl⟩
  · exact ⟨d.faultQ, _, rfl⟩

theorem Dev.add_shape (d : Dev) (k n : Nat) : ∃ q t r, d.add k n = { d with faultQ := q, tabs := t, regs := r } := by
  unfold Dev.add; dsimp only; split
  · exact ⟨d.faultQ, d.tabs, _, rfl⟩
  · split
    · exact ⟨d.faultQ, d.tabs, d.regs, rfl⟩
    · obtain ⟨q, t, h⟩ := Dev.report_shape (d.wr k (devCounterMax k)) 20 3 (k / 256 * 2 ^ 16 + k % 256 * 2 ^ 8)
      exact ⟨q, t, _, h⟩

theorem Dev.settleStates_shape (d : Dev) : ∃ l, d.settleStates = { d with stateLive := l } := by
  unfold Dev.settleStates; split
  · exact ⟨d.stateLive, rfl⟩
  · exact ⟨_, rfl⟩

@[simp] theorem Dev.report_regs (d : Dev) (e k a : Nat) : (d.report e k a).regs = d.regs := by
  obtain ⟨_, _, h⟩ := d.report_shape e k a; rw [h]
@[simp] theorem Dev.report_porst (d : Dev) (e k a : Nat) : (d.report e k a).porst = d.porst := by
  obtain ⟨_, _, h⟩ := d.report_shape e k a; rw [h]
@[simp] theorem Dev.report_testMode (d : Dev) (e k a : Nat) : (d.report e k a).testMode = d.testMode := by
  obtain ⟨_, _, h⟩ := d.report_shape e k a; rw [h]
@[simp] theorem Dev.report_modeWritten (d : Dev) (e k a : Nat) : (d.report e k a).modeWritten = d.modeWritten := by
  obtain ⟨_, _, h⟩ := d.report_shape e k a; rw [h]
@[simp] theorem Dev.report_owlDown (d : Dev) (e k a : Nat) : (d.report e k a).owlDown = d.owlDown := by
  obtain ⟨_, _, h⟩ := d.report_shape e k a; rw [h]
@[simp] theorem Dev.report_aon (d : Dev) (e k a : Nat) : (d.report e k a).aon = d.aon := by
  obtain ⟨_, _, h⟩ := d.report_shape e k a; rw [h]
@[simp] theorem Dev.report_free (d : Dev) (e k a : Nat) : (d.report e k a).free = d.free := by
  obtain ⟨_, _, h⟩ := d.report_shape e k a; rw [h]
@[simp] theorem Dev.report_stateLive (d : Dev) (e k a : Nat) : (d.report e k a).stateLive = d.stateLive := by
  obtain ⟨_, _, h⟩ := d.report_shape e k a; rw [h]
@[simp] theorem Dev.report_holds (d : Dev) (e k a : Nat) : (d.report e k a).holds = d.holds := by
  obtain ⟨_, _, h⟩ := d.report_shape e k a; rw [h]
@[simp] theorem Dev.report_rates (d : Dev) (e k a : Nat) : (d.report e k a).rates = d.rates := by
  obtain ⟨_, _, h⟩ := d.report_shape e k a; rw [h]
@[simp] theorem Dev.report_logSeq (d : Dev) (e k a : Nat) : (d.report e k a).logSeq = d.logSeq := by
  obtain ⟨_, _, h⟩ := d.report_shape e k a; rw [h]
@[simp] theorem Dev.report_fuses (d : Dev) (e k a : Nat) : (d.report e k a).fuses = d.fuses := by
  obtain ⟨_, _, h⟩ := d.report_shape e k a; rw [h]
@[simp] theorem Dev.report_flash (d : Dev) (e k a : Nat) : (d.report e k a).flash = d.flash := by
  obtain ⟨_, _, h⟩ := d.report_shape e k a; rw [h]
@[simp] theorem Dev.report_bootPhase (d : Dev) (e k a : Nat) : (d.report e k a).bootPhase = d.bootPhase := by
  obtain ⟨_, _, h⟩ := d.report_shape e k a; rw [h]
@[simp] theorem Dev.report_bootTried (d : Dev) (e k a : Nat) : (d.report e k a).bootTried = d.bootTried := by
  obtain ⟨_, _, h⟩ := d.report_shape e k a; rw [h]
@[simp] theorem Dev.report_bootSource (d : Dev) (e k a : Nat) : (d.report e k a).bootSource = d.bootSource := by
  obtain ⟨_, _, h⟩ := d.report_shape e k a; rw [h]
@[simp] theorem Dev.report_bootBase (d : Dev) (e k a : Nat) : (d.report e k a).bootBase = d.bootBase := by
  obtain ⟨_, _, h⟩ := d.report_shape e k a; rw [h]
@[simp] theorem Dev.report_manifest (d : Dev) (e k a : Nat) : (d.report e k a).manifest = d.manifest := by
  obtain ⟨_, _, h⟩ := d.report_shape e k a; rw [h]
@[simp] theorem Dev.report_programming (d : Dev) (e k a : Nat) : (d.report e k a).programming = d.programming := by
  obtain ⟨_, _, h⟩ := d.report_shape e k a; rw [h]
@[simp] theorem Dev.report_stagedLen (d : Dev) (e k a : Nat) : (d.report e k a).stagedLen = d.stagedLen := by
  obtain ⟨_, _, h⟩ := d.report_shape e k a; rw [h]
@[simp] theorem Dev.report_fuseFail (d : Dev) (e k a : Nat) : (d.report e k a).fuseFail = d.fuseFail := by
  obtain ⟨_, _, h⟩ := d.report_shape e k a; rw [h]
@[simp] theorem Dev.report_bootDead (d : Dev) (e k a : Nat) : (d.report e k a).bootDead = d.bootDead := by
  obtain ⟨_, _, h⟩ := d.report_shape e k a; rw [h]
@[simp] theorem Dev.report_logActive (d : Dev) (e k a : Nat) : (d.report e k a).logActive = d.logActive := by
  obtain ⟨_, _, h⟩ := d.report_shape e k a; rw [h]
@[simp] theorem Dev.report_pend (d : Dev) (e k a : Nat) : (d.report e k a).pend = d.pend := by
  obtain ⟨_, _, h⟩ := d.report_shape e k a; rw [h]
@[simp] theorem Dev.report_snaps (d : Dev) (e k a : Nat) : (d.report e k a).snaps = d.snaps := by
  obtain ⟨_, _, h⟩ := d.report_shape e k a; rw [h]
@[simp] theorem Dev.report_xfers (d : Dev) (e k a : Nat) : (d.report e k a).xfers = d.xfers := by
  obtain ⟨_, _, h⟩ := d.report_shape e k a; rw [h]
@[simp] theorem Dev.report_stage (d : Dev) (e k a : Nat) : (d.report e k a).stage = d.stage := by
  obtain ⟨_, _, h⟩ := d.report_shape e k a; rw [h]
@[simp] theorem Dev.report_bundleAt (d : Dev) (e k a : Nat) : (d.report e k a).bundleAt = d.bundleAt := by
  obtain ⟨_, _, h⟩ := d.report_shape e k a; rw [h]
@[simp] theorem Dev.report_bundleReply (d : Dev) (e k a : Nat) : (d.report e k a).bundleReply = d.bundleReply := by
  obtain ⟨_, _, h⟩ := d.report_shape e k a; rw [h]
@[simp] theorem Dev.report_bundleSender (d : Dev) (e k a : Nat) : (d.report e k a).bundleSender = d.bundleSender := by
  obtain ⟨_, _, h⟩ := d.report_shape e k a; rw [h]
@[simp] theorem Dev.report_attestAt (d : Dev) (e k a : Nat) : (d.report e k a).attestAt = d.attestAt := by
  obtain ⟨_, _, h⟩ := d.report_shape e k a; rw [h]
@[simp] theorem Dev.report_attestDone (d : Dev) (e k a : Nat) : (d.report e k a).attestDone = d.attestDone := by
  obtain ⟨_, _, h⟩ := d.report_shape e k a; rw [h]
@[simp] theorem Dev.report_attestReport (d : Dev) (e k a : Nat) : (d.report e k a).attestReport = d.attestReport := by
  obtain ⟨_, _, h⟩ := d.report_shape e k a; rw [h]
@[simp] theorem Dev.report_attestSeen (d : Dev) (e k a : Nat) : (d.report e k a).attestSeen = d.attestSeen := by
  obtain ⟨_, _, h⟩ := d.report_shape e k a; rw [h]
@[simp] theorem Dev.report_attestFrom (d : Dev) (e k a : Nat) : (d.report e k a).attestFrom = d.attestFrom := by
  obtain ⟨_, _, h⟩ := d.report_shape e k a; rw [h]
@[simp] theorem Dev.report_pubkey (d : Dev) (e k a : Nat) : (d.report e k a).pubkey = d.pubkey := by
  obtain ⟨_, _, h⟩ := d.report_shape e k a; rw [h]
@[simp] theorem Dev.report_cert (d : Dev) (e k a : Nat) : (d.report e k a).cert = d.cert := by
  obtain ⟨_, _, h⟩ := d.report_shape e k a; rw [h]
@[simp] theorem Dev.report_wakeLevel (d : Dev) (e k a : Nat) : (d.report e k a).wakeLevel = d.wakeLevel := by
  obtain ⟨_, _, h⟩ := d.report_shape e k a; rw [h]
@[simp] theorem Dev.report_perst (d : Dev) (e k a : Nat) : (d.report e k a).perst = d.perst := by
  obtain ⟨_, _, h⟩ := d.report_shape e k a; rw [h]
@[simp] theorem Dev.report_linkUp (d : Dev) (e k a : Nat) : (d.report e k a).linkUp = d.linkUp := by
  obtain ⟨_, _, h⟩ := d.report_shape e k a; rw [h]
@[simp] theorem Dev.report_vddOff (d : Dev) (e k a : Nat) : (d.report e k a).vddOff = d.vddOff := by
  obtain ⟨_, _, h⟩ := d.report_shape e k a; rw [h]
@[simp] theorem Dev.report_avsRaise (d : Dev) (e k a : Nat) : (d.report e k a).avsRaise = d.avsRaise := by
  obtain ⟨_, _, h⟩ := d.report_shape e k a; rw [h]
@[simp] theorem Dev.report_avsHigh (d : Dev) (e k a : Nat) : (d.report e k a).avsHigh = d.avsHigh := by
  obtain ⟨_, _, h⟩ := d.report_shape e k a; rw [h]
@[simp] theorem Dev.report_avsLowered (d : Dev) (e k a : Nat) : (d.report e k a).avsLowered = d.avsLowered := by
  obtain ⟨_, _, h⟩ := d.report_shape e k a; rw [h]
@[simp] theorem Dev.report_aonSub (d : Dev) (e k a : Nat) : (d.report e k a).aonSub = d.aonSub := by
  obtain ⟨_, _, h⟩ := d.report_shape e k a; rw [h]
@[simp] theorem Dev.report_avsGain (d : Dev) (e k a : Nat) : (d.report e k a).avsGain = d.avsGain := by
  obtain ⟨_, _, h⟩ := d.report_shape e k a; rw [h]
@[simp] theorem Dev.report_aer (d : Dev) (e k a : Nat) : (d.report e k a).aer = d.aer := by
  obtain ⟨_, _, h⟩ := d.report_shape e k a; rw [h]
@[simp] theorem Dev.report_lifeSaid2 (d : Dev) (e k a : Nat) : (d.report e k a).lifeSaid2 = d.lifeSaid2 := by
  obtain ⟨_, _, h⟩ := d.report_shape e k a; rw [h]
@[simp] theorem Dev.report_lifeSaid3 (d : Dev) (e k a : Nat) : (d.report e k a).lifeSaid3 = d.lifeSaid3 := by
  obtain ⟨_, _, h⟩ := d.report_shape e k a; rw [h]
@[simp] theorem Dev.report_tapIr (d : Dev) (e k a : Nat) : (d.report e k a).tapIr = d.tapIr := by
  obtain ⟨_, _, h⟩ := d.report_shape e k a; rw [h]
@[simp] theorem Dev.report_tapBsr (d : Dev) (e k a : Nat) : (d.report e k a).tapBsr = d.tapBsr := by
  obtain ⟨_, _, h⟩ := d.report_shape e k a; rw [h]
@[simp] theorem Dev.report_tapStopped (d : Dev) (e k a : Nat) : (d.report e k a).tapStopped = d.tapStopped := by
  obtain ⟨_, _, h⟩ := d.report_shape e k a; rw [h]
@[simp] theorem Dev.report_mbistRun (d : Dev) (e k a : Nat) : (d.report e k a).mbistRun = d.mbistRun := by
  obtain ⟨_, _, h⟩ := d.report_shape e k a; rw [h]
@[simp] theorem Dev.report_mbistRes (d : Dev) (e k a : Nat) : (d.report e k a).mbistRes = d.mbistRes := by
  obtain ⟨_, _, h⟩ := d.report_shape e k a; rw [h]

@[simp] theorem Dev.add_porst (d : Dev) (k n : Nat) : (d.add k n).porst = d.porst := by
  obtain ⟨_, _, _, h⟩ := d.add_shape k n; rw [h]
@[simp] theorem Dev.add_testMode (d : Dev) (k n : Nat) : (d.add k n).testMode = d.testMode := by
  obtain ⟨_, _, _, h⟩ := d.add_shape k n; rw [h]
@[simp] theorem Dev.add_modeWritten (d : Dev) (k n : Nat) : (d.add k n).modeWritten = d.modeWritten := by
  obtain ⟨_, _, _, h⟩ := d.add_shape k n; rw [h]
@[simp] theorem Dev.add_owlDown (d : Dev) (k n : Nat) : (d.add k n).owlDown = d.owlDown := by
  obtain ⟨_, _, _, h⟩ := d.add_shape k n; rw [h]
@[simp] theorem Dev.add_aon (d : Dev) (k n : Nat) : (d.add k n).aon = d.aon := by
  obtain ⟨_, _, _, h⟩ := d.add_shape k n; rw [h]
@[simp] theorem Dev.add_free (d : Dev) (k n : Nat) : (d.add k n).free = d.free := by
  obtain ⟨_, _, _, h⟩ := d.add_shape k n; rw [h]
@[simp] theorem Dev.add_stateLive (d : Dev) (k n : Nat) : (d.add k n).stateLive = d.stateLive := by
  obtain ⟨_, _, _, h⟩ := d.add_shape k n; rw [h]
@[simp] theorem Dev.add_holds (d : Dev) (k n : Nat) : (d.add k n).holds = d.holds := by
  obtain ⟨_, _, _, h⟩ := d.add_shape k n; rw [h]
@[simp] theorem Dev.add_rates (d : Dev) (k n : Nat) : (d.add k n).rates = d.rates := by
  obtain ⟨_, _, _, h⟩ := d.add_shape k n; rw [h]
@[simp] theorem Dev.add_logSeq (d : Dev) (k n : Nat) : (d.add k n).logSeq = d.logSeq := by
  obtain ⟨_, _, _, h⟩ := d.add_shape k n; rw [h]
@[simp] theorem Dev.add_fuses (d : Dev) (k n : Nat) : (d.add k n).fuses = d.fuses := by
  obtain ⟨_, _, _, h⟩ := d.add_shape k n; rw [h]
@[simp] theorem Dev.add_flash (d : Dev) (k n : Nat) : (d.add k n).flash = d.flash := by
  obtain ⟨_, _, _, h⟩ := d.add_shape k n; rw [h]
@[simp] theorem Dev.add_bootPhase (d : Dev) (k n : Nat) : (d.add k n).bootPhase = d.bootPhase := by
  obtain ⟨_, _, _, h⟩ := d.add_shape k n; rw [h]
@[simp] theorem Dev.add_bootTried (d : Dev) (k n : Nat) : (d.add k n).bootTried = d.bootTried := by
  obtain ⟨_, _, _, h⟩ := d.add_shape k n; rw [h]
@[simp] theorem Dev.add_bootSource (d : Dev) (k n : Nat) : (d.add k n).bootSource = d.bootSource := by
  obtain ⟨_, _, _, h⟩ := d.add_shape k n; rw [h]
@[simp] theorem Dev.add_bootBase (d : Dev) (k n : Nat) : (d.add k n).bootBase = d.bootBase := by
  obtain ⟨_, _, _, h⟩ := d.add_shape k n; rw [h]
@[simp] theorem Dev.add_manifest (d : Dev) (k n : Nat) : (d.add k n).manifest = d.manifest := by
  obtain ⟨_, _, _, h⟩ := d.add_shape k n; rw [h]
@[simp] theorem Dev.add_programming (d : Dev) (k n : Nat) : (d.add k n).programming = d.programming := by
  obtain ⟨_, _, _, h⟩ := d.add_shape k n; rw [h]
@[simp] theorem Dev.add_stagedLen (d : Dev) (k n : Nat) : (d.add k n).stagedLen = d.stagedLen := by
  obtain ⟨_, _, _, h⟩ := d.add_shape k n; rw [h]
@[simp] theorem Dev.add_fuseFail (d : Dev) (k n : Nat) : (d.add k n).fuseFail = d.fuseFail := by
  obtain ⟨_, _, _, h⟩ := d.add_shape k n; rw [h]
@[simp] theorem Dev.add_bootDead (d : Dev) (k n : Nat) : (d.add k n).bootDead = d.bootDead := by
  obtain ⟨_, _, _, h⟩ := d.add_shape k n; rw [h]
@[simp] theorem Dev.add_logActive (d : Dev) (k n : Nat) : (d.add k n).logActive = d.logActive := by
  obtain ⟨_, _, _, h⟩ := d.add_shape k n; rw [h]
@[simp] theorem Dev.add_pend (d : Dev) (k n : Nat) : (d.add k n).pend = d.pend := by
  obtain ⟨_, _, _, h⟩ := d.add_shape k n; rw [h]
@[simp] theorem Dev.add_snaps (d : Dev) (k n : Nat) : (d.add k n).snaps = d.snaps := by
  obtain ⟨_, _, _, h⟩ := d.add_shape k n; rw [h]
@[simp] theorem Dev.add_xfers (d : Dev) (k n : Nat) : (d.add k n).xfers = d.xfers := by
  obtain ⟨_, _, _, h⟩ := d.add_shape k n; rw [h]
@[simp] theorem Dev.add_stage (d : Dev) (k n : Nat) : (d.add k n).stage = d.stage := by
  obtain ⟨_, _, _, h⟩ := d.add_shape k n; rw [h]
@[simp] theorem Dev.add_bundleAt (d : Dev) (k n : Nat) : (d.add k n).bundleAt = d.bundleAt := by
  obtain ⟨_, _, _, h⟩ := d.add_shape k n; rw [h]
@[simp] theorem Dev.add_bundleReply (d : Dev) (k n : Nat) : (d.add k n).bundleReply = d.bundleReply := by
  obtain ⟨_, _, _, h⟩ := d.add_shape k n; rw [h]
@[simp] theorem Dev.add_bundleSender (d : Dev) (k n : Nat) : (d.add k n).bundleSender = d.bundleSender := by
  obtain ⟨_, _, _, h⟩ := d.add_shape k n; rw [h]
@[simp] theorem Dev.add_attestAt (d : Dev) (k n : Nat) : (d.add k n).attestAt = d.attestAt := by
  obtain ⟨_, _, _, h⟩ := d.add_shape k n; rw [h]
@[simp] theorem Dev.add_attestDone (d : Dev) (k n : Nat) : (d.add k n).attestDone = d.attestDone := by
  obtain ⟨_, _, _, h⟩ := d.add_shape k n; rw [h]
@[simp] theorem Dev.add_attestReport (d : Dev) (k n : Nat) : (d.add k n).attestReport = d.attestReport := by
  obtain ⟨_, _, _, h⟩ := d.add_shape k n; rw [h]
@[simp] theorem Dev.add_attestSeen (d : Dev) (k n : Nat) : (d.add k n).attestSeen = d.attestSeen := by
  obtain ⟨_, _, _, h⟩ := d.add_shape k n; rw [h]
@[simp] theorem Dev.add_attestFrom (d : Dev) (k n : Nat) : (d.add k n).attestFrom = d.attestFrom := by
  obtain ⟨_, _, _, h⟩ := d.add_shape k n; rw [h]
@[simp] theorem Dev.add_pubkey (d : Dev) (k n : Nat) : (d.add k n).pubkey = d.pubkey := by
  obtain ⟨_, _, _, h⟩ := d.add_shape k n; rw [h]
@[simp] theorem Dev.add_cert (d : Dev) (k n : Nat) : (d.add k n).cert = d.cert := by
  obtain ⟨_, _, _, h⟩ := d.add_shape k n; rw [h]
@[simp] theorem Dev.add_wakeLevel (d : Dev) (k n : Nat) : (d.add k n).wakeLevel = d.wakeLevel := by
  obtain ⟨_, _, _, h⟩ := d.add_shape k n; rw [h]
@[simp] theorem Dev.add_perst (d : Dev) (k n : Nat) : (d.add k n).perst = d.perst := by
  obtain ⟨_, _, _, h⟩ := d.add_shape k n; rw [h]
@[simp] theorem Dev.add_linkUp (d : Dev) (k n : Nat) : (d.add k n).linkUp = d.linkUp := by
  obtain ⟨_, _, _, h⟩ := d.add_shape k n; rw [h]
@[simp] theorem Dev.add_vddOff (d : Dev) (k n : Nat) : (d.add k n).vddOff = d.vddOff := by
  obtain ⟨_, _, _, h⟩ := d.add_shape k n; rw [h]
@[simp] theorem Dev.add_avsRaise (d : Dev) (k n : Nat) : (d.add k n).avsRaise = d.avsRaise := by
  obtain ⟨_, _, _, h⟩ := d.add_shape k n; rw [h]
@[simp] theorem Dev.add_avsHigh (d : Dev) (k n : Nat) : (d.add k n).avsHigh = d.avsHigh := by
  obtain ⟨_, _, _, h⟩ := d.add_shape k n; rw [h]
@[simp] theorem Dev.add_avsLowered (d : Dev) (k n : Nat) : (d.add k n).avsLowered = d.avsLowered := by
  obtain ⟨_, _, _, h⟩ := d.add_shape k n; rw [h]
@[simp] theorem Dev.add_aonSub (d : Dev) (k n : Nat) : (d.add k n).aonSub = d.aonSub := by
  obtain ⟨_, _, _, h⟩ := d.add_shape k n; rw [h]
@[simp] theorem Dev.add_avsGain (d : Dev) (k n : Nat) : (d.add k n).avsGain = d.avsGain := by
  obtain ⟨_, _, _, h⟩ := d.add_shape k n; rw [h]
@[simp] theorem Dev.add_aer (d : Dev) (k n : Nat) : (d.add k n).aer = d.aer := by
  obtain ⟨_, _, _, h⟩ := d.add_shape k n; rw [h]
@[simp] theorem Dev.add_lifeSaid2 (d : Dev) (k n : Nat) : (d.add k n).lifeSaid2 = d.lifeSaid2 := by
  obtain ⟨_, _, _, h⟩ := d.add_shape k n; rw [h]
@[simp] theorem Dev.add_lifeSaid3 (d : Dev) (k n : Nat) : (d.add k n).lifeSaid3 = d.lifeSaid3 := by
  obtain ⟨_, _, _, h⟩ := d.add_shape k n; rw [h]
@[simp] theorem Dev.add_tapIr (d : Dev) (k n : Nat) : (d.add k n).tapIr = d.tapIr := by
  obtain ⟨_, _, _, h⟩ := d.add_shape k n; rw [h]
@[simp] theorem Dev.add_tapBsr (d : Dev) (k n : Nat) : (d.add k n).tapBsr = d.tapBsr := by
  obtain ⟨_, _, _, h⟩ := d.add_shape k n; rw [h]
@[simp] theorem Dev.add_tapStopped (d : Dev) (k n : Nat) : (d.add k n).tapStopped = d.tapStopped := by
  obtain ⟨_, _, _, h⟩ := d.add_shape k n; rw [h]
@[simp] theorem Dev.add_mbistRun (d : Dev) (k n : Nat) : (d.add k n).mbistRun = d.mbistRun := by
  obtain ⟨_, _, _, h⟩ := d.add_shape k n; rw [h]
@[simp] theorem Dev.add_mbistRes (d : Dev) (k n : Nat) : (d.add k n).mbistRes = d.mbistRes := by
  obtain ⟨_, _, _, h⟩ := d.add_shape k n; rw [h]

@[simp] theorem Dev.settleStates_regs (d : Dev) : d.settleStates.regs = d.regs := by
  obtain ⟨_, h⟩ := d.settleStates_shape; rw [h]
@[simp] theorem Dev.settleStates_tabs (d : Dev) : d.settleStates.tabs = d.tabs := by
  obtain ⟨_, h⟩ := d.settleStates_shape; rw [h]
@[simp] theorem Dev.settleStates_porst (d : Dev) : d.settleStates.porst = d.porst := by
  obtain ⟨_, h⟩ := d.settleStates_shape; rw [h]
@[simp] theorem Dev.settleStates_testMode (d : Dev) : d.settleStates.testMode = d.testMode := by
  obtain ⟨_, h⟩ := d.settleStates_shape; rw [h]
@[simp] theorem Dev.settleStates_modeWritten (d : Dev) : d.settleStates.modeWritten = d.modeWritten := by
  obtain ⟨_, h⟩ := d.settleStates_shape; rw [h]
@[simp] theorem Dev.settleStates_owlDown (d : Dev) : d.settleStates.owlDown = d.owlDown := by
  obtain ⟨_, h⟩ := d.settleStates_shape; rw [h]
@[simp] theorem Dev.settleStates_aon (d : Dev) : d.settleStates.aon = d.aon := by
  obtain ⟨_, h⟩ := d.settleStates_shape; rw [h]
@[simp] theorem Dev.settleStates_free (d : Dev) : d.settleStates.free = d.free := by
  obtain ⟨_, h⟩ := d.settleStates_shape; rw [h]
@[simp] theorem Dev.settleStates_faultQ (d : Dev) : d.settleStates.faultQ = d.faultQ := by
  obtain ⟨_, h⟩ := d.settleStates_shape; rw [h]
@[simp] theorem Dev.settleStates_holds (d : Dev) : d.settleStates.holds = d.holds := by
  obtain ⟨_, h⟩ := d.settleStates_shape; rw [h]
@[simp] theorem Dev.settleStates_rates (d : Dev) : d.settleStates.rates = d.rates := by
  obtain ⟨_, h⟩ := d.settleStates_shape; rw [h]
@[simp] theorem Dev.settleStates_logSeq (d : Dev) : d.settleStates.logSeq = d.logSeq := by
  obtain ⟨_, h⟩ := d.settleStates_shape; rw [h]
@[simp] theorem Dev.settleStates_fuses (d : Dev) : d.settleStates.fuses = d.fuses := by
  obtain ⟨_, h⟩ := d.settleStates_shape; rw [h]
@[simp] theorem Dev.settleStates_flash (d : Dev) : d.settleStates.flash = d.flash := by
  obtain ⟨_, h⟩ := d.settleStates_shape; rw [h]
@[simp] theorem Dev.settleStates_bootPhase (d : Dev) : d.settleStates.bootPhase = d.bootPhase := by
  obtain ⟨_, h⟩ := d.settleStates_shape; rw [h]
@[simp] theorem Dev.settleStates_bootTried (d : Dev) : d.settleStates.bootTried = d.bootTried := by
  obtain ⟨_, h⟩ := d.settleStates_shape; rw [h]
@[simp] theorem Dev.settleStates_bootSource (d : Dev) : d.settleStates.bootSource = d.bootSource := by
  obtain ⟨_, h⟩ := d.settleStates_shape; rw [h]
@[simp] theorem Dev.settleStates_bootBase (d : Dev) : d.settleStates.bootBase = d.bootBase := by
  obtain ⟨_, h⟩ := d.settleStates_shape; rw [h]
@[simp] theorem Dev.settleStates_manifest (d : Dev) : d.settleStates.manifest = d.manifest := by
  obtain ⟨_, h⟩ := d.settleStates_shape; rw [h]
@[simp] theorem Dev.settleStates_programming (d : Dev) : d.settleStates.programming = d.programming := by
  obtain ⟨_, h⟩ := d.settleStates_shape; rw [h]
@[simp] theorem Dev.settleStates_stagedLen (d : Dev) : d.settleStates.stagedLen = d.stagedLen := by
  obtain ⟨_, h⟩ := d.settleStates_shape; rw [h]
@[simp] theorem Dev.settleStates_fuseFail (d : Dev) : d.settleStates.fuseFail = d.fuseFail := by
  obtain ⟨_, h⟩ := d.settleStates_shape; rw [h]
@[simp] theorem Dev.settleStates_bootDead (d : Dev) : d.settleStates.bootDead = d.bootDead := by
  obtain ⟨_, h⟩ := d.settleStates_shape; rw [h]
@[simp] theorem Dev.settleStates_logActive (d : Dev) : d.settleStates.logActive = d.logActive := by
  obtain ⟨_, h⟩ := d.settleStates_shape; rw [h]
@[simp] theorem Dev.settleStates_pend (d : Dev) : d.settleStates.pend = d.pend := by
  obtain ⟨_, h⟩ := d.settleStates_shape; rw [h]
@[simp] theorem Dev.settleStates_snaps (d : Dev) : d.settleStates.snaps = d.snaps := by
  obtain ⟨_, h⟩ := d.settleStates_shape; rw [h]
@[simp] theorem Dev.settleStates_xfers (d : Dev) : d.settleStates.xfers = d.xfers := by
  obtain ⟨_, h⟩ := d.settleStates_shape; rw [h]
@[simp] theorem Dev.settleStates_stage (d : Dev) : d.settleStates.stage = d.stage := by
  obtain ⟨_, h⟩ := d.settleStates_shape; rw [h]
@[simp] theorem Dev.settleStates_bundleAt (d : Dev) : d.settleStates.bundleAt = d.bundleAt := by
  obtain ⟨_, h⟩ := d.settleStates_shape; rw [h]
@[simp] theorem Dev.settleStates_bundleReply (d : Dev) : d.settleStates.bundleReply = d.bundleReply := by
  obtain ⟨_, h⟩ := d.settleStates_shape; rw [h]
@[simp] theorem Dev.settleStates_bundleSender (d : Dev) : d.settleStates.bundleSender = d.bundleSender := by
  obtain ⟨_, h⟩ := d.settleStates_shape; rw [h]
@[simp] theorem Dev.settleStates_attestAt (d : Dev) : d.settleStates.attestAt = d.attestAt := by
  obtain ⟨_, h⟩ := d.settleStates_shape; rw [h]
@[simp] theorem Dev.settleStates_attestDone (d : Dev) : d.settleStates.attestDone = d.attestDone := by
  obtain ⟨_, h⟩ := d.settleStates_shape; rw [h]
@[simp] theorem Dev.settleStates_attestReport (d : Dev) : d.settleStates.attestReport = d.attestReport := by
  obtain ⟨_, h⟩ := d.settleStates_shape; rw [h]
@[simp] theorem Dev.settleStates_attestSeen (d : Dev) : d.settleStates.attestSeen = d.attestSeen := by
  obtain ⟨_, h⟩ := d.settleStates_shape; rw [h]
@[simp] theorem Dev.settleStates_attestFrom (d : Dev) : d.settleStates.attestFrom = d.attestFrom := by
  obtain ⟨_, h⟩ := d.settleStates_shape; rw [h]
@[simp] theorem Dev.settleStates_pubkey (d : Dev) : d.settleStates.pubkey = d.pubkey := by
  obtain ⟨_, h⟩ := d.settleStates_shape; rw [h]
@[simp] theorem Dev.settleStates_cert (d : Dev) : d.settleStates.cert = d.cert := by
  obtain ⟨_, h⟩ := d.settleStates_shape; rw [h]
@[simp] theorem Dev.settleStates_wakeLevel (d : Dev) : d.settleStates.wakeLevel = d.wakeLevel := by
  obtain ⟨_, h⟩ := d.settleStates_shape; rw [h]
@[simp] theorem Dev.settleStates_perst (d : Dev) : d.settleStates.perst = d.perst := by
  obtain ⟨_, h⟩ := d.settleStates_shape; rw [h]
@[simp] theorem Dev.settleStates_linkUp (d : Dev) : d.settleStates.linkUp = d.linkUp := by
  obtain ⟨_, h⟩ := d.settleStates_shape; rw [h]
@[simp] theorem Dev.settleStates_vddOff (d : Dev) : d.settleStates.vddOff = d.vddOff := by
  obtain ⟨_, h⟩ := d.settleStates_shape; rw [h]
@[simp] theorem Dev.settleStates_avsRaise (d : Dev) : d.settleStates.avsRaise = d.avsRaise := by
  obtain ⟨_, h⟩ := d.settleStates_shape; rw [h]
@[simp] theorem Dev.settleStates_avsHigh (d : Dev) : d.settleStates.avsHigh = d.avsHigh := by
  obtain ⟨_, h⟩ := d.settleStates_shape; rw [h]
@[simp] theorem Dev.settleStates_avsLowered (d : Dev) : d.settleStates.avsLowered = d.avsLowered := by
  obtain ⟨_, h⟩ := d.settleStates_shape; rw [h]
@[simp] theorem Dev.settleStates_aonSub (d : Dev) : d.settleStates.aonSub = d.aonSub := by
  obtain ⟨_, h⟩ := d.settleStates_shape; rw [h]
@[simp] theorem Dev.settleStates_avsGain (d : Dev) : d.settleStates.avsGain = d.avsGain := by
  obtain ⟨_, h⟩ := d.settleStates_shape; rw [h]
@[simp] theorem Dev.settleStates_aer (d : Dev) : d.settleStates.aer = d.aer := by
  obtain ⟨_, h⟩ := d.settleStates_shape; rw [h]
@[simp] theorem Dev.settleStates_lifeSaid2 (d : Dev) : d.settleStates.lifeSaid2 = d.lifeSaid2 := by
  obtain ⟨_, h⟩ := d.settleStates_shape; rw [h]
@[simp] theorem Dev.settleStates_lifeSaid3 (d : Dev) : d.settleStates.lifeSaid3 = d.lifeSaid3 := by
  obtain ⟨_, h⟩ := d.settleStates_shape; rw [h]
@[simp] theorem Dev.settleStates_tapIr (d : Dev) : d.settleStates.tapIr = d.tapIr := by
  obtain ⟨_, h⟩ := d.settleStates_shape; rw [h]
@[simp] theorem Dev.settleStates_tapBsr (d : Dev) : d.settleStates.tapBsr = d.tapBsr := by
  obtain ⟨_, h⟩ := d.settleStates_shape; rw [h]
@[simp] theorem Dev.settleStates_tapStopped (d : Dev) : d.settleStates.tapStopped = d.tapStopped := by
  obtain ⟨_, h⟩ := d.settleStates_shape; rw [h]
@[simp] theorem Dev.settleStates_mbistRun (d : Dev) : d.settleStates.mbistRun = d.mbistRun := by
  obtain ⟨_, h⟩ := d.settleStates_shape; rw [h]
@[simp] theorem Dev.settleStates_mbistRes (d : Dev) : d.settleStates.mbistRes = d.mbistRes := by
  obtain ⟨_, h⟩ := d.settleStates_shape; rw [h]

/-! ### Registers -/

theorem rows_small_side : sideRows.all (fun r => decide (r.dflt < 2 ^ 64)) = true := by decide +kernel
theorem rows_small_dev : devRows.all (fun r => decide (r.dflt < 2 ^ 64)) = true := by decide +kernel

theorem findRow_mem {rows : List ObjRow} {k : Nat} {r : ObjRow} (h : findRow rows k = some r) : r ∈ rows :=
  List.mem_of_find?_eq_some h

theorem sideDefault_lt (k : Nat) : sideDefault k < 2 ^ 64 := by
  unfold sideDefault
  cases h : findRow sideRows k with
  | none => simp
  | some r => simpa using List.all_eq_true.mp rows_small_side r (findRow_mem h)

theorem devDefault_lt (k : Nat) : devDefault k < 2 ^ 64 := by
  unfold devDefault
  cases h : findRow devRows k with
  | none => simp
  | some r => simpa using List.all_eq_true.mp rows_small_dev r (findRow_mem h)

/-- A slot reads what was written, cut to its 64 bits. -/
theorem Core.rd_wr_same (c : Core) (k v : Nat) : (c.wr k v).rd k = v % 2 ^ 64 := by
  unfold Core.rd Core.wr; dsimp only; rw [SMap.find?_put_same]
  by_cases h : BitVec.ofNat 64 v = BitVec.ofNat 64 (sideDefault k)
  · rw [if_pos h]
    have := congrArg BitVec.toNat h
    simp only [BitVec.toNat_ofNat, Nat.mod_eq_of_lt (sideDefault_lt k)] at this
    exact this.symm
  · rw [if_neg h]; simp

@[simp] theorem Core.rd_wr_ne (c : Core) {k j : Nat} (v : Nat) (h : j ≠ k) : (c.wr k v).rd j = c.rd j := by
  unfold Core.rd Core.wr; dsimp only; rw [SMap.find?_put_ne _ _ _ h]

theorem Core.rd_wr (c : Core) (k j v : Nat) : (c.wr k v).rd j = if j = k then v % 2 ^ 64 else c.rd j := by
  split
  · rename_i h; subst h; exact c.rd_wr_same _ v
  · rename_i h; exact c.rd_wr_ne v h

theorem Core.rd_lt (c : Core) (k : Nat) : c.rd k < 2 ^ 64 := by
  unfold Core.rd; split
  · exact BitVec.isLt _
  · exact sideDefault_lt k

/-- Registers are the same where the stores are. -/
theorem Core.rd_regs {c d : Core} (h : d.regs = c.regs) (k : Nat) : d.rd k = c.rd k := by unfold Core.rd; rw [h]

theorem Dev.rd_wr_same (d : Dev) (k v : Nat) : (d.wr k v).rd k = v % 2 ^ 64 := by
  unfold Dev.rd Dev.wr; dsimp only; rw [SMap.find?_put_same]
  by_cases h : BitVec.ofNat 64 v = BitVec.ofNat 64 (devDefault k)
  · rw [if_pos h]
    have := congrArg BitVec.toNat h
    simp only [BitVec.toNat_ofNat, Nat.mod_eq_of_lt (devDefault_lt k)] at this
    exact this.symm
  · rw [if_neg h]; simp

@[simp] theorem Dev.rd_wr_ne (d : Dev) {k j : Nat} (v : Nat) (h : j ≠ k) : (d.wr k v).rd j = d.rd j := by
  unfold Dev.rd Dev.wr; dsimp only; rw [SMap.find?_put_ne _ _ _ h]

theorem Dev.rd_wr (d : Dev) (k j v : Nat) : (d.wr k v).rd j = if j = k then v % 2 ^ 64 else d.rd j := by
  split
  · rename_i h; subst h; exact d.rd_wr_same _ v
  · rename_i h; exact d.rd_wr_ne v h

theorem Dev.rd_lt (d : Dev) (k : Nat) : d.rd k < 2 ^ 64 := by
  unfold Dev.rd; split
  · exact BitVec.isLt _
  · exact devDefault_lt k

theorem Dev.rd_regs {c d : Dev} (h : d.regs = c.regs) (k : Nat) : d.rd k = c.rd k := by unfold Dev.rd; rw [h]

@[simp] theorem Core.rd_setTab (c : Core) (w e v k : Nat) : (c.setTab w e v).rd k = c.rd k := rfl
@[simp] theorem Core.rd_setMark (c : Core) (w e v k : Nat) : (c.setMark w e v).rd k = c.rd k := rfl
@[simp] theorem Core.rd_modPort (c : Core) (p : Nat) (g : PortDyn → PortDyn) (k : Nat) : (c.modPort p g).rd k = c.rd k := rfl
@[simp] theorem Core.rd_emit (c : Core) (o : Output) (k : Nat) : (c.emit o).rd k = c.rd k := rfl
@[simp] theorem Core.rd_deviceReport (c : Core) (d x a k : Nat) : (c.deviceReport d x a).rd k = c.rd k := rfl
@[simp] theorem Core.rd_reportRate (c : Core) (e x a k : Nat) : (c.reportRate e x a).rd k = c.rd k :=
  Core.rd_regs (by simp) k
@[simp] theorem Core.rd_advance (c : Core) (n k : Nat) : (c.advance n).rd k = c.rd k := Core.rd_regs (by simp) k
@[simp] theorem Core.rd_advanceTo (c : Core) (n k : Nat) : (c.advanceTo n).rd k = c.rd k := c.rd_advance _ k
@[simp] theorem Dev.rd_report (d : Dev) (e x a k : Nat) : (d.report e x a).rd k = d.rd k := Dev.rd_regs (by simp) k
@[simp] theorem Dev.rd_settleStates (d : Dev) (k : Nat) : d.settleStates.rd k = d.rd k := Dev.rd_regs (by simp) k

theorem Core.rd_recordSaturated_ne (c : Core) (v : Nat) {k : Nat} (h2 : k ≠ Reg.saturated_count) (h3 : k ≠ Reg.last_saturated) :
    (c.recordSaturated v).rd k = c.rd k := by
  unfold Core.recordSaturated; dsimp only; split
  · exact Core.rd_wr_ne _ _ h3
  · split
    · rw [Core.rd_wr_ne _ _ h3, Core.rd_wr_ne _ _ h2]
    · rw [Core.rd_wr_ne _ _ h3, Core.rd_wr_ne _ _ h2]

/-- A message changes no register but the count of messages lost, and what records that count's saturation. -/
@[simp] theorem Core.rd_report (c : Core) (e x a : Nat) {k : Nat} (h : k ≠ Reg.collector_queue_overflow)
    (h2 : k ≠ Reg.saturated_count) (h3 : k ≠ Reg.last_saturated) : (c.report e x a).rd k = c.rd k := by
  have hd : ∀ (d : Core) (i j : Nat), (d.dropMsg i j).rd k = d.rd k := fun _ _ _ => rfl
  have hq : ∀ (d : Core) (i j m : Nat), (d.queueMsg i j m).rd k = d.rd k := fun _ _ _ _ => rfl
  unfold Core.report; split
  · rfl
  · unfold Core.loseMsg; dsimp only; split
    · rfl
    · split
      · split
        · rw [hq, Core.rd_recordSaturated_ne _ _ h2 h3, Core.rd_wr_ne _ _ h, hd]
        · rw [hd, Core.rd_recordSaturated_ne _ _ h2 h3, Core.rd_wr_ne _ _ h, hd]
      · rw [Core.rd_wr_ne _ _ h, hd]

/-- A counter changes itself, and the objects that record its reaching all ones. -/
theorem Core.rd_add_ne (c : Core) (x n : Nat) {k : Nat} (h : k ≠ x) (h1 : k ≠ Reg.collector_queue_overflow)
    (h2 : k ≠ Reg.saturated_count) (h3 : k ≠ Reg.last_saturated) : (c.add x n).rd k = c.rd k := by
  unfold Core.add; dsimp only; split
  · rw [Core.rd_wr_ne _ _ h]
  · split
    · rfl
    · unfold Core.saturated; split
      · exact Core.rd_wr_ne _ _ h
      · unfold Core.saySaturated; dsimp only; split
        · rw [Core.rd_report _ _ _ _ h1 h2 h3, Core.rd_report _ _ _ _ h1 h2 h3, Core.rd_recordSaturated_ne _ _ h2 h3, Core.rd_wr_ne _ _ h]
        · rw [Core.rd_report _ _ _ _ h1 h2 h3, Core.rd_recordSaturated_ne _ _ h2 h3, Core.rd_wr_ne _ _ h]

/-- A counter below all ones that stays below them. -/
theorem Core.rd_add_same (c : Core) (k n : Nat) (h : c.rd k + n < counterMax k) : (c.add k n).rd k = c.rd k + n := by
  unfold Core.add; dsimp only; rw [if_pos h, Core.rd_wr_same]
  apply Nat.mod_eq_of_lt
  refine Nat.lt_of_lt_of_le h ?_
  unfold counterMax allOnes64; split
  · split <;> decide
  · decide

@[simp] theorem Dev.rd_add_ne (d : Dev) (x n : Nat) {k : Nat} (h : k ≠ x) : (d.add x n).rd k = d.rd k := by
  unfold Dev.add; dsimp only; split
  · rw [Dev.rd_wr_ne _ _ h]
  · split
    · rfl
    · rw [Dev.rd_report, Dev.rd_wr_ne _ _ h]

/-- The ports' dynamic states after a change of one. -/
@[simp] theorem Core.port_modPort_same (c : Core) (p : Nat) (g : PortDyn → PortDyn) : (c.modPort p g).port p = g (c.port p) :=
  SMap.getD_put_same c.ports p PortDyn.zero (g (c.port p))
@[simp] theorem Core.port_modPort_ne (c : Core) {p q : Nat} (g : PortDyn → PortDyn) (h : q ≠ p) :
    (c.modPort p g).port q = c.port q := SMap.getD_put_ne c.ports PortDyn.zero (g (c.port p)) PortDyn.zero h
@[simp] theorem Core.port_wr (c : Core) (k v p : Nat) : (c.wr k v).port p = c.port p := rfl

/-- A record of a window after a write to one. -/
theorem Core.tab_setTab_same (c : Core) (w e v : Nat) : (c.setTab w e v).tab w e = v := by
  unfold Core.tab Core.tabAt Core.setTab; dsimp only; rw [SMap.find?_put_same]
  by_cases h : v = tabDefault (tabKey w e)
  · rw [if_pos h]; exact h.symm
  · rw [if_neg h]
theorem Core.tab_setTab_ne (c : Core) {w e w' e' : Nat} (v : Nat) (h : tabKey w' e' ≠ tabKey w e) :
    (c.setTab w e v).tab w' e' = c.tab w' e' := by
  unfold Core.tab Core.tabAt Core.setTab; dsimp only; rw [SMap.find?_put_ne _ _ _ h]
@[simp] theorem Core.tab_wr (c : Core) (k v w e : Nat) : (c.wr k v).tab w e = c.tab w e := rfl

end Sys2Proof.Machine
end

