-- ==== Sys2Proof/Laws/Reach.lean ====
section
/-! SUPPORT. Reach.lean: what a command that reaches one part of the device does to the whole: which part changes, and that the rest
is as it was. -/

namespace Sys2Proof.Machine

-- one theorem at a time: each one in work holds a stack of its own
set_option Elab.async false

/-! ### The part of a side -/

@[simp] theorem Plant.side_setSide_same (p : Plant) (sd : SideId) (d : Side) : (p.setSide sd d).side sd = d := by cases sd <;> rfl
@[simp] theorem Plant.side_setSide_other (p : Plant) (sd : SideId) (d : Side) :
    (p.setSide sd d).side sd.other = p.side sd.other := by cases sd <;> rfl
@[simp] theorem Plant.side_setSide_other' (p : Plant) (sd : SideId) (d : Side) :
    (p.setSide sd.other d).side sd = p.side sd := by cases sd <;> rfl
@[simp] theorem Plant.dev_setSide (p : Plant) (sd : SideId) (d : Side) : (p.setSide sd d).dev = p.dev := by cases sd <;> rfl
@[simp] theorem SideId.other_other (sd : SideId) : sd.other.other = sd := by cases sd <;> rfl
theorem SideId.other_ne (sd : SideId) : sd.other ≠ sd := by cases sd <;> decide

theorem Core.settleStates_shape (c : Core) : ∃ l, c.settleStates = { c with stateLive := l } := by
  unfold Core.settleStates; split
  · exact ⟨c.stateLive, rfl⟩
  · exact ⟨_, rfl⟩

/-- Messages handed on to the device collector change its queue and its windows only. -/
theorem Dev.reports_shape (l : List FaultMsg) :
    ∀ d : Dev, ∃ q t, l.foldl (fun (x : Dev) m => x.report m.src m.kind m.addr) d = { d with faultQ := q, tabs := t } := by
  induction l with
  | nil => exact fun d => ⟨d.faultQ, d.tabs, rfl⟩
  | cons m r ih =>
    intro d
    obtain ⟨q, t, h⟩ := d.report_shape m.src m.kind m.addr
    obtain ⟨q', t', h'⟩ := ih (d.report m.src m.kind m.addr)
    refine ⟨q', t', ?_⟩
    rw [List.foldl_cons, h', h]

theorem Plant.stamped_shape (p : Plant) (sd : SideId) (d : Side) :
    ∃ r, p.stamped sd d = { d with r := { d.r with regs := r } } ∧
      ∀ k, k ≠ Reg.last_transition → (p.stamped sd d).r.rd k = d.r.rd k := by
  unfold Plant.stamped; split
  · exact ⟨d.r.regs, rfl, fun _ _ => rfl⟩
  · exact ⟨_, rfl, fun k hk => Core.rd_wr_ne _ _ hk⟩

/-- A change of one side: its own part is what the change gives, but for the states that have ended, the messages handed on and the
time of a change of power_state; its memories are what the change gives. -/
theorem Plant.onSide_shape (p : Plant) (sd : SideId) (f : Side → Side) :
    ∃ l r, ((p.onSide sd f).side sd) =
        { f (p.side sd) with r := { (f (p.side sd)).r with stateLive := l, toDev := [], regs := r } } ∧
      ∀ k, k ≠ Reg.last_transition → ((p.onSide sd f).side sd).r.rd k = (f (p.side sd)).r.rd k := by
  obtain ⟨r, hs, hr⟩ := p.stamped_shape sd (f (p.side sd))
  unfold Plant.onSide Plant.handOn; dsimp only
  split
  · rename_i he
    have he' : (f (p.side sd)).r.toDev = [] := by rw [hs] at he; simpa using he
    obtain ⟨l, hl⟩ := (p.stamped sd (f (p.side sd))).r.settleStates_shape
    refine ⟨l, r, ?_, fun k hk => ?_⟩
    · rw [Plant.side_setSide_same, hl, hs, ← he']
    · rw [Plant.side_setSide_same, ← hr k hk, hl]; rfl
  · obtain ⟨l, hl⟩ := ({ (p.stamped sd (f (p.side sd))).r with toDev := [] } : Core).settleStates_shape
    refine ⟨l, r, ?_, fun k hk => ?_⟩
    · rw [Plant.side_setSide_same, hl, hs]
    · rw [Plant.side_setSide_same, ← hr k hk, hl]; rfl

/-- The rest of the device: the other side as it was, the device-level part but for its collector's queue and windows. -/
theorem Plant.onSide_rest (p : Plant) (sd : SideId) (f : Side → Side) :
    (p.onSide sd f).side sd.other = p.side sd.other ∧
      ∃ q t, (p.onSide sd f).dev = { p.dev with faultQ := q, tabs := t } := by
  unfold Plant.onSide Plant.handOn; dsimp only
  split
  · exact ⟨by simp, p.dev.faultQ, p.dev.tabs, by simp⟩
  · obtain ⟨q, t, h⟩ := Dev.reports_shape (p.stamped sd (f (p.side sd))).r.toDev p.dev
    refine ⟨?_, q, t, ?_⟩
    · rw [Plant.side_setSide_other]; cases sd <;> rfl
    · rw [Plant.dev_setSide]; exact h

@[simp] theorem Plant.onSide_side_other (p : Plant) (sd : SideId) (f : Side → Side) :
    (p.onSide sd f).side sd.other = p.side sd.other := (p.onSide_rest sd f).1
@[simp] theorem Plant.onSide_side_other' (p : Plant) (sd : SideId) (f : Side → Side) :
    (p.onSide sd.other f).side sd = p.side sd := by
  have := (p.onSide_rest sd.other f).1; rwa [SideId.other_other] at this
@[simp] theorem Plant.onSide_dev_rd (p : Plant) (sd : SideId) (f : Side → Side) (k : Nat) :
    (p.onSide sd f).dev.rd k = p.dev.rd k := by
  obtain ⟨_, _, _, h⟩ := p.onSide_rest sd f; exact Dev.rd_regs (by rw [h]) k
@[simp] theorem Plant.onSide_spm (p : Plant) (sd : SideId) (f : Side → Side) :
    ((p.onSide sd f).side sd).spm = (f (p.side sd)).spm := by obtain ⟨_, _, h, _⟩ := p.onSide_shape sd f; rw [h]
@[simp] theorem Plant.onSide_dram (p : Plant) (sd : SideId) (f : Side → Side) :
    ((p.onSide sd f).side sd).dram = (f (p.side sd)).dram := by obtain ⟨_, _, h, _⟩ := p.onSide_shape sd f; rw [h]
@[simp] theorem Plant.onSide_rd (p : Plant) (sd : SideId) (f : Side → Side) {k : Nat} (h : k ≠ Reg.last_transition) :
    ((p.onSide sd f).side sd).r.rd k = (f (p.side sd)).r.rd k := by obtain ⟨_, _, _, hr⟩ := p.onSide_shape sd f; exact hr k h

/-- A side's part after a command that reaches it. -/
theorem Plant.onCore_shape (p : Plant) (sd : SideId) (f : Core → Core) :
    ∃ l r, ((p.onCore sd f).side sd).r = { f (p.side sd).r with stateLive := l, toDev := [], regs := r } ∧
      ∀ k, k ≠ Reg.last_transition → ((p.onCore sd f).side sd).r.rd k = (f (p.side sd).r).rd k := by
  obtain ⟨l, r, h, hr⟩ := p.onSide_shape sd (fun d => { d with r := f d.r })
  exact ⟨l, r, by unfold Plant.onCore; rw [h], hr⟩

@[simp] theorem Plant.onCore_rd (p : Plant) (sd : SideId) (f : Core → Core) {k : Nat} (h : k ≠ Reg.last_transition) :
    ((p.onCore sd f).side sd).r.rd k = (f (p.side sd).r).rd k := by obtain ⟨_, _, _, hr⟩ := p.onCore_shape sd f; exact hr k h
@[simp] theorem Plant.onCore_side_other (p : Plant) (sd : SideId) (f : Core → Core) :
    (p.onCore sd f).side sd.other = p.side sd.other := p.onSide_side_other sd _
@[simp] theorem Plant.onCore_side_other' (p : Plant) (sd : SideId) (f : Core → Core) :
    (p.onCore sd.other f).side sd = p.side sd := p.onSide_side_other' sd _
@[simp] theorem Plant.onCore_dev_rd (p : Plant) (sd : SideId) (f : Core → Core) (k : Nat) :
    (p.onCore sd f).dev.rd k = p.dev.rd k := p.onSide_dev_rd sd _ k
@[simp] theorem Plant.onCore_spm (p : Plant) (sd : SideId) (f : Core → Core) :
    ((p.onCore sd f).side sd).spm = (p.side sd).spm := p.onSide_spm sd _
@[simp] theorem Plant.onCore_dram (p : Plant) (sd : SideId) (f : Core → Core) :
    ((p.onCore sd f).side sd).dram = (p.side sd).dram := p.onSide_dram sd _

@[simp] theorem Plant.onCore_id (p : Plant) (sd : SideId) (f : Core → Core) :
    ((p.onCore sd f).side sd).r.id = (f (p.side sd).r).id := by obtain ⟨_, _, h, _⟩ := p.onCore_shape sd f; rw [h]
@[simp] theorem Plant.onCore_tabs (p : Plant) (sd : SideId) (f : Core → Core) :
    ((p.onCore sd f).side sd).r.tabs = (f (p.side sd).r).tabs := by obtain ⟨_, _, h, _⟩ := p.onCore_shape sd f; rw [h]
@[simp] theorem Plant.onCore_marks (p : Plant) (sd : SideId) (f : Core → Core) :
    ((p.onCore sd f).side sd).r.marks = (f (p.side sd).r).marks := by obtain ⟨_, _, h, _⟩ := p.onCore_shape sd f; rw [h]
@[simp] theorem Plant.onCore_released (p : Plant) (sd : SideId) (f : Core → Core) :
    ((p.onCore sd f).side sd).r.released = (f (p.side sd).r).released := by obtain ⟨_, _, h, _⟩ := p.onCore_shape sd f; rw [h]
@[simp] theorem Plant.onCore_now (p : Plant) (sd : SideId) (f : Core → Core) :
    ((p.onCore sd f).side sd).r.now = (f (p.side sd).r).now := by obtain ⟨_, _, h, _⟩ := p.onCore_shape sd f; rw [h]
@[simp] theorem Plant.onCore_free (p : Plant) (sd : SideId) (f : Core → Core) :
    ((p.onCore sd f).side sd).r.free = (f (p.side sd).r).free := by obtain ⟨_, _, h, _⟩ := p.onCore_shape sd f; rw [h]
@[simp] theorem Plant.onCore_doms (p : Plant) (sd : SideId) (f : Core → Core) :
    ((p.onCore sd f).side sd).r.doms = (f (p.side sd).r).doms := by obtain ⟨_, _, h, _⟩ := p.onCore_shape sd f; rw [h]
@[simp] theorem Plant.onCore_ppsOut (p : Plant) (sd : SideId) (f : Core → Core) :
    ((p.onCore sd f).side sd).r.ppsOut = (f (p.side sd).r).ppsOut := by obtain ⟨_, _, h, _⟩ := p.onCore_shape sd f; rw [h]
@[simp] theorem Plant.onCore_ppsEnd (p : Plant) (sd : SideId) (f : Core → Core) :
    ((p.onCore sd f).side sd).r.ppsEnd = (f (p.side sd).r).ppsEnd := by obtain ⟨_, _, h, _⟩ := p.onCore_shape sd f; rw [h]
@[simp] theorem Plant.onCore_ppsPrev (p : Plant) (sd : SideId) (f : Core → Core) :
    ((p.onCore sd f).side sd).r.ppsPrev = (f (p.side sd).r).ppsPrev := by obtain ⟨_, _, h, _⟩ := p.onCore_shape sd f; rw [h]
@[simp] theorem Plant.onCore_ppsBase (p : Plant) (sd : SideId) (f : Core → Core) :
    ((p.onCore sd f).side sd).r.ppsBase = (f (p.side sd).r).ppsBase := by obtain ⟨_, _, h, _⟩ := p.onCore_shape sd f; rw [h]
@[simp] theorem Plant.onCore_faultQ (p : Plant) (sd : SideId) (f : Core → Core) :
    ((p.onCore sd f).side sd).r.faultQ = (f (p.side sd).r).faultQ := by obtain ⟨_, _, h, _⟩ := p.onCore_shape sd f; rw [h]
@[simp] theorem Plant.onCore_rates (p : Plant) (sd : SideId) (f : Core → Core) :
    ((p.onCore sd f).side sd).r.rates = (f (p.side sd).r).rates := by obtain ⟨_, _, h, _⟩ := p.onCore_shape sd f; rw [h]
@[simp] theorem Plant.onCore_out (p : Plant) (sd : SideId) (f : Core → Core) :
    ((p.onCore sd f).side sd).r.out = (f (p.side sd).r).out := by obtain ⟨_, _, h, _⟩ := p.onCore_shape sd f; rw [h]
@[simp] theorem Plant.onCore_ports (p : Plant) (sd : SideId) (f : Core → Core) :
    ((p.onCore sd f).side sd).r.ports = (f (p.side sd).r).ports := by obtain ⟨_, _, h, _⟩ := p.onCore_shape sd f; rw [h]
@[simp] theorem Plant.onCore_rx (p : Plant) (sd : SideId) (f : Core → Core) :
    ((p.onCore sd f).side sd).r.rx = (f (p.side sd).r).rx := by obtain ⟨_, _, h, _⟩ := p.onCore_shape sd f; rw [h]
@[simp] theorem Plant.onCore_frameNo (p : Plant) (sd : SideId) (f : Core → Core) :
    ((p.onCore sd f).side sd).r.frameNo = (f (p.side sd).r).frameNo := by obtain ⟨_, _, h, _⟩ := p.onCore_shape sd f; rw [h]
@[simp] theorem Plant.onCore_recirc (p : Plant) (sd : SideId) (f : Core → Core) :
    ((p.onCore sd f).side sd).r.recirc = (f (p.side sd).r).recirc := by obtain ⟨_, _, h, _⟩ := p.onCore_shape sd f; rw [h]
@[simp] theorem Plant.onCore_rrPort (p : Plant) (sd : SideId) (f : Core → Core) :
    ((p.onCore sd f).side sd).r.rrPort = (f (p.side sd).r).rrPort := by obtain ⟨_, _, h, _⟩ := p.onCore_shape sd f; rw [h]
@[simp] theorem Plant.onCore_rrVport (p : Plant) (sd : SideId) (f : Core → Core) :
    ((p.onCore sd f).side sd).r.rrVport = (f (p.side sd).r).rrVport := by obtain ⟨_, _, h, _⟩ := p.onCore_shape sd f; rw [h]
@[simp] theorem Plant.onCore_vportWait (p : Plant) (sd : SideId) (f : Core → Core) :
    ((p.onCore sd f).side sd).r.vportWait = (f (p.side sd).r).vportWait := by obtain ⟨_, _, h, _⟩ := p.onCore_shape sd f; rw [h]
@[simp] theorem Plant.onCore_txJobs (p : Plant) (sd : SideId) (f : Core → Core) :
    ((p.onCore sd f).side sd).r.txJobs = (f (p.side sd).r).txJobs := by obtain ⟨_, _, h, _⟩ := p.onCore_shape sd f; rw [h]
@[simp] theorem Plant.onCore_rxJobs (p : Plant) (sd : SideId) (f : Core → Core) :
    ((p.onCore sd f).side sd).r.rxJobs = (f (p.side sd).r).rxJobs := by obtain ⟨_, _, h, _⟩ := p.onCore_shape sd f; rw [h]
@[simp] theorem Plant.onCore_vps (p : Plant) (sd : SideId) (f : Core → Core) :
    ((p.onCore sd f).side sd).r.vps = (f (p.side sd).r).vps := by obtain ⟨_, _, h, _⟩ := p.onCore_shape sd f; rw [h]
@[simp] theorem Plant.onCore_fns (p : Plant) (sd : SideId) (f : Core → Core) :
    ((p.onCore sd f).side sd).r.fns = (f (p.side sd).r).fns := by obtain ⟨_, _, h, _⟩ := p.onCore_shape sd f; rw [h]
@[simp] theorem Plant.onCore_badgerQ (p : Plant) (sd : SideId) (f : Core → Core) :
    ((p.onCore sd f).side sd).r.badgerQ = (f (p.side sd).r).badgerQ := by obtain ⟨_, _, h, _⟩ := p.onCore_shape sd f; rw [h]
@[simp] theorem Plant.onCore_badgerRun (p : Plant) (sd : SideId) (f : Core → Core) :
    ((p.onCore sd f).side sd).r.badgerRun = (f (p.side sd).r).badgerRun := by obtain ⟨_, _, h, _⟩ := p.onCore_shape sd f; rw [h]
@[simp] theorem Plant.onCore_probes (p : Plant) (sd : SideId) (f : Core → Core) :
    ((p.onCore sd f).side sd).r.probes = (f (p.side sd).r).probes := by obtain ⟨_, _, h, _⟩ := p.onCore_shape sd f; rw [h]
@[simp] theorem Plant.onCore_banksFenced (p : Plant) (sd : SideId) (f : Core → Core) :
    ((p.onCore sd f).side sd).r.banksFenced = (f (p.side sd).r).banksFenced := by obtain ⟨_, _, h, _⟩ := p.onCore_shape sd f; rw [h]
@[simp] theorem Plant.onCore_learnQ (p : Plant) (sd : SideId) (f : Core → Core) :
    ((p.onCore sd f).side sd).r.learnQ = (f (p.side sd).r).learnQ := by obtain ⟨_, _, h, _⟩ := p.onCore_shape sd f; rw [h]
@[simp] theorem Plant.onCore_sendQ (p : Plant) (sd : SideId) (f : Core → Core) :
    ((p.onCore sd f).side sd).r.sendQ = (f (p.side sd).r).sendQ := by obtain ⟨_, _, h, _⟩ := p.onCore_shape sd f; rw [h]
@[simp] theorem Plant.onCore_lastMsg (p : Plant) (sd : SideId) (f : Core → Core) :
    ((p.onCore sd f).side sd).r.lastMsg = (f (p.side sd).r).lastMsg := by obtain ⟨_, _, h, _⟩ := p.onCore_shape sd f; rw [h]
@[simp] theorem Plant.onCore_learnSeq (p : Plant) (sd : SideId) (f : Core → Core) :
    ((p.onCore sd f).side sd).r.learnSeq = (f (p.side sd).r).learnSeq := by obtain ⟨_, _, h, _⟩ := p.onCore_shape sd f; rw [h]
@[simp] theorem Plant.onCore_rehashQ (p : Plant) (sd : SideId) (f : Core → Core) :
    ((p.onCore sd f).side sd).r.rehashQ = (f (p.side sd).r).rehashQ := by obtain ⟨_, _, h, _⟩ := p.onCore_shape sd f; rw [h]
@[simp] theorem Plant.onCore_crossRecs (p : Plant) (sd : SideId) (f : Core → Core) :
    ((p.onCore sd f).side sd).r.crossRecs = (f (p.side sd).r).crossRecs := by obtain ⟨_, _, h, _⟩ := p.onCore_shape sd f; rw [h]
@[simp] theorem Plant.onCore_learnRx (p : Plant) (sd : SideId) (f : Core → Core) :
    ((p.onCore sd f).side sd).r.learnRx = (f (p.side sd).r).learnRx := by obtain ⟨_, _, h, _⟩ := p.onCore_shape sd f; rw [h]
@[simp] theorem Plant.onCore_flipTarget (p : Plant) (sd : SideId) (f : Core → Core) :
    ((p.onCore sd f).side sd).r.flipTarget = (f (p.side sd).r).flipTarget := by obtain ⟨_, _, h, _⟩ := p.onCore_shape sd f; rw [h]
@[simp] theorem Plant.onCore_flipAt (p : Plant) (sd : SideId) (f : Core → Core) :
    ((p.onCore sd f).side sd).r.flipAt = (f (p.side sd).r).flipAt := by obtain ⟨_, _, h, _⟩ := p.onCore_shape sd f; rw [h]
@[simp] theorem Plant.onCore_flipEff (p : Plant) (sd : SideId) (f : Core → Core) :
    ((p.onCore sd f).side sd).r.flipEff = (f (p.side sd).r).flipEff := by obtain ⟨_, _, h, _⟩ := p.onCore_shape sd f; rw [h]
@[simp] theorem Plant.onCore_copyTo (p : Plant) (sd : SideId) (f : Core → Core) :
    ((p.onCore sd f).side sd).r.copyTo = (f (p.side sd).r).copyTo := by obtain ⟨_, _, h, _⟩ := p.onCore_shape sd f; rw [h]
@[simp] theorem Plant.onCore_frer (p : Plant) (sd : SideId) (f : Core → Core) :
    ((p.onCore sd f).side sd).r.frer = (f (p.side sd).r).frer := by obtain ⟨_, _, h, _⟩ := p.onCore_shape sd f; rw [h]
@[simp] theorem Plant.onCore_gates (p : Plant) (sd : SideId) (f : Core → Core) :
    ((p.onCore sd f).side sd).r.gates = (f (p.side sd).r).gates := by obtain ⟨_, _, h, _⟩ := p.onCore_shape sd f; rw [h]
@[simp] theorem Plant.onCore_meters (p : Plant) (sd : SideId) (f : Core → Core) :
    ((p.onCore sd f).side sd).r.meters = (f (p.side sd).r).meters := by obtain ⟨_, _, h, _⟩ := p.onCore_shape sd f; rw [h]
@[simp] theorem Plant.onCore_mgmtMeter (p : Plant) (sd : SideId) (f : Core → Core) :
    ((p.onCore sd f).side sd).r.mgmtMeter = (f (p.side sd).r).mgmtMeter := by obtain ⟨_, _, h, _⟩ := p.onCore_shape sd f; rw [h]
@[simp] theorem Plant.onCore_sweptAt (p : Plant) (sd : SideId) (f : Core → Core) :
    ((p.onCore sd f).side sd).r.sweptAt = (f (p.side sd).r).sweptAt := by obtain ⟨_, _, h, _⟩ := p.onCore_shape sd f; rw [h]
@[simp] theorem Plant.onCore_shapers (p : Plant) (sd : SideId) (f : Core → Core) :
    ((p.onCore sd f).side sd).r.shapers = (f (p.side sd).r).shapers := by obtain ⟨_, _, h, _⟩ := p.onCore_shape sd f; rw [h]
@[simp] theorem Plant.onCore_copies (p : Plant) (sd : SideId) (f : Core → Core) :
    ((p.onCore sd f).side sd).r.copies = (f (p.side sd).r).copies := by obtain ⟨_, _, h, _⟩ := p.onCore_shape sd f; rw [h]
@[simp] theorem Plant.onCore_copyNo (p : Plant) (sd : SideId) (f : Core → Core) :
    ((p.onCore sd f).side sd).r.copyNo = (f (p.side sd).r).copyNo := by obtain ⟨_, _, h, _⟩ := p.onCore_shape sd f; rw [h]
@[simp] theorem Plant.onCore_spent (p : Plant) (sd : SideId) (f : Core → Core) :
    ((p.onCore sd f).side sd).r.spent = (f (p.side sd).r).spent := by obtain ⟨_, _, h, _⟩ := p.onCore_shape sd f; rw [h]
@[simp] theorem Plant.onCore_middles (p : Plant) (sd : SideId) (f : Core → Core) :
    ((p.onCore sd f).side sd).r.middles = (f (p.side sd).r).middles := by obtain ⟨_, _, h, _⟩ := p.onCore_shape sd f; rw [h]
@[simp] theorem Plant.onCore_middleSlot (p : Plant) (sd : SideId) (f : Core → Core) :
    ((p.onCore sd f).side sd).r.middleSlot = (f (p.side sd).r).middleSlot := by obtain ⟨_, _, h, _⟩ := p.onCore_shape sd f; rw [h]
@[simp] theorem Plant.onCore_returning (p : Plant) (sd : SideId) (f : Core → Core) :
    ((p.onCore sd f).side sd).r.returning = (f (p.side sd).r).returning := by obtain ⟨_, _, h, _⟩ := p.onCore_shape sd f; rw [h]
@[simp] theorem Plant.onCore_arriving (p : Plant) (sd : SideId) (f : Core → Core) :
    ((p.onCore sd f).side sd).r.arriving = (f (p.side sd).r).arriving := by obtain ⟨_, _, h, _⟩ := p.onCore_shape sd f; rw [h]
@[simp] theorem Plant.onCore_streams (p : Plant) (sd : SideId) (f : Core → Core) :
    ((p.onCore sd f).side sd).r.streams = (f (p.side sd).r).streams := by obtain ⟨_, _, h, _⟩ := p.onCore_shape sd f; rw [h]
@[simp] theorem Plant.onCore_groupSlot (p : Plant) (sd : SideId) (f : Core → Core) :
    ((p.onCore sd f).side sd).r.groupSlot = (f (p.side sd).r).groupSlot := by obtain ⟨_, _, h, _⟩ := p.onCore_shape sd f; rw [h]
@[simp] theorem Plant.onCore_sliceRr (p : Plant) (sd : SideId) (f : Core → Core) :
    ((p.onCore sd f).side sd).r.sliceRr = (f (p.side sd).r).sliceRr := by obtain ⟨_, _, h, _⟩ := p.onCore_shape sd f; rw [h]
@[simp] theorem Plant.onCore_queues (p : Plant) (sd : SideId) (f : Core → Core) :
    ((p.onCore sd f).side sd).r.queues = (f (p.side sd).r).queues := by obtain ⟨_, _, h, _⟩ := p.onCore_shape sd f; rw [h]
@[simp] theorem Plant.onCore_xoffs (p : Plant) (sd : SideId) (f : Core → Core) :
    ((p.onCore sd f).side sd).r.xoffs = (f (p.side sd).r).xoffs := by obtain ⟨_, _, h, _⟩ := p.onCore_shape sd f; rw [h]
@[simp] theorem Plant.onCore_mgmtWait (p : Plant) (sd : SideId) (f : Core → Core) :
    ((p.onCore sd f).side sd).r.mgmtWait = (f (p.side sd).r).mgmtWait := by obtain ⟨_, _, h, _⟩ := p.onCore_shape sd f; rw [h]
@[simp] theorem Plant.onCore_crossOut (p : Plant) (sd : SideId) (f : Core → Core) :
    ((p.onCore sd f).side sd).r.crossOut = (f (p.side sd).r).crossOut := by obtain ⟨_, _, h, _⟩ := p.onCore_shape sd f; rw [h]
@[simp] theorem Plant.onCore_crossIn (p : Plant) (sd : SideId) (f : Core → Core) :
    ((p.onCore sd f).side sd).r.crossIn = (f (p.side sd).r).crossIn := by obtain ⟨_, _, h, _⟩ := p.onCore_shape sd f; rw [h]
@[simp] theorem Plant.onCore_crossRr (p : Plant) (sd : SideId) (f : Core → Core) :
    ((p.onCore sd f).side sd).r.crossRr = (f (p.side sd).r).crossRr := by obtain ⟨_, _, h, _⟩ := p.onCore_shape sd f; rw [h]
@[simp] theorem Plant.onCore_crossMap (p : Plant) (sd : SideId) (f : Core → Core) :
    ((p.onCore sd f).side sd).r.crossMap = (f (p.side sd).r).crossMap := by obtain ⟨_, _, h, _⟩ := p.onCore_shape sd f; rw [h]
@[simp] theorem Plant.onCore_crossHold (p : Plant) (sd : SideId) (f : Core → Core) :
    ((p.onCore sd f).side sd).r.crossHold = (f (p.side sd).r).crossHold := by obtain ⟨_, _, h, _⟩ := p.onCore_shape sd f; rw [h]
@[simp] theorem Plant.onCore_vportBind (p : Plant) (sd : SideId) (f : Core → Core) :
    ((p.onCore sd f).side sd).r.vportBind = (f (p.side sd).r).vportBind := by obtain ⟨_, _, h, _⟩ := p.onCore_shape sd f; rw [h]
@[simp] theorem Plant.onCore_pairs (p : Plant) (sd : SideId) (f : Core → Core) :
    ((p.onCore sd f).side sd).r.pairs = (f (p.side sd).r).pairs := by obtain ⟨_, _, h, _⟩ := p.onCore_shape sd f; rw [h]
@[simp] theorem Plant.onCore_pairsWritten (p : Plant) (sd : SideId) (f : Core → Core) :
    ((p.onCore sd f).side sd).r.pairsWritten = (f (p.side sd).r).pairsWritten := by obtain ⟨_, _, h, _⟩ := p.onCore_shape sd f; rw [h]
@[simp] theorem Plant.onCore_halted (p : Plant) (sd : SideId) (f : Core → Core) :
    ((p.onCore sd f).side sd).r.halted = (f (p.side sd).r).halted := by obtain ⟨_, _, h, _⟩ := p.onCore_shape sd f; rw [h]
@[simp] theorem Plant.onCore_coresFenced (p : Plant) (sd : SideId) (f : Core → Core) :
    ((p.onCore sd f).side sd).r.coresFenced = (f (p.side sd).r).coresFenced := by obtain ⟨_, _, h, _⟩ := p.onCore_shape sd f; rw [h]
@[simp] theorem Plant.onCore_coreStart (p : Plant) (sd : SideId) (f : Core → Core) :
    ((p.onCore sd f).side sd).r.coreStart = (f (p.side sd).r).coreStart := by obtain ⟨_, _, h, _⟩ := p.onCore_shape sd f; rw [h]
@[simp] theorem Plant.onCore_imsic (p : Plant) (sd : SideId) (f : Core → Core) :
    ((p.onCore sd f).side sd).r.imsic = (f (p.side sd).r).imsic := by obtain ⟨_, _, h, _⟩ := p.onCore_shape sd f; rw [h]
@[simp] theorem Plant.onCore_vpSlopes (p : Plant) (sd : SideId) (f : Core → Core) :
    ((p.onCore sd f).side sd).r.vpSlopes = (f (p.side sd).r).vpSlopes := by obtain ⟨_, _, h, _⟩ := p.onCore_shape sd f; rw [h]
@[simp] theorem Plant.onCore_stampsBack (p : Plant) (sd : SideId) (f : Core → Core) :
    ((p.onCore sd f).side sd).r.stampsBack = (f (p.side sd).r).stampsBack := by obtain ⟨_, _, h, _⟩ := p.onCore_shape sd f; rw [h]
@[simp] theorem Plant.onCore_deaf (p : Plant) (sd : SideId) (f : Core → Core) :
    ((p.onCore sd f).side sd).r.deaf = (f (p.side sd).r).deaf := by obtain ⟨_, _, h, _⟩ := p.onCore_shape sd f; rw [h]
@[simp] theorem Plant.onCore_spmPointer (p : Plant) (sd : SideId) (f : Core → Core) :
    ((p.onCore sd f).side sd).r.spmPointer = (f (p.side sd).r).spmPointer := by obtain ⟨_, _, h, _⟩ := p.onCore_shape sd f; rw [h]
@[simp] theorem Plant.onCore_spmWait (p : Plant) (sd : SideId) (f : Core → Core) :
    ((p.onCore sd f).side sd).r.spmWait = (f (p.side sd).r).spmWait := by obtain ⟨_, _, h, _⟩ := p.onCore_shape sd f; rw [h]
@[simp] theorem Plant.onCore_spmMerging (p : Plant) (sd : SideId) (f : Core → Core) :
    ((p.onCore sd f).side sd).r.spmMerging = (f (p.side sd).r).spmMerging := by obtain ⟨_, _, h, _⟩ := p.onCore_shape sd f; rw [h]
@[simp] theorem Plant.onCore_spmRes (p : Plant) (sd : SideId) (f : Core → Core) :
    ((p.onCore sd f).side sd).r.spmRes = (f (p.side sd).r).spmRes := by obtain ⟨_, _, h, _⟩ := p.onCore_shape sd f; rw [h]
@[simp] theorem Plant.onCore_spmBad (p : Plant) (sd : SideId) (f : Core → Core) :
    ((p.onCore sd f).side sd).r.spmBad = (f (p.side sd).r).spmBad := by obtain ⟨_, _, h, _⟩ := p.onCore_shape sd f; rw [h]
@[simp] theorem Plant.onCore_dm (p : Plant) (sd : SideId) (f : Core → Core) :
    ((p.onCore sd f).side sd).r.dm = (f (p.side sd).r).dm := by obtain ⟨_, _, h, _⟩ := p.onCore_shape sd f; rw [h]
@[simp] theorem Plant.onCore_poolUsed (p : Plant) (sd : SideId) (f : Core → Core) :
    ((p.onCore sd f).side sd).r.poolUsed = (f (p.side sd).r).poolUsed := by obtain ⟨_, _, h, _⟩ := p.onCore_shape sd f; rw [h]
@[simp] theorem Plant.onCore_poolTags (p : Plant) (sd : SideId) (f : Core → Core) :
    ((p.onCore sd f).side sd).r.poolTags = (f (p.side sd).r).poolTags := by obtain ⟨_, _, h, _⟩ := p.onCore_shape sd f; rw [h]
@[simp] theorem Plant.onCore_lastLane (p : Plant) (sd : SideId) (f : Core → Core) :
    ((p.onCore sd f).side sd).r.lastLane = (f (p.side sd).r).lastLane := by obtain ⟨_, _, h, _⟩ := p.onCore_shape sd f; rw [h]
@[simp] theorem Plant.onCore_reclaimed (p : Plant) (sd : SideId) (f : Core → Core) :
    ((p.onCore sd f).side sd).r.reclaimed = (f (p.side sd).r).reclaimed := by obtain ⟨_, _, h, _⟩ := p.onCore_shape sd f; rw [h]
@[simp] theorem Plant.onCore_reclaiming (p : Plant) (sd : SideId) (f : Core → Core) :
    ((p.onCore sd f).side sd).r.reclaiming = (f (p.side sd).r).reclaiming := by obtain ⟨_, _, h, _⟩ := p.onCore_shape sd f; rw [h]
@[simp] theorem Plant.onCore_lastErrs (p : Plant) (sd : SideId) (f : Core → Core) :
    ((p.onCore sd f).side sd).r.lastErrs = (f (p.side sd).r).lastErrs := by obtain ⟨_, _, h, _⟩ := p.onCore_shape sd f; rw [h]
@[simp] theorem Plant.onCore_wakePend (p : Plant) (sd : SideId) (f : Core → Core) :
    ((p.onCore sd f).side sd).r.wakePend = (f (p.side sd).r).wakePend := by obtain ⟨_, _, h, _⟩ := p.onCore_shape sd f; rw [h]
@[simp] theorem Plant.onCore_slotBase (p : Plant) (sd : SideId) (f : Core → Core) :
    ((p.onCore sd f).side sd).r.slotBase = (f (p.side sd).r).slotBase := by obtain ⟨_, _, h, _⟩ := p.onCore_shape sd f; rw [h]
@[simp] theorem Plant.onCore_pllTry (p : Plant) (sd : SideId) (f : Core → Core) :
    ((p.onCore sd f).side sd).r.pllTry = (f (p.side sd).r).pllTry := by obtain ⟨_, _, h, _⟩ := p.onCore_shape sd f; rw [h]
@[simp] theorem Plant.onCore_pllBad (p : Plant) (sd : SideId) (f : Core → Core) :
    ((p.onCore sd f).side sd).r.pllBad = (f (p.side sd).r).pllBad := by obtain ⟨_, _, h, _⟩ := p.onCore_shape sd f; rw [h]
@[simp] theorem Plant.onCore_entryStep (p : Plant) (sd : SideId) (f : Core → Core) :
    ((p.onCore sd f).side sd).r.entryStep = (f (p.side sd).r).entryStep := by obtain ⟨_, _, h, _⟩ := p.onCore_shape sd f; rw [h]
@[simp] theorem Plant.onCore_entryAt (p : Plant) (sd : SideId) (f : Core → Core) :
    ((p.onCore sd f).side sd).r.entryAt = (f (p.side sd).r).entryAt := by obtain ⟨_, _, h, _⟩ := p.onCore_shape sd f; rw [h]
@[simp] theorem Plant.onCore_inReset (p : Plant) (sd : SideId) (f : Core → Core) :
    ((p.onCore sd f).side sd).r.inReset = (f (p.side sd).r).inReset := by obtain ⟨_, _, h, _⟩ := p.onCore_shape sd f; rw [h]
@[simp] theorem Plant.onCore_fieldWakeId (p : Plant) (sd : SideId) (f : Core → Core) :
    ((p.onCore sd f).side sd).r.fieldWakeId = (f (p.side sd).r).fieldWakeId := by obtain ⟨_, _, h, _⟩ := p.onCore_shape sd f; rw [h]
@[simp] theorem Plant.onCore_holds (p : Plant) (sd : SideId) (f : Core → Core) :
    ((p.onCore sd f).side sd).r.holds = (f (p.side sd).r).holds := by obtain ⟨_, _, h, _⟩ := p.onCore_shape sd f; rw [h]
@[simp] theorem Plant.onCore_fences (p : Plant) (sd : SideId) (f : Core → Core) :
    ((p.onCore sd f).side sd).r.fences = (f (p.side sd).r).fences := by obtain ⟨_, _, h, _⟩ := p.onCore_shape sd f; rw [h]
@[simp] theorem Plant.onCore_qLost (p : Plant) (sd : SideId) (f : Core → Core) :
    ((p.onCore sd f).side sd).r.qLost = (f (p.side sd).r).qLost := by obtain ⟨_, _, h, _⟩ := p.onCore_shape sd f; rw [h]
@[simp] theorem Plant.onCore_pairCauses (p : Plant) (sd : SideId) (f : Core → Core) :
    ((p.onCore sd f).side sd).r.pairCauses = (f (p.side sd).r).pairCauses := by obtain ⟨_, _, h, _⟩ := p.onCore_shape sd f; rw [h]
@[simp] theorem Plant.onCore_conds (p : Plant) (sd : SideId) (f : Core → Core) :
    ((p.onCore sd f).side sd).r.conds = (f (p.side sd).r).conds := by obtain ⟨_, _, h, _⟩ := p.onCore_shape sd f; rw [h]
@[simp] theorem Plant.onCore_hpm (p : Plant) (sd : SideId) (f : Core → Core) :
    ((p.onCore sd f).side sd).r.hpm = (f (p.side sd).r).hpm := by obtain ⟨_, _, h, _⟩ := p.onCore_shape sd f; rw [h]
@[simp] theorem Plant.onCore_sampAt (p : Plant) (sd : SideId) (f : Core → Core) :
    ((p.onCore sd f).side sd).r.sampAt = (f (p.side sd).r).sampAt := by obtain ⟨_, _, h, _⟩ := p.onCore_shape sd f; rw [h]
@[simp] theorem Plant.onCore_sampSent (p : Plant) (sd : SideId) (f : Core → Core) :
    ((p.onCore sd f).side sd).r.sampSent = (f (p.side sd).r).sampSent := by obtain ⟨_, _, h, _⟩ := p.onCore_shape sd f; rw [h]
@[simp] theorem Plant.onCore_sampLost (p : Plant) (sd : SideId) (f : Core → Core) :
    ((p.onCore sd f).side sd).r.sampLost = (f (p.side sd).r).sampLost := by obtain ⟨_, _, h, _⟩ := p.onCore_shape sd f; rw [h]
@[simp] theorem Plant.onCore_snapLatch (p : Plant) (sd : SideId) (f : Core → Core) :
    ((p.onCore sd f).side sd).r.snapLatch = (f (p.side sd).r).snapLatch := by obtain ⟨_, _, h, _⟩ := p.onCore_shape sd f; rw [h]
@[simp] theorem Plant.onCore_snapImage (p : Plant) (sd : SideId) (f : Core → Core) :
    ((p.onCore sd f).side sd).r.snapImage = (f (p.side sd).r).snapImage := by obtain ⟨_, _, h, _⟩ := p.onCore_shape sd f; rw [h]
@[simp] theorem Plant.onCore_test (p : Plant) (sd : SideId) (f : Core → Core) :
    ((p.onCore sd f).side sd).r.test = (f (p.side sd).r).test := by obtain ⟨_, _, h, _⟩ := p.onCore_shape sd f; rw [h]
@[simp] theorem Plant.onCore_tapStop (p : Plant) (sd : SideId) (f : Core → Core) :
    ((p.onCore sd f).side sd).r.tapStop = (f (p.side sd).r).tapStop := by obtain ⟨_, _, h, _⟩ := p.onCore_shape sd f; rw [h]
@[simp] theorem Plant.onCore_absentPorts (p : Plant) (sd : SideId) (f : Core → Core) :
    ((p.onCore sd f).side sd).r.absentPorts = (f (p.side sd).r).absentPorts := by obtain ⟨_, _, h, _⟩ := p.onCore_shape sd f; rw [h]
@[simp] theorem Plant.onCore_busOff (p : Plant) (sd : SideId) (f : Core → Core) :
    ((p.onCore sd f).side sd).r.busOff = (f (p.side sd).r).busOff := by obtain ⟨_, _, h, _⟩ := p.onCore_shape sd f; rw [h]

@[simp] theorem Plant.onSide_dev_porst (p : Plant) (sd : SideId) (f : Side → Side) :
    (p.onSide sd f).dev.porst = p.dev.porst := by obtain ⟨_, _, _, h⟩ := p.onSide_rest sd f; rw [h]
@[simp] theorem Plant.onCore_dev_porst (p : Plant) (sd : SideId) (f : Core → Core) :
    (p.onCore sd f).dev.porst = p.dev.porst := p.onSide_dev_porst sd _
@[simp] theorem Plant.onSide_dev_testMode (p : Plant) (sd : SideId) (f : Side → Side) :
    (p.onSide sd f).dev.testMode = p.dev.testMode := by obtain ⟨_, _, _, h⟩ := p.onSide_rest sd f; rw [h]
@[simp] theorem Plant.onCore_dev_testMode (p : Plant) (sd : SideId) (f : Core → Core) :
    (p.onCore sd f).dev.testMode = p.dev.testMode := p.onSide_dev_testMode sd _
@[simp] theorem Plant.onSide_dev_modeWritten (p : Plant) (sd : SideId) (f : Side → Side) :
    (p.onSide sd f).dev.modeWritten = p.dev.modeWritten := by obtain ⟨_, _, _, h⟩ := p.onSide_rest sd f; rw [h]
@[simp] theorem Plant.onCore_dev_modeWritten (p : Plant) (sd : SideId) (f : Core → Core) :
    (p.onCore sd f).dev.modeWritten = p.dev.modeWritten := p.onSide_dev_modeWritten sd _
@[simp] theorem Plant.onSide_dev_owlDown (p : Plant) (sd : SideId) (f : Side → Side) :
    (p.onSide sd f).dev.owlDown = p.dev.owlDown := by obtain ⟨_, _, _, h⟩ := p.onSide_rest sd f; rw [h]
@[simp] theorem Plant.onCore_dev_owlDown (p : Plant) (sd : SideId) (f : Core → Core) :
    (p.onCore sd f).dev.owlDown = p.dev.owlDown := p.onSide_dev_owlDown sd _
@[simp] theorem Plant.onSide_dev_aon (p : Plant) (sd : SideId) (f : Side → Side) :
    (p.onSide sd f).dev.aon = p.dev.aon := by obtain ⟨_, _, _, h⟩ := p.onSide_rest sd f; rw [h]
@[simp] theorem Plant.onCore_dev_aon (p : Plant) (sd : SideId) (f : Core → Core) :
    (p.onCore sd f).dev.aon = p.dev.aon := p.onSide_dev_aon sd _
@[simp] theorem Plant.onSide_dev_free (p : Plant) (sd : SideId) (f : Side → Side) :
    (p.onSide sd f).dev.free = p.dev.free := by obtain ⟨_, _, _, h⟩ := p.onSide_rest sd f; rw [h]
@[simp] theorem Plant.onCore_dev_free (p : Plant) (sd : SideId) (f : Core → Core) :
    (p.onCore sd f).dev.free = p.dev.free := p.onSide_dev_free sd _
@[simp] theorem Plant.onSide_dev_stateLive (p : Plant) (sd : SideId) (f : Side → Side) :
    (p.onSide sd f).dev.stateLive = p.dev.stateLive := by obtain ⟨_, _, _, h⟩ := p.onSide_rest sd f; rw [h]
@[simp] theorem Plant.onCore_dev_stateLive (p : Plant) (sd : SideId) (f : Core → Core) :
    (p.onCore sd f).dev.stateLive = p.dev.stateLive := p.onSide_dev_stateLive sd _
@[simp] theorem Plant.onSide_dev_holds (p : Plant) (sd : SideId) (f : Side → Side) :
    (p.onSide sd f).dev.holds = p.dev.holds := by obtain ⟨_, _, _, h⟩ := p.onSide_rest sd f; rw [h]
@[simp] theorem Plant.onCore_dev_holds (p : Plant) (sd : SideId) (f : Core → Core) :
    (p.onCore sd f).dev.holds = p.dev.holds := p.onSide_dev_holds sd _
@[simp] theorem Plant.onSide_dev_rates (p : Plant) (sd : SideId) (f : Side → Side) :
    (p.onSide sd f).dev.rates = p.dev.rates := by obtain ⟨_, _, _, h⟩ := p.onSide_rest sd f; rw [h]
@[simp] theorem Plant.onCore_dev_rates (p : Plant) (sd : SideId) (f : Core → Core) :
    (p.onCore sd f).dev.rates = p.dev.rates := p.onSide_dev_rates sd _
@[simp] theorem Plant.onSide_dev_logSeq (p : Plant) (sd : SideId) (f : Side → Side) :
    (p.onSide sd f).dev.logSeq = p.dev.logSeq := by obtain ⟨_, _, _, h⟩ := p.onSide_rest sd f; rw [h]
@[simp] theorem Plant.onCore_dev_logSeq (p : Plant) (sd : SideId) (f : Core → Core) :
    (p.onCore sd f).dev.logSeq = p.dev.logSeq := p.onSide_dev_logSeq sd _
@[simp] theorem Plant.onSide_dev_fuses (p : Plant) (sd : SideId) (f : Side → Side) :
    (p.onSide sd f).dev.fuses = p.dev.fuses := by obtain ⟨_, _, _, h⟩ := p.onSide_rest sd f; rw [h]
@[simp] theorem Plant.onCore_dev_fuses (p : Plant) (sd : SideId) (f : Core → Core) :
    (p.onCore sd f).dev.fuses = p.dev.fuses := p.onSide_dev_fuses sd _
@[simp] theorem Plant.onSide_dev_flash (p : Plant) (sd : SideId) (f : Side → Side) :
    (p.onSide sd f).dev.flash = p.dev.flash := by obtain ⟨_, _, _, h⟩ := p.onSide_rest sd f; rw [h]
@[simp] theorem Plant.onCore_dev_flash (p : Plant) (sd : SideId) (f : Core → Core) :
    (p.onCore sd f).dev.flash = p.dev.flash := p.onSide_dev_flash sd _
@[simp] theorem Plant.onSide_dev_bootPhase (p : Plant) (sd : SideId) (f : Side → Side) :
    (p.onSide sd f).dev.bootPhase = p.dev.bootPhase := by obtain ⟨_, _, _, h⟩ := p.onSide_rest sd f; rw [h]
@[simp] theorem Plant.onCore_dev_bootPhase (p : Plant) (sd : SideId) (f : Core → Core) :
    (p.onCore sd f).dev.bootPhase = p.dev.bootPhase := p.onSide_dev_bootPhase sd _
@[simp] theorem Plant.onSide_dev_bootTried (p : Plant) (sd : SideId) (f : Side → Side) :
    (p.onSide sd f).dev.bootTried = p.dev.bootTried := by obtain ⟨_, _, _, h⟩ := p.onSide_rest sd f; rw [h]
@[simp] theorem Plant.onCore_dev_bootTried (p : Plant) (sd : SideId) (f : Core → Core) :
    (p.onCore sd f).dev.bootTried = p.dev.bootTried := p.onSide_dev_bootTried sd _
@[simp] theorem Plant.onSide_dev_bootSource (p : Plant) (sd : SideId) (f : Side → Side) :
    (p.onSide sd f).dev.bootSource = p.dev.bootSource := by obtain ⟨_, _, _, h⟩ := p.onSide_rest sd f; rw [h]
@[simp] theorem Plant.onCore_dev_bootSource (p : Plant) (sd : SideId) (f : Core → Core) :
    (p.onCore sd f).dev.bootSource = p.dev.bootSource := p.onSide_dev_bootSource sd _
@[simp] theorem Plant.onSide_dev_bootBase (p : Plant) (sd : SideId) (f : Side → Side) :
    (p.onSide sd f).dev.bootBase = p.dev.bootBase := by obtain ⟨_, _, _, h⟩ := p.onSide_rest sd f; rw [h]
@[simp] theorem Plant.onCore_dev_bootBase (p : Plant) (sd : SideId) (f : Core → Core) :
    (p.onCore sd f).dev.bootBase = p.dev.bootBase := p.onSide_dev_bootBase sd _
@[simp] theorem Plant.onSide_dev_manifest (p : Plant) (sd : SideId) (f : Side → Side) :
    (p.onSide sd f).dev.manifest = p.dev.manifest := by obtain ⟨_, _, _, h⟩ := p.onSide_rest sd f; rw [h]
@[simp] theorem Plant.onCore_dev_manifest (p : Plant) (sd : SideId) (f : Core → Core) :
    (p.onCore sd f).dev.manifest = p.dev.manifest := p.onSide_dev_manifest sd _
@[simp] theorem Plant.onSide_dev_programming (p : Plant) (sd : SideId) (f : Side → Side) :
    (p.onSide sd f).dev.programming = p.dev.programming := by obtain ⟨_, _, _, h⟩ := p.onSide_rest sd f; rw [h]
@[simp] theorem Plant.onCore_dev_programming (p : Plant) (sd : SideId) (f : Core → Core) :
    (p.onCore sd f).dev.programming = p.dev.programming := p.onSide_dev_programming sd _
@[simp] theorem Plant.onSide_dev_stagedLen (p : Plant) (sd : SideId) (f : Side → Side) :
    (p.onSide sd f).dev.stagedLen = p.dev.stagedLen := by obtain ⟨_, _, _, h⟩ := p.onSide_rest sd f; rw [h]
@[simp] theorem Plant.onCore_dev_stagedLen (p : Plant) (sd : SideId) (f : Core → Core) :
    (p.onCore sd f).dev.stagedLen = p.dev.stagedLen := p.onSide_dev_stagedLen sd _
@[simp] theorem Plant.onSide_dev_fuseFail (p : Plant) (sd : SideId) (f : Side → Side) :
    (p.onSide sd f).dev.fuseFail = p.dev.fuseFail := by obtain ⟨_, _, _, h⟩ := p.onSide_rest sd f; rw [h]
@[simp] theorem Plant.onCore_dev_fuseFail (p : Plant) (sd : SideId) (f : Core → Core) :
    (p.onCore sd f).dev.fuseFail = p.dev.fuseFail := p.onSide_dev_fuseFail sd _
@[simp] theorem Plant.onSide_dev_bootDead (p : Plant) (sd : SideId) (f : Side → Side) :
    (p.onSide sd f).dev.bootDead = p.dev.bootDead := by obtain ⟨_, _, _, h⟩ := p.onSide_rest sd f; rw [h]
@[simp] theorem Plant.onCore_dev_bootDead (p : Plant) (sd : SideId) (f : Core → Core) :
    (p.onCore sd f).dev.bootDead = p.dev.bootDead := p.onSide_dev_bootDead sd _
@[simp] theorem Plant.onSide_dev_logActive (p : Plant) (sd : SideId) (f : Side → Side) :
    (p.onSide sd f).dev.logActive = p.dev.logActive := by obtain ⟨_, _, _, h⟩ := p.onSide_rest sd f; rw [h]
@[simp] theorem Plant.onCore_dev_logActive (p : Plant) (sd : SideId) (f : Core → Core) :
    (p.onCore sd f).dev.logActive = p.dev.logActive := p.onSide_dev_logActive sd _
@[simp] theorem Plant.onSide_dev_pend (p : Plant) (sd : SideId) (f : Side → Side) :
    (p.onSide sd f).dev.pend = p.dev.pend := by obtain ⟨_, _, _, h⟩ := p.onSide_rest sd f; rw [h]
@[simp] theorem Plant.onCore_dev_pend (p : Plant) (sd : SideId) (f : Core → Core) :
    (p.onCore sd f).dev.pend = p.dev.pend := p.onSide_dev_pend sd _
@[simp] theorem Plant.onSide_dev_snaps (p : Plant) (sd : SideId) (f : Side → Side) :
    (p.onSide sd f).dev.snaps = p.dev.snaps := by obtain ⟨_, _, _, h⟩ := p.onSide_rest sd f; rw [h]
@[simp] theorem Plant.onCore_dev_snaps (p : Plant) (sd : SideId) (f : Core → Core) :
    (p.onCore sd f).dev.snaps = p.dev.snaps := p.onSide_dev_snaps sd _
@[simp] theorem Plant.onSide_dev_xfers (p : Plant) (sd : SideId) (f : Side → Side) :
    (p.onSide sd f).dev.xfers = p.dev.xfers := by obtain ⟨_, _, _, h⟩ := p.onSide_rest sd f; rw [h]
@[simp] theorem Plant.onCore_dev_xfers (p : Plant) (sd : SideId) (f : Core → Core) :
    (p.onCore sd f).dev.xfers = p.dev.xfers := p.onSide_dev_xfers sd _
@[simp] theorem Plant.onSide_dev_stage (p : Plant) (sd : SideId) (f : Side → Side) :
    (p.onSide sd f).dev.stage = p.dev.stage := by obtain ⟨_, _, _, h⟩ := p.onSide_rest sd f; rw [h]
@[simp] theorem Plant.onCore_dev_stage (p : Plant) (sd : SideId) (f : Core → Core) :
    (p.onCore sd f).dev.stage = p.dev.stage := p.onSide_dev_stage sd _
@[simp] theorem Plant.onSide_dev_bundleAt (p : Plant) (sd : SideId) (f : Side → Side) :
    (p.onSide sd f).dev.bundleAt = p.dev.bundleAt := by obtain ⟨_, _, _, h⟩ := p.onSide_rest sd f; rw [h]
@[simp] theorem Plant.onCore_dev_bundleAt (p : Plant) (sd : SideId) (f : Core → Core) :
    (p.onCore sd f).dev.bundleAt = p.dev.bundleAt := p.onSide_dev_bundleAt sd _
@[simp] theorem Plant.onSide_dev_bundleReply (p : Plant) (sd : SideId) (f : Side → Side) :
    (p.onSide sd f).dev.bundleReply = p.dev.bundleReply := by obtain ⟨_, _, _, h⟩ := p.onSide_rest sd f; rw [h]
@[simp] theorem Plant.onCore_dev_bundleReply (p : Plant) (sd : SideId) (f : Core → Core) :
    (p.onCore sd f).dev.bundleReply = p.dev.bundleReply := p.onSide_dev_bundleReply sd _
@[simp] theorem Plant.onSide_dev_bundleSender (p : Plant) (sd : SideId) (f : Side → Side) :
    (p.onSide sd f).dev.bundleSender = p.dev.bundleSender := by obtain ⟨_, _, _, h⟩ := p.onSide_rest sd f; rw [h]
@[simp] theorem Plant.onCore_dev_bundleSender (p : Plant) (sd : SideId) (f : Core → Core) :
    (p.onCore sd f).dev.bundleSender = p.dev.bundleSender := p.onSide_dev_bundleSender sd _
@[simp] theorem Plant.onSide_dev_attestAt (p : Plant) (sd : SideId) (f : Side → Side) :
    (p.onSide sd f).dev.attestAt = p.dev.attestAt := by obtain ⟨_, _, _, h⟩ := p.onSide_rest sd f; rw [h]
@[simp] theorem Plant.onCore_dev_attestAt (p : Plant) (sd : SideId) (f : Core → Core) :
    (p.onCore sd f).dev.attestAt = p.dev.attestAt := p.onSide_dev_attestAt sd _
@[simp] theorem Plant.onSide_dev_attestDone (p : Plant) (sd : SideId) (f : Side → Side) :
    (p.onSide sd f).dev.attestDone = p.dev.attestDone := by obtain ⟨_, _, _, h⟩ := p.onSide_rest sd f; rw [h]
@[simp] theorem Plant.onCore_dev_attestDone (p : Plant) (sd : SideId) (f : Core → Core) :
    (p.onCore sd f).dev.attestDone = p.dev.attestDone := p.onSide_dev_attestDone sd _
@[simp] theorem Plant.onSide_dev_attestReport (p : Plant) (sd : SideId) (f : Side → Side) :
    (p.onSide sd f).dev.attestReport = p.dev.attestReport := by obtain ⟨_, _, _, h⟩ := p.onSide_rest sd f; rw [h]
@[simp] theorem Plant.onCore_dev_attestReport (p : Plant) (sd : SideId) (f : Core → Core) :
    (p.onCore sd f).dev.attestReport = p.dev.attestReport := p.onSide_dev_attestReport sd _
@[simp] theorem Plant.onSide_dev_attestSeen (p : Plant) (sd : SideId) (f : Side → Side) :
    (p.onSide sd f).dev.attestSeen = p.dev.attestSeen := by obtain ⟨_, _, _, h⟩ := p.onSide_rest sd f; rw [h]
@[simp] theorem Plant.onCore_dev_attestSeen (p : Plant) (sd : SideId) (f : Core → Core) :
    (p.onCore sd f).dev.attestSeen = p.dev.attestSeen := p.onSide_dev_attestSeen sd _
@[simp] theorem Plant.onSide_dev_attestFrom (p : Plant) (sd : SideId) (f : Side → Side) :
    (p.onSide sd f).dev.attestFrom = p.dev.attestFrom := by obtain ⟨_, _, _, h⟩ := p.onSide_rest sd f; rw [h]
@[simp] theorem Plant.onCore_dev_attestFrom (p : Plant) (sd : SideId) (f : Core → Core) :
    (p.onCore sd f).dev.attestFrom = p.dev.attestFrom := p.onSide_dev_attestFrom sd _
@[simp] theorem Plant.onSide_dev_pubkey (p : Plant) (sd : SideId) (f : Side → Side) :
    (p.onSide sd f).dev.pubkey = p.dev.pubkey := by obtain ⟨_, _, _, h⟩ := p.onSide_rest sd f; rw [h]
@[simp] theorem Plant.onCore_dev_pubkey (p : Plant) (sd : SideId) (f : Core → Core) :
    (p.onCore sd f).dev.pubkey = p.dev.pubkey := p.onSide_dev_pubkey sd _
@[simp] theorem Plant.onSide_dev_cert (p : Plant) (sd : SideId) (f : Side → Side) :
    (p.onSide sd f).dev.cert = p.dev.cert := by obtain ⟨_, _, _, h⟩ := p.onSide_rest sd f; rw [h]
@[simp] theorem Plant.onCore_dev_cert (p : Plant) (sd : SideId) (f : Core → Core) :
    (p.onCore sd f).dev.cert = p.dev.cert := p.onSide_dev_cert sd _
@[simp] theorem Plant.onSide_dev_wakeLevel (p : Plant) (sd : SideId) (f : Side → Side) :
    (p.onSide sd f).dev.wakeLevel = p.dev.wakeLevel := by obtain ⟨_, _, _, h⟩ := p.onSide_rest sd f; rw [h]
@[simp] theorem Plant.onCore_dev_wakeLevel (p : Plant) (sd : SideId) (f : Core → Core) :
    (p.onCore sd f).dev.wakeLevel = p.dev.wakeLevel := p.onSide_dev_wakeLevel sd _
@[simp] theorem Plant.onSide_dev_perst (p : Plant) (sd : SideId) (f : Side → Side) :
    (p.onSide sd f).dev.perst = p.dev.perst := by obtain ⟨_, _, _, h⟩ := p.onSide_rest sd f; rw [h]
@[simp] theorem Plant.onCore_dev_perst (p : Plant) (sd : SideId) (f : Core → Core) :
    (p.onCore sd f).dev.perst = p.dev.perst := p.onSide_dev_perst sd _
@[simp] theorem Plant.onSide_dev_linkUp (p : Plant) (sd : SideId) (f : Side → Side) :
    (p.onSide sd f).dev.linkUp = p.dev.linkUp := by obtain ⟨_, _, _, h⟩ := p.onSide_rest sd f; rw [h]
@[simp] theorem Plant.onCore_dev_linkUp (p : Plant) (sd : SideId) (f : Core → Core) :
    (p.onCore sd f).dev.linkUp = p.dev.linkUp := p.onSide_dev_linkUp sd _
@[simp] theorem Plant.onSide_dev_vddOff (p : Plant) (sd : SideId) (f : Side → Side) :
    (p.onSide sd f).dev.vddOff = p.dev.vddOff := by obtain ⟨_, _, _, h⟩ := p.onSide_rest sd f; rw [h]
@[simp] theorem Plant.onCore_dev_vddOff (p : Plant) (sd : SideId) (f : Core → Core) :
    (p.onCore sd f).dev.vddOff = p.dev.vddOff := p.onSide_dev_vddOff sd _
@[simp] theorem Plant.onSide_dev_avsRaise (p : Plant) (sd : SideId) (f : Side → Side) :
    (p.onSide sd f).dev.avsRaise = p.dev.avsRaise := by obtain ⟨_, _, _, h⟩ := p.onSide_rest sd f; rw [h]
@[simp] theorem Plant.onCore_dev_avsRaise (p : Plant) (sd : SideId) (f : Core → Core) :
    (p.onCore sd f).dev.avsRaise = p.dev.avsRaise := p.onSide_dev_avsRaise sd _
@[simp] theorem Plant.onSide_dev_avsHigh (p : Plant) (sd : SideId) (f : Side → Side) :
    (p.onSide sd f).dev.avsHigh = p.dev.avsHigh := by obtain ⟨_, _, _, h⟩ := p.onSide_rest sd f; rw [h]
@[simp] theorem Plant.onCore_dev_avsHigh (p : Plant) (sd : SideId) (f : Core → Core) :
    (p.onCore sd f).dev.avsHigh = p.dev.avsHigh := p.onSide_dev_avsHigh sd _
@[simp] theorem Plant.onSide_dev_avsLowered (p : Plant) (sd : SideId) (f : Side → Side) :
    (p.onSide sd f).dev.avsLowered = p.dev.avsLowered := by obtain ⟨_, _, _, h⟩ := p.onSide_rest sd f; rw [h]
@[simp] theorem Plant.onSide_dev_aonSub (p : Plant) (sd : SideId) (f : Side → Side) :
    (p.onSide sd f).dev.aonSub = p.dev.aonSub := by obtain ⟨_, _, _, h⟩ := p.onSide_rest sd f; rw [h]
@[simp] theorem Plant.onSide_dev_avsGain (p : Plant) (sd : SideId) (f : Side → Side) :
    (p.onSide sd f).dev.avsGain = p.dev.avsGain := by obtain ⟨_, _, _, h⟩ := p.onSide_rest sd f; rw [h]
@[simp] theorem Plant.onSide_dev_aer (p : Plant) (sd : SideId) (f : Side → Side) :
    (p.onSide sd f).dev.aer = p.dev.aer := by obtain ⟨_, _, _, h⟩ := p.onSide_rest sd f; rw [h]
@[simp] theorem Plant.onCore_dev_avsLowered (p : Plant) (sd : SideId) (f : Core → Core) :
    (p.onCore sd f).dev.avsLowered = p.dev.avsLowered := p.onSide_dev_avsLowered sd _
@[simp] theorem Plant.onCore_dev_aonSub (p : Plant) (sd : SideId) (f : Core → Core) :
    (p.onCore sd f).dev.aonSub = p.dev.aonSub := p.onSide_dev_aonSub sd _
@[simp] theorem Plant.onCore_dev_avsGain (p : Plant) (sd : SideId) (f : Core → Core) :
    (p.onCore sd f).dev.avsGain = p.dev.avsGain := p.onSide_dev_avsGain sd _
@[simp] theorem Plant.onCore_dev_aer (p : Plant) (sd : SideId) (f : Core → Core) :
    (p.onCore sd f).dev.aer = p.dev.aer := p.onSide_dev_aer sd _
@[simp] theorem Plant.onSide_dev_tapIr (p : Plant) (sd : SideId) (f : Side → Side) :
    (p.onSide sd f).dev.tapIr = p.dev.tapIr := by obtain ⟨_, _, _, h⟩ := p.onSide_rest sd f; rw [h]
@[simp] theorem Plant.onCore_dev_tapIr (p : Plant) (sd : SideId) (f : Core → Core) :
    (p.onCore sd f).dev.tapIr = p.dev.tapIr := p.onSide_dev_tapIr sd _
@[simp] theorem Plant.onSide_dev_tapBsr (p : Plant) (sd : SideId) (f : Side → Side) :
    (p.onSide sd f).dev.tapBsr = p.dev.tapBsr := by obtain ⟨_, _, _, h⟩ := p.onSide_rest sd f; rw [h]
@[simp] theorem Plant.onCore_dev_tapBsr (p : Plant) (sd : SideId) (f : Core → Core) :
    (p.onCore sd f).dev.tapBsr = p.dev.tapBsr := p.onSide_dev_tapBsr sd _
@[simp] theorem Plant.onSide_dev_tapStopped (p : Plant) (sd : SideId) (f : Side → Side) :
    (p.onSide sd f).dev.tapStopped = p.dev.tapStopped := by obtain ⟨_, _, _, h⟩ := p.onSide_rest sd f; rw [h]
@[simp] theorem Plant.onCore_dev_tapStopped (p : Plant) (sd : SideId) (f : Core → Core) :
    (p.onCore sd f).dev.tapStopped = p.dev.tapStopped := p.onSide_dev_tapStopped sd _
@[simp] theorem Plant.onSide_dev_mbistRun (p : Plant) (sd : SideId) (f : Side → Side) :
    (p.onSide sd f).dev.mbistRun = p.dev.mbistRun := by obtain ⟨_, _, _, h⟩ := p.onSide_rest sd f; rw [h]
@[simp] theorem Plant.onCore_dev_mbistRun (p : Plant) (sd : SideId) (f : Core → Core) :
    (p.onCore sd f).dev.mbistRun = p.dev.mbistRun := p.onSide_dev_mbistRun sd _
@[simp] theorem Plant.onSide_dev_mbistRes (p : Plant) (sd : SideId) (f : Side → Side) :
    (p.onSide sd f).dev.mbistRes = p.dev.mbistRes := by obtain ⟨_, _, _, h⟩ := p.onSide_rest sd f; rw [h]
@[simp] theorem Plant.onCore_dev_mbistRes (p : Plant) (sd : SideId) (f : Core → Core) :
    (p.onCore sd f).dev.mbistRes = p.dev.mbistRes := p.onSide_dev_mbistRes sd _

/-- A command of a side's part alone leaves everything else. -/
theorem Plant.onSide_onlySide (p : Plant) (sd : SideId) (f : Side → Side) : p.onlySide (p.onSide sd f) sd := p.onSide_rest sd f

theorem Plant.onCore_onlyCore (p : Plant) (sd : SideId) (f : Core → Core) : p.onlyCore (p.onCore sd f) sd :=
  ⟨p.onSide_onlySide sd _, p.onCore_spm sd f, p.onCore_dram sd f⟩

theorem Plant.onlyCore_refl (p : Plant) (sd : SideId) : p.onlyCore p sd := ⟨⟨rfl, p.dev.faultQ, p.dev.tabs, rfl⟩, rfl, rfl⟩

theorem Plant.onlyCore.sameMemories {p t : Plant} {sd : SideId} (h : p.onlyCore t sd) : p.sameMemories t := by
  obtain ⟨⟨h1, q, x, hd⟩, h2, h3⟩ := h
  have h4 : t.dev.fuses = p.dev.fuses := by rw [hd]
  have h5 : t.dev.flash = p.dev.flash := by rw [hd]
  cases sd
  · exact ⟨h2, h3, congrArg Side.spm h1, congrArg Side.dram h1, h5, h4⟩
  · exact ⟨congrArg Side.spm h1, congrArg Side.dram h1, h2, h3, h5, h4⟩

theorem Plant.onlyCore.dev_rd {p t : Plant} {sd : SideId} (h : p.onlyCore t sd) (k : Nat) : t.dev.rd k = p.dev.rd k := by
  obtain ⟨⟨-, q, x, hd⟩, -⟩ := h
  exact Dev.rd_regs (by rw [hd]) k

theorem Plant.sameMemories.refl (p : Plant) : p.sameMemories p := ⟨rfl, rfl, rfl, rfl, rfl, rfl⟩

theorem Plant.sameMemories.trans {p q t : Plant} (h : p.sameMemories q) (h' : q.sameMemories t) : p.sameMemories t :=
  ⟨h'.1.trans h.1, h'.2.1.trans h.2.1, h'.2.2.1.trans h.2.2.1, h'.2.2.2.1.trans h.2.2.2.1, h'.2.2.2.2.1.trans h.2.2.2.2.1,
    h'.2.2.2.2.2.trans h.2.2.2.2.2⟩

theorem Plant.onCore_sameMemories (p : Plant) (sd : SideId) (f : Core → Core) : p.sameMemories (p.onCore sd f) :=
  (p.onCore_onlyCore sd f).sameMemories

/-! ### Commands that only a running side, or a device out of PORST_N, obeys -/

theorem Plant.liveCore_alive (p : Plant) (sd : SideId) (f : Core → Core) (h : (p.side sd).r.alive = true) :
    p.liveCore sd f = p.onCore sd f := if_pos h
theorem Plant.liveSide_alive (p : Plant) (sd : SideId) (f : Side → Side) (h : (p.side sd).r.alive = true) :
    p.liveSide sd f = p.onSide sd f := if_pos h
theorem Plant.liveCore_onlyCore (p : Plant) (sd : SideId) (f : Core → Core) : p.onlyCore (p.liveCore sd f) sd := by
  unfold Plant.liveCore; split
  · exact p.onCore_onlyCore sd f
  · exact p.onlyCore_refl sd
theorem Plant.livePlant_up (p : Plant) (f : Plant → Plant) (h : p.dev.porst = false) : p.livePlant f = f p := by
  unfold Plant.livePlant; rw [h]; rfl
theorem Plant.liveDev_up (p : Plant) (f : Dev → Dev) (h : p.dev.porst = false) : p.liveDev f = p.onDev f := by
  unfold Plant.liveDev; rw [h]; rfl
theorem Plant.liveOwl_up (p : Plant) (f : Plant → Plant) (h : p.dev.porst = false) (h' : p.dev.owlDown = false) :
    p.liveOwl f = f p := by unfold Plant.liveOwl; rw [h, h']; rfl

/-! ### Changes of the device level -/

@[simp] theorem Plant.onDev_side (p : Plant) (f : Dev → Dev) (sd : SideId) : (p.onDev f).side sd = p.side sd := by cases sd <;> rfl
@[simp] theorem Plant.onDev_a (p : Plant) (f : Dev → Dev) : (p.onDev f).a = p.a := rfl
@[simp] theorem Plant.onDev_b (p : Plant) (f : Dev → Dev) : (p.onDev f).b = p.b := rfl
@[simp] theorem Plant.onDev_rd (p : Plant) (f : Dev → Dev) (k : Nat) : (p.onDev f).dev.rd k = (f p.dev).rd k :=
  (f p.dev).rd_settleStates k
@[simp] theorem Plant.onDev_tabs (p : Plant) (f : Dev → Dev) : (p.onDev f).dev.tabs = (f p.dev).tabs :=
  (f p.dev).settleStates_tabs
@[simp] theorem Plant.onDev_porst (p : Plant) (f : Dev → Dev) : (p.onDev f).dev.porst = (f p.dev).porst :=
  (f p.dev).settleStates_porst
@[simp] theorem Plant.onDev_testMode (p : Plant) (f : Dev → Dev) : (p.onDev f).dev.testMode = (f p.dev).testMode :=
  (f p.dev).settleStates_testMode
@[simp] theorem Plant.onDev_modeWritten (p : Plant) (f : Dev → Dev) : (p.onDev f).dev.modeWritten = (f p.dev).modeWritten :=
  (f p.dev).settleStates_modeWritten
@[simp] theorem Plant.onDev_owlDown (p : Plant) (f : Dev → Dev) : (p.onDev f).dev.owlDown = (f p.dev).owlDown :=
  (f p.dev).settleStates_owlDown
@[simp] theorem Plant.onDev_aon (p : Plant) (f : Dev → Dev) : (p.onDev f).dev.aon = (f p.dev).aon :=
  (f p.dev).settleStates_aon
@[simp] theorem Plant.onDev_free (p : Plant) (f : Dev → Dev) : (p.onDev f).dev.free = (f p.dev).free :=
  (f p.dev).settleStates_free
@[simp] theorem Plant.onDev_faultQ (p : Plant) (f : Dev → Dev) : (p.onDev f).dev.faultQ = (f p.dev).faultQ :=
  (f p.dev).settleStates_faultQ
@[simp] theorem Plant.onDev_holds (p : Plant) (f : Dev → Dev) : (p.onDev f).dev.holds = (f p.dev).holds :=
  (f p.dev).settleStates_holds
@[simp] theorem Plant.onDev_rates (p : Plant) (f : Dev → Dev) : (p.onDev f).dev.rates = (f p.dev).rates :=
  (f p.dev).settleStates_rates
@[simp] theorem Plant.onDev_logSeq (p : Plant) (f : Dev → Dev) : (p.onDev f).dev.logSeq = (f p.dev).logSeq :=
  (f p.dev).settleStates_logSeq
@[simp] theorem Plant.onDev_fuses (p : Plant) (f : Dev → Dev) : (p.onDev f).dev.fuses = (f p.dev).fuses :=
  (f p.dev).settleStates_fuses
@[simp] theorem Plant.onDev_flash (p : Plant) (f : Dev → Dev) : (p.onDev f).dev.flash = (f p.dev).flash :=
  (f p.dev).settleStates_flash
@[simp] theorem Plant.onDev_bootPhase (p : Plant) (f : Dev → Dev) : (p.onDev f).dev.bootPhase = (f p.dev).bootPhase :=
  (f p.dev).settleStates_bootPhase
@[simp] theorem Plant.onDev_bootTried (p : Plant) (f : Dev → Dev) : (p.onDev f).dev.bootTried = (f p.dev).bootTried :=
  (f p.dev).settleStates_bootTried
@[simp] theorem Plant.onDev_bootSource (p : Plant) (f : Dev → Dev) : (p.onDev f).dev.bootSource = (f p.dev).bootSource :=
  (f p.dev).settleStates_bootSource
@[simp] theorem Plant.onDev_bootBase (p : Plant) (f : Dev → Dev) : (p.onDev f).dev.bootBase = (f p.dev).bootBase :=
  (f p.dev).settleStates_bootBase
@[simp] theorem Plant.onDev_manifest (p : Plant) (f : Dev → Dev) : (p.onDev f).dev.manifest = (f p.dev).manifest :=
  (f p.dev).settleStates_manifest
@[simp] theorem Plant.onDev_programming (p : Plant) (f : Dev → Dev) : (p.onDev f).dev.programming = (f p.dev).programming :=
  (f p.dev).settleStates_programming
@[simp] theorem Plant.onDev_stagedLen (p : Plant) (f : Dev → Dev) : (p.onDev f).dev.stagedLen = (f p.dev).stagedLen :=
  (f p.dev).settleStates_stagedLen
@[simp] theorem Plant.onDev_fuseFail (p : Plant) (f : Dev → Dev) : (p.onDev f).dev.fuseFail = (f p.dev).fuseFail :=
  (f p.dev).settleStates_fuseFail
@[simp] theorem Plant.onDev_bootDead (p : Plant) (f : Dev → Dev) : (p.onDev f).dev.bootDead = (f p.dev).bootDead :=
  (f p.dev).settleStates_bootDead
@[simp] theorem Plant.onDev_logActive (p : Plant) (f : Dev → Dev) : (p.onDev f).dev.logActive = (f p.dev).logActive :=
  (f p.dev).settleStates_logActive
@[simp] theorem Plant.onDev_pend (p : Plant) (f : Dev → Dev) : (p.onDev f).dev.pend = (f p.dev).pend :=
  (f p.dev).settleStates_pend
@[simp] theorem Plant.onDev_snaps (p : Plant) (f : Dev → Dev) : (p.onDev f).dev.snaps = (f p.dev).snaps :=
  (f p.dev).settleStates_snaps
@[simp] theorem Plant.onDev_xfers (p : Plant) (f : Dev → Dev) : (p.onDev f).dev.xfers = (f p.dev).xfers :=
  (f p.dev).settleStates_xfers
@[simp] theorem Plant.onDev_stage (p : Plant) (f : Dev → Dev) : (p.onDev f).dev.stage = (f p.dev).stage :=
  (f p.dev).settleStates_stage
@[simp] theorem Plant.onDev_bundleAt (p : Plant) (f : Dev → Dev) : (p.onDev f).dev.bundleAt = (f p.dev).bundleAt :=
  (f p.dev).settleStates_bundleAt
@[simp] theorem Plant.onDev_bundleReply (p : Plant) (f : Dev → Dev) : (p.onDev f).dev.bundleReply = (f p.dev).bundleReply :=
  (f p.dev).settleStates_bundleReply
@[simp] theorem Plant.onDev_bundleSender (p : Plant) (f : Dev → Dev) : (p.onDev f).dev.bundleSender = (f p.dev).bundleSender :=
  (f p.dev).settleStates_bundleSender
@[simp] theorem Plant.onDev_attestAt (p : Plant) (f : Dev → Dev) : (p.onDev f).dev.attestAt = (f p.dev).attestAt :=
  (f p.dev).settleStates_attestAt
@[simp] theorem Plant.onDev_attestDone (p : Plant) (f : Dev → Dev) : (p.onDev f).dev.attestDone = (f p.dev).attestDone :=
  (f p.dev).settleStates_attestDone
@[simp] theorem Plant.onDev_attestReport (p : Plant) (f : Dev → Dev) : (p.onDev f).dev.attestReport = (f p.dev).attestReport :=
  (f p.dev).settleStates_attestReport
@[simp] theorem Plant.onDev_attestSeen (p : Plant) (f : Dev → Dev) : (p.onDev f).dev.attestSeen = (f p.dev).attestSeen :=
  (f p.dev).settleStates_attestSeen
@[simp] theorem Plant.onDev_attestFrom (p : Plant) (f : Dev → Dev) : (p.onDev f).dev.attestFrom = (f p.dev).attestFrom :=
  (f p.dev).settleStates_attestFrom
@[simp] theorem Plant.onDev_pubkey (p : Plant) (f : Dev → Dev) : (p.onDev f).dev.pubkey = (f p.dev).pubkey :=
  (f p.dev).settleStates_pubkey
@[simp] theorem Plant.onDev_cert (p : Plant) (f : Dev → Dev) : (p.onDev f).dev.cert = (f p.dev).cert :=
  (f p.dev).settleStates_cert
@[simp] theorem Plant.onDev_wakeLevel (p : Plant) (f : Dev → Dev) : (p.onDev f).dev.wakeLevel = (f p.dev).wakeLevel :=
  (f p.dev).settleStates_wakeLevel
@[simp] theorem Plant.onDev_perst (p : Plant) (f : Dev → Dev) : (p.onDev f).dev.perst = (f p.dev).perst :=
  (f p.dev).settleStates_perst
@[simp] theorem Plant.onDev_linkUp (p : Plant) (f : Dev → Dev) : (p.onDev f).dev.linkUp = (f p.dev).linkUp :=
  (f p.dev).settleStates_linkUp
@[simp] theorem Plant.onDev_vddOff (p : Plant) (f : Dev → Dev) : (p.onDev f).dev.vddOff = (f p.dev).vddOff :=
  (f p.dev).settleStates_vddOff
@[simp] theorem Plant.onDev_avsRaise (p : Plant) (f : Dev → Dev) : (p.onDev f).dev.avsRaise = (f p.dev).avsRaise :=
  (f p.dev).settleStates_avsRaise
@[simp] theorem Plant.onDev_avsHigh (p : Plant) (f : Dev → Dev) : (p.onDev f).dev.avsHigh = (f p.dev).avsHigh :=
  (f p.dev).settleStates_avsHigh
@[simp] theorem Plant.onDev_avsLowered (p : Plant) (f : Dev → Dev) : (p.onDev f).dev.avsLowered = (f p.dev).avsLowered :=
  (f p.dev).settleStates_avsLowered
@[simp] theorem Plant.onDev_aonSub (p : Plant) (f : Dev → Dev) : (p.onDev f).dev.aonSub = (f p.dev).aonSub :=
  (f p.dev).settleStates_aonSub
@[simp] theorem Plant.onDev_avsGain (p : Plant) (f : Dev → Dev) : (p.onDev f).dev.avsGain = (f p.dev).avsGain :=
  (f p.dev).settleStates_avsGain
@[simp] theorem Plant.onDev_aer (p : Plant) (f : Dev → Dev) : (p.onDev f).dev.aer = (f p.dev).aer :=
  (f p.dev).settleStates_aer
@[simp] theorem Plant.onDev_tapIr (p : Plant) (f : Dev → Dev) : (p.onDev f).dev.tapIr = (f p.dev).tapIr :=
  (f p.dev).settleStates_tapIr
@[simp] theorem Plant.onDev_tapBsr (p : Plant) (f : Dev → Dev) : (p.onDev f).dev.tapBsr = (f p.dev).tapBsr :=
  (f p.dev).settleStates_tapBsr
@[simp] theorem Plant.onDev_tapStopped (p : Plant) (f : Dev → Dev) : (p.onDev f).dev.tapStopped = (f p.dev).tapStopped :=
  (f p.dev).settleStates_tapStopped
@[simp] theorem Plant.onDev_mbistRun (p : Plant) (f : Dev → Dev) : (p.onDev f).dev.mbistRun = (f p.dev).mbistRun :=
  (f p.dev).settleStates_mbistRun
@[simp] theorem Plant.onDev_mbistRes (p : Plant) (f : Dev → Dev) : (p.onDev f).dev.mbistRes = (f p.dev).mbistRes :=
  (f p.dev).settleStates_mbistRes

/-! ### Frames of a side's part -/

theorem Core.onlySlots.refl (c : Core) (l : List Nat) : c.onlySlots c l := ⟨⟨c.regs, c.stateLive, c.toDev, rfl⟩, fun _ _ => rfl⟩

theorem Core.onlySlots.trans {c d e : Core} {l m : List Nat} (h : c.onlySlots d l) (h' : d.onlySlots e m) (hs : m ⊆ l) :
    c.onlySlots e l := by
  obtain ⟨⟨x, y, z, rfl⟩, h1⟩ := h
  obtain ⟨⟨x', y', z', rfl⟩, h2⟩ := h'
  exact ⟨⟨x', y', z', rfl⟩, fun k hk => (h2 k (fun hm => hk (hs hm))).trans (h1 k hk)⟩

theorem Core.onlySlots.wr {c d : Core} {l : List Nat} (h : c.onlySlots d l) {k : Nat} (v : Nat) (hk : k ∈ l) : c.onlySlots (d.wr k v) l := by
  obtain ⟨⟨x, y, z, rfl⟩, h1⟩ := h
  exact ⟨⟨_, y, z, rfl⟩, fun j hj => (Core.rd_wr_ne _ _ (fun e : j = k => hj (e ▸ hk))).trans (h1 j hj)⟩

theorem Core.onlySlots.tab {c d : Core} {l : List Nat} (h : c.onlySlots d l) (w e : Nat) : d.tab w e = c.tab w e := by
  obtain ⟨⟨x, y, z, rfl⟩, -⟩ := h; rfl

theorem Core.onlySlots.reports {c d : Core} {l : List Nat} (h : c.onlySlots d l) : c.onlySlotsAndReports d l := by
  obtain ⟨⟨x, y, z, rfl⟩, h1⟩ := h
  exact ⟨⟨x, y, z, c.faultQ, c.tabs, c.rates, c.qLost, rfl⟩, fun k hk => h1 k (fun hm => hk (List.mem_append_left _ hm)), fun _ _ => rfl⟩

theorem Core.onlySlotsAndReports.refl (c : Core) (l : List Nat) : c.onlySlotsAndReports c l := (Core.onlySlots.refl c l).reports

theorem Core.onlySlotsAndReports.wr {c d : Core} {l : List Nat} (h : c.onlySlotsAndReports d l) {k : Nat} (v : Nat) (hk : k ∈ l) :
    c.onlySlotsAndReports (d.wr k v) l := by
  obtain ⟨⟨x, y, z, f, w, r, n, rfl⟩, h1, h2⟩ := h
  exact ⟨⟨_, y, z, f, w, r, n, rfl⟩,
    fun j hj => (Core.rd_wr_ne _ _ (fun e : j = k => hj (e ▸ List.mem_append_left _ hk))).trans (h1 j hj), h2⟩

theorem Core.onlySlotsAndReports.reportRate {c d : Core} {l : List Nat} (h : c.onlySlotsAndReports d l) (e k a : Nat) :
    c.onlySlotsAndReports (d.reportRate e k a) l := by
  obtain ⟨⟨x, y, z, f, w, r, n, rfl⟩, h1, h2⟩ := h
  obtain ⟨r', h⟩ := Core.reportRate_shape { c with regs := x, stateLive := y, toDev := z, faultQ := f, tabs := w, rates := r, qLost := n } e k a
  rw [h]
  exact ⟨⟨x, y, z, f, w, r', n, rfl⟩, h1, h2⟩

theorem Core.tabAt_setTab_ne (c : Core) {w e j : Nat} (v : Nat) (h : j ≠ tabKey w e) : (c.setTab w e v).tabAt j = c.tabAt j := by
  unfold Core.tabAt Core.setTab
  rw [SMap.find?_put_ne _ _ _ h]

@[simp] theorem Core.tabAt_wr (c : Core) (k v j : Nat) : (c.wr k v).tabAt j = c.tabAt j := rfl
@[simp] theorem Core.tabAt_queueMsg (c : Core) (e x a j : Nat) : (c.queueMsg e x a).tabAt j = c.tabAt j := rfl
@[simp] theorem Core.tabAt_recordSaturated (c : Core) (v j : Nat) : (c.recordSaturated v).tabAt j = c.tabAt j := by
  obtain ⟨r, h⟩ := c.recordSaturated_shape v; rw [h]; rfl

theorem Core.tabAt_dropMsg (c : Core) {e : Nat} (x : Nat) (he : e < 2 ^ 32) {j : Nat} (hj : j / 2 ^ 32 ≠ wFaultStat) :
    (c.dropMsg e x).tabAt j = c.tabAt j := by
  refine Core.tabAt_setTab_ne c _ (fun h => hj ?_)
  rw [h]; unfold tabKey; omega

theorem Core.tabAt_report (c : Core) {e : Nat} (x a : Nat) (he : e < 2 ^ 32) {j : Nat} (hj : j / 2 ^ 32 ≠ wFaultStat) :
    (c.report e x a).tabAt j = c.tabAt j := by
  unfold Core.report; split
  · rfl
  · unfold Core.loseMsg; dsimp only; split
    · exact Core.tabAt_dropMsg _ _ he hj
    · split
      · split
        · rw [Core.tabAt_queueMsg, Core.tabAt_recordSaturated, Core.tabAt_wr, Core.tabAt_dropMsg _ _ he hj]
        · rw [Core.tabAt_dropMsg _ _ (by decide) hj, Core.tabAt_recordSaturated, Core.tabAt_wr, Core.tabAt_dropMsg _ _ he hj]
      · rw [Core.tabAt_wr, Core.tabAt_dropMsg _ _ he hj]

theorem Core.tabAt_saySaturated (c : Core) (v a : Nat) {j : Nat} (hj : j / 2 ^ 32 ≠ wFaultStat) :
    (c.saySaturated v a).tabAt j = c.tabAt j := by
  unfold Core.saySaturated; dsimp only; split
  · rw [Core.tabAt_report _ _ _ (by decide) hj, Core.tabAt_report _ _ _ (by decide) hj, Core.tabAt_recordSaturated]
  · rw [Core.tabAt_report _ _ _ (by decide) hj, Core.tabAt_recordSaturated]

theorem Core.rd_saySaturated (c : Core) (v a : Nat) {k : Nat} (h : k ≠ Reg.collector_queue_overflow)
    (h2 : k ≠ Reg.saturated_count) (h3 : k ≠ Reg.last_saturated) : (c.saySaturated v a).rd k = c.rd k := by
  unfold Core.saySaturated; dsimp only; split
  · rw [Core.rd_report _ _ _ _ h h2 h3, Core.rd_report _ _ _ _ h h2 h3, Core.rd_recordSaturated_ne _ _ h2 h3]
  · rw [Core.rd_report _ _ _ _ h h2 h3, Core.rd_recordSaturated_ne _ _ h2 h3]

theorem Core.onlySlotsAndReports.report {c d : Core} {l : List Nat} (h : c.onlySlotsAndReports d l) {e : Nat} (k a : Nat) (he : e < 2 ^ 32) :
    c.onlySlotsAndReports (d.report e k a) l := by
  obtain ⟨⟨x, y, z, f, w, r, n, rfl⟩, h1, h2⟩ := h
  have hr := Core.report_shape { c with regs := x, stateLive := y, toDev := z, faultQ := f, tabs := w, rates := r, qLost := n } e k a
  refine ⟨?_, fun j hj => ?_, fun j hj => ?_⟩
  · obtain ⟨f', w', x', n', h⟩ := hr
    exact ⟨x', y, z, f', w', r, n', h⟩
  · rw [Core.rd_report _ _ _ _ (fun e => hj (List.mem_append_right _ (by rw [e]; simp)))
      (fun e => hj (List.mem_append_right _ (by rw [e]; simp))) (fun e => hj (List.mem_append_right _ (by rw [e]; simp)))]
    exact h1 j hj
  · rw [Core.tabAt_report _ _ _ he hj]; exact h2 j hj

theorem Core.tabAt_add (c : Core) (k n : Nat) {j : Nat} (hj : j / 2 ^ 32 ≠ wFaultStat) : (c.add k n).tabAt j = c.tabAt j := by
  unfold Core.add; dsimp only; split
  · rfl
  · split
    · rfl
    · unfold Core.saturated; split
      · rfl
      · exact Core.tabAt_saySaturated _ _ _ hj

theorem Core.onlySlotsAndReports.add {c d : Core} {l : List Nat} (h : c.onlySlotsAndReports d l) {k : Nat} (n : Nat) (hk : k ∈ l) :
    c.onlySlotsAndReports (d.add k n) l := by
  obtain ⟨⟨x, y, z, f, w, r, m, rfl⟩, h1, h2⟩ := h
  have hr := Core.add_shape { c with regs := x, stateLive := y, toDev := z, faultQ := f, tabs := w, rates := r, qLost := m } k n
  refine ⟨?_, fun j hj => ?_, fun j hj => ?_⟩
  · obtain ⟨f', w', x', m', z', h⟩ := hr
    exact ⟨x', y, z', f', w', r, m', h⟩
  · rw [Core.rd_add_ne]
    · exact h1 j hj
    · exact fun e : j = k => hj (e ▸ List.mem_append_left _ hk)
    · exact fun e => hj (List.mem_append_right _ (by rw [e]; simp))
    · exact fun e => hj (List.mem_append_right _ (by rw [e]; simp))
    · exact fun e => hj (List.mem_append_right _ (by rw [e]; simp))
  · rw [Core.tabAt_add _ _ _ hj]; exact h2 j hj

theorem Core.onlyPort.refl (c : Core) (p : Nat) (l : List Nat) : c.onlyPort c p l :=
  ⟨Core.onlySlotsAndReports.refl c l, fun _ _ => rfl⟩

theorem Core.onlyPort.ports {c d e : Core} {p : Nat} {l : List Nat} (h : c.onlyPort d p l) (hp : e.ports = d.ports)
    (he : ({ c with ports := d.ports } : Core).onlySlotsAndReports d l → ({ c with ports := d.ports } : Core).onlySlotsAndReports e l) :
    c.onlyPort e p l := by
  refine ⟨by rw [hp]; exact he h.1, fun q hq => ?_⟩
  rw [← h.2 q hq]; unfold Core.port; rw [hp]

theorem Core.onlyPort.wr {c d : Core} {p : Nat} {l : List Nat} (h : c.onlyPort d p l) {k : Nat} (v : Nat) (hk : k ∈ l) :
    c.onlyPort (d.wr k v) p l := h.ports rfl (fun x => x.wr v hk)
theorem Core.onlyPort.add {c d : Core} {p : Nat} {l : List Nat} (h : c.onlyPort d p l) {k : Nat} (n : Nat) (hk : k ∈ l) :
    c.onlyPort (d.add k n) p l := h.ports (by simp) (fun x => x.add n hk)
theorem Core.onlyPort.report {c d : Core} {p : Nat} {l : List Nat} (h : c.onlyPort d p l) {e : Nat} (k a : Nat) (he : e < 2 ^ 32) :
    c.onlyPort (d.report e k a) p l := h.ports (by simp) (fun x => x.report k a he)
theorem Core.onlyPort.reportRate {c d : Core} {p : Nat} {l : List Nat} (h : c.onlyPort d p l) (e k a : Nat) :
    c.onlyPort (d.reportRate e k a) p l := h.ports (by simp) (fun x => x.reportRate e k a)

theorem Core.onlyPort.modPort {c d : Core} {p : Nat} {l : List Nat} (h : c.onlyPort d p l) (g : PortDyn → PortDyn) :
    c.onlyPort (d.modPort p g) p l := by
  obtain ⟨⟨⟨x, y, z, f, w, r, n, hd⟩, h1, h2⟩, h3⟩ := h
  refine ⟨⟨⟨x, y, z, f, w, r, n, ?_⟩, h1, h2⟩, fun q hq => ?_⟩
  · rw [hd]; rfl
  · rw [Core.port_modPort_ne _ _ hq]; exact h3 q hq

theorem counterMax_lt (k : Nat) : counterMax k < 2 ^ 64 := by
  unfold counterMax allOnes64; split
  · split <;> decide
  · decide

/-- What a counter holds when it has counted. -/
theorem Core.counts_add (c : Core) {k : Nat} (n : Nat) (h : k ∉ reportSlots) : c.counts (c.add k n) k n := by
  have h1 : k ≠ Reg.collector_queue_overflow := fun e => h (by rw [e]; simp)
  have h2 : k ≠ Reg.saturated_count := fun e => h (by rw [e]; simp)
  have h3 : k ≠ Reg.last_saturated := fun e => h (by rw [e]; simp)
  have hm := counterMax_lt k
  unfold Core.counts Core.add; dsimp only; split
  · rw [Core.rd_wr_same]; omega
  · split
    · omega
    · unfold Core.saturated; split
      · show (c.wr k (counterMax k)).rd k = _
        rw [Core.rd_wr_same]; omega
      · rw [Core.rd_saySaturated _ _ _ h1 h2 h3, Core.rd_wr_same]; omega

theorem devCounterMax_lt (k : Nat) : devCounterMax k < 2 ^ 64 := by
  unfold devCounterMax allOnes64; split
  · split <;> decide
  · decide

theorem Dev.counts_add (d : Dev) (k n : Nat) : d.counts (d.add k n) k n := by
  have hm := devCounterMax_lt k
  unfold Dev.counts Dev.add; dsimp only; split
  · rw [Dev.rd_wr_same]; omega
  · split
    · omega
    · rw [Dev.rd_report, Dev.rd_wr_same]; omega

/-- Of a command that leaves power_state, the part of its side is exactly what the command makes of it. -/
theorem Plant.onCore_part (p : Plant) (sd : SideId) (f : Core → Core)
    (h : (f (p.side sd).r).rd Reg.power_state = (p.side sd).r.rd Reg.power_state) :
    ∃ l, ((p.onCore sd f).side sd).r = { f (p.side sd).r with stateLive := l, toDev := [] } := by
  unfold Plant.onCore Plant.onSide Plant.handOn Plant.stamped; dsimp only
  rw [if_pos h]; dsimp only
  split
  · rename_i he
    have he' : (f (p.side sd).r).toDev = [] := by simpa using he
    obtain ⟨l, hl⟩ := (f (p.side sd).r).settleStates_shape
    refine ⟨l, ?_⟩
    rw [Plant.side_setSide_same, hl, ← he']
  · obtain ⟨l, hl⟩ := ({ f (p.side sd).r with toDev := [] } : Core).settleStates_shape
    refine ⟨l, ?_⟩
    rw [Plant.side_setSide_same, hl]

theorem Plant.onCore_onlySlots (p : Plant) (sd : SideId) {f : Core → Core} {l : List Nat} (c : Core)
    (h : (f (p.side sd).r).rd Reg.power_state = (p.side sd).r.rd Reg.power_state) (hf : c.onlySlots (f (p.side sd).r) l) :
    c.onlySlots ((p.onCore sd f).side sd).r l := by
  obtain ⟨y, hy⟩ := p.onCore_part sd f h
  obtain ⟨⟨x, y', z, he⟩, h1⟩ := hf
  refine ⟨⟨x, y, [], ?_⟩, fun k hk => ?_⟩
  · rw [hy, he]
  · rw [Core.rd_regs (by rw [hy]) k]; exact h1 k hk

theorem Plant.onCore_onlySlotsAndReports (p : Plant) (sd : SideId) {f : Core → Core} {l : List Nat} (c : Core)
    (h : (f (p.side sd).r).rd Reg.power_state = (p.side sd).r.rd Reg.power_state) (hf : c.onlySlotsAndReports (f (p.side sd).r) l) :
    c.onlySlotsAndReports ((p.onCore sd f).side sd).r l := by
  obtain ⟨y, hy⟩ := p.onCore_part sd f h
  obtain ⟨⟨x, y', z, q, w, r, n, he⟩, h1, h2⟩ := hf
  refine ⟨⟨x, y, [], q, w, r, n, ?_⟩, fun k hk => ?_, fun k hk => ?_⟩
  · rw [hy, he]
  · rw [Core.rd_regs (by rw [hy]) k]; exact h1 k hk
  · have : ((p.onCore sd f).side sd).r.tabAt k = (f (p.side sd).r).tabAt k := by rw [hy]; rfl
    rw [this]; exact h2 k hk

theorem Plant.onCore_onlyPort (p : Plant) (sd : SideId) {f : Core → Core} {n : Nat} {l : List Nat} (c : Core)
    (h : (f (p.side sd).r).rd Reg.power_state = (p.side sd).r.rd Reg.power_state) (hf : c.onlyPort (f (p.side sd).r) n l) :
    c.onlyPort ((p.onCore sd f).side sd).r n l := by
  have e : ((p.onCore sd f).side sd).r.ports = (f (p.side sd).r).ports := p.onCore_ports sd f
  refine ⟨?_, fun q hq => ?_⟩
  · rw [e]; exact p.onCore_onlySlotsAndReports sd _ h hf.1
  · rw [← hf.2 q hq]; unfold Core.port; rw [e]

@[simp] theorem Plant.onCore_port (p : Plant) (sd : SideId) (f : Core → Core) (n : Nat) :
    ((p.onCore sd f).side sd).r.port n = (f (p.side sd).r).port n := by unfold Core.port; rw [Plant.onCore_ports]

@[simp] theorem Plant.onCore_rd_same (p : Plant) (sd : SideId) (f : Core → Core)
    (h : (f (p.side sd).r).rd Reg.power_state = (p.side sd).r.rd Reg.power_state) (k : Nat) :
    ((p.onCore sd f).side sd).r.rd k = (f (p.side sd).r).rd k := by
  obtain ⟨y, hy⟩ := p.onCore_part sd f h
  exact Core.rd_regs (by rw [hy]) k

/-! ### Completion -/

theorem completes_of {i : Instr} {s : State} {E : Plant → Prop} (f : Plant → Plant) (h : exec i s = s.run f) (hE : E (f s.plant)) :
    Completes i s E := ⟨_, h, rfl, hE⟩

theorem Core.onlySlots.settled {c d : Core} {m : List Nat} (h : c.onlySlots d m) (l : List LiveState) (q : List FaultMsg) :
    c.onlySlots { d with stateLive := l, toDev := q } m := by
  obtain ⟨⟨x, _, _, rfl⟩, h1⟩ := h
  exact ⟨⟨x, l, q, rfl⟩, h1⟩

theorem Core.onlySlotsAndReports.settled {c d : Core} {m : List Nat} (h : c.onlySlotsAndReports d m) (l : List LiveState) (q : List FaultMsg) :
    c.onlySlotsAndReports { d with stateLive := l, toDev := q } m := by
  obtain ⟨⟨x, _, _, f, w, r, n, rfl⟩, h1⟩ := h
  exact ⟨⟨x, l, q, f, w, r, n, rfl⟩, h1⟩

theorem Core.onlyPort.settled {c d : Core} {p : Nat} {m : List Nat} (h : c.onlyPort d p m) (l : List LiveState) (q : List FaultMsg) :
    c.onlyPort { d with stateLive := l, toDev := q } p m := ⟨h.1.settled l q, h.2⟩

theorem Core.onlySlots.power {c d : Core} {m : List Nat} (h : c.onlySlots d m) (hm : Reg.power_state ∉ m) :
    d.rd Reg.power_state = c.rd Reg.power_state := h.2 _ hm
theorem Core.onlySlotsAndReports.power {c d : Core} {m : List Nat} (h : c.onlySlotsAndReports d m) (hm : Reg.power_state ∉ m) :
    d.rd Reg.power_state = c.rd Reg.power_state :=
  h.2.1 _ (by rw [List.mem_append]; rintro (hx | hx); exact hm hx; exact absurd hx (by decide))
theorem Core.onlyPort.power {c d : Core} {p : Nat} {m : List Nat} (h : c.onlyPort d p m) (hm : Reg.power_state ∉ m) :
    d.rd Reg.power_state = c.rd Reg.power_state := h.1.power hm

/-- A command of a running side's part. -/
theorem completes_core {i : Instr} {s : State} {E : Plant → Prop} {sd : SideId} (f : Plant → Core → Core)
    (h : exec i s = s.run (fun x => x.liveCore sd (f x))) (ha : (s.core sd).alive = true) (hE : E (s.plant.onCore sd (f s.plant))) :
    Completes i s E := by
  refine completes_of _ h ?_
  show E (s.plant.liveCore sd (f s.plant))
  rw [Plant.liveCore_alive _ _ _ ha]; exact hE

/-- A command of a running side's part that leaves power_state: what it leaves follows from what it makes of that part. -/
theorem completes_core_at {i : Instr} {s : State} {E : Plant → Prop} {sd : SideId} (f : Plant → Core → Core)
    (h : exec i s = s.run (fun x => x.liveCore sd (f x))) (ha : (s.core sd).alive = true)
    (hp : (f s.plant (s.core sd)).rd Reg.power_state = (s.core sd).rd Reg.power_state)
    (hE : ∀ t l, s.plant.onlyCore t sd → t.core sd = { f s.plant (s.core sd) with stateLive := l, toDev := [] } → E t) :
    Completes i s E := by
  obtain ⟨l, hl⟩ := s.plant.onCore_part sd (f s.plant) hp
  exact completes_core f h ha (hE _ l (Plant.onCore_onlyCore ..) hl)

end Sys2Proof.Machine
end

