-- ==== Sys2Proof/Laws/Exec.lean ====
section
/-! SUPPORT. Exec.lean: what each command runs, one lemma for each: exec answers the next state, with the queue as it was and the device
changed by the command's own operation. -/

namespace Sys2Proof.Machine

-- one theorem at a time: each one in work holds a stack of its own
set_option Elab.async false

theorem exec_objectWrite (q : Requester) (index : BitVec 16) (sub : BitVec 8) (part : Fin 4) (v : Nat) (s : State) :
    exec (.objectWrite q index sub part v) s = s.run (fun x => x.from' q (fun y => y.objectWrite q index.toNat sub.toNat part.val v)) := rfl
theorem exec_apertureEntryWrite (sd : SideId) (a : Fin 16) (k : BitVec 21) (m : BitVec 14) (part : Fin 4) (v : BitVec 64) (s : State) :
    exec (.apertureEntryWrite sd a k m part v) s = s.run (fun x => x.from' (.pf sd) (fun y => y.apertureWrite sd a.val k.toNat m.toNat part.val v.toNat)) := rfl
theorem exec_tyistRead (sd : SideId) (f : FieldFrame) (h : Pdu) (s : State) :
    exec (.tyistRead sd f h) s = s.run (fun x => x.fieldTake sd f (fun y v => y.tyistRead v h)) := rfl
theorem exec_tyistWrite (sd : SideId) (f : FieldFrame) (h : Pdu) (s : State) :
    exec (.tyistWrite sd f h) s = s.run (fun x => x.fieldTake sd f (fun y v => y.tyistWrite v h)) := rfl
theorem exec_tyistSegReadBegin (sd : SideId) (f : FieldFrame) (h : Pdu) (s : State) :
    exec (.tyistSegReadBegin sd f h) s = s.run (fun x => x.fieldTake sd f (fun y v => y.tyistReadBegin v h)) := rfl
theorem exec_tyistSegWriteBegin (sd : SideId) (f : FieldFrame) (h : Pdu) (s : State) :
    exec (.tyistSegWriteBegin sd f h) s = s.run (fun x => x.fieldTake sd f (fun y v => y.tyistWriteBegin v h)) := rfl
theorem exec_tyistSegment (sd : SideId) (f : FieldFrame) (h : Pdu) (s : State) :
    exec (.tyistSegment sd f h) s = s.run (fun x => x.fieldTake sd f (fun y v => y.tyistSegment v h)) := rfl
theorem exec_tyistSegAck (sd : SideId) (f : FieldFrame) (h : Pdu) (s : State) :
    exec (.tyistSegAck sd f h) s = s.run (fun x => x.fieldTake sd f (fun y v => y.tyistSegAck v h)) := rfl
theorem exec_tyistAbort (sd : SideId) (f : FieldFrame) (h : Pdu) (s : State) :
    exec (.tyistAbort sd f h) s = s.run (fun x => x.fieldTake sd f (fun y v => y.tyistAbort v h)) := rfl
theorem exec_tyistPduMalformed (sd : SideId) (f : FieldFrame) (o : Octets) (s : State) :
    exec (.tyistPduMalformed sd f o) s = s.run (fun x => x.fieldTake sd f (fun y v => y.tyistPdu v o)) := rfl
theorem exec_segmentTimeout (n : Nat) (s : State) :
    exec (.segmentTimeout n) s = s.run (fun x => x.livePlant (fun y => y.segmentTimeout n)) := rfl
theorem exec_classicFrameIgnored (sd : SideId) (ident : BitVec 11) (s : State) :
    exec (.classicFrameIgnored sd ident) s = s.run (fun x => x.fieldTake sd ⟨0, ident.toNat, 0, 0⟩ (fun y _ => y)) := rfl
theorem exec_fieldBusOff (sd : SideId) (s : State) :
    exec (.fieldBusOff sd) s = s.run (fun x => x.liveCore sd (fun c => c.fieldBusOff)) := rfl
theorem exec_inbandRequest (sd : SideId) (s : State) :
    exec (.inbandRequest sd) s = s.run (fun x => x.liveInband sd) := rfl
theorem exec_bundleStageWrite (q : Requester) (off : BitVec 18) (o : Octets) (s : State) :
    exec (.bundleStageWrite q off o) s = s.run (fun x => x.stageWrite q off.toNat o) := rfl
theorem exec_bundleOwnerTimeout (s : State) :
    exec (.bundleOwnerTimeout) s = s.run (fun x => x.liveOwl (fun y => y.onDev Dev.bundleOwnerTimeout)) := rfl
theorem exec_bundleApply (q : Requester) (v : BitVec 8) (s : State) :
    exec (.bundleApply q v) s = s.run (fun x => x.deviceWrite q Reg.bundle_apply v.toNat) := rfl
theorem exec_bundleApplyComplete (s : State) :
    exec (.bundleApplyComplete) s = s.run (fun x => x.livePlant Plant.bundleApplied) := rfl
theorem exec_portModeWrite (q : Requester) (sd : SideId) (p : Fin 64) (v : BitVec 8) (s : State) :
    exec (.portModeWrite q sd p v) s = s.run (fun x => x.sideWrite q sd (Reg.port_mode p.val) v.toNat) := rfl
theorem exec_adminUpWrite (q : Requester) (sd : SideId) (p : Fin 64) (v : BitVec 8) (s : State) :
    exec (.adminUpWrite q sd p v) s = s.run (fun x => x.sideWrite q sd (Reg.admin_up p.val) v.toNat) := rfl
theorem exec_laneLock (sd : SideId) (p : Fin 64) (s : State) :
    exec (.laneLock sd p) s = s.run (fun x => x.liveCore sd (fun c => c.laneLock p.val)) := rfl
theorem exec_anComplete (sd : SideId) (p : Fin 64) (outcome : Fin 5) (word : BitVec 48) (s : State) :
    exec (.anComplete sd p outcome word) s = s.run (fun x => x.liveCore sd (fun c => c.anComplete p.val outcome.val word.toNat)) := rfl
theorem exec_linkUpHoldoffExpiry (sd : SideId) (p : Fin 64) (s : State) :
    exec (.linkUpHoldoffExpiry sd p) s = s.run (fun x => x.liveCore sd (fun c => c.holdoffExpiry p.val)) := rfl
theorem exec_linkFault (sd : SideId) (p : Fin 64) (cause : Fin 5) (s : State) :
    exec (.linkFault sd p cause) s = s.run (fun x => x.learnCore sd (fun c => c.linkFault (x.learnEnv sd) p.val cause.val)) := rfl
theorem exec_linkConditionChange (sd : SideId) (p : Fin 64) (signal : Bool) (locked : Bool) (lfault : Bool) (rfault : Bool) (s : State) :
    exec (.linkConditionChange sd p signal locked lfault rfault) s = s.run (fun x => x.liveCore sd (fun c => c.conditionChange p.val signal locked lfault rfault)) := rfl
theorem exec_rxFrameStart (sd : SideId) (p : Fin 64) (o : Octets) (idle : BitVec 16) (s : State) :
    exec (.rxFrameStart sd p o idle) s = s.run (fun x => x.liveCore sd (fun c => c.rxStart p.val o idle.toNat)) := rfl
theorem exec_rxFrameEnd (sd : SideId) (p : Fin 64) (align : Bool) (code : Bool) (fecGood : BitVec 16) (fecBad : BitVec 16) (s : State) :
    exec (.rxFrameEnd sd p align code fecGood fecBad) s = s.run (fun x => x.liveCore sd (fun c => c.rxEnd (x.pipeEnv sd) p.val align code fecGood.toNat fecBad.toNat)) := rfl
theorem exec_pauseFrameReceive (sd : SideId) (p : Fin 64) (quanta : BitVec 16) (s : State) :
    exec (.pauseFrameReceive sd p quanta) s = s.run (fun x => x.liveCore sd (fun c => c.controlReceive p.val (fun a => a.takePause a p.val quanta.toNat))) := rfl
theorem exec_pfcFrameReceive (sd : SideId) (p : Fin 64) (vector : BitVec 16) (quanta : List (BitVec 16)) (s : State) :
    exec (.pfcFrameReceive sd p vector quanta) s = s.run (fun x => x.liveCore sd (fun c => c.controlReceive p.val (fun a => a.takePfc a p.val vector.toNat (fun i => (quanta.getD i 0).toNat)))) := rfl
theorem exec_pauseExpiry (sd : SideId) (p : Fin 64) (st : Fin 9) (s : State) :
    exec (.pauseExpiry sd p st) s = s.run (fun x => x.liveCore sd (fun c => c.pauseExpiry p.val st.val)) := rfl
theorem exec_pauseWatchdogTrip (sd : SideId) (p : Fin 64) (st : Fin 9) (s : State) :
    exec (.pauseWatchdogTrip sd p st) s = s.run (fun x => x.liveCore sd (fun c => c.watchdogTrip p.val st.val)) := rfl
theorem exec_pauseHoldoffEnd (sd : SideId) (p : Fin 64) (st : Fin 9) (s : State) :
    exec (.pauseHoldoffEnd sd p st) s = s.run (fun x => x.liveCore sd (fun c => c.pauseHoldoffEnd p.val st.val)) := rfl
theorem exec_pauseRefresh (sd : SideId) (p : Fin 64) (st : Fin 9) (s : State) :
    exec (.pauseRefresh sd p st) s = s.run (fun x => x.liveCore sd (fun c => c.pauseRefresh p.val st.val)) := rfl
theorem exec_txActiveSaWrite (q : Requester) (sd : SideId) (p : Fin 64) (v : BitVec 8) (s : State) :
    exec (.txActiveSaWrite q sd p v) s = s.run (fun x => x.sideWrite q sd (Reg.tx_active_sa p.val) v.toNat) := rfl
theorem exec_denLinkTimeout (sd : SideId) (p : Fin 64) (s : State) :
    exec (.denLinkTimeout sd p) s = s.run (fun x => x.liveCore sd (fun c => c.denLinkTimeout p.val)) := rfl
theorem exec_eventRateInterval (who : Option SideId) (s : State) :
    exec (.eventRateInterval who) s = s.run (fun x => x.rateEnd who) := rfl
theorem exec_parserAccept (sd : SideId) (ds : List Defect) (s : State) :
    exec (.parserAccept sd ds) s = s.run (fun x => x.parserAccept sd ds) := rfl
theorem exec_shapeCopy (q : Requester) (sd : SideId) (v : BitVec 8) (s : State) :
    exec (.shapeCopy q sd v) s = s.run (fun x => x.sideWrite q sd Reg.shape_copy v.toNat) := rfl
theorem exec_shapeCopyDone (sd : SideId) (s : State) :
    exec (.shapeCopyDone sd) s = s.run (fun x => x.liveCore sd (fun c => c.copyDone Reg.shape_copy Core.copyShapes)) := rfl
theorem exec_profileCopy (q : Requester) (sd : SideId) (v : BitVec 8) (s : State) :
    exec (.profileCopy q sd v) s = s.run (fun x => x.sideWrite q sd Reg.profile_copy v.toNat) := rfl
theorem exec_profileCopyDone (sd : SideId) (s : State) :
    exec (.profileCopyDone sd) s = s.run (fun x => x.liveCore sd (fun c => c.copyDone Reg.profile_copy (fun a e => a.copyBank wProfile 256 e))) := rfl
theorem exec_vidMapCopy (q : Requester) (sd : SideId) (v : BitVec 8) (s : State) :
    exec (.vidMapCopy q sd v) s = s.run (fun x => x.sideWrite q sd Reg.vid_map_copy v.toNat) := rfl
theorem exec_vidMapCopyDone (sd : SideId) (s : State) :
    exec (.vidMapCopyDone sd) s = s.run (fun x => x.liveCore sd (fun c => c.copyDone Reg.vid_map_copy (fun a e => a.copyBank wVidMap 4096 e))) := rfl
theorem exec_badgerMove (q : Requester) (sd : SideId) (s : State) :
    exec (.badgerMove q sd) s = s.run (fun x => x.sideWrite q sd Reg.badger_go 1) := rfl
theorem exec_badgerMoveWrite (q : Requester) (sd : SideId) (s : State) :
    exec (.badgerMoveWrite q sd) s = s.run (fun x => x.sideWrite q sd Reg.badger_go 2) := rfl
theorem exec_badgerCommandStart (sd : SideId) (s : State) :
    exec (.badgerCommandStart sd) s = s.run (fun x => x.onEach sd (fun c => c.badgerStart)) := rfl
theorem exec_badgerCommandDone (sd : SideId) (s : State) :
    exec (.badgerCommandDone sd) s = s.run (fun x => x.onEach sd (fun c => c.badgerDone)) := rfl
theorem exec_probeSearch (q : Requester) (sd : SideId) (k : Fin 4) (s : State) :
    exec (.probeSearch q sd k) s = s.run (fun x => x.sideWrite q sd (Reg.probe_cmd k.val) 1) := rfl
theorem exec_probeStep (q : Requester) (sd : SideId) (k : Fin 4) (s : State) :
    exec (.probeStep q sd k) s = s.run (fun x => x.sideWrite q sd (Reg.probe_cmd k.val) 2) := rfl
theorem exec_probeClose (q : Requester) (sd : SideId) (k : Fin 4) (s : State) :
    exec (.probeClose q sd k) s = s.run (fun x => x.sideWrite q sd (Reg.probe_cmd k.val) 3) := rfl
theorem exec_probeComplete (sd : SideId) (k : Fin 4) (s : State) :
    exec (.probeComplete sd k) s = s.run (fun x => x.liveCore sd (fun c => c.probeComplete k.val)) := rfl
theorem exec_searchScrub (sd : SideId) (f : ScrubFinding) (s : State) :
    exec (.searchScrub sd f) s = s.run (fun x => x.liveCore sd (fun c => c.scrubSlot f)) := rfl
theorem exec_learnApply (v : EngineVisit) (s : State) :
    exec (.learnApply v) s = s.run (fun x => x.learnCore v.side (fun c => c.learnApply (x.learnEnv v.side) v.found)) := rfl
theorem exec_ageingVisit (sd : SideId) (slot : Nat) (ecc : Fin 3) (s : State) :
    exec (.ageingVisit sd slot ecc) s = s.run (fun x => x.learnCore sd (fun c => c.ageingVisit (x.learnEnv sd) slot ecc.val)) := rfl
theorem exec_stationScrubVisit (sd : SideId) (slot : Nat) (ecc : Fin 3) (s : State) :
    exec (.stationScrubVisit sd slot ecc) s = s.run (fun x => x.liveCore sd (fun c => c.stationEcc slot ecc.val)) := rfl
theorem exec_learnMsgSend (sd : SideId) (s : State) :
    exec (.learnMsgSend sd) s = s.run (fun x => x.liveCore sd (fun c => c.learnSend (x.learnEnv sd))) := rfl
theorem exec_learnMsgReceive (sd : SideId) (s : State) :
    exec (.learnMsgReceive sd) s = s.run (fun x => x.liveCore sd (fun c => c.learnReceive (x.learnEnv sd))) := rfl
theorem exec_learnRecordApply (v : EngineVisit) (s : State) :
    exec (.learnRecordApply v) s = s.run (fun x => x.liveCore v.side (fun c => c.learnRecordApply (x.learnEnv v.side) v.found)) := rfl
theorem exec_stationInsert (q : Requester) (sd : SideId) (s : State) :
    exec (.stationInsert q sd) s = s.run (fun x => x.sideWrite q sd Reg.station_cmd 1) := rfl
theorem exec_stationRemove (q : Requester) (sd : SideId) (s : State) :
    exec (.stationRemove q sd) s = s.run (fun x => x.sideWrite q sd Reg.station_cmd 2) := rfl
theorem exec_stationRelocate (q : Requester) (sd : SideId) (s : State) :
    exec (.stationRelocate q sd) s = s.run (fun x => x.sideWrite q sd Reg.station_cmd 3) := rfl
theorem exec_stationFlush (q : Requester) (sd : SideId) (s : State) :
    exec (.stationFlush q sd) s = s.run (fun x => x.sideWrite q sd Reg.station_cmd 4) := rfl
theorem exec_stationCmdExecute (v : EngineVisit) (s : State) :
    exec (.stationCmdExecute v) s = s.run (fun x => x.liveCore v.side (fun c => c.stationCmdExecute (x.learnEnv v.side) v.found)) := rfl
theorem exec_rehashPop (q : Requester) (sd : SideId) (s : State) :
    exec (.rehashPop q sd) s = s.run (fun x => x.sideWrite q sd Reg.rehash_pop 1) := rfl
theorem exec_announce (q : Requester) (sd : SideId) (s : State) :
    exec (.announce q sd) s = s.run (fun x => x.sideWrite q sd Reg.announce 1) := rfl
theorem exec_epochFlip (q : Requester) (sd : SideId) (jade : Bool) (s : State) :
    exec (.epochFlip q sd jade) s = s.run (fun x => x.sideWrite q sd Reg.epoch_flip (b2n jade)) := rfl
theorem exec_flipCancel (q : Requester) (sd : SideId) (s : State) :
    exec (.flipCancel q sd) s = s.run (fun x => x.sideWrite q sd Reg.epoch_flip 2) := rfl
theorem exec_flipTimeReached (sd : SideId) (s : State) :
    exec (.flipTimeReached sd) s = s.run (fun x => x.flipDue sd) := rfl
theorem exec_flipComplete (sd : SideId) (s : State) :
    exec (.flipComplete sd) s = s.run (fun x => x.flipEnd sd) := rfl
theorem exec_flipOverrun (sd : SideId) (s : State) :
    exec (.flipOverrun sd) s = s.run (fun x => x.flipLate sd) := rfl
theorem exec_epochSync (q : Requester) (sd : SideId) (s : State) :
    exec (.epochSync q sd) s = s.run (fun x => x.sideWrite q sd Reg.epoch_sync 1) := rfl
theorem exec_epochSyncDone (sd : SideId) (s : State) :
    exec (.epochSyncDone sd) s = s.run (fun x => x.liveCore sd (fun c => c.epochSyncDone)) := rfl
theorem exec_frerResetTimeout (sd : SideId) (n : Fin 1024) (s : State) :
    exec (.frerResetTimeout sd n) s = s.run (fun x => x.liveCore sd (fun c => c.frerTimeout n.val)) := rfl
theorem exec_actionScrub (sd : SideId) (w : Fin 7) (e : BitVec 17) (bad : WordError) (s : State) :
    exec (.actionScrub sd w e bad) s = s.run (fun x => x.liveCore sd (fun c => c.actionScrub (0x1300 + w.val) e.toNat bad.word.val bad.unc)) := rfl
theorem exec_cellSend (sd : SideId) (g : Fin 8) (hdr : Fin 3) (s : State) :
    exec (.cellSend sd g hdr) s = s.run (fun x => x.fabricCore sd (fun c => c.cellSend g.val hdr.val)) := rfl
theorem exec_creditReturn (sd : SideId) (g : Fin 8) (s : State) :
    exec (.creditReturn sd g) s = s.run (fun x => x.fabricCore sd (fun c => c.creditReturn g.val)) := rfl
theorem exec_cellArrive (e : EngineVisit) (k : Fin 8) (hdr : Fin 3) (s : State) :
    exec (.cellArrive e k hdr) s = s.run (fun x => x.fabricCore e.side (fun c => (c.poolDefects e.found).cellArrive k.val hdr.val)) := rfl
theorem exec_reseqTimeout (sd : SideId) (g : Fin 8) (t : Target) (n : Fin 8) (s : State) :
    exec (.reseqTimeout sd g t n) s = s.run (fun x => x.liveCore sd (fun c => c.reseqTimeout g.val t n.val)) := rfl
theorem exec_mgmtFrameOriginate (sd : SideId) (s : State) :
    exec (.mgmtFrameOriginate sd) s = s.run (fun x => x.liveCore sd (fun c => c.mgmtOriginate)) := rfl
theorem exec_queueSelect (sd : SideId) (p : PortRead) (s : State) :
    exec (.queueSelect sd p) s = s.run (fun x => x.liveCore sd (fun c => c.queueSelect p.port.val p.rd)) := rfl
theorem exec_transmitComplete (sd : SideId) (p : Fin 64) (rd : CellRead) (s : State) :
    exec (.transmitComplete sd p rd) s = s.run (fun x => x.liveCore sd (fun c => c.transmitComplete p.val rd)) := rfl
theorem exec_ctUnderrun (sd : SideId) (p : Fin 64) (s : State) :
    exec (.ctUnderrun sd p) s = s.run (fun x => x.liveCore sd (fun c => c.ctUnderrun p.val)) := rfl
theorem exec_ctBackoffExpiry (sd : SideId) (p : Fin 64) (s : State) :
    exec (.ctBackoffExpiry sd p) s = s.run (fun x => x.liveCore sd (fun c => c.ctBackoffExpiry p.val)) := rfl
theorem exec_crossingSend (sd : SideId) (s : State) :
    exec (.crossingSend sd) s = s.run (fun x => x.crossingSend sd) := rfl
theorem exec_crossingReceive (v : CrossArrival) (s : State) :
    exec (.crossingReceive v) s = s.run (fun x => x.crossingReceive v.side v.hdr.val) := rfl
theorem exec_ledgerAudit (sd : SideId) (s : State) :
    exec (.ledgerAudit sd) s = s.run (fun x => x.tableCore sd (fun c => c.ledgerAudit)) := rfl
theorem exec_poolEnable (q : Requester) (sd : SideId) (n : Fin 8) (s : State) :
    exec (.poolEnable q sd n) s = s.run (fun x => x.sideWrite q sd (Reg.pool_enable n.val) 1) := rfl
theorem exec_poolDisable (q : Requester) (sd : SideId) (n : Fin 8) (s : State) :
    exec (.poolDisable q sd n) s = s.run (fun x => x.sideWrite q sd (Reg.pool_enable n.val) 0) := rfl
theorem exec_bufferAlloc (sd : SideId) (pool : Fin 8) (v : Fin 64) (ds : List Defect) (s : State) :
    exec (.bufferAlloc sd pool v ds) s = s.run (fun x => x.liveCore sd (fun c => c.bufferAlloc pool.val v.val ds)) := rfl
theorem exec_bufferFree (sd : SideId) (h : BitVec 64) (u : BufferUser) (ds : List Defect) (s : State) :
    exec (.bufferFree sd h u ds) s = s.run (fun x => x.liveCore sd (fun c => c.bufferFree u.dma h.toNat u.vport.val ds)) := rfl
theorem exec_poolPortAlloc (e : EngineVisit) (o : Fin 73) (pool : Fin 8) (s : State) :
    exec (.poolPortAlloc e o pool) s = s.run (fun x => x.liveCore e.side (fun c => portAnswer o.val ((c.poolDefects e.found).poolPortAlloc o.val pool.val))) := rfl
theorem exec_poolPortFree (e : EngineVisit) (o : Fin 73) (h : BitVec 64) (s : State) :
    exec (.poolPortFree e o h) s = s.run (fun x => x.liveCore e.side (fun c => (c.poolDefects e.found).poolPortFree o.val h.toNat)) := rfl
theorem exec_lastErrorRead (sd : SideId) (o : Fin 73) (s : State) :
    exec (.lastErrorRead sd o) s = s.run (fun x => x.liveCore sd (fun c => portAnswer o.val (c.lastErrorRead o.val))) := rfl
theorem exec_reclaim (q : Requester) (sd : SideId) (s : State) :
    exec (.reclaim q sd) s = s.run (fun x => x.sideWrite q sd Reg.reclaim 1) := rfl
theorem exec_reclaimExit (q : Requester) (sd : SideId) (s : State) :
    exec (.reclaimExit q sd) s = s.run (fun x => x.sideWrite q sd Reg.reclaim 0) := rfl
theorem exec_reclaimDone (e : EngineVisit) (s : State) :
    exec (.reclaimDone e) s = s.run (fun x => x.liveCore e.side (fun c => (c.poolDefects e.found).reclaimDone)) := rfl
theorem exec_gateChange (sd : SideId) (p : Fin 64) (s : State) :
    exec (.gateChange sd p) s = s.run (fun x => x.liveCore sd (fun c => c.gateChange p.val)) := rfl
theorem exec_configChange (q : Requester) (sd : SideId) (p : Fin 64) (s : State) :
    exec (.configChange q sd p) s = s.run (fun x => x.sideWrite q sd (Reg.config_change p.val) 1) := rfl
theorem exec_configChangeCancel (q : Requester) (sd : SideId) (p : Fin 64) (s : State) :
    exec (.configChangeCancel q sd p) s = s.run (fun x => x.sideWrite q sd (Reg.config_change p.val) 2) := rfl
theorem exec_configChangeTime (sd : SideId) (p : Fin 64) (s : State) :
    exec (.configChangeTime sd p) s = s.run (fun x => x.liveCore sd (fun c => c.configChangeTime p.val)) := rfl
theorem exec_vportSelect (sd : SideId) (v : Fin 64) (fill : Octets) (ds : List Defect) (s : State) :
    exec (.vportSelect sd v fill ds) s = s.run (fun x => x.liveSide sd (fun d => d.vportSelect v.val fill ds)) := rfl
theorem exec_timeSourceWrite (q : Requester) (sd : SideId) (v : BitVec 8) (s : State) :
    exec (.timeSourceWrite q sd v) s = s.run (fun x => x.sideWrite q sd Reg.time_source v.toNat) := rfl
theorem exec_domainAdjust (q : Requester) (sd : SideId) (n : Fin 4) (v : BitVec 64) (s : State) :
    exec (.domainAdjust q sd n v) s = s.run (fun x => x.sideWrite q sd (Reg.domain_adjust n.val) v.toNat) := rfl
theorem exec_domainSet (q : Requester) (sd : SideId) (n : Fin 4) (v : BitVec 128) (s : State) :
    exec (.domainSet q sd n v) s = s.run (fun x => x.sideWrite q sd (Reg.domain_set n.val) v.toNat) := rfl
theorem exec_slewComplete (sd : SideId) (n : Fin 4) (s : State) :
    exec (.slewComplete sd n) s = s.run (fun x => x.liveCore sd (fun c => c.slewComplete n.val)) := rfl
theorem exec_timeSnapshot (q : Requester) (sd : SideId) (s : State) :
    exec (.timeSnapshot q sd) s = s.run (fun x => x.sideWrite q sd Reg.snapshot 1) := rfl
theorem exec_ppsOutEdge (sd : SideId) (s : State) :
    exec (.ppsOutEdge sd) s = s.run (fun x => x.liveCore sd (fun c => c.ppsOutEdge)) := rfl
theorem exec_ppsOutEnd (sd : SideId) (s : State) :
    exec (.ppsOutEnd sd) s = s.run (fun x => x.liveCore sd (fun c => c.ppsOutEnd)) := rfl
theorem exec_ppsInEdge (sd : SideId) (s : State) :
    exec (.ppsInEdge sd) s = s.run (fun x => x.liveCore sd (fun c => c.ppsInEdge)) := rfl
theorem exec_ppsMissing (sd : SideId) (s : State) :
    exec (.ppsMissing sd) s = s.run (fun x => x.liveCore sd (fun c => c.ppsMissing)) := rfl
theorem exec_meterSweep (sd : SideId) (s : State) :
    exec (.meterSweep sd) s = s.run (fun x => x.liveCore sd (fun c => c.meterSweep)) := rfl
theorem exec_streamGateChange (sd : SideId) (g : Fin 256) (s : State) :
    exec (.streamGateChange sd g) s = s.run (fun x => x.liveCore sd (fun c => c.sgateChange g.val)) := rfl
theorem exec_streamGateChangeTime (sd : SideId) (g : Fin 256) (s : State) :
    exec (.streamGateChangeTime sd g) s = s.run (fun x => x.liveCore sd (fun c => c.sgateChangeTime g.val)) := rfl
theorem exec_polClearBlocked (q : Requester) (sd : SideId) (s : State) :
    exec (.polClearBlocked q sd) s = s.run (fun x => x.sideWrite q sd Reg.pol_cmd 1) := rfl
theorem exec_polClearLatch (q : Requester) (sd : SideId) (s : State) :
    exec (.polClearLatch q sd) s = s.run (fun x => x.sideWrite q sd Reg.pol_cmd 2) := rfl
theorem exec_polClearRed (q : Requester) (sd : SideId) (s : State) :
    exec (.polClearRed q sd) s = s.run (fun x => x.sideWrite q sd Reg.pol_cmd 3) := rfl
theorem exec_polGateChange (q : Requester) (sd : SideId) (s : State) :
    exec (.polGateChange q sd) s = s.run (fun x => x.sideWrite q sd Reg.pol_cmd 4) := rfl
theorem exec_polGateChangeCancel (q : Requester) (sd : SideId) (s : State) :
    exec (.polGateChangeCancel q sd) s = s.run (fun x => x.sideWrite q sd Reg.pol_cmd 5) := rfl
theorem exec_polBucketsFull (q : Requester) (sd : SideId) (s : State) :
    exec (.polBucketsFull q sd) s = s.run (fun x => x.sideWrite q sd Reg.pol_cmd 6) := rfl
theorem exec_policingScrub (sd : SideId) (w : Fin 9) (e : BitVec 16) (unc : Bool) (s : State) :
    exec (.policingScrub sd w e unc) s = s.run (fun x => x.liveCore sd (fun c => c.policeEcc (0x1400 + w.val) e.toNat unc)) := rfl
theorem exec_coreRunWrite (q : Requester) (sd : SideId) (v : BitVec 8) (s : State) :
    exec (.coreRunWrite q sd v) s = s.run (fun x => x.sideWrite q sd Reg.core_run v.toNat) := rfl
theorem exec_vportBindAccess (sd : SideId) (k : Fin 8) (mode : Fin 5) (v : Option (BitVec 64)) (s : State) :
    exec (.vportBindAccess sd k mode v) s = s.run (fun x => x.liveCore sd (fun c => c.bindAccess k.val mode.val (v.map BitVec.toNat))) := rfl
theorem exec_lockstepDivergence (sd : SideId) (k : Fin 4) (pc : BitVec 64) (s : State) :
    exec (.lockstepDivergence sd k pc) s = s.run (fun x => x.liveCore sd (fun c => c.divergence k.val pc.toNat)) := rfl
theorem exec_ldWriteComplete (sd : SideId) (v : Fin 64) (rd : CellRead) (s : State) :
    exec (.ldWriteComplete sd v rd) s = s.run (fun x => x.liveSide sd (fun d => d.deliveryComplete v.val false rd)) := rfl
theorem exec_spmScrub (sd : SideId) (w : BitVec 21) (ecc : Fin 3) (s : State) :
    exec (.spmScrub sd w ecc) s = s.run (fun x => x.liveCore sd (fun c => c.spmScrub w.toNat ecc.val)) := rfl
theorem exec_dramTrainFull (q : Requester) (sd : SideId) (s : State) :
    exec (.dramTrainFull q sd) s = s.run (fun x => x.sideWrite q sd Reg.dram_train 1) := rfl
theorem exec_dramTrainRestore (q : Requester) (sd : SideId) (s : State) :
    exec (.dramTrainRestore q sd) s = s.run (fun x => x.sideWrite q sd Reg.dram_train 2) := rfl
theorem exec_dramTrainDone (sd : SideId) (fails : List (Fin 3 × Fin 4 × Fin 2)) (s : State) :
    exec (.dramTrainDone sd fails) s = s.run (fun x => x.liveCore sd (fun c => c.trainDone (fails.map (fun f => (f.1.val, f.2.1.val, f.2.2.val))))) := rfl
theorem exec_retrainStep (sd : SideId) (s : State) :
    exec (.retrainStep sd) s = s.run (fun x => x.liveCore sd (fun c => c.retrainStep)) := rfl
theorem exec_retrainUpdate (sd : SideId) (r0 : Fin 4) (r1 : Fin 4) (r2 : Fin 4) (r3 : Fin 4) (s : State) :
    exec (.retrainUpdate sd r0 r1 r2 r3) s = s.run (fun x => x.liveCore sd (fun c => c.retrainUpdate [r0.val, r1.val, r2.val, r3.val])) := rfl
theorem exec_fspRequest (q : Requester) (sd : SideId) (n : Fin 3) (s : State) :
    exec (.fspRequest q sd n) s = s.run (fun x => x.sideWrite q sd Reg.fsp_request n.val) := rfl
theorem exec_fspCancel (q : Requester) (sd : SideId) (s : State) :
    exec (.fspCancel q sd) s = s.run (fun x => x.sideWrite q sd Reg.fsp_request 7) := rfl
theorem exec_fspChangeDone (sd : SideId) (s : State) :
    exec (.fspChangeDone sd) s = s.run (fun x => x.liveCore sd (fun c => c.fspDone)) := rfl
theorem exec_dramRead (sd : SideId) (u : DramUser) (addr : BitVec 40) (len : Fin 65) (tag : BitVec 16) (s : State) :
    exec (.dramRead sd u addr len tag) s = s.run (fun x => x.liveSide sd (fun d => d.dramFrom u addr.toNat len.val tag.toNat none)) := rfl
theorem exec_dramWrite (sd : SideId) (u : DramUser) (addr : BitVec 40) (o : Octets) (tag : BitVec 16) (s : State) :
    exec (.dramWrite sd u addr o tag) s = s.run (fun x => x.liveSide sd (fun d => d.dramFrom u addr.toNat o.length tag.toNat (some o))) := rfl
theorem exec_dramCommandIssue (sd : SideId) (ch : Fin 4) (es : List (BitVec 33 × DramErr)) (mr27 : List (Fin 2 × Nat)) (s : State) :
    exec (.dramCommandIssue sd ch es mr27) s = s.run (fun x => x.liveSide sd (fun d => d.dramIssue ch.val (es.map (fun e => (e.1.toNat, e.2))) (mr27.map (fun e => (e.1.val, e.2))))) := rfl
theorem exec_regWindow (sd : SideId) (s : State) :
    exec (.regWindow sd) s = s.run (fun x => x.liveCore sd (fun c => c.regWindow)) := rfl
theorem exec_refreshInterval (sd : SideId) (ch : Fin 4) (rank : Fin 2) (s : State) :
    exec (.refreshInterval sd ch rank) s = s.run (fun x => x.liveCore sd (fun c => c.refreshInterval (2 * ch.val + rank.val))) := rfl
theorem exec_dramTempEstimate (sd : SideId) (ch : Fin 4) (t : Int) (s : State) :
    exec (.dramTempEstimate sd ch t) s = s.run (fun x => x.liveCore sd (fun c => c.tempEstimate ch.val t)) := rfl
theorem exec_mr4Poll (sd : SideId) (ch : Fin 4) (rank : Fin 2) (code : Fin 5) (s : State) :
    exec (.mr4Poll sd ch rank code) s = s.run (fun x => x.liveCore sd (fun c => c.mr4Poll (2 * ch.val + rank.val) code.val)) := rfl
theorem exec_dramSrIdle (sd : SideId) (s : State) :
    exec (.dramSrIdle sd) s = s.run (fun x => x.liveCore sd (fun c => c.dramSrIdle)) := rfl
theorem exec_hostPortReset (cause : Fin 3) (s : State) :
    exec (.hostPortReset cause) s = s.run (fun x => x.livePlant (fun y => y.hostPortReset cause.val)) := rfl
theorem exec_flr (sd : SideId) (fn : Fin 64) (s : State) :
    exec (.flr sd fn) s = s.run (fun x => x.livePlant (fun y => y.flr sd fn.val)) := rfl
theorem exec_pcieUnsupportedRequest (sd : SideId) (fn : Fin 64) (s : State) :
    exec (.pcieUnsupportedRequest sd fn) s = s.run (fun x => x.livePlant (fun y => y.unsupportedRequest sd fn.val)) := rfl
theorem exec_pcieMalformedTlp (s : State) :
    exec (.pcieMalformedTlp) s = s.run (fun x => x.liveDev (fun d => d.malformedTlp)) := rfl
theorem exec_pciePoisonedWrite (s : State) :
    exec (.pciePoisonedWrite) s = s.run (fun x => x.liveDev (fun d => d.poisonedWrite)) := rfl
theorem exec_pcieUnexpectedCpl (s : State) :
    exec (.pcieUnexpectedCpl) s = s.run (fun x => x.liveDev (fun d => d.unexpectedCpl)) := rfl
theorem exec_dmaReadCompletion (sd : SideId) (v : Fin 64) (outcome : Fin 3) (o : Octets) (s : State) :
    exec (.dmaReadCompletion sd v outcome o) s = s.run (fun x => x.liveCore sd (fun c => c.readCompletion v.val outcome.val o)) := rfl
theorem exec_pcieCplTimeout (sd : SideId) (v : Fin 64) (s : State) :
    exec (.pcieCplTimeout sd v) s = s.run (fun x => x.cplTimeout sd v.val) := rfl
theorem exec_txTailWrite (q : Requester) (sd : SideId) (v : Fin 64) (n : BitVec 32) (s : State) :
    exec (.txTailWrite q sd v n) s = s.run (fun x => x.sideWrite q sd (Reg.tx_tail v.val) n.toNat) := rfl
theorem exec_fillTailWrite (q : Requester) (sd : SideId) (v : Fin 64) (n : BitVec 32) (s : State) :
    exec (.fillTailWrite q sd v n) s = s.run (fun x => x.sideWrite q sd (Reg.fill_tail v.val) n.toNat) := rfl
theorem exec_consumerHeadWrite (q : Requester) (sd : SideId) (v : Fin 64) (r : Ring) (n : BitVec 32) (s : State) :
    exec (.consumerHeadWrite q sd v r n) s = s.run (fun x => x.sideWrite q sd (r.headKey v.val) n.toNat) := rfl
theorem exec_irqDelayExpiry (sd : SideId) (v : Fin 64) (r : Ring) (s : State) :
    exec (.irqDelayExpiry sd v r) s = s.run (fun x => x.liveCore sd (fun c => c.irqDelay v.val r)) := rfl
theorem exec_txDescriptorFetch (e : EngineVisit) (v : Fin 64) (desc : Octets) (s : State) :
    exec (.txDescriptorFetch e v desc) s = s.run (fun x => x.liveSide e.side (fun d => (d.poolMeets e.found).txFetch v.val desc)) := rfl
theorem exec_txCompletion (e : EngineVisit) (v : Fin 64) (s : State) :
    exec (.txCompletion e v) s = s.run (fun x => x.liveSide e.side (fun d => (d.poolMeets e.found).txCompletion v.val)) := rfl
theorem exec_txStampTimeout (sd : SideId) (v : Fin 64) (s : State) :
    exec (.txStampTimeout sd v) s = s.run (fun x => x.liveCore sd (fun c => c.stampTimeout v.val)) := rfl
theorem exec_hostDeliveryComplete (sd : SideId) (v : Fin 64) (rd : CellRead) (s : State) :
    exec (.hostDeliveryComplete sd v rd) s = s.run (fun x => x.liveSide sd (fun d => d.deliveryComplete v.val true rd)) := rfl
theorem exec_vportCreate (q : Requester) (sd : SideId) (v : Fin 64) (s : State) :
    exec (.vportCreate q sd v) s = s.run (fun x => x.sideWrite q sd (Reg.vport_ctl v.val) 1) := rfl
theorem exec_vportReset (q : Requester) (sd : SideId) (v : Fin 64) (s : State) :
    exec (.vportReset q sd v) s = s.run (fun x => x.sideWrite q sd (Reg.vport_ctl v.val) 2) := rfl
theorem exec_vportDestroy (q : Requester) (sd : SideId) (v : Fin 64) (s : State) :
    exec (.vportDestroy q sd v) s = s.run (fun x => x.sideWrite q sd (Reg.vport_ctl v.val) 3) := rfl
theorem exec_vportFreeze (q : Requester) (sd : SideId) (v : Fin 64) (s : State) :
    exec (.vportFreeze q sd v) s = s.run (fun x => x.sideWrite q sd (Reg.vport_ctl v.val) 4) := rfl
theorem exec_vportThaw (q : Requester) (sd : SideId) (v : Fin 64) (s : State) :
    exec (.vportThaw q sd v) s = s.run (fun x => x.sideWrite q sd (Reg.vport_ctl v.val) 5) := rfl
theorem exec_vportSave (q : Requester) (sd : SideId) (v : Fin 64) (s : State) :
    exec (.vportSave q sd v) s = s.run (fun x => x.sideWrite q sd (Reg.vport_ctl v.val) 6) := rfl
theorem exec_vportRestore (q : Requester) (sd : SideId) (v : Fin 64) (s : State) :
    exec (.vportRestore q sd v) s = s.run (fun x => x.sideWrite q sd (Reg.vport_ctl v.val) 7) := rfl
theorem exec_vportResetComplete (sd : SideId) (v : Fin 64) (s : State) :
    exec (.vportResetComplete sd v) s = s.run (fun x => x.liveSide sd (fun d => d.vportResetComplete v.val)) := rfl
theorem exec_freezeComplete (sd : SideId) (v : Fin 64) (s : State) :
    exec (.freezeComplete sd v) s = s.run (fun x => x.liveCore sd (fun c => c.freezeComplete v.val)) := rfl
theorem exec_freezeDeadline (sd : SideId) (v : Fin 64) (s : State) :
    exec (.freezeDeadline sd v) s = s.run (fun x => x.liveCore sd (fun c => c.freezeDeadline v.val)) := rfl
theorem exec_counterSnapshot (q : Requester) (sd : SideId) (s : State) :
    exec (.counterSnapshot q sd) s = s.run (fun x => x.sideWrite q sd Reg.counter_snapshot 1) := rfl
theorem exec_snapshotWritten (sd : SideId) (s : State) :
    exec (.snapshotWritten sd) s = s.run (fun x => x.liveCore sd (fun c => c.snapshotWritten)) := rfl
theorem exec_countersClear (q : Requester) (sd : SideId) (s : State) :
    exec (.countersClear q sd) s = s.run (fun x => x.sideWrite q sd Reg.counters_clear 1) := rfl
theorem exec_windowCountersClear (q : Requester) (sd : SideId) (s : State) :
    exec (.windowCountersClear q sd) s = s.run (fun x => x.sideWrite q sd Reg.counters_clear 2) := rfl
theorem exec_hpmCounterWrap (sd : SideId) (k : Fin 8) (n : Fin 32) (smp : HpmSample) (s : State) :
    exec (.hpmCounterWrap sd k n smp) s = s.run (fun x => x.liveSide sd (fun d => d.hpmWrap k.val n.val smp)) := rfl
theorem exec_sampHeadWrite (q : Requester) (sd : SideId) (k : Fin 8) (v : BitVec 32) (s : State) :
    exec (.sampHeadWrite q sd k v) s = s.run (fun x => x.sideWrite q sd (Reg.samp_head k.val) v.toNat) := rfl
theorem exec_faultMessage (m : CollectorTurn) (s : State) :
    exec (.faultMessage m) s = s.run (fun x => x.liveFault m) := rfl
theorem exec_fenceComplete (sd : SideId) (kind : Fin 9) (num : BitVec 16) (s : State) :
    exec (.fenceComplete sd kind num) s = s.run (fun x => x.liveCore sd (fun c => c.fenceComplete kind.val num.toNat)) := rfl
theorem exec_promotionLapse (sd : SideId) (e : Fin 480) (s : State) :
    exec (.promotionLapse sd e) s = s.run (fun x => x.liveCore sd (fun c => c.promotionLapse e.val)) := rfl
theorem exec_faultClear (q : Requester) (sd : SideId) (v : BitVec 32) (s : State) :
    exec (.faultClear q sd v) s = s.run (fun x => x.sideWrite q sd Reg.fault_clear v.toNat) := rfl
theorem exec_unfencePort (q : Requester) (sd : SideId) (n : BitVec 16) (s : State) :
    exec (.unfencePort q sd n) s = s.run (fun x => x.sideWrite q sd Reg.unfence (1 * 2 ^ 28 + n.toNat)) := rfl
theorem exec_unfenceBank (q : Requester) (sd : SideId) (n : BitVec 16) (s : State) :
    exec (.unfenceBank q sd n) s = s.run (fun x => x.sideWrite q sd Reg.unfence (2 * 2 ^ 28 + n.toNat)) := rfl
theorem exec_unfenceSlice (q : Requester) (sd : SideId) (n : BitVec 16) (s : State) :
    exec (.unfenceSlice q sd n) s = s.run (fun x => x.sideWrite q sd Reg.unfence (3 * 2 ^ 28 + n.toNat)) := rfl
theorem exec_unfenceMiddle (q : Requester) (sd : SideId) (n : BitVec 16) (s : State) :
    exec (.unfenceMiddle q sd n) s = s.run (fun x => x.sideWrite q sd Reg.unfence (4 * 2 ^ 28 + n.toNat)) := rfl
theorem exec_unfenceRank (q : Requester) (sd : SideId) (n : BitVec 16) (s : State) :
    exec (.unfenceRank q sd n) s = s.run (fun x => x.sideWrite q sd Reg.unfence (5 * 2 ^ 28 + n.toNat)) := rfl
theorem exec_unfenceCorePair (q : Requester) (sd : SideId) (n : BitVec 16) (s : State) :
    exec (.unfenceCorePair q sd n) s = s.run (fun x => x.sideWrite q sd Reg.unfence (6 * 2 ^ 28 + n.toNat)) := rfl
theorem exec_unfenceSpmBank (q : Requester) (sd : SideId) (n : BitVec 16) (s : State) :
    exec (.unfenceSpmBank q sd n) s = s.run (fun x => x.sideWrite q sd Reg.unfence (7 * 2 ^ 28 + n.toNat)) := rfl
theorem exec_unfenceVport (q : Requester) (sd : SideId) (n : BitVec 16) (s : State) :
    exec (.unfenceVport q sd n) s = s.run (fun x => x.sideWrite q sd Reg.unfence (8 * 2 ^ 28 + n.toNat)) := rfl
theorem exec_degradeRelease (q : Requester) (sd : SideId) (s : State) :
    exec (.degradeRelease q sd) s = s.run (fun x => x.sideWrite q sd Reg.degrade_release 1) := rfl
theorem exec_pairRelease (q : Requester) (sd : SideId) (s : State) :
    exec (.pairRelease q sd) s = s.run (fun x => x.sideWrite q sd Reg.pair_release 1) := rfl
theorem exec_eventAck (q : Requester) (sd : SideId) (v : BitVec 32) (s : State) :
    exec (.eventAck q sd v) s = s.run (fun x => x.sideWrite q sd Reg.event_ack v.toNat) := rfl
theorem exec_ffrClear (q : Requester) (sd : SideId) (s : State) :
    exec (.ffrClear q sd) s = s.run (fun x => x.sideWrite q sd Reg.ffr_clear 1) := rfl
theorem exec_deviceFaultMessage (s : State) :
    exec .deviceFaultMessage s = s.run (fun x => x.livePlant Plant.deviceFaultMessage) := rfl
theorem exec_deviceFaultClear (q : Requester) (v : BitVec 32) (s : State) :
    exec (.deviceFaultClear q v) s = s.run (fun x => x.deviceWrite q Reg.device_fault_clear v.toNat) := rfl
theorem exec_deviceEventAck (q : Requester) (v : BitVec 32) (s : State) :
    exec (.deviceEventAck q v) s = s.run (fun x => x.deviceWrite q Reg.device_event_ack v.toNat) := rfl
theorem exec_deviceFfrClear (q : Requester) (s : State) :
    exec (.deviceFfrClear q) s = s.run (fun x => x.deviceWrite q Reg.device_ffr_clear 1) := rfl
theorem exec_heartbeatLoss (sd : SideId) (s : State) :
    exec (.heartbeatLoss sd) s = s.run (fun x => x.pairLost sd) := rfl
theorem exec_pairReadbackMismatch (sd : SideId) (pn : Fin 4) (s : State) :
    exec (.pairReadbackMismatch sd pn) s = s.run (fun x => x.liveCore sd (fun c => c.readbackMismatch pn.val)) := rfl
theorem exec_stallDetect (sd : SideId) (jade : Bool) (s : State) :
    exec (.stallDetect sd jade) s = s.run (fun x => x.liveCore sd (fun c => c.stallDetect (b2n jade))) := rfl
theorem exec_owlWatchdogExpiry (s : State) :
    exec (.owlWatchdogExpiry) s = s.run (fun x => (x.liveDev (fun d => d.watchdogExpiry)).owlGone) := rfl
theorem exec_pllLockTimeout (sd : SideId) (n : Fin 6) (refBad : Bool) (s : State) :
    exec (.pllLockTimeout sd n refBad) s = s.run (fun x => x.pllTimeout sd n.val refBad) := rfl
theorem exec_pllLock (sd : SideId) (n : Fin 6) (s : State) :
    exec (.pllLock sd n) s = s.run (fun x => x.pllLocked sd n.val) := rfl
theorem exec_pllLockLoss (sd : SideId) (n : Fin 6) (s : State) :
    exec (.pllLockLoss sd n) s = s.run (fun x => x.liveCore sd (fun c => c.pllLockLoss n.val)) := rfl
theorem exec_coreFreqChange (q : Requester) (sd : SideId) (divider : Bool) (v : BitVec 16) (s : State) :
    exec (.coreFreqChange q sd divider v) s = s.run (fun x => x.coreFreqChange q sd divider v.toNat) := rfl
theorem exec_powerRequestRun (q : Requester) (sd : SideId) (s : State) :
    exec (.powerRequestRun q sd) s = s.run (fun x => x.sideWrite q sd Reg.power_request 0) := rfl
theorem exec_powerRequestDen (q : Requester) (sd : SideId) (s : State) :
    exec (.powerRequestDen q sd) s = s.run (fun x => x.sideWrite q sd Reg.power_request 1) := rfl
theorem exec_powerRequestBurrow (q : Requester) (sd : SideId) (s : State) :
    exec (.powerRequestBurrow q sd) s = s.run (fun x => x.sideWrite q sd Reg.power_request 2) := rfl
theorem exec_entryDrainDone (sd : SideId) (s : State) :
    exec (.entryDrainDone sd) s = s.run (fun x => x.liveCore sd (fun c => c.entryDrainDone)) := rfl
theorem exec_entryDrainTimeout (sd : SideId) (s : State) :
    exec (.entryDrainTimeout sd) s = s.run (fun x => x.drainTimeout sd) := rfl
theorem exec_denEntered (sd : SideId) (s : State) :
    exec (.denEntered sd) s = s.run (fun x => x.liveCore sd (fun c => c.denEntered)) := rfl
theorem exec_burrowEntered (sd : SideId) (s : State) :
    exec (.burrowEntered sd) s = s.run (fun x => x.burrowIn sd) := rfl
theorem exec_wakeInEdge (n : Fin 8) (high : Bool) (held : Bool) (s : State) :
    exec (.wakeInEdge n high held) s = s.run (fun x => x.wakeInEdge n.val high held) := rfl
theorem exec_wakeTimerExpiry (sd : SideId) (s : State) :
    exec (.wakeTimerExpiry sd) s = s.run (fun x => x.wakeBy sd (fun c => c.wakeTimer)) := rfl
theorem exec_fieldWakeFrame (sd : SideId) (ident : BitVec 11) (s : State) :
    exec (.fieldWakeFrame sd ident) s = s.run (fun x => x.wakeBy sd (fun c => c.fieldWakeFrame ident.toNat)) := rfl
theorem exec_denExit (sd : SideId) (s : State) :
    exec (.denExit sd) s = s.run (fun x => x.leaveDen sd) := rfl
theorem exec_heldPortFullRate (sd : SideId) (p : Fin 64) (s : State) :
    exec (.heldPortFullRate sd p) s = s.run (fun x => x.liveCore sd (fun c => c.heldFullRate p.val)) := rfl
theorem exec_heldPortFallback (sd : SideId) (p : Fin 64) (s : State) :
    exec (.heldPortFallback sd p) s = s.run (fun x => x.liveCore sd (fun c => c.heldFallback p.val)) := rfl
theorem exec_burrowExit (sd : SideId) (s : State) :
    exec (.burrowExit sd) s = s.run (fun x => x.livePlant (fun y => y.burrowExit sd)) := rfl
theorem exec_burrowExitComplete (sd : SideId) (t : TrainOutcome) (s : State) :
    exec (.burrowExitComplete sd t) s = s.run (fun x => x.livePlant (fun y => y.burrowExitComplete sd t.plain)) := rfl
theorem exec_avsMonitorRead (margins : List (BitVec 16)) (ack : Bool) (s : State) :
    exec (.avsMonitorRead margins ack) s = s.run (fun x => x.liveOwl (fun y => y.avsRead (margins.map BitVec.toNat) ack)) := rfl
theorem exec_poweredHour (shifts : List (BitVec 32)) (s : State) :
    exec (.poweredHour shifts) s = s.run (fun x => x.liveOwl (fun y => y.poweredHour (shifts.map BitVec.toInt))) := rfl
theorem exec_railOutOfRange (k : Fin 9) (s : State) :
    exec (.railOutOfRange k) s = s.run (fun x => x.railOut k.val) := rfl
theorem exec_aonClockLoss (k : Fin 2) (s : State) :
    exec (.aonClockLoss k) s = s.run (fun x => x.onDev (fun d => d.aonLoss k.val)) := rfl
theorem exec_tjSample (sd : SideId) (t : Int) (s : State) :
    exec (.tjSample sd t) s = s.run (fun x => x.liveCore sd (fun c => c.tjSample t)) := rfl
theorem exec_porstAssert (s : State) :
    exec (.porstAssert) s = s.run (fun x => x.porstAssert) := rfl
theorem exec_porstRelease (straps : BitVec 15) (fuses : BitVec 2048) (flash : List (BitVec 27 × Octets)) (bad : List (Fin 32 × Bool)) (s : State) :
    exec (.porstRelease straps fuses flash bad) s = s.run (fun x => x.porstRelease straps.toNat fuses.toNat (flash.map (fun f => (f.1.toNat, f.2))) (bad.map (fun b => (b.1.val, b.2)))) := rfl
theorem exec_bootSlotVerify (flash : Fin 3) (s : State) :
    exec (.bootSlotVerify flash) s = s.run (fun x => x.bootVerify flash.val) := rfl
theorem exec_firmwareStart (s : State) :
    exec (.firmwareStart) s = s.run (fun x => x.firmwareStart) := rfl
theorem exec_sideRelease (ta : TrainOutcome) (tb : TrainOutcome) (fa : BitVec 5 × BitVec 16) (fb : BitVec 5 × BitVec 16) (s : State) :
    exec (.sideRelease ta tb fa fb) s = s.run (fun x => x.livePlant (fun y => y.sideRelease ta.plain tb.plain (fa.1.toNat, fa.2.toNat) (fb.1.toNat, fb.2.toNat))) := rfl
theorem exec_deferredBootComplete (ta : TrainOutcome) (tb : TrainOutcome) (s : State) :
    exec (.deferredBootComplete ta tb) s = s.run (fun x => x.livePlant (fun y => y.deferredComplete ta.plain tb.plain)) := rfl
theorem exec_versionCommit (q : Requester) (v : BitVec 8) (part : Option (Fin 2048)) (s : State) :
    exec (.versionCommit q v part) s = s.run (fun x => x.commandWrite q ⟨false, part.map Fin.val, false⟩ (.dev Reg.version_commit) v.toNat) := rfl
theorem exec_recoveryBoot (q : Requester) (s : State) :
    exec (.recoveryBoot q) s = s.run (fun x => x.deviceWrite q Reg.recovery_apply 1) := rfl
theorem exec_recoveryProgram (q : Requester) (s : State) :
    exec (.recoveryProgram q) s = s.run (fun x => x.deviceWrite q Reg.recovery_apply 2) := rfl
theorem exec_persistSnapshot (s : State) :
    exec (.persistSnapshot) s = s.run (fun x => x.liveOwl Plant.persistSnapshot) := rfl
theorem exec_flashBusyTimeout (s : State) :
    exec (.flashBusyTimeout) s = s.run (fun x => x.liveOwl (fun y => y.onDev Dev.flashBusy)) := rfl
theorem exec_attestNonceWrite (q : Requester) (v : BitVec 256) (s : State) :
    exec (.attestNonceWrite q v) s = s.run (fun x => x.deviceWrite q Reg.attest_nonce v.toNat) := rfl
theorem exec_attestRequest (q : Requester) (s : State) :
    exec (.attestRequest q) s = s.run (fun x => x.deviceWrite q Reg.attest_request 1) := rfl
theorem exec_attestReportReady (s : State) :
    exec (.attestReportReady) s = s.run (fun x => x.liveOwl (fun y => y.onDev Dev.attestReady)) := rfl
theorem exec_attestTimeout (s : State) :
    exec (.attestTimeout) s = s.run (fun x => x.liveOwl (fun y => y.onDev Dev.attestTimeout)) := rfl
theorem exec_attestOwnerTimeout (s : State) :
    exec (.attestOwnerTimeout) s = s.run (fun x => x.liveOwl (fun y => y.onDev Dev.attestOwnerTimeout)) := rfl
theorem exec_sideResetAssert (sd : SideId) (s : State) :
    exec (.sideResetAssert sd) s = s.run (fun x => x.sideReset sd 1) := rfl
theorem exec_sideResetRelease (sd : SideId) (t : TrainOutcome) (o : TrainOutcome) (s : State) :
    exec (.sideResetRelease sd t o) s = s.run (fun x => x.livePlant (fun y => y.sideResetRelease sd t.plain o.plain)) := rfl
theorem exec_sideResetWrite (q : Requester) (sd : SideId) (s : State) :
    exec (.sideResetWrite q sd) s = s.run (fun x => x.sideWrite q sd Reg.side_reset 1) := rfl
theorem exec_portTestWrite (q : Requester) (sd : SideId) (p : Fin 64) (v : BitVec 8) (s : State) :
    exec (.portTestWrite q sd p v) s = s.run (fun x => x.sideWrite q sd (Reg.port_test p.val) v.toNat) := rfl
theorem exec_prbsLock (sd : SideId) (p : Fin 64) (s : State) :
    exec (.prbsLock sd p) s = s.run (fun x => x.liveCore sd (fun c => c.prbsLock p.val)) := rfl
theorem exec_prbsLockLoss (sd : SideId) (p : Fin 64) (errors : BitVec 16) (s : State) :
    exec (.prbsLockLoss sd p errors) s = s.run (fun x => x.liveCore sd (fun c => c.prbsLockLoss p.val errors.toNat)) := rfl
theorem exec_eyeScan (q : Requester) (sd : SideId) (p : Fin 64) (s : State) :
    exec (.eyeScan q sd p) s = s.run (fun x => x.sideWrite q sd (Reg.eye_cmd p.val) 1) := rfl
theorem exec_eyeScanDone (sd : SideId) (p : Fin 64) (counts : List (BitVec 16)) (s : State) :
    exec (.eyeScanDone sd p counts) s = s.run (fun x => x.liveCore sd (fun c => c.eyeScanDone p.val (counts.map BitVec.toNat))) := rfl
theorem exec_genStart (q : Requester) (sd : SideId) (p : Fin 64) (s : State) :
    exec (.genStart q sd p) s = s.run (fun x => x.sideWrite q sd (Reg.gen_cmd p.val) 1) := rfl
theorem exec_genStop (q : Requester) (sd : SideId) (p : Fin 64) (s : State) :
    exec (.genStop q sd p) s = s.run (fun x => x.sideWrite q sd (Reg.gen_cmd p.val) 2) := rfl
theorem exec_genCountReached (sd : SideId) (p : Fin 64) (s : State) :
    exec (.genCountReached sd p) s = s.run (fun x => x.liveCore sd (fun c => c.genCountReached p.val)) := rfl
theorem exec_checkerFrame (sd : SideId) (p : Fin 64) (o : Octets) (codeError : Bool) (s : State) :
    exec (.checkerFrame sd p o codeError) s = s.run (fun x => x.liveCore sd (fun c => c.checkerFrame p.val o codeError)) := rfl
theorem exec_jtagInstruction (code : BitVec 8) (s : State) :
    exec (.jtagInstruction code) s = s.run (fun x => x.livePlant (fun y => y.tapInstruction code.toNat)) := rfl
theorem exec_mbistRun (q : Requester) (s : State) :
    exec (.mbistRun q) s = s.run (fun x => x.deviceWrite q Reg.mbist_cmd 1) := rfl
theorem exec_mbistRunStaged (q : Requester) (s : State) :
    exec (.mbistRunStaged q) s = s.run (fun x => x.deviceWrite q Reg.mbist_cmd 2) := rfl
theorem exec_mbistDone (fails : List MbistFail) (s : State) :
    exec (.mbistDone fails) s = s.run (fun x => x.livePlant (fun y => y.mbistDone fails)) := rfl
theorem exec_repairProgram (q : Requester) (v : BitVec 8) (part : Option (Fin 2048)) (misread : Bool) (s : State) :
    exec (.repairProgram q v part misread) s = s.run (fun x => x.commandWrite q ⟨false, part.map Fin.val, misread⟩ (.dev Reg.repair_program) v.toNat) := rfl
theorem exec_fieldTestRequest (q : Requester) (sd : SideId) (s : State) :
    exec (.fieldTestRequest q sd) s = s.run (fun x => x.sideWrite q sd Reg.field_test_request 1) := rfl
theorem exec_fieldTestCancel (q : Requester) (sd : SideId) (s : State) :
    exec (.fieldTestCancel q sd) s = s.run (fun x => x.sideWrite q sd Reg.field_test_request 0) := rfl
theorem exec_fieldTestDue (sd : SideId) (s : State) :
    exec (.fieldTestDue sd) s = s.run (fun x => x.liveOwl (fun y => y.onCore sd (fun c => c.fieldDue))) := rfl
theorem exec_fieldTestStart (sd : SideId) (s : State) :
    exec (.fieldTestStart sd) s = s.run (fun x => x.liveOwl (fun y => y.onCore sd (fun c => c.fieldStart))) := rfl
theorem exec_fieldTestDone (sd : SideId) (failed : BitVec 5) (unit : BitVec 16) (s : State) :
    exec (.fieldTestDone sd failed unit) s = s.run (fun x => x.liveOwl (fun y => y.onCore sd (fun c => c.fieldDone x.dev.aon failed.toNat unit.toNat))) := rfl
theorem exec_objectRead (q : Requester) (addr : ReadAddr) (part : Fin 4) (s : State) :
    exec (.objectRead q addr part) s = s.run (fun x => x.from' q (fun y => y.objectRead q addr part.val)) := rfl
theorem exec_scratchpadRequest (sd : SideId) (l : List SpmReq) (ecc : Fin 3) (s : State) :
    exec (.scratchpadRequest sd l ecc) s = s.run (fun x => x.liveSide sd (fun d => d.spmClock l ecc.val)) := rfl
theorem exec_cacheEccError (sd : SideId) (u : Fin 9) (addr : BitVec 64) (unc : Bool) (s : State) :
    exec (.cacheEccError sd u addr unc) s = s.run (fun x => x.liveSide sd (fun d => d.cacheEcc u.val addr.toNat unc)) := rfl
theorem exec_pcieConfigWrite (sd : SideId) (fn : Fin 64) (field : CfgField) (v : BitVec 64) (s : State) :
    exec (.pcieConfigWrite sd fn field v) s = s.run (fun x => x.onHost (fun y => y.configWrite sd fn.val field v.toNat)) := rfl
theorem exec_pcieLinkUp (speed : Fin 5) (width : Fin 9) (s : State) :
    exec (.pcieLinkUp speed width) s = s.run (fun x => x.linkUpAt speed.val width.val) := rfl
theorem exec_msixTableWrite (sd : SideId) (fn : Fin 64) (entry : Fin 64) (word : Fin 4) (v : BitVec 32) (s : State) :
    exec (.msixTableWrite sd fn entry word v) s = s.run (fun x => x.onHost (fun y => y.msixWrite sd fn entry.val word.val v.toNat)) := rfl
theorem exec_fieldBusOffRecovery (sd : SideId) (s : State) :
    exec (.fieldBusOffRecovery sd) s = s.run (fun x => x.liveCore sd (fun c => c.fieldBusOn)) := rfl
theorem exec_railInRange (k : Fin 9) (s : State) :
    exec (.railInRange k) s = s.run (fun x => x.onDev (fun d => d.railIn k.val)) := rfl
theorem exec_aonClockReturn (k : Fin 2) (s : State) :
    exec (.aonClockReturn k) s = s.run (fun x => x.onDev (fun d => d.aonReturn k.val)) := rfl
theorem exec_crossingTrainingDone (ok : Bool) (s : State) :
    exec (.crossingTrainingDone ok) s = s.run (fun x => x.liveDev (fun d => d.crossingTrained ok)) := rfl
theorem exec_bootFirmwareTimeout (s : State) :
    exec (.bootFirmwareTimeout) s = s.run (fun x => x.firmwareTimeout) := rfl
theorem exec_jtagDataScan (scan : TapScan) (s : State) :
    exec (.jtagDataScan scan) s = s.run (fun x => x.livePlant (fun y => y.tapScan scan)) := rfl

end Sys2Proof.Machine
end

