-- ==== Sys2Proof/Laws/Write.lean ====
section
/-! SUPPORT. Write.lean: a write that a requester may make to an object of a side or of the device level: what its chapter's rule gives
stands in the side's or the device's part, and the rest is as it was. -/

namespace Sys2Proof.Machine

-- one theorem at a time: each one in work holds a stack of its own
set_option Elab.async false

theorem Plant.onDev_sameMemories (p : Plant) (f : Dev → Dev) (h : (f p.dev).flash = p.dev.flash) (h' : (f p.dev).fuses = p.dev.fuses) :
    p.sameMemories (p.onDev f) := ⟨rfl, rfl, rfl, rfl, by simp [h], by simp [h']⟩

/-- What is left of a write to a side: the side's part is `c`, and beside it the frame of a write holds but for the slots `l` of the
device level. -/
def Plant.tookSide (p t : Plant) (sd : SideId) (c : Core) (l : List Nat) : Prop :=
  (∃ x, (t.side sd).r = { c with stateLive := x, toDev := [] }) ∧ p.sameMemories t ∧
  (p.dev.joined = false → t.side sd.other = p.side sd.other) ∧ ∀ k, k ∉ l → t.dev.rd k = p.dev.rd k

theorem Plant.tookSide.onDev {p t : Plant} {sd : SideId} {c : Core} {l : List Nat} (h : p.tookSide t sd c l) (f : Dev → Dev)
    (hf : ∀ d : Dev, (f d).flash = d.flash ∧ (f d).fuses = d.fuses) (hr : ∀ k, k ∉ l → (f t.dev).rd k = t.dev.rd k) :
    p.tookSide (t.onDev f) sd c l := by
  obtain ⟨h1, h2, h3, h4⟩ := h
  refine ⟨by rw [Plant.onDev_side]; exact h1, h2.trans (Plant.onDev_sameMemories _ f (hf _).1 (hf _).2),
    fun h => by rw [Plant.onDev_side]; exact h3 h, fun k hk => ?_⟩
  rw [Plant.onDev_rd, hr k hk]; exact h4 k hk

theorem Plant.tookSide.mono {p t : Plant} {sd : SideId} {c : Core} {l m : List Nat} (h : p.tookSide t sd c l) (hs : l ⊆ m) :
    p.tookSide t sd c m := ⟨h.1, h.2.1, h.2.2.1, fun k hk => h.2.2.2 k (fun hm => hk (hs hm))⟩

/-- In Joined mode a change of side B beside side A's. -/
theorem Plant.tookSide.onB {p t : Plant} {c : Core} {l : List Nat} (h : p.tookSide t .a c l) (hj : p.dev.joined = true) (f : Core → Core) :
    p.tookSide (t.onCore .b f) .a c l := by
  obtain ⟨⟨x, h1⟩, h2, _, h4⟩ := h
  refine ⟨⟨x, ?_⟩, h2.trans (Plant.onCore_sameMemories _ _ _), fun h => absurd (hj.symm.trans h) (by decide), fun k hk => ?_⟩
  · rw [show SideId.b = SideId.other .a from rfl, Plant.onCore_side_other']; exact h1
  · rw [Plant.onCore_dev_rd]; exact h4 k hk

theorem Plant.tookSide.flipFollow {p t : Plant} {c : Core} {l : List Nat} (h : p.tookSide t .a c l)
    (hd : t.dev.joined = p.dev.joined) : p.tookSide t.flipFollow .a c l := by
  unfold Plant.flipFollow
  split
  · rename_i hj; exact h.onB (hd ▸ hj.1) _
  · exact h

theorem Plant.onCore_tookSide (p : Plant) (sd : SideId) (f : Core → Core)
    (h : (f (p.side sd).r).rd Reg.power_state = (p.side sd).r.rd Reg.power_state) : p.tookSide (p.onCore sd f) sd (f (p.side sd).r) [] :=
  ⟨p.onCore_part sd f h, p.onCore_sameMemories sd f, fun _ => p.onCore_side_other sd f, fun k _ => p.onCore_dev_rd sd f k⟩

/-- The device-level objects that a write to the counters of a side clears with them (R506). -/
abbrev clearedSlots : List Nat := [Reg.crossing_drops_ab, Reg.crossing_drops_ba]

/-- In Joined mode the hook of side B takes a write to a mirrored object too, the probes and the flip apart (R25, R204, R277). -/
abbrev Plant.mirrorTakes (p : Plant) (s : SideId) (r : ObjRow) (k v : Nat) : Prop :=
  p.dev.joined = true → s = .a → mirrored (k / 256) (k % 256) = true → ¬ (0x308 ≤ k / 256 ∧ k / 256 < 0x30C) → k ≠ Reg.epoch_flip →
    ((p.side (SideId.other .a)).r.hook (p.hookEnv .a) r (p.dev.rd Reg.silicon_revision) k v).2 = .ok

/-- A write to an object of a side that its hook takes. -/
theorem Plant.writeSide_took (p : Plant) (s : SideId) (r : ObjRow) (k v : Nat) (h1 : k ≠ Reg.power_request) (h2 : k ≠ Reg.side_reset)
    (hok : ((p.side s).r.hook (p.hookEnv s) r (p.dev.rd Reg.silicon_revision) k v).2 = .ok)
    (hps : ((p.side s).r.hook (p.hookEnv s) r (p.dev.rd Reg.silicon_revision) k v).1.rd Reg.power_state = (p.side s).r.rd Reg.power_state)
    (hB : p.mirrorTakes s r k v) :
    (p.writeSide s r k v).2 = .ok ∧
    p.tookSide (p.writeSide s r k v).1 s ((p.side s).r.hook (p.hookEnv s) r (p.dev.rd Reg.silicon_revision) k v).1
      (if k = Reg.counters_clear ∧ v = 1 then clearedSlots else []) := by
  unfold Plant.writeSide
  rw [if_neg h1, if_neg h2]
  dsimp only
  -- the change before the two device-level effects
  generalize hx : (if (p.dev.joined && decide (s = SideId.a) && mirrored (k / 256) (k % 256) &&
        !(decide (0x308 ≤ k / 256) && decide (k / 256 < 0x30C))) = true then _ else _ : Plant × Reason) = x
  have hx' : x.2 = .ok ∧ p.tookSide x.1 s ((p.side s).r.hook (p.hookEnv s) r (p.dev.rd Reg.silicon_revision) k v).1 [] := by
    split at hx
    · rename_i hj
      simp only [Bool.and_eq_true, decide_eq_true_eq, Bool.not_eq_true', Bool.and_eq_false_iff, decide_eq_false_iff_not] at hj
      obtain ⟨⟨⟨hj, rfl⟩, hm⟩, hn⟩ := hj
      subst hx
      have hg : ((if k = Reg.epoch_flip then fun a c => (a.followFlip c, Reason.ok)
          else fun _ c => c.hook (p.hookEnv .a) r (p.dev.rd Reg.silicon_revision) k v)
          ((p.side .a).r.hook (p.hookEnv .a) r (p.dev.rd Reg.silicon_revision) k v).1 (p.side (SideId.other .a)).r).2 = .ok := by
        split
        · rfl
        · rename_i hk; exact hB hj rfl hm (by omega) hk
      unfold Plant.both
      dsimp only
      rw [if_neg (fun h => h.2 hg), if_pos hok]
      exact ⟨rfl, (p.onCore_tookSide .a (fun c => (c.hook (p.hookEnv .a) r (p.dev.rd Reg.silicon_revision) k v).1) hps).onB hj _⟩
    · subst hx
      exact ⟨hok, p.onCore_tookSide s (fun c => (c.hook (p.hookEnv s) r (p.dev.rd Reg.silicon_revision) k v).1) hps⟩
  clear hx
  obtain ⟨h3, h4⟩ := hx'
  split
  · rename_i hc
    obtain ⟨rfl, hi⟩ := hc
    have hd : x.1.dev.joined = p.dev.joined := by unfold Dev.joined; rw [h4.2.2.2 _ (List.not_mem_nil)]
    exact ⟨h3, (h4.flipFollow hd).mono (List.nil_subset _)⟩
  split
  · rename_i hc
    refine ⟨rfl, ?_⟩
    rw [if_pos ⟨hc.1, hc.2.1⟩]
    refine (h4.mono (List.nil_subset _)).onDev _ (fun d => ⟨rfl, rfl⟩) (fun j hj => ?_)
    cases s <;> (refine Dev.rd_wr_ne _ _ (fun e => hj ?_); rw [e]; simp)
  · rename_i hc
    have e : (if k = Reg.counters_clear ∧ v = 1 then clearedSlots else []) = [] := if_neg (fun h => hc ⟨h.1, h.2, h3⟩)
    rw [e]
    split
    · exact ⟨rfl, h4.onDev _ (fun d => ⟨rfl, rfl⟩) (fun j _ => rfl)⟩
    split
    · exact ⟨rfl, h4.onDev _ (fun d => ⟨rfl, rfl⟩) (fun j _ => rfl)⟩
    · exact ⟨h3, h4⟩

/-- A requester that the device listens to holds no partial write back. -/
theorem Plant.listens_giveWay {p : Plant} {q : Requester} (h : p.listens q = true) (id : Nat) :
    p.hears q = true ∧ p.giveWay q id = p := by
  unfold Plant.listens at h
  simp only [Bool.and_eq_true, Option.isNone_iff_eq_none] at h
  exact ⟨h.1, by unfold Plant.giveWay; rw [h.2]⟩

/-- A write that counts in host_config_writes, or does not (R573). -/
theorem Plant.noteHostWrite_cases (p : Plant) (q : Requester) (o : Obj) (r : Plant × Reason) (h : r.2 = .ok) :
    (p.noteHostWrite q o r).2 = .ok ∧
    ((p.noteHostWrite q o r).1 = r.1 ∨ (p.noteHostWrite q o r).1 = r.1.onDev (fun d => d.inc Reg.host_config_writes)) := by
  unfold Plant.noteHostWrite
  split
  · exact ⟨rfl, .inr rfl⟩
  · exact ⟨h, .inl rfl⟩

/-- A whole value written to an object of a side by a command, when the requester may write it, the value is in range and the chapter's
rule takes it. -/
theorem Plant.sideWrite_took (p : Plant) (q : Requester) (sd : SideId) (k v : Nat) (row : ObjRow) (x : Nat)
    (hm : p.mayWriteSide q sd k = true) (hf : findObj (keyIndex sd k) (k % 256) = some ⟨.side sd k, row⟩)
    (ht : row.ty ≠ .domain) (ha : row.accept v = some x) (h1 : k ≠ Reg.power_request) (h2 : k ≠ Reg.side_reset)
    (hok : ((p.side sd).r.hook (p.hookEnv sd) row (p.dev.rd Reg.silicon_revision) k x).2 = .ok)
    (hps : ((p.side sd).r.hook (p.hookEnv sd) row (p.dev.rd Reg.silicon_revision) k x).1.rd Reg.power_state = (p.side sd).r.rd Reg.power_state)
    (hB : p.mirrorTakes sd row k x) :
    p.tookSide (p.sideWrite q sd k v) sd ((p.side sd).r.hook (p.hookEnv sd) row (p.dev.rd Reg.silicon_revision) k x).1
      (Reg.host_config_writes :: if k = Reg.counters_clear ∧ x = 1 then clearedSlots else []) := by
  unfold Plant.mayWriteSide at hm
  rw [hf] at hm
  simp only [Bool.and_eq_true, decide_eq_true_eq] at hm
  obtain ⟨hh, hg⟩ := Plant.listens_giveWay hm.1 (256 * (Place.side sd k).index + (Place.side sd k).sub)
  obtain ⟨h3, h4⟩ := p.writeSide_took sd row k x h1 h2 hok hps hB
  have hw : (p.writeObject q WriteEnv.plain ⟨.side sd k, row⟩ v).2 = .ok ∧
      p.tookSide (p.writeObject q WriteEnv.plain ⟨.side sd k, row⟩ v).1 sd
        ((p.side sd).r.hook (p.hookEnv sd) row (p.dev.rd Reg.silicon_revision) k x).1
        (Reg.host_config_writes :: if k = Reg.counters_clear ∧ x = 1 then clearedSlots else []) := by
    unfold Plant.writeObject
    rw [hm.2]
    dsimp only
    rw [if_neg ht, ha]
    dsimp only
    obtain ⟨h5, h6 | h6⟩ := p.noteHostWrite_cases q ⟨.side sd k, row⟩ _ h3
    · rw [h6]; exact ⟨h5, h4.mono (List.subset_cons_self _ _)⟩
    · rw [h6]
      refine ⟨h5, (h4.mono (List.subset_cons_self _ _)).onDev _ (fun d => ⟨Dev.add_flash .., Dev.add_fuses ..⟩) (fun j hj => ?_)⟩
      exact Dev.rd_add_ne _ _ _ (fun e => hj (by rw [e]; simp))
  unfold Plant.sideWrite Plant.commandWrite
  rw [if_neg (by simp [hh])]
  have hf' : findObj (Place.side sd k).index (Place.side sd k).sub = some ⟨.side sd k, row⟩ := hf
  rw [hf']
  dsimp only
  rw [hg]
  unfold Plant.settleWrite
  rw [if_pos hw.1]
  exact hw.2

theorem Plant.tookSide.wroteSide {p t : Plant} {sd : SideId} {c : Core} (h : p.tookSide t sd c [Reg.host_config_writes]) :
    p.wroteSide t sd := ⟨h.2.1, h.2.2.1, fun k hk => h.2.2.2 k (by simpa using hk)⟩

theorem Plant.tookSide.rd {p t : Plant} {sd : SideId} {c : Core} {l : List Nat} (h : p.tookSide t sd c l) (k : Nat) :
    (t.side sd).r.rd k = c.rd k := by
  obtain ⟨⟨x, hx⟩, -⟩ := h
  exact Core.rd_regs (by rw [hx]) k

theorem Plant.tookSide.onlySlots {p t : Plant} {sd : SideId} {c d : Core} {l m : List Nat} (h : p.tookSide t sd d l)
    (hd : c.onlySlots d m) : c.onlySlots (t.side sd).r m := by
  obtain ⟨⟨x, hx⟩, -⟩ := h
  obtain ⟨⟨x', y', z', rfl⟩, h1⟩ := hd
  exact ⟨⟨x', x, [], hx⟩, fun k hk => (Core.rd_regs (by rw [hx]) k).trans (h1 k hk)⟩

theorem Plant.tookSide.onlySlotsAndReports {p t : Plant} {sd : SideId} {c d : Core} {l m : List Nat} (h : p.tookSide t sd d l)
    (hd : c.onlySlotsAndReports d m) : c.onlySlotsAndReports (t.side sd).r m := by
  obtain ⟨⟨x, hx⟩, -⟩ := h
  obtain ⟨⟨x', y', z', f, w, r, n, rfl⟩, h1, h2⟩ := hd
  refine ⟨⟨x', x, [], f, w, r, n, hx⟩, fun k hk => (Core.rd_regs (by rw [hx]) k).trans (h1 k hk), fun k hk => ?_⟩
  have : (t.side sd).r.tabAt k = ({ c with regs := x', stateLive := y', toDev := z', faultQ := f, tabs := w, rates := r, qLost := n } : Core).tabAt k := by
    rw [hx]; rfl
  rw [this]; exact h2 k hk

/-- A whole value written to a device-level object: the device is as the chapter's rule leaves it, the write counted (R573) or not. -/
theorem Plant.deviceWrite_took (p : Plant) (q : Requester) (e : WriteEnv) (k v : Nat) (row : ObjRow) (x : Nat) (he : e.boot = false)
    (hm : p.mayWriteDev q k = true) (hf : findObj (k / 256) (k % 256) = some ⟨.dev k, row⟩)
    (ht : row.ty ≠ .domain) (ha : row.accept v = some x) (hok : (p.writeDev q e row k x).2 = .ok) :
    p.commandWrite q e (.dev k) v = (p.writeDev q e row k x).1 ∨
    p.commandWrite q e (.dev k) v = (p.writeDev q e row k x).1.onDev (fun d => d.inc Reg.host_config_writes) := by
  unfold Plant.mayWriteDev at hm
  rw [hf] at hm
  simp only [Bool.and_eq_true, decide_eq_true_eq] at hm
  obtain ⟨hh, hg⟩ := Plant.listens_giveWay hm.1 (256 * (Place.dev k).index + (Place.dev k).sub)
  have hc : p.writeCheck q e ⟨.dev k, row⟩ = .ok := by
    obtain ⟨b, part, bad⟩ := e
    simp only at he
    subst he
    exact hm.2
  have hw : (p.writeObject q e ⟨.dev k, row⟩ v).2 = .ok ∧ ((p.writeObject q e ⟨.dev k, row⟩ v).1 = (p.writeDev q e row k x).1 ∨
      (p.writeObject q e ⟨.dev k, row⟩ v).1 = (p.writeDev q e row k x).1.onDev (fun d => d.inc Reg.host_config_writes)) := by
    unfold Plant.writeObject
    rw [hc]
    dsimp only
    rw [if_neg ht, ha]
    dsimp only
    exact p.noteHostWrite_cases q ⟨.dev k, row⟩ _ hok
  unfold Plant.commandWrite
  rw [if_neg (by simp [hh])]
  have hf' : findObj (Place.dev k).index (Place.dev k).sub = some ⟨.dev k, row⟩ := hf
  rw [hf']
  dsimp only
  rw [hg]
  unfold Plant.settleWrite
  rw [if_pos hw.1]
  exact hw.2

end Sys2Proof.Machine
end

