-- ==== Sys2Proof/Laws/Rows.lean ====
section
/-! SUPPORT. Rows.lean: for each object that a command writes, what a write that the requester may make and the chapter's rule takes leaves:
the side's part as the rule gives it, and the frame of a write. -/

namespace Sys2Proof.Machine

-- one theorem at a time: each one in work holds a stack of its own
set_option Elab.async false

theorem ite_snd_ok {P : Prop} [Decidable P] {a b : Core × Reason} (hp : ¬ P) (h : b.2 = .ok) : (if P then a else b).2 = .ok := by rw [if_neg hp]; exact h

/-- No key `base + 256 i`, `i` below `n`, is a slot of the row. -/
def ObjRow.apart (r : ObjRow) (base top n : Nat) : Bool :=
  Nat.ble top r.base || Nat.ble (Nat.add r.base (Nat.mul r.insts 256)) base ||
  Nat.ble (base / 256 + n) (r.base / 256) || Nat.ble (r.base / 256 + r.insts) (base / 256) || Nat.blt (base % 256) (r.base % 256) ||
  (match r.step with
   | 0 => Nat.ble r.ty.slots (base % 256 - r.base % 256)
   | st + 1 => Nat.ble r.subs ((base % 256 - r.base % 256) / (st + 1)) || Nat.ble r.ty.slots ((base % 256 - r.base % 256) % (st + 1)))

theorem ObjRow.apart_sound (r : ObjRow) (base top n : Nat) (ht : base + 256 * n ≤ top + 255) (h : r.apart base top n = true) (i : Nat) (hi : i < n) : r.holds (base + 256 * i) = false := by
  unfold ObjRow.holds
  unfold ObjRow.apart at h
  dsimp only at h ⊢
  by_cases h0 : r.base ≤ base + 256 * i
  · by_cases h1 : r.base % 256 + (base + 256 * i - r.base) % 256 < 256
    · by_cases h2 : (base + 256 * i - r.base) / 256 < r.insts
      · have hs : (base + 256 * i - r.base) % 256 = base % 256 - r.base % 256 ∧ r.base % 256 ≤ base % 256 := by omega
        rw [hs.1]
        simp only [Bool.or_eq_true, Nat.ble_eq, Nat.blt_eq] at h
        have h6 : ¬ top ≤ r.base := by omega
        have h7 : ¬ r.base.add (r.insts.mul 256) ≤ base := by show ¬ r.base + r.insts * 256 ≤ base; omega
        have h3 : ¬ base / 256 + n ≤ r.base / 256 := by omega
        have h4 : ¬ r.base / 256 + r.insts ≤ base / 256 := by omega
        have h5 : ¬ base % 256 < r.base % 256 := by omega
        simp only [h3, h4, h5, h6, h7, false_or] at h
        split
        · rename_i hst; rw [hst] at h; simp at h ⊢; omega
        · rename_i hst
          obtain ⟨st, hst'⟩ := Nat.exists_eq_succ_of_ne_zero hst
          rw [hst'] at h ⊢
          simp at h ⊢; omega
      · simp [h2]
    · simp [h1]
  · simp [h0]

theorem findRow_family (rows : List ObjRow) (r : ObjRow) (top : Nat) (h : rows.find? (fun x => !x.apart r.base top r.insts) = some r)
    (htop : r.base + 256 * r.insts ≤ top + 255) (ht : 0 < r.ty.slots) (hsub : 0 < r.subs) (n : Nat) (hn : n < r.insts) : findRow rows (r.base + 256 * n) = some r := by
  rw [List.find?_eq_some_iff_append] at h
  obtain ⟨-, as, bs, rfl, has⟩ := h
  unfold findRow
  rw [List.find?_eq_some_iff_append]
  refine ⟨?_, as, bs, rfl, fun x hx => ?_⟩
  · unfold ObjRow.holds; dsimp only
    have e1 : (r.base + 256 * n - r.base) / 256 = n := by omega
    have e2 : (r.base + 256 * n - r.base) % 256 = 0 := by omega
    have e3 := Nat.mod_lt r.base (show 0 < 256 by decide)
    rw [e1, e2]
    simp [hn, e3, ht, hsub]
  · rw [ObjRow.apart_sound x _ _ _ htop (by simpa using has x hx) n hn]; rfl

theorem placeOf_side (sd : SideId) (k : Nat) (h : k / 256 < 0x2040 ∨ (0x2080 ≤ k / 256 ∧ k / 256 < 0x20C0) ∨ k / 256 = 0x3210 ∨ k / 256 = 0x3510 ∨ k / 256 = 0x3220 ∨
    (0x3580 ≤ k / 256 ∧ k / 256 < 0x35C0)) : placeOf (keyIndex sd k) (k % 256) = some (.side sd k) := by
  have hk : 256 * (k / 256) + k % 256 = k := Nat.div_add_mod k 256
  generalize hi : k / 256 = i at *
  generalize hj : k % 256 = j at *
  have hp : ∀ n, (0x1580 ≤ n → n < 0x1600 → perSide.any (fun i => decide (n = i)) = false ∧ perSide.any (fun i => decide (n = i + 1)) = false) := by
    intro n h1 h2
    simp only [perSide, List.any_cons, List.any_nil, Bool.or_false, Bool.or_eq_false_iff, decide_eq_false_iff_not]
    omega
  rcases h with h | h | h | h | h | h
  · by_cases h0 : i < 0x2000
    · cases sd
      · have e : keyIndex .a k = 0x2000 + i := by unfold keyIndex; rw [hi]; dsimp only; rw [if_pos h0]
        rw [e]; unfold placeOf; dsimp only
        rw [if_pos (by omega), Nat.add_sub_cancel_left, hk]
      · have e : keyIndex .b k = 0x4000 + i := by unfold keyIndex; rw [hi]; dsimp only; rw [if_pos h0]
        rw [e]; unfold placeOf; dsimp only
        rw [if_neg (by omega), if_pos (by omega), Nat.add_sub_cancel_left, hk]
    · cases sd
      · have e : keyIndex .a k = 0x6000 + (i - 0x2000) := by unfold keyIndex; rw [hi]; dsimp only; rw [if_neg h0, if_pos (by omega)]
        rw [e]; unfold placeOf; dsimp only
        rw [if_neg (by omega), if_neg (by omega), if_pos (by omega)]
        have e1 : (0x6000 + (i - 0x2000) - 0x6000) / 64 = 0 := by omega
        have e2 : 256 * (0x2000 + (0x6000 + (i - 0x2000)) % 64) + j = k := by omega
        rw [e1, e2]; rfl
      · have e : keyIndex .b k = 0x6040 + (i - 0x2000) := by unfold keyIndex; rw [hi]; dsimp only; rw [if_neg h0, if_pos (by omega)]
        rw [e]; unfold placeOf; dsimp only
        rw [if_neg (by omega), if_neg (by omega), if_pos (by omega)]
        have e1 : (0x6040 + (i - 0x2000) - 0x6000) / 64 = 1 := by omega
        have e2 : 256 * (0x2000 + (0x6040 + (i - 0x2000)) % 64) + j = k := by omega
        rw [e1, e2]; rfl
  · cases sd
    · have e : keyIndex .a k = 0x6080 + (i - 0x2080) := by
        unfold keyIndex; rw [hi]; dsimp only; rw [if_neg (by omega), if_neg (by omega), if_pos (by omega)]
      rw [e]; unfold placeOf; dsimp only
      rw [if_neg (by omega), if_neg (by omega), if_neg (by omega), if_pos (by omega)]
      have e1 : (0x6080 + (i - 0x2080) - 0x6080) / 64 = 0 := by omega
      have e2 : 256 * (0x2080 + (0x6080 + (i - 0x2080)) % 64) + j = k := by omega
      rw [e1, e2]; rfl
    · have e : keyIndex .b k = 0x60C0 + (i - 0x2080) := by
        unfold keyIndex; rw [hi]; dsimp only; rw [if_neg (by omega), if_neg (by omega), if_pos (by omega)]
      rw [e]; unfold placeOf; dsimp only
      rw [if_neg (by omega), if_neg (by omega), if_neg (by omega), if_pos (by omega)]
      have e1 : (0x60C0 + (i - 0x2080) - 0x6080) / 64 = 1 := by omega
      have e2 : 256 * (0x2080 + (0x60C0 + (i - 0x2080)) % 64) + j = k := by omega
      rw [e1, e2]; rfl
  · subst h; have e : keyIndex sd k = 0x1210 + sd.num := by unfold keyIndex; rw [hi]; rfl
    rw [e, ← hk]; cases sd <;> rfl
  · subst h; have e : keyIndex sd k = 0x1510 + sd.num := by unfold keyIndex; rw [hi]; rfl
    rw [e, ← hk]; cases sd <;> rfl
  · subst h; have e : keyIndex sd k = 0x1220 + sd.num := by unfold keyIndex; rw [hi]; rfl
    rw [e, ← hk]; cases sd <;> rfl
  · cases sd
    · have e : keyIndex .a k = i - 0x2000 + 0 := by
        unfold keyIndex; rw [hi]; dsimp only; rw [if_neg (by omega), if_neg (by omega), if_neg (by omega), if_neg (by omega)]; rfl
      obtain ⟨n, hn⟩ : ∃ n, n = i - 0x2000 + 0 := ⟨_, rfl⟩
      have hq := hp n (by omega) (by omega)
      rw [e, ← hn]; unfold placeOf; dsimp only
      rw [if_neg (by omega), if_neg (by omega), if_neg (by omega), if_neg (by omega), hq.1, hq.2, if_neg (by decide), if_neg (by decide), if_pos (by omega)]
      have e1 : (n - 0x1580) / 64 = 0 := by omega
      have e2 : 256 * (0x3580 + n % 64) + j = k := by omega
      rw [e1, e2]; rfl
    · have e : keyIndex .b k = i - 0x2000 + 64 := by
        unfold keyIndex; rw [hi]; dsimp only; rw [if_neg (by omega), if_neg (by omega), if_neg (by omega), if_neg (by omega)]; rfl
      obtain ⟨n, hn⟩ : ∃ n, n = i - 0x2000 + 64 := ⟨_, rfl⟩
      have hq := hp n (by omega) (by omega)
      rw [e, ← hn]; unfold placeOf; dsimp only
      rw [if_neg (by omega), if_neg (by omega), if_neg (by omega), if_neg (by omega), hq.1, hq.2, if_neg (by decide), if_neg (by decide), if_pos (by omega)]
      have e1 : (n - 0x1580) / 64 = 1 := by omega
      have e2 : 256 * (0x3580 + n % 64) + j = k := by omega
      rw [e1, e2]; rfl

/-- The object of a family of like ones. -/
theorem findObj_family (r : ObjRow) (top : Nat) (h : sideRows.find? (fun x => !x.apart r.base top r.insts) = some r)
    (htop : r.base + 256 * r.insts ≤ top + 255) (ht : 0 < r.ty.slots) (hsub : 0 < r.subs)
    (hk : r.base / 256 + r.insts ≤ 0x2040 ∨ (0x2080 ≤ r.base / 256 ∧ r.base / 256 + r.insts ≤ 0x20C0) ∨ (r.insts ≤ 1 ∧ (r.base / 256 = 0x3210 ∨ r.base / 256 = 0x3510 ∨
      r.base / 256 = 0x3220)) ∨ (0x3580 ≤ r.base / 256 ∧ r.base / 256 + r.insts ≤ 0x35C0)) (sd : SideId) (n : Nat) (hn : n < r.insts) :
    findObj (keyIndex sd (r.base + 256 * n)) ((r.base + 256 * n) % 256) = some ⟨.side sd (r.base + 256 * n), r⟩ := by
  unfold findObj
  rw [placeOf_side sd _ (by omega)]
  unfold Place.row
  simp only [findRow_family sideRows r top h htop ht hsub n hn]
  have e : (r.base + 256 * n - r.base) % 256 = 0 := by omega
  unfold Place.first ObjRow.slotOf; simp only [e]
  simp
theorem Core.hook_port_mode (c : Core) (e : HookEnv) (rev v : Nat) (p : Fin 64) :
    c.hook e ⟨0x10001, 64, 1, 0, .enum8, Req.HFO, Req.HB, .set, 0, (.upto 7)⟩ rev (Reg.port_mode p.val) v = (if v = 7 ∧ p.val % 4 ≠ 0 then (c, Reason.badValue) else c.whenDown p.val (c.portMode p.val v)) := by
  have h1 : Reg.port_mode p.val / 256 = 0x100 + p.val := by unfold Reg.port_mode; omega
  have h2 : Reg.port_mode p.val % 256 = 1 := by unfold Reg.port_mode; omega
  have hlt := p.isLt
  unfold Core.hook; simp only [h1, h2]
  repeat (first | rw [if_pos (by first | omega | decide)] | rw [if_neg (by first | omega | decide)] | fail)
  unfold Core.hookPort
  simp only [Nat.add_sub_cancel_left]
  repeat (first | rw [if_pos (by first | omega | decide)] | rw [if_neg (by first | omega | decide)] | fail)
  try first | rfl | simp
theorem findObj_port_mode (sd : SideId) (p : Fin 64) :
    findObj (keyIndex sd (Reg.port_mode p.val)) ((Reg.port_mode p.val) % 256) = some ⟨.side sd (Reg.port_mode p.val), ⟨0x10001, 64, 1, 0, .enum8, Req.HFO, Req.HB, .set, 0, (.upto 7)⟩⟩ :=
  findObj_family ⟨0x10001, 64, 1, 0, .enum8, Req.HFO, Req.HB, .set, 0, (.upto 7)⟩ 0x13f02 (by decide +kernel) (by decide) (by decide) (by decide) (by decide) sd p.val p.isLt
theorem Plant.took_port_mode (p : Plant) (q : Requester) (sd : SideId) (n : Fin 64) (v x : Nat) (hm : p.mayWriteSide q sd (Reg.port_mode n.val) = true)
    (ha : (⟨0x10001, 64, 1, 0, .enum8, Req.HFO, Req.HB, .set, 0, (.upto 7)⟩ : ObjRow).accept v = some x) (hok : (if x = 7 ∧ n.val % 4 ≠ 0 then ((p.side sd).r, Reason.badValue) else (p.side sd).r.whenDown n.val ((p.side sd).r.portMode n.val x)).2 = .ok)
    (hps : (if x = 7 ∧ n.val % 4 ≠ 0 then ((p.side sd).r, Reason.badValue) else (p.side sd).r.whenDown n.val ((p.side sd).r.portMode n.val x)).1.rd Reg.power_state = (p.side sd).r.rd Reg.power_state) :
    p.tookSide (p.sideWrite q sd (Reg.port_mode n.val) v) sd (if x = 7 ∧ n.val % 4 ≠ 0 then ((p.side sd).r, Reason.badValue) else (p.side sd).r.whenDown n.val ((p.side sd).r.portMode n.val x)).1 [Reg.host_config_writes] := by
  have h := Core.hook_port_mode (p.side sd).r (p.hookEnv sd) (p.dev.rd Reg.silicon_revision) x n
  have h' := p.sideWrite_took q sd (Reg.port_mode n.val) v _ x hm (findObj_port_mode sd n) (by decide) ha (by unfold Reg.port_mode Reg.power_request; omega) (by unfold Reg.port_mode Reg.side_reset; omega)
    (by rw [h]; exact hok) (by rw [h]; exact hps)
    (fun _ _ hm _ => absurd hm (by have := n.isLt; unfold mirrored Reg.port_mode; simp only [Bool.or_eq_true, Bool.and_eq_true, decide_eq_true_eq, wShape, wProfile, wFilter, wMeter, wSgate, wSgclAdmin]; omega))
  rw [h] at h'
  have e0 : (if Reg.port_mode n.val = Reg.counters_clear ∧ x = 1 then clearedSlots else []) = [] :=
    if_neg (fun e => absurd e.1 (by unfold Reg.port_mode Reg.counters_clear; omega))
  rw [e0] at h'
  exact h'

theorem Core.hook_admin_up (c : Core) (e : HookEnv) (rev v : Nat) (p : Fin 64) :
    c.hook e ⟨0x10003, 64, 1, 0, .bool, Req.HFO, Req.HB, .set, 0, .any⟩ rev (Reg.admin_up p.val) v = (c.adminUpWrite p.val v) := by
  have h1 : Reg.admin_up p.val / 256 = 0x100 + p.val := by unfold Reg.admin_up; omega
  have h2 : Reg.admin_up p.val % 256 = 3 := by unfold Reg.admin_up; omega
  have hlt := p.isLt
  unfold Core.hook; simp only [h1, h2]
  repeat (first | rw [if_pos (by first | omega | decide)] | rw [if_neg (by first | omega | decide)] | fail)
  unfold Core.hookPort
  simp only [Nat.add_sub_cancel_left]
  repeat (first | rw [if_pos (by first | omega | decide)] | rw [if_neg (by first | omega | decide)] | fail)
  try first | rfl | simp
theorem findObj_admin_up (sd : SideId) (p : Fin 64) :
    findObj (keyIndex sd (Reg.admin_up p.val)) ((Reg.admin_up p.val) % 256) = some ⟨.side sd (Reg.admin_up p.val), ⟨0x10003, 64, 1, 0, .bool, Req.HFO, Req.HB, .set, 0, .any⟩⟩ :=
  findObj_family ⟨0x10003, 64, 1, 0, .bool, Req.HFO, Req.HB, .set, 0, .any⟩ 0x13f04 (by decide +kernel) (by decide) (by decide) (by decide) (by decide) sd p.val p.isLt
theorem Plant.took_admin_up (p : Plant) (q : Requester) (sd : SideId) (n : Fin 64) (v x : Nat) (hm : p.mayWriteSide q sd (Reg.admin_up n.val) = true)
    (ha : (⟨0x10003, 64, 1, 0, .bool, Req.HFO, Req.HB, .set, 0, .any⟩ : ObjRow).accept v = some x) (hok : ((p.side sd).r.adminUpWrite n.val x).2 = .ok)
    (hps : ((p.side sd).r.adminUpWrite n.val x).1.rd Reg.power_state = (p.side sd).r.rd Reg.power_state) :
    p.tookSide (p.sideWrite q sd (Reg.admin_up n.val) v) sd ((p.side sd).r.adminUpWrite n.val x).1 [Reg.host_config_writes] := by
  have h := Core.hook_admin_up (p.side sd).r (p.hookEnv sd) (p.dev.rd Reg.silicon_revision) x n
  have h' := p.sideWrite_took q sd (Reg.admin_up n.val) v _ x hm (findObj_admin_up sd n) (by decide) ha (by unfold Reg.admin_up Reg.power_request; omega) (by unfold Reg.admin_up Reg.side_reset; omega)
    (by rw [h]; exact hok) (by rw [h]; exact hps)
    (fun _ _ hm _ => absurd hm (by have := n.isLt; unfold mirrored Reg.admin_up; simp only [Bool.or_eq_true, Bool.and_eq_true, decide_eq_true_eq, wShape, wProfile, wFilter, wMeter, wSgate, wSgclAdmin]; omega))
  rw [h] at h'
  have e0 : (if Reg.admin_up n.val = Reg.counters_clear ∧ x = 1 then clearedSlots else []) = [] :=
    if_neg (fun e => absurd e.1 (by unfold Reg.admin_up Reg.counters_clear; omega))
  rw [e0] at h'
  exact h'

theorem Core.hook_tx_active_sa (c : Core) (e : HookEnv) (rev v : Nat) (p : Fin 64) :
    c.hook e ⟨0x1001C, 64, 1, 0, .u8, Req.HFO, Req.HB, .set, 0, (.upto 1)⟩ rev (Reg.tx_active_sa p.val) v = (c.txActiveSa p.val v) := by
  have h1 : Reg.tx_active_sa p.val / 256 = 0x100 + p.val := by unfold Reg.tx_active_sa; omega
  have h2 : Reg.tx_active_sa p.val % 256 = 28 := by unfold Reg.tx_active_sa; omega
  have hlt := p.isLt
  unfold Core.hook; simp only [h1, h2]
  repeat (first | rw [if_pos (by first | omega | decide)] | rw [if_neg (by first | omega | decide)] | fail)
  unfold Core.hookPort
  simp only [Nat.add_sub_cancel_left]
  repeat (first | rw [if_pos (by first | omega | decide)] | rw [if_neg (by first | omega | decide)] | fail)
  try first | rfl | simp
theorem findObj_tx_active_sa (sd : SideId) (p : Fin 64) :
    findObj (keyIndex sd (Reg.tx_active_sa p.val)) ((Reg.tx_active_sa p.val) % 256) = some ⟨.side sd (Reg.tx_active_sa p.val), ⟨0x1001C, 64, 1, 0, .u8, Req.HFO, Req.HB, .set, 0, (.upto 1)⟩⟩ :=
  findObj_family ⟨0x1001C, 64, 1, 0, .u8, Req.HFO, Req.HB, .set, 0, (.upto 1)⟩ 0x13f1d (by decide +kernel) (by decide) (by decide) (by decide) (by decide) sd p.val p.isLt
theorem Plant.took_tx_active_sa (p : Plant) (q : Requester) (sd : SideId) (n : Fin 64) (v x : Nat) (hm : p.mayWriteSide q sd (Reg.tx_active_sa n.val) = true)
    (ha : (⟨0x1001C, 64, 1, 0, .u8, Req.HFO, Req.HB, .set, 0, (.upto 1)⟩ : ObjRow).accept v = some x) (hok : ((p.side sd).r.txActiveSa n.val x).2 = .ok)
    (hps : ((p.side sd).r.txActiveSa n.val x).1.rd Reg.power_state = (p.side sd).r.rd Reg.power_state) :
    p.tookSide (p.sideWrite q sd (Reg.tx_active_sa n.val) v) sd ((p.side sd).r.txActiveSa n.val x).1 [Reg.host_config_writes] := by
  have h := Core.hook_tx_active_sa (p.side sd).r (p.hookEnv sd) (p.dev.rd Reg.silicon_revision) x n
  have h' := p.sideWrite_took q sd (Reg.tx_active_sa n.val) v _ x hm (findObj_tx_active_sa sd n) (by decide) ha (by unfold Reg.tx_active_sa Reg.power_request; omega) (by unfold Reg.tx_active_sa Reg.side_reset; omega)
    (by rw [h]; exact hok) (by rw [h]; exact hps)
    (fun _ _ hm _ => absurd hm (by have := n.isLt; unfold mirrored Reg.tx_active_sa; simp only [Bool.or_eq_true, Bool.and_eq_true, decide_eq_true_eq, wShape, wProfile, wFilter, wMeter, wSgate, wSgclAdmin]; omega))
  rw [h] at h'
  have e0 : (if Reg.tx_active_sa n.val = Reg.counters_clear ∧ x = 1 then clearedSlots else []) = [] :=
    if_neg (fun e => absurd e.1 (by unfold Reg.tx_active_sa Reg.counters_clear; omega))
  rw [e0] at h'
  exact h'

theorem Core.hook_shape_copy (c : Core) (e : HookEnv) (rev v : Nat) :
    c.hook e ⟨0x20020, 1, 1, 0, .enum8, Req.HFO, Req.HB, .trig, 0, .any⟩ rev Reg.shape_copy v = (c.startCopy Reg.shape_copy v) := by
  rfl
theorem findObj_shape_copy (sd : SideId) :
    findObj (keyIndex sd Reg.shape_copy) (Reg.shape_copy % 256) = some ⟨.side sd Reg.shape_copy, ⟨0x20020, 1, 1, 0, .enum8, Req.HFO, Req.HB, .trig, 0, .any⟩⟩ :=
  findObj_family ⟨0x20020, 1, 1, 0, .enum8, Req.HFO, Req.HB, .trig, 0, .any⟩ 0x20021 (by decide +kernel) (by decide) (by decide) (by decide) (by decide) sd 0 (by decide)
theorem Plant.took_shape_copy (p : Plant) (q : Requester) (sd : SideId) (v x : Nat) (hm : p.mayWriteSide q sd Reg.shape_copy = true)
    (ha : (⟨0x20020, 1, 1, 0, .enum8, Req.HFO, Req.HB, .trig, 0, .any⟩ : ObjRow).accept v = some x) (hok : ((p.side sd).r.startCopy Reg.shape_copy x).2 = .ok)
    (hps : ((p.side sd).r.startCopy Reg.shape_copy x).1.rd Reg.power_state = (p.side sd).r.rd Reg.power_state)
    (hB : p.mirrorTakes sd ⟨0x20020, 1, 1, 0, .enum8, Req.HFO, Req.HB, .trig, 0, .any⟩ Reg.shape_copy x) :
    p.tookSide (p.sideWrite q sd Reg.shape_copy v) sd ((p.side sd).r.startCopy Reg.shape_copy x).1 [Reg.host_config_writes] := by
  have h := Core.hook_shape_copy (p.side sd).r (p.hookEnv sd) (p.dev.rd Reg.silicon_revision) x
  have h' := p.sideWrite_took q sd Reg.shape_copy v _ x hm (findObj_shape_copy sd) (by decide) ha (by decide) (by decide)
    (by rw [h]; exact hok) (by rw [h]; exact hps)
    hB
  rw [h] at h'
  have e0 : (if Reg.shape_copy = Reg.counters_clear ∧ x = 1 then clearedSlots else []) = [] :=
    if_neg (fun e => absurd e.1 (by decide))
  rw [e0] at h'
  exact h'

theorem Core.hook_profile_copy (c : Core) (e : HookEnv) (rev v : Nat) :
    c.hook e ⟨0x30002, 1, 1, 0, .enum8, Req.HFO, Req.HB, .trig, 0, .any⟩ rev Reg.profile_copy v = (c.startCopy Reg.profile_copy v) := by
  rfl
theorem findObj_profile_copy (sd : SideId) :
    findObj (keyIndex sd Reg.profile_copy) (Reg.profile_copy % 256) = some ⟨.side sd Reg.profile_copy, ⟨0x30002, 1, 1, 0, .enum8, Req.HFO, Req.HB, .trig, 0, .any⟩⟩ :=
  findObj_family ⟨0x30002, 1, 1, 0, .enum8, Req.HFO, Req.HB, .trig, 0, .any⟩ 0x30003 (by decide +kernel) (by decide) (by decide) (by decide) (by decide) sd 0 (by decide)
theorem Plant.took_profile_copy (p : Plant) (q : Requester) (sd : SideId) (v x : Nat) (hm : p.mayWriteSide q sd Reg.profile_copy = true)
    (ha : (⟨0x30002, 1, 1, 0, .enum8, Req.HFO, Req.HB, .trig, 0, .any⟩ : ObjRow).accept v = some x) (hok : ((p.side sd).r.startCopy Reg.profile_copy x).2 = .ok)
    (hps : ((p.side sd).r.startCopy Reg.profile_copy x).1.rd Reg.power_state = (p.side sd).r.rd Reg.power_state)
    (hB : p.mirrorTakes sd ⟨0x30002, 1, 1, 0, .enum8, Req.HFO, Req.HB, .trig, 0, .any⟩ Reg.profile_copy x) :
    p.tookSide (p.sideWrite q sd Reg.profile_copy v) sd ((p.side sd).r.startCopy Reg.profile_copy x).1 [Reg.host_config_writes] := by
  have h := Core.hook_profile_copy (p.side sd).r (p.hookEnv sd) (p.dev.rd Reg.silicon_revision) x
  have h' := p.sideWrite_took q sd Reg.profile_copy v _ x hm (findObj_profile_copy sd) (by decide) ha (by decide) (by decide)
    (by rw [h]; exact hok) (by rw [h]; exact hps)
    hB
  rw [h] at h'
  have e0 : (if Reg.profile_copy = Reg.counters_clear ∧ x = 1 then clearedSlots else []) = [] :=
    if_neg (fun e => absurd e.1 (by decide))
  rw [e0] at h'
  exact h'

theorem Core.hook_vid_map_copy (c : Core) (e : HookEnv) (rev v : Nat) :
    c.hook e ⟨0x40011, 1, 1, 0, .enum8, Req.HFO, Req.HB, .trig, 0, .any⟩ rev Reg.vid_map_copy v = (c.startCopy Reg.vid_map_copy v) := by
  rfl
theorem findObj_vid_map_copy (sd : SideId) :
    findObj (keyIndex sd Reg.vid_map_copy) (Reg.vid_map_copy % 256) = some ⟨.side sd Reg.vid_map_copy, ⟨0x40011, 1, 1, 0, .enum8, Req.HFO, Req.HB, .trig, 0, .any⟩⟩ :=
  findObj_family ⟨0x40011, 1, 1, 0, .enum8, Req.HFO, Req.HB, .trig, 0, .any⟩ 0x40012 (by decide +kernel) (by decide) (by decide) (by decide) (by decide) sd 0 (by decide)
theorem Plant.took_vid_map_copy (p : Plant) (q : Requester) (sd : SideId) (v x : Nat) (hm : p.mayWriteSide q sd Reg.vid_map_copy = true)
    (ha : (⟨0x40011, 1, 1, 0, .enum8, Req.HFO, Req.HB, .trig, 0, .any⟩ : ObjRow).accept v = some x) (hok : ((p.side sd).r.startCopy Reg.vid_map_copy x).2 = .ok)
    (hps : ((p.side sd).r.startCopy Reg.vid_map_copy x).1.rd Reg.power_state = (p.side sd).r.rd Reg.power_state) :
    p.tookSide (p.sideWrite q sd Reg.vid_map_copy v) sd ((p.side sd).r.startCopy Reg.vid_map_copy x).1 [Reg.host_config_writes] := by
  have h := Core.hook_vid_map_copy (p.side sd).r (p.hookEnv sd) (p.dev.rd Reg.silicon_revision) x
  have h' := p.sideWrite_took q sd Reg.vid_map_copy v _ x hm (findObj_vid_map_copy sd) (by decide) ha (by decide) (by decide)
    (by rw [h]; exact hok) (by rw [h]; exact hps)
    (fun _ _ hm _ => absurd hm (by decide))
  rw [h] at h'
  have e0 : (if Reg.vid_map_copy = Reg.counters_clear ∧ x = 1 then clearedSlots else []) = [] :=
    if_neg (fun e => absurd e.1 (by decide))
  rw [e0] at h'
  exact h'

theorem Core.hook_badger_go (c : Core) (e : HookEnv) (rev v : Nat) :
    c.hook e ⟨0x30220, 1, 1, 0, .enum8, Req.HFO, Req.HB, .trig, 0, .any⟩ rev Reg.badger_go v = (if c.fieldHolds then (c, .busy) else c.badgerEnqueue v) := by
  rfl
theorem findObj_badger_go (sd : SideId) :
    findObj (keyIndex sd Reg.badger_go) (Reg.badger_go % 256) = some ⟨.side sd Reg.badger_go, ⟨0x30220, 1, 1, 0, .enum8, Req.HFO, Req.HB, .trig, 0, .any⟩⟩ :=
  findObj_family ⟨0x30220, 1, 1, 0, .enum8, Req.HFO, Req.HB, .trig, 0, .any⟩ 0x30221 (by decide +kernel) (by decide) (by decide) (by decide) (by decide) sd 0 (by decide)
theorem Plant.took_badger_go (p : Plant) (q : Requester) (sd : SideId) (v x : Nat) (hm : p.mayWriteSide q sd Reg.badger_go = true)
    (ha : (⟨0x30220, 1, 1, 0, .enum8, Req.HFO, Req.HB, .trig, 0, .any⟩ : ObjRow).accept v = some x) (hok : (if (p.side sd).r.fieldHolds then ((p.side sd).r, .busy) else (p.side sd).r.badgerEnqueue x).2 = .ok)
    (hps : (if (p.side sd).r.fieldHolds then ((p.side sd).r, .busy) else (p.side sd).r.badgerEnqueue x).1.rd Reg.power_state = (p.side sd).r.rd Reg.power_state)
    (hB : p.mirrorTakes sd ⟨0x30220, 1, 1, 0, .enum8, Req.HFO, Req.HB, .trig, 0, .any⟩ Reg.badger_go x) :
    p.tookSide (p.sideWrite q sd Reg.badger_go v) sd (if (p.side sd).r.fieldHolds then ((p.side sd).r, .busy) else (p.side sd).r.badgerEnqueue x).1 [Reg.host_config_writes] := by
  have h := Core.hook_badger_go (p.side sd).r (p.hookEnv sd) (p.dev.rd Reg.silicon_revision) x
  have h' := p.sideWrite_took q sd Reg.badger_go v _ x hm (findObj_badger_go sd) (by decide) ha (by decide) (by decide)
    (by rw [h]; exact hok) (by rw [h]; exact hps)
    hB
  rw [h] at h'
  have e0 : (if Reg.badger_go = Reg.counters_clear ∧ x = 1 then clearedSlots else []) = [] :=
    if_neg (fun e => absurd e.1 (by decide))
  rw [e0] at h'
  exact h'

theorem Core.hook_probe_cmd (c : Core) (e : HookEnv) (rev v : Nat) (p : Fin 4) :
    c.hook e ⟨0x3080E, 4, 1, 0, .enum8, Req.HO, Req.HO, .trig, 0, .any⟩ rev (Reg.probe_cmd p.val) v = (c.probeCommand p.val v) := by
  have h1 : Reg.probe_cmd p.val / 256 = 0x308 + p.val := by unfold Reg.probe_cmd; omega
  have h2 : Reg.probe_cmd p.val % 256 = 14 := by unfold Reg.probe_cmd; omega
  have hlt := p.isLt
  unfold Core.hook; simp only [h1, h2]
  repeat (first | rw [if_pos (by first | omega | decide)] | rw [if_neg (by first | omega | decide)] | fail)
  unfold Core.hookSearch
  simp only [Nat.add_sub_cancel_left]
  repeat (first | rw [if_pos (by first | omega | decide)] | rw [if_neg (by first | omega | decide)] | fail)
  try first | rfl | simp
theorem findObj_probe_cmd (sd : SideId) (p : Fin 4) :
    findObj (keyIndex sd (Reg.probe_cmd p.val)) ((Reg.probe_cmd p.val) % 256) = some ⟨.side sd (Reg.probe_cmd p.val), ⟨0x3080E, 4, 1, 0, .enum8, Req.HO, Req.HO, .trig, 0, .any⟩⟩ :=
  findObj_family ⟨0x3080E, 4, 1, 0, .enum8, Req.HO, Req.HO, .trig, 0, .any⟩ 0x30f0f (by decide +kernel) (by decide) (by decide) (by decide) (by decide) sd p.val p.isLt
theorem Plant.took_probe_cmd (p : Plant) (q : Requester) (sd : SideId) (n : Fin 4) (v x : Nat) (hm : p.mayWriteSide q sd (Reg.probe_cmd n.val) = true)
    (ha : (⟨0x3080E, 4, 1, 0, .enum8, Req.HO, Req.HO, .trig, 0, .any⟩ : ObjRow).accept v = some x) (hok : ((p.side sd).r.probeCommand n.val x).2 = .ok)
    (hps : ((p.side sd).r.probeCommand n.val x).1.rd Reg.power_state = (p.side sd).r.rd Reg.power_state) :
    p.tookSide (p.sideWrite q sd (Reg.probe_cmd n.val) v) sd ((p.side sd).r.probeCommand n.val x).1 [Reg.host_config_writes] := by
  have h := Core.hook_probe_cmd (p.side sd).r (p.hookEnv sd) (p.dev.rd Reg.silicon_revision) x n
  have h' := p.sideWrite_took q sd (Reg.probe_cmd n.val) v _ x hm (findObj_probe_cmd sd n) (by decide) ha (by unfold Reg.probe_cmd Reg.power_request; omega) (by unfold Reg.probe_cmd Reg.side_reset; omega)
    (by rw [h]; exact hok) (by rw [h]; exact hps)
    (fun _ _ _ hp _ => absurd (by have := n.isLt; unfold Reg.probe_cmd; omega) hp)
  rw [h] at h'
  have e0 : (if Reg.probe_cmd n.val = Reg.counters_clear ∧ x = 1 then clearedSlots else []) = [] :=
    if_neg (fun e => absurd e.1 (by unfold Reg.probe_cmd Reg.counters_clear; omega))
  rw [e0] at h'
  exact h'

theorem Core.hook_station_cmd (c : Core) (e : HookEnv) (rev v : Nat) :
    c.hook e ⟨0x40201, 1, 1, 0, .enum8, Req.HFO, Req.HB, .trig, 0, .any⟩ rev Reg.station_cmd v = (c.stationCommand v) := by
  rfl
theorem findObj_station_cmd (sd : SideId) :
    findObj (keyIndex sd Reg.station_cmd) (Reg.station_cmd % 256) = some ⟨.side sd Reg.station_cmd, ⟨0x40201, 1, 1, 0, .enum8, Req.HFO, Req.HB, .trig, 0, .any⟩⟩ :=
  findObj_family ⟨0x40201, 1, 1, 0, .enum8, Req.HFO, Req.HB, .trig, 0, .any⟩ 0x40202 (by decide +kernel) (by decide) (by decide) (by decide) (by decide) sd 0 (by decide)
theorem Plant.took_station_cmd (p : Plant) (q : Requester) (sd : SideId) (v x : Nat) (hm : p.mayWriteSide q sd Reg.station_cmd = true)
    (ha : (⟨0x40201, 1, 1, 0, .enum8, Req.HFO, Req.HB, .trig, 0, .any⟩ : ObjRow).accept v = some x) (hok : ((p.side sd).r.stationCommand x).2 = .ok)
    (hps : ((p.side sd).r.stationCommand x).1.rd Reg.power_state = (p.side sd).r.rd Reg.power_state) :
    p.tookSide (p.sideWrite q sd Reg.station_cmd v) sd ((p.side sd).r.stationCommand x).1 [Reg.host_config_writes] := by
  have h := Core.hook_station_cmd (p.side sd).r (p.hookEnv sd) (p.dev.rd Reg.silicon_revision) x
  have h' := p.sideWrite_took q sd Reg.station_cmd v _ x hm (findObj_station_cmd sd) (by decide) ha (by decide) (by decide)
    (by rw [h]; exact hok) (by rw [h]; exact hps)
    (fun _ _ hm _ => absurd hm (by decide))
  rw [h] at h'
  have e0 : (if Reg.station_cmd = Reg.counters_clear ∧ x = 1 then clearedSlots else []) = [] :=
    if_neg (fun e => absurd e.1 (by decide))
  rw [e0] at h'
  exact h'

theorem Core.hook_rehash_pop (c : Core) (e : HookEnv) (rev v : Nat) :
    c.hook e ⟨0x40403, 1, 1, 0, .enum8, Req.HFO, Req.HO, .trig, 0, .any⟩ rev Reg.rehash_pop v = (c.rehashPop v) := by
  rfl
theorem findObj_rehash_pop (sd : SideId) :
    findObj (keyIndex sd Reg.rehash_pop) (Reg.rehash_pop % 256) = some ⟨.side sd Reg.rehash_pop, ⟨0x40403, 1, 1, 0, .enum8, Req.HFO, Req.HO, .trig, 0, .any⟩⟩ :=
  findObj_family ⟨0x40403, 1, 1, 0, .enum8, Req.HFO, Req.HO, .trig, 0, .any⟩ 0x40404 (by decide +kernel) (by decide) (by decide) (by decide) (by decide) sd 0 (by decide)
theorem Plant.took_rehash_pop (p : Plant) (q : Requester) (sd : SideId) (v x : Nat) (hm : p.mayWriteSide q sd Reg.rehash_pop = true)
    (ha : (⟨0x40403, 1, 1, 0, .enum8, Req.HFO, Req.HO, .trig, 0, .any⟩ : ObjRow).accept v = some x) (hok : ((p.side sd).r.rehashPop x).2 = .ok)
    (hps : ((p.side sd).r.rehashPop x).1.rd Reg.power_state = (p.side sd).r.rd Reg.power_state) :
    p.tookSide (p.sideWrite q sd Reg.rehash_pop v) sd ((p.side sd).r.rehashPop x).1 [Reg.host_config_writes] := by
  have h := Core.hook_rehash_pop (p.side sd).r (p.hookEnv sd) (p.dev.rd Reg.silicon_revision) x
  have h' := p.sideWrite_took q sd Reg.rehash_pop v _ x hm (findObj_rehash_pop sd) (by decide) ha (by decide) (by decide)
    (by rw [h]; exact hok) (by rw [h]; exact hps)
    (fun _ _ hm _ => absurd hm (by decide))
  rw [h] at h'
  have e0 : (if Reg.rehash_pop = Reg.counters_clear ∧ x = 1 then clearedSlots else []) = [] :=
    if_neg (fun e => absurd e.1 (by decide))
  rw [e0] at h'
  exact h'

theorem Core.hook_announce (c : Core) (e : HookEnv) (rev v : Nat) :
    c.hook e ⟨0x4000E, 1, 1, 0, .enum8, Req.HFO, Req.HB, .trig, 0, .any⟩ rev Reg.announce v = (c.announceAll e.learn v) := by
  rfl
theorem findObj_announce (sd : SideId) :
    findObj (keyIndex sd Reg.announce) (Reg.announce % 256) = some ⟨.side sd Reg.announce, ⟨0x4000E, 1, 1, 0, .enum8, Req.HFO, Req.HB, .trig, 0, .any⟩⟩ :=
  findObj_family ⟨0x4000E, 1, 1, 0, .enum8, Req.HFO, Req.HB, .trig, 0, .any⟩ 0x4000f (by decide +kernel) (by decide) (by decide) (by decide) (by decide) sd 0 (by decide)
theorem Plant.took_announce (p : Plant) (q : Requester) (sd : SideId) (v x : Nat) (hm : p.mayWriteSide q sd Reg.announce = true)
    (ha : (⟨0x4000E, 1, 1, 0, .enum8, Req.HFO, Req.HB, .trig, 0, .any⟩ : ObjRow).accept v = some x) (hok : ((p.side sd).r.announceAll (p.learnEnv sd) x).2 = .ok)
    (hps : ((p.side sd).r.announceAll (p.learnEnv sd) x).1.rd Reg.power_state = (p.side sd).r.rd Reg.power_state) :
    p.tookSide (p.sideWrite q sd Reg.announce v) sd ((p.side sd).r.announceAll (p.learnEnv sd) x).1 [Reg.host_config_writes] := by
  have h := Core.hook_announce (p.side sd).r (p.hookEnv sd) (p.dev.rd Reg.silicon_revision) x
  have h' := p.sideWrite_took q sd Reg.announce v _ x hm (findObj_announce sd) (by decide) ha (by decide) (by decide)
    (by rw [h]; exact hok) (by rw [h]; exact hps)
    (fun _ _ hm _ => absurd hm (by decide))
  rw [h] at h'
  have e0 : (if Reg.announce = Reg.counters_clear ∧ x = 1 then clearedSlots else []) = [] :=
    if_neg (fun e => absurd e.1 (by decide))
  rw [e0] at h'
  exact h'

theorem Core.hook_epoch_flip (c : Core) (e : HookEnv) (rev v : Nat) :
    c.hook e ⟨0x50002, 1, 1, 0, .enum8, Req.HFO, Req.HB, .trig, 0, .any⟩ rev Reg.epoch_flip v = (c.epochFlip v) := by
  rfl
theorem findObj_epoch_flip (sd : SideId) :
    findObj (keyIndex sd Reg.epoch_flip) (Reg.epoch_flip % 256) = some ⟨.side sd Reg.epoch_flip, ⟨0x50002, 1, 1, 0, .enum8, Req.HFO, Req.HB, .trig, 0, .any⟩⟩ :=
  findObj_family ⟨0x50002, 1, 1, 0, .enum8, Req.HFO, Req.HB, .trig, 0, .any⟩ 0x50003 (by decide +kernel) (by decide) (by decide) (by decide) (by decide) sd 0 (by decide)
theorem Plant.took_epoch_flip (p : Plant) (q : Requester) (sd : SideId) (v x : Nat) (hm : p.mayWriteSide q sd Reg.epoch_flip = true)
    (ha : (⟨0x50002, 1, 1, 0, .enum8, Req.HFO, Req.HB, .trig, 0, .any⟩ : ObjRow).accept v = some x) (hok : ((p.side sd).r.epochFlip x).2 = .ok)
    (hps : ((p.side sd).r.epochFlip x).1.rd Reg.power_state = (p.side sd).r.rd Reg.power_state)
    (hB : p.mirrorTakes sd ⟨0x50002, 1, 1, 0, .enum8, Req.HFO, Req.HB, .trig, 0, .any⟩ Reg.epoch_flip x) :
    p.tookSide (p.sideWrite q sd Reg.epoch_flip v) sd ((p.side sd).r.epochFlip x).1 [Reg.host_config_writes] := by
  have h := Core.hook_epoch_flip (p.side sd).r (p.hookEnv sd) (p.dev.rd Reg.silicon_revision) x
  have h' := p.sideWrite_took q sd Reg.epoch_flip v _ x hm (findObj_epoch_flip sd) (by decide) ha (by decide) (by decide)
    (by rw [h]; exact hok) (by rw [h]; exact hps)
    hB
  rw [h] at h'
  have e0 : (if Reg.epoch_flip = Reg.counters_clear ∧ x = 1 then clearedSlots else []) = [] :=
    if_neg (fun e => absurd e.1 (by decide))
  rw [e0] at h'
  exact h'

theorem Core.hook_epoch_sync (c : Core) (e : HookEnv) (rev v : Nat) :
    c.hook e ⟨0x50008, 1, 1, 0, .enum8, Req.HFO, Req.HB, .trig, 0, .any⟩ rev Reg.epoch_sync v = (c.epochSync v) := by
  rfl
theorem findObj_epoch_sync (sd : SideId) :
    findObj (keyIndex sd Reg.epoch_sync) (Reg.epoch_sync % 256) = some ⟨.side sd Reg.epoch_sync, ⟨0x50008, 1, 1, 0, .enum8, Req.HFO, Req.HB, .trig, 0, .any⟩⟩ :=
  findObj_family ⟨0x50008, 1, 1, 0, .enum8, Req.HFO, Req.HB, .trig, 0, .any⟩ 0x50009 (by decide +kernel) (by decide) (by decide) (by decide) (by decide) sd 0 (by decide)
theorem Plant.took_epoch_sync (p : Plant) (q : Requester) (sd : SideId) (v x : Nat) (hm : p.mayWriteSide q sd Reg.epoch_sync = true)
    (ha : (⟨0x50008, 1, 1, 0, .enum8, Req.HFO, Req.HB, .trig, 0, .any⟩ : ObjRow).accept v = some x) (hok : ((p.side sd).r.epochSync x).2 = .ok)
    (hps : ((p.side sd).r.epochSync x).1.rd Reg.power_state = (p.side sd).r.rd Reg.power_state)
    (hB : p.mirrorTakes sd ⟨0x50008, 1, 1, 0, .enum8, Req.HFO, Req.HB, .trig, 0, .any⟩ Reg.epoch_sync x) :
    p.tookSide (p.sideWrite q sd Reg.epoch_sync v) sd ((p.side sd).r.epochSync x).1 [Reg.host_config_writes] := by
  have h := Core.hook_epoch_sync (p.side sd).r (p.hookEnv sd) (p.dev.rd Reg.silicon_revision) x
  have h' := p.sideWrite_took q sd Reg.epoch_sync v _ x hm (findObj_epoch_sync sd) (by decide) ha (by decide) (by decide)
    (by rw [h]; exact hok) (by rw [h]; exact hps)
    hB
  rw [h] at h'
  have e0 : (if Reg.epoch_sync = Reg.counters_clear ∧ x = 1 then clearedSlots else []) = [] :=
    if_neg (fun e => absurd e.1 (by decide))
  rw [e0] at h'
  exact h'

theorem Core.hook_pool_enable (c : Core) (e : HookEnv) (rev v : Nat) (p : Fin 8) (hp : p.val ≠ 0) :
    c.hook e ⟨0x71106, 7, 1, 0, .bool, Req.HFO, Req.HB, .set, 0, .any⟩ rev (Reg.pool_enable p.val) v = (if v ≠ 0 then c.poolEnable p.val else c.poolDisable p.val) := by
  have h1 : Reg.pool_enable p.val / 256 = 0x710 + p.val := by unfold Reg.pool_enable; omega
  have h2 : Reg.pool_enable p.val % 256 = 6 := by unfold Reg.pool_enable; omega
  have hlt := p.isLt
  unfold Core.hook; simp only [h1, h2]
  repeat (first | rw [if_pos (by first | omega | decide)] | rw [if_neg (by first | omega | decide)] | fail)
  unfold Core.hookPool
  simp only [Nat.add_sub_cancel_left]
  rw [if_neg (fun h => hp h.1)]; rfl
theorem findObj_pool_enable (sd : SideId) (p : Fin 8) (hp : p.val ≠ 0) :
    findObj (keyIndex sd (Reg.pool_enable p.val)) ((Reg.pool_enable p.val) % 256) = some ⟨.side sd (Reg.pool_enable p.val), ⟨0x71106, 7, 1, 0, .bool, Req.HFO, Req.HB, .set, 0, .any⟩⟩ := by
  have e : Reg.pool_enable p.val = 0x71106 + 256 * (p.val - 1) := by unfold Reg.pool_enable; omega
  rw [e]; exact findObj_family ⟨0x71106, 7, 1, 0, .bool, Req.HFO, Req.HB, .set, 0, .any⟩ 0x71707 (by decide +kernel) (by decide) (by decide) (by decide) (by decide) sd _ (by show p.val - 1 < 7; omega)
theorem Plant.took_pool_enable (p : Plant) (q : Requester) (sd : SideId) (n : Fin 8) (hn : n.val ≠ 0) (v x : Nat) (hm : p.mayWriteSide q sd (Reg.pool_enable n.val) = true)
    (ha : (⟨0x71106, 7, 1, 0, .bool, Req.HFO, Req.HB, .set, 0, .any⟩ : ObjRow).accept v = some x) (hok : (if x ≠ 0 then (p.side sd).r.poolEnable n.val else (p.side sd).r.poolDisable n.val).2 = .ok)
    (hps : (if x ≠ 0 then (p.side sd).r.poolEnable n.val else (p.side sd).r.poolDisable n.val).1.rd Reg.power_state = (p.side sd).r.rd Reg.power_state) :
    p.tookSide (p.sideWrite q sd (Reg.pool_enable n.val) v) sd (if x ≠ 0 then (p.side sd).r.poolEnable n.val else (p.side sd).r.poolDisable n.val).1 [Reg.host_config_writes] := by
  have h := Core.hook_pool_enable (p.side sd).r (p.hookEnv sd) (p.dev.rd Reg.silicon_revision) x n hn
  have h' := p.sideWrite_took q sd (Reg.pool_enable n.val) v _ x hm (findObj_pool_enable sd n hn) (by decide) ha (by unfold Reg.pool_enable Reg.power_request; omega) (by unfold Reg.pool_enable Reg.side_reset; omega)
    (by rw [h]; exact hok) (by rw [h]; exact hps)
    (fun _ _ hm _ => absurd hm (by have := n.isLt; unfold mirrored Reg.pool_enable; simp only [Bool.or_eq_true, Bool.and_eq_true, decide_eq_true_eq, wShape, wProfile, wFilter, wMeter, wSgate, wSgclAdmin]; omega))
  rw [h] at h'
  have e0 : (if Reg.pool_enable n.val = Reg.counters_clear ∧ x = 1 then clearedSlots else []) = [] :=
    if_neg (fun e => absurd e.1 (by unfold Reg.pool_enable Reg.counters_clear; omega))
  rw [e0] at h'
  exact h'

theorem Core.hook_reclaim (c : Core) (e : HookEnv) (rev v : Nat) :
    c.hook e ⟨0x70102, 1, 1, 0, .enum8, Req.HFO, Req.H, .trig, 0, .any⟩ rev Reg.reclaim v = (c.reclaimWrite v) := by
  rfl
theorem findObj_reclaim (sd : SideId) :
    findObj (keyIndex sd Reg.reclaim) (Reg.reclaim % 256) = some ⟨.side sd Reg.reclaim, ⟨0x70102, 1, 1, 0, .enum8, Req.HFO, Req.H, .trig, 0, .any⟩⟩ :=
  findObj_family ⟨0x70102, 1, 1, 0, .enum8, Req.HFO, Req.H, .trig, 0, .any⟩ 0x70103 (by decide +kernel) (by decide) (by decide) (by decide) (by decide) sd 0 (by decide)
theorem Plant.took_reclaim (p : Plant) (q : Requester) (sd : SideId) (v x : Nat) (hm : p.mayWriteSide q sd Reg.reclaim = true)
    (ha : (⟨0x70102, 1, 1, 0, .enum8, Req.HFO, Req.H, .trig, 0, .any⟩ : ObjRow).accept v = some x) (hok : ((p.side sd).r.reclaimWrite x).2 = .ok)
    (hps : ((p.side sd).r.reclaimWrite x).1.rd Reg.power_state = (p.side sd).r.rd Reg.power_state) :
    p.tookSide (p.sideWrite q sd Reg.reclaim v) sd ((p.side sd).r.reclaimWrite x).1 [Reg.host_config_writes] := by
  have h := Core.hook_reclaim (p.side sd).r (p.hookEnv sd) (p.dev.rd Reg.silicon_revision) x
  have h' := p.sideWrite_took q sd Reg.reclaim v _ x hm (findObj_reclaim sd) (by decide) ha (by decide) (by decide)
    (by rw [h]; exact hok) (by rw [h]; exact hps)
    (fun _ _ hm _ => absurd hm (by decide))
  rw [h] at h'
  have e0 : (if Reg.reclaim = Reg.counters_clear ∧ x = 1 then clearedSlots else []) = [] :=
    if_neg (fun e => absurd e.1 (by decide))
  rw [e0] at h'
  exact h'

theorem Core.hook_config_change (c : Core) (e : HookEnv) (rev v : Nat) (p : Fin 64) :
    c.hook e ⟨0x80006, 64, 1, 0, .enum8, Req.HFO, Req.HB, .trig, 0, .any⟩ rev (Reg.config_change p.val) v = (c.configChange p.val (c.planMbps p.val) v) := by
  have h1 : Reg.config_change p.val / 256 = 0x800 + p.val := by unfold Reg.config_change; omega
  have h2 : Reg.config_change p.val % 256 = 6 := by unfold Reg.config_change; omega
  have hlt := p.isLt
  unfold Core.hook; simp only [h1, h2]
  repeat (first | rw [if_pos (by first | omega | decide)] | rw [if_neg (by first | omega | decide)] | fail)
  unfold Core.hookSched
  simp only [Nat.add_sub_cancel_left]
  repeat (first | rw [if_pos (by first | omega | decide)] | rw [if_neg (by first | omega | decide)] | fail)
  try first | rfl | simp
theorem findObj_config_change (sd : SideId) (p : Fin 64) :
    findObj (keyIndex sd (Reg.config_change p.val)) ((Reg.config_change p.val) % 256) = some ⟨.side sd (Reg.config_change p.val), ⟨0x80006, 64, 1, 0, .enum8, Req.HFO, Req.HB, .trig, 0, .any⟩⟩ :=
  findObj_family ⟨0x80006, 64, 1, 0, .enum8, Req.HFO, Req.HB, .trig, 0, .any⟩ 0x83f07 (by decide +kernel) (by decide) (by decide) (by decide) (by decide) sd p.val p.isLt
theorem Plant.took_config_change (p : Plant) (q : Requester) (sd : SideId) (n : Fin 64) (v x : Nat) (hm : p.mayWriteSide q sd (Reg.config_change n.val) = true)
    (ha : (⟨0x80006, 64, 1, 0, .enum8, Req.HFO, Req.HB, .trig, 0, .any⟩ : ObjRow).accept v = some x) (hok : ((p.side sd).r.configChange n.val ((p.side sd).r.planMbps n.val) x).2 = .ok)
    (hps : ((p.side sd).r.configChange n.val ((p.side sd).r.planMbps n.val) x).1.rd Reg.power_state = (p.side sd).r.rd Reg.power_state) :
    p.tookSide (p.sideWrite q sd (Reg.config_change n.val) v) sd ((p.side sd).r.configChange n.val ((p.side sd).r.planMbps n.val) x).1 [Reg.host_config_writes] := by
  have h := Core.hook_config_change (p.side sd).r (p.hookEnv sd) (p.dev.rd Reg.silicon_revision) x n
  have h' := p.sideWrite_took q sd (Reg.config_change n.val) v _ x hm (findObj_config_change sd n) (by decide) ha (by unfold Reg.config_change Reg.power_request; omega) (by unfold Reg.config_change Reg.side_reset; omega)
    (by rw [h]; exact hok) (by rw [h]; exact hps)
    (fun _ _ hm _ => absurd hm (by have := n.isLt; unfold mirrored Reg.config_change; simp only [Bool.or_eq_true, Bool.and_eq_true, decide_eq_true_eq, wShape, wProfile, wFilter, wMeter, wSgate, wSgclAdmin]; omega))
  rw [h] at h'
  have e0 : (if Reg.config_change n.val = Reg.counters_clear ∧ x = 1 then clearedSlots else []) = [] :=
    if_neg (fun e => absurd e.1 (by unfold Reg.config_change Reg.counters_clear; omega))
  rw [e0] at h'
  exact h'

theorem Core.hook_time_source (c : Core) (e : HookEnv) (rev v : Nat) :
    c.hook e ⟨0x90001, 1, 1, 0, .enum8, Req.HFO, Req.HB, .set, 0, (.upto 4)⟩ rev Reg.time_source v = (c.timeSource v) := by
  rfl
theorem findObj_time_source (sd : SideId) :
    findObj (keyIndex sd Reg.time_source) (Reg.time_source % 256) = some ⟨.side sd Reg.time_source, ⟨0x90001, 1, 1, 0, .enum8, Req.HFO, Req.HB, .set, 0, (.upto 4)⟩⟩ :=
  findObj_family ⟨0x90001, 1, 1, 0, .enum8, Req.HFO, Req.HB, .set, 0, (.upto 4)⟩ 0x90002 (by decide +kernel) (by decide) (by decide) (by decide) (by decide) sd 0 (by decide)
theorem Plant.took_time_source (p : Plant) (q : Requester) (sd : SideId) (v x : Nat) (hm : p.mayWriteSide q sd Reg.time_source = true)
    (ha : (⟨0x90001, 1, 1, 0, .enum8, Req.HFO, Req.HB, .set, 0, (.upto 4)⟩ : ObjRow).accept v = some x) (hok : ((p.side sd).r.timeSource x).2 = .ok)
    (hps : ((p.side sd).r.timeSource x).1.rd Reg.power_state = (p.side sd).r.rd Reg.power_state) :
    p.tookSide (p.sideWrite q sd Reg.time_source v) sd ((p.side sd).r.timeSource x).1 [Reg.host_config_writes] := by
  have h := Core.hook_time_source (p.side sd).r (p.hookEnv sd) (p.dev.rd Reg.silicon_revision) x
  have h' := p.sideWrite_took q sd Reg.time_source v _ x hm (findObj_time_source sd) (by decide) ha (by decide) (by decide)
    (by rw [h]; exact hok) (by rw [h]; exact hps)
    (fun _ _ hm _ => absurd hm (by decide))
  rw [h] at h'
  have e0 : (if Reg.time_source = Reg.counters_clear ∧ x = 1 then clearedSlots else []) = [] :=
    if_neg (fun e => absurd e.1 (by decide))
  rw [e0] at h'
  exact h'

theorem Core.hook_domain_adjust (c : Core) (e : HookEnv) (rev v : Nat) (p : Fin 4) :
    c.hook e ⟨0x90404, 4, 1, 0, .i64, Req.HFO, Req.HB, .trig, 0, .any⟩ rev (Reg.domain_adjust p.val) v = (c.domainAdjust p.val v) := by
  have h1 : Reg.domain_adjust p.val / 256 = 0x904 + p.val := by unfold Reg.domain_adjust; omega
  have h2 : Reg.domain_adjust p.val % 256 = 4 := by unfold Reg.domain_adjust; omega
  have hlt := p.isLt
  unfold Core.hook; simp only [h1, h2]
  repeat (first | rw [if_pos (by first | omega | decide)] | rw [if_neg (by first | omega | decide)] | fail)
  unfold Core.hookTime
  simp only [Nat.add_sub_cancel_left]
  repeat (first | rw [if_pos (by first | omega | decide)] | rw [if_neg (by first | omega | decide)] | fail)
  try first | rfl | simp
theorem findObj_domain_adjust (sd : SideId) (p : Fin 4) :
    findObj (keyIndex sd (Reg.domain_adjust p.val)) ((Reg.domain_adjust p.val) % 256) = some ⟨.side sd (Reg.domain_adjust p.val), ⟨0x90404, 4, 1, 0, .i64, Req.HFO, Req.HB, .trig, 0, .any⟩⟩ :=
  findObj_family ⟨0x90404, 4, 1, 0, .i64, Req.HFO, Req.HB, .trig, 0, .any⟩ 0x90705 (by decide +kernel) (by decide) (by decide) (by decide) (by decide) sd p.val p.isLt
theorem Plant.took_domain_adjust (p : Plant) (q : Requester) (sd : SideId) (n : Fin 4) (v x : Nat) (hm : p.mayWriteSide q sd (Reg.domain_adjust n.val) = true)
    (ha : (⟨0x90404, 4, 1, 0, .i64, Req.HFO, Req.HB, .trig, 0, .any⟩ : ObjRow).accept v = some x) (hok : ((p.side sd).r.domainAdjust n.val x).2 = .ok)
    (hps : ((p.side sd).r.domainAdjust n.val x).1.rd Reg.power_state = (p.side sd).r.rd Reg.power_state) :
    p.tookSide (p.sideWrite q sd (Reg.domain_adjust n.val) v) sd ((p.side sd).r.domainAdjust n.val x).1 [Reg.host_config_writes] := by
  have h := Core.hook_domain_adjust (p.side sd).r (p.hookEnv sd) (p.dev.rd Reg.silicon_revision) x n
  have h' := p.sideWrite_took q sd (Reg.domain_adjust n.val) v _ x hm (findObj_domain_adjust sd n) (by decide) ha (by unfold Reg.domain_adjust Reg.power_request; omega) (by unfold Reg.domain_adjust Reg.side_reset; omega)
    (by rw [h]; exact hok) (by rw [h]; exact hps)
    (fun _ _ hm _ => absurd hm (by have := n.isLt; unfold mirrored Reg.domain_adjust; simp only [Bool.or_eq_true, Bool.and_eq_true, decide_eq_true_eq, wShape, wProfile, wFilter, wMeter, wSgate, wSgclAdmin]; omega))
  rw [h] at h'
  have e0 : (if Reg.domain_adjust n.val = Reg.counters_clear ∧ x = 1 then clearedSlots else []) = [] :=
    if_neg (fun e => absurd e.1 (by unfold Reg.domain_adjust Reg.counters_clear; omega))
  rw [e0] at h'
  exact h'

theorem Core.hook_domain_set (c : Core) (e : HookEnv) (rev v : Nat) (p : Fin 4) :
    c.hook e ⟨0x90405, 4, 1, 0, .time96, Req.HFO, Req.HB, .set, 0, .any⟩ rev (Reg.domain_set p.val) v = (c.domainSet p.val v) := by
  have h1 : Reg.domain_set p.val / 256 = 0x904 + p.val := by unfold Reg.domain_set; omega
  have h2 : Reg.domain_set p.val % 256 = 5 := by unfold Reg.domain_set; omega
  have hlt := p.isLt
  unfold Core.hook; simp only [h1, h2]
  repeat (first | rw [if_pos (by first | omega | decide)] | rw [if_neg (by first | omega | decide)] | fail)
  unfold Core.hookTime
  simp only [Nat.add_sub_cancel_left]
  repeat (first | rw [if_pos (by first | omega | decide)] | rw [if_neg (by first | omega | decide)] | fail)
  try first | rfl | simp
theorem findObj_domain_set (sd : SideId) (p : Fin 4) :
    findObj (keyIndex sd (Reg.domain_set p.val)) ((Reg.domain_set p.val) % 256) = some ⟨.side sd (Reg.domain_set p.val), ⟨0x90405, 4, 1, 0, .time96, Req.HFO, Req.HB, .set, 0, .any⟩⟩ :=
  findObj_family ⟨0x90405, 4, 1, 0, .time96, Req.HFO, Req.HB, .set, 0, .any⟩ 0x90706 (by decide +kernel) (by decide) (by decide) (by decide) (by decide) sd p.val p.isLt
theorem Plant.took_domain_set (p : Plant) (q : Requester) (sd : SideId) (n : Fin 4) (v x : Nat) (hm : p.mayWriteSide q sd (Reg.domain_set n.val) = true)
    (ha : (⟨0x90405, 4, 1, 0, .time96, Req.HFO, Req.HB, .set, 0, .any⟩ : ObjRow).accept v = some x) (hok : ((p.side sd).r.domainSet n.val x).2 = .ok)
    (hps : ((p.side sd).r.domainSet n.val x).1.rd Reg.power_state = (p.side sd).r.rd Reg.power_state) :
    p.tookSide (p.sideWrite q sd (Reg.domain_set n.val) v) sd ((p.side sd).r.domainSet n.val x).1 [Reg.host_config_writes] := by
  have h := Core.hook_domain_set (p.side sd).r (p.hookEnv sd) (p.dev.rd Reg.silicon_revision) x n
  have h' := p.sideWrite_took q sd (Reg.domain_set n.val) v _ x hm (findObj_domain_set sd n) (by decide) ha (by unfold Reg.domain_set Reg.power_request; omega) (by unfold Reg.domain_set Reg.side_reset; omega)
    (by rw [h]; exact hok) (by rw [h]; exact hps)
    (fun _ _ hm _ => absurd hm (by have := n.isLt; unfold mirrored Reg.domain_set; simp only [Bool.or_eq_true, Bool.and_eq_true, decide_eq_true_eq, wShape, wProfile, wFilter, wMeter, wSgate, wSgclAdmin]; omega))
  rw [h] at h'
  have e0 : (if Reg.domain_set n.val = Reg.counters_clear ∧ x = 1 then clearedSlots else []) = [] :=
    if_neg (fun e => absurd e.1 (by unfold Reg.domain_set Reg.counters_clear; omega))
  rw [e0] at h'
  exact h'

theorem Core.hook_snapshot (c : Core) (e : HookEnv) (rev v : Nat) :
    c.hook e ⟨0x90006, 1, 1, 0, .enum8, Req.HFO, Req.H, .trig, 0, .any⟩ rev Reg.snapshot v = (c.timeSnapshot v) := by
  rfl
theorem findObj_snapshot (sd : SideId) :
    findObj (keyIndex sd Reg.snapshot) (Reg.snapshot % 256) = some ⟨.side sd Reg.snapshot, ⟨0x90006, 1, 1, 0, .enum8, Req.HFO, Req.H, .trig, 0, .any⟩⟩ :=
  findObj_family ⟨0x90006, 1, 1, 0, .enum8, Req.HFO, Req.H, .trig, 0, .any⟩ 0x90007 (by decide +kernel) (by decide) (by decide) (by decide) (by decide) sd 0 (by decide)
theorem Plant.took_snapshot (p : Plant) (q : Requester) (sd : SideId) (v x : Nat) (hm : p.mayWriteSide q sd Reg.snapshot = true)
    (ha : (⟨0x90006, 1, 1, 0, .enum8, Req.HFO, Req.H, .trig, 0, .any⟩ : ObjRow).accept v = some x) (hok : ((p.side sd).r.timeSnapshot x).2 = .ok)
    (hps : ((p.side sd).r.timeSnapshot x).1.rd Reg.power_state = (p.side sd).r.rd Reg.power_state) :
    p.tookSide (p.sideWrite q sd Reg.snapshot v) sd ((p.side sd).r.timeSnapshot x).1 [Reg.host_config_writes] := by
  have h := Core.hook_snapshot (p.side sd).r (p.hookEnv sd) (p.dev.rd Reg.silicon_revision) x
  have h' := p.sideWrite_took q sd Reg.snapshot v _ x hm (findObj_snapshot sd) (by decide) ha (by decide) (by decide)
    (by rw [h]; exact hok) (by rw [h]; exact hps)
    (fun _ _ hm _ => absurd hm (by decide))
  rw [h] at h'
  have e0 : (if Reg.snapshot = Reg.counters_clear ∧ x = 1 then clearedSlots else []) = [] :=
    if_neg (fun e => absurd e.1 (by decide))
  rw [e0] at h'
  exact h'

theorem Core.hook_pol_cmd (c : Core) (e : HookEnv) (rev v : Nat) :
    c.hook e ⟨0x90202, 1, 1, 0, .enum8, Req.HFO, Req.HB, .trig, 0, .any⟩ rev Reg.pol_cmd v = (c.polCmd v) := by
  rfl
theorem findObj_pol_cmd (sd : SideId) :
    findObj (keyIndex sd Reg.pol_cmd) (Reg.pol_cmd % 256) = some ⟨.side sd Reg.pol_cmd, ⟨0x90202, 1, 1, 0, .enum8, Req.HFO, Req.HB, .trig, 0, .any⟩⟩ :=
  findObj_family ⟨0x90202, 1, 1, 0, .enum8, Req.HFO, Req.HB, .trig, 0, .any⟩ 0x90203 (by decide +kernel) (by decide) (by decide) (by decide) (by decide) sd 0 (by decide)
theorem Plant.took_pol_cmd (p : Plant) (q : Requester) (sd : SideId) (v x : Nat) (hm : p.mayWriteSide q sd Reg.pol_cmd = true)
    (ha : (⟨0x90202, 1, 1, 0, .enum8, Req.HFO, Req.HB, .trig, 0, .any⟩ : ObjRow).accept v = some x) (hok : ((p.side sd).r.polCmd x).2 = .ok)
    (hps : ((p.side sd).r.polCmd x).1.rd Reg.power_state = (p.side sd).r.rd Reg.power_state)
    (hB : p.mirrorTakes sd ⟨0x90202, 1, 1, 0, .enum8, Req.HFO, Req.HB, .trig, 0, .any⟩ Reg.pol_cmd x) :
    p.tookSide (p.sideWrite q sd Reg.pol_cmd v) sd ((p.side sd).r.polCmd x).1 [Reg.host_config_writes] := by
  have h := Core.hook_pol_cmd (p.side sd).r (p.hookEnv sd) (p.dev.rd Reg.silicon_revision) x
  have h' := p.sideWrite_took q sd Reg.pol_cmd v _ x hm (findObj_pol_cmd sd) (by decide) ha (by decide) (by decide)
    (by rw [h]; exact hok) (by rw [h]; exact hps)
    hB
  rw [h] at h'
  have e0 : (if Reg.pol_cmd = Reg.counters_clear ∧ x = 1 then clearedSlots else []) = [] :=
    if_neg (fun e => absurd e.1 (by decide))
  rw [e0] at h'
  exact h'

theorem Core.hook_core_run (c : Core) (e : HookEnv) (rev v : Nat) :
    c.hook e ⟨0xA0003, 1, 1, 0, .u8, Req.HFO, Req.HBO, .set, 0, .any⟩ rev Reg.core_run v = (c.coreRun v) := by
  rfl
theorem findObj_core_run (sd : SideId) :
    findObj (keyIndex sd Reg.core_run) (Reg.core_run % 256) = some ⟨.side sd Reg.core_run, ⟨0xA0003, 1, 1, 0, .u8, Req.HFO, Req.HBO, .set, 0, .any⟩⟩ :=
  findObj_family ⟨0xA0003, 1, 1, 0, .u8, Req.HFO, Req.HBO, .set, 0, .any⟩ 0xa0004 (by decide +kernel) (by decide) (by decide) (by decide) (by decide) sd 0 (by decide)
theorem Plant.took_core_run (p : Plant) (q : Requester) (sd : SideId) (v x : Nat) (hm : p.mayWriteSide q sd Reg.core_run = true)
    (ha : (⟨0xA0003, 1, 1, 0, .u8, Req.HFO, Req.HBO, .set, 0, .any⟩ : ObjRow).accept v = some x) (hok : ((p.side sd).r.coreRun x).2 = .ok)
    (hps : ((p.side sd).r.coreRun x).1.rd Reg.power_state = (p.side sd).r.rd Reg.power_state) :
    p.tookSide (p.sideWrite q sd Reg.core_run v) sd ((p.side sd).r.coreRun x).1 [Reg.host_config_writes] := by
  have h := Core.hook_core_run (p.side sd).r (p.hookEnv sd) (p.dev.rd Reg.silicon_revision) x
  have h' := p.sideWrite_took q sd Reg.core_run v _ x hm (findObj_core_run sd) (by decide) ha (by decide) (by decide)
    (by rw [h]; exact hok) (by rw [h]; exact hps)
    (fun _ _ hm _ => absurd hm (by decide))
  rw [h] at h'
  have e0 : (if Reg.core_run = Reg.counters_clear ∧ x = 1 then clearedSlots else []) = [] :=
    if_neg (fun e => absurd e.1 (by decide))
  rw [e0] at h'
  exact h'

theorem Core.hook_samp_head (c : Core) (e : HookEnv) (rev v : Nat) (p : Fin 8) :
    c.hook e ⟨0xD1007, 8, 1, 0, .u32, Req.HFGO, Req.HGO, .set, 0, .any⟩ rev (Reg.samp_head p.val) v = ((c.sampHead p.val v, Reason.ok)) := by
  have h1 : Reg.samp_head p.val / 256 = 0xd10 + p.val := by unfold Reg.samp_head; omega
  have h2 : Reg.samp_head p.val % 256 = 7 := by unfold Reg.samp_head; omega
  have hlt := p.isLt
  unfold Core.hook; simp only [h1, h2]
  repeat (first | rw [if_pos (by first | omega | decide)] | rw [if_neg (by first | omega | decide)] | fail)
  unfold Core.hookSampling
  simp only [Nat.add_sub_cancel_left]
  repeat (first | rw [if_pos (by first | omega | decide)] | rw [if_neg (by first | omega | decide)] | fail)
  try first | rfl | simp
theorem findObj_samp_head (sd : SideId) (p : Fin 8) :
    findObj (keyIndex sd (Reg.samp_head p.val)) ((Reg.samp_head p.val) % 256) = some ⟨.side sd (Reg.samp_head p.val), ⟨0xD1007, 8, 1, 0, .u32, Req.HFGO, Req.HGO, .set, 0, .any⟩⟩ :=
  findObj_family ⟨0xD1007, 8, 1, 0, .u32, Req.HFGO, Req.HGO, .set, 0, .any⟩ 0xd1708 (by decide +kernel) (by decide) (by decide) (by decide) (by decide) sd p.val p.isLt
theorem Plant.took_samp_head (p : Plant) (q : Requester) (sd : SideId) (n : Fin 8) (v x : Nat) (hm : p.mayWriteSide q sd (Reg.samp_head n.val) = true)
    (ha : (⟨0xD1007, 8, 1, 0, .u32, Req.HFGO, Req.HGO, .set, 0, .any⟩ : ObjRow).accept v = some x)
    (hps : (((p.side sd).r.sampHead n.val x, Reason.ok)).1.rd Reg.power_state = (p.side sd).r.rd Reg.power_state) :
    p.tookSide (p.sideWrite q sd (Reg.samp_head n.val) v) sd (((p.side sd).r.sampHead n.val x, Reason.ok)).1 [Reg.host_config_writes] := by
  have h := Core.hook_samp_head (p.side sd).r (p.hookEnv sd) (p.dev.rd Reg.silicon_revision) x n
  have h' := p.sideWrite_took q sd (Reg.samp_head n.val) v _ x hm (findObj_samp_head sd n) (by decide) ha (by unfold Reg.samp_head Reg.power_request; omega) (by unfold Reg.samp_head Reg.side_reset; omega)
    (by rw [h]) (by rw [h]; exact hps)
    (fun _ _ hm _ => absurd hm (by have := n.isLt; unfold mirrored Reg.samp_head; simp only [Bool.or_eq_true, Bool.and_eq_true, decide_eq_true_eq, wShape, wProfile, wFilter, wMeter, wSgate, wSgclAdmin]; omega))
  rw [h] at h'
  have e0 : (if Reg.samp_head n.val = Reg.counters_clear ∧ x = 1 then clearedSlots else []) = [] :=
    if_neg (fun e => absurd e.1 (by unfold Reg.samp_head Reg.counters_clear; omega))
  rw [e0] at h'
  exact h'

theorem Core.hook_dram_train (c : Core) (e : HookEnv) (rev v : Nat) :
    c.hook e ⟨0xC0405, 1, 1, 0, .enum8, Req.HFO, Req.HO, .trig, 0, .any⟩ rev Reg.dram_train v = (c.dramTrain v) := by
  rfl
theorem findObj_dram_train (sd : SideId) :
    findObj (keyIndex sd Reg.dram_train) (Reg.dram_train % 256) = some ⟨.side sd Reg.dram_train, ⟨0xC0405, 1, 1, 0, .enum8, Req.HFO, Req.HO, .trig, 0, .any⟩⟩ :=
  findObj_family ⟨0xC0405, 1, 1, 0, .enum8, Req.HFO, Req.HO, .trig, 0, .any⟩ 0xc0406 (by decide +kernel) (by decide) (by decide) (by decide) (by decide) sd 0 (by decide)
theorem Plant.took_dram_train (p : Plant) (q : Requester) (sd : SideId) (v x : Nat) (hm : p.mayWriteSide q sd Reg.dram_train = true)
    (ha : (⟨0xC0405, 1, 1, 0, .enum8, Req.HFO, Req.HO, .trig, 0, .any⟩ : ObjRow).accept v = some x) (hok : ((p.side sd).r.dramTrain x).2 = .ok)
    (hps : ((p.side sd).r.dramTrain x).1.rd Reg.power_state = (p.side sd).r.rd Reg.power_state) :
    p.tookSide (p.sideWrite q sd Reg.dram_train v) sd ((p.side sd).r.dramTrain x).1 [Reg.host_config_writes] := by
  have h := Core.hook_dram_train (p.side sd).r (p.hookEnv sd) (p.dev.rd Reg.silicon_revision) x
  have h' := p.sideWrite_took q sd Reg.dram_train v _ x hm (findObj_dram_train sd) (by decide) ha (by decide) (by decide)
    (by rw [h]; exact hok) (by rw [h]; exact hps)
    (fun _ _ hm _ => absurd hm (by decide))
  rw [h] at h'
  have e0 : (if Reg.dram_train = Reg.counters_clear ∧ x = 1 then clearedSlots else []) = [] :=
    if_neg (fun e => absurd e.1 (by decide))
  rw [e0] at h'
  exact h'

theorem Core.hook_fsp_request (c : Core) (e : HookEnv) (rev v : Nat) :
    c.hook e ⟨0xC0408, 1, 1, 0, .enum8, Req.HFO, Req.HB, .trig, 0, .any⟩ rev Reg.fsp_request v = (c.fspRequest v) := by
  rfl
theorem findObj_fsp_request (sd : SideId) :
    findObj (keyIndex sd Reg.fsp_request) (Reg.fsp_request % 256) = some ⟨.side sd Reg.fsp_request, ⟨0xC0408, 1, 1, 0, .enum8, Req.HFO, Req.HB, .trig, 0, .any⟩⟩ :=
  findObj_family ⟨0xC0408, 1, 1, 0, .enum8, Req.HFO, Req.HB, .trig, 0, .any⟩ 0xc0409 (by decide +kernel) (by decide) (by decide) (by decide) (by decide) sd 0 (by decide)
theorem Plant.took_fsp_request (p : Plant) (q : Requester) (sd : SideId) (v x : Nat) (hm : p.mayWriteSide q sd Reg.fsp_request = true)
    (ha : (⟨0xC0408, 1, 1, 0, .enum8, Req.HFO, Req.HB, .trig, 0, .any⟩ : ObjRow).accept v = some x) (hok : ((p.side sd).r.fspRequest x).2 = .ok)
    (hps : ((p.side sd).r.fspRequest x).1.rd Reg.power_state = (p.side sd).r.rd Reg.power_state) :
    p.tookSide (p.sideWrite q sd Reg.fsp_request v) sd ((p.side sd).r.fspRequest x).1 [Reg.host_config_writes] := by
  have h := Core.hook_fsp_request (p.side sd).r (p.hookEnv sd) (p.dev.rd Reg.silicon_revision) x
  have h' := p.sideWrite_took q sd Reg.fsp_request v _ x hm (findObj_fsp_request sd) (by decide) ha (by decide) (by decide)
    (by rw [h]; exact hok) (by rw [h]; exact hps)
    (fun _ _ hm _ => absurd hm (by decide))
  rw [h] at h'
  have e0 : (if Reg.fsp_request = Reg.counters_clear ∧ x = 1 then clearedSlots else []) = [] :=
    if_neg (fun e => absurd e.1 (by decide))
  rw [e0] at h'
  exact h'

theorem Core.hook_tx_tail (c : Core) (e : HookEnv) (rev v : Nat) (p : Fin 64) :
    c.hook e ⟨0x208010, 64, 1, 0, .u32, Req.HGO, Req.HG, .set, 0, .any⟩ rev (Reg.tx_tail p.val) v = ((c.txTailWrite p.val v, Reason.ok)) := by
  have h1 : Reg.tx_tail p.val / 256 = 0x2080 + p.val := by unfold Reg.tx_tail; omega
  have h2 : Reg.tx_tail p.val % 256 = 16 := by unfold Reg.tx_tail; omega
  have hlt := p.isLt
  unfold Core.hook; simp only [h1, h2]
  repeat (first | rw [if_pos (by first | omega | decide)] | rw [if_neg (by first | omega | decide)] | fail)
  unfold Core.hookRing
  simp only [Nat.add_sub_cancel_left]
  repeat (first | rw [if_pos (by first | omega | decide)] | rw [if_neg (by first | omega | decide)] | fail)
  try first | rfl | simp
theorem findObj_tx_tail (sd : SideId) (p : Fin 64) :
    findObj (keyIndex sd (Reg.tx_tail p.val)) ((Reg.tx_tail p.val) % 256) = some ⟨.side sd (Reg.tx_tail p.val), ⟨0x208010, 64, 1, 0, .u32, Req.HGO, Req.HG, .set, 0, .any⟩⟩ :=
  findObj_family ⟨0x208010, 64, 1, 0, .u32, Req.HGO, Req.HG, .set, 0, .any⟩ 0x20bf11 (by decide +kernel) (by decide) (by decide) (by decide) (by decide) sd p.val p.isLt
theorem Plant.took_tx_tail (p : Plant) (q : Requester) (sd : SideId) (n : Fin 64) (v x : Nat) (hm : p.mayWriteSide q sd (Reg.tx_tail n.val) = true)
    (ha : (⟨0x208010, 64, 1, 0, .u32, Req.HGO, Req.HG, .set, 0, .any⟩ : ObjRow).accept v = some x)
    (hps : (((p.side sd).r.txTailWrite n.val x, Reason.ok)).1.rd Reg.power_state = (p.side sd).r.rd Reg.power_state) :
    p.tookSide (p.sideWrite q sd (Reg.tx_tail n.val) v) sd (((p.side sd).r.txTailWrite n.val x, Reason.ok)).1 [Reg.host_config_writes] := by
  have h := Core.hook_tx_tail (p.side sd).r (p.hookEnv sd) (p.dev.rd Reg.silicon_revision) x n
  have h' := p.sideWrite_took q sd (Reg.tx_tail n.val) v _ x hm (findObj_tx_tail sd n) (by decide) ha (by unfold Reg.tx_tail Reg.power_request; omega) (by unfold Reg.tx_tail Reg.side_reset; omega)
    (by rw [h]) (by rw [h]; exact hps)
    (fun _ _ hm _ => absurd hm (by have := n.isLt; unfold mirrored Reg.tx_tail; simp only [Bool.or_eq_true, Bool.and_eq_true, decide_eq_true_eq, wShape, wProfile, wFilter, wMeter, wSgate, wSgclAdmin]; omega))
  rw [h] at h'
  have e0 : (if Reg.tx_tail n.val = Reg.counters_clear ∧ x = 1 then clearedSlots else []) = [] :=
    if_neg (fun e => absurd e.1 (by unfold Reg.tx_tail Reg.counters_clear; omega))
  rw [e0] at h'
  exact h'

theorem Core.hook_fill_tail (c : Core) (e : HookEnv) (rev v : Nat) (p : Fin 64) :
    c.hook e ⟨0x208012, 64, 1, 0, .u32, Req.HGO, Req.HG, .set, 0, .any⟩ rev (Reg.fill_tail p.val) v = ((c.fillTailWrite p.val v, Reason.ok)) := by
  have h1 : Reg.fill_tail p.val / 256 = 0x2080 + p.val := by unfold Reg.fill_tail; omega
  have h2 : Reg.fill_tail p.val % 256 = 18 := by unfold Reg.fill_tail; omega
  have hlt := p.isLt
  unfold Core.hook; simp only [h1, h2]
  repeat (first | rw [if_pos (by first | omega | decide)] | rw [if_neg (by first | omega | decide)] | fail)
  unfold Core.hookRing
  simp only [Nat.add_sub_cancel_left]
  repeat (first | rw [if_pos (by first | omega | decide)] | rw [if_neg (by first | omega | decide)] | fail)
  try first | rfl | simp
theorem findObj_fill_tail (sd : SideId) (p : Fin 64) :
    findObj (keyIndex sd (Reg.fill_tail p.val)) ((Reg.fill_tail p.val) % 256) = some ⟨.side sd (Reg.fill_tail p.val), ⟨0x208012, 64, 1, 0, .u32, Req.HGO, Req.HG, .set, 0, .any⟩⟩ :=
  findObj_family ⟨0x208012, 64, 1, 0, .u32, Req.HGO, Req.HG, .set, 0, .any⟩ 0x20bf13 (by decide +kernel) (by decide) (by decide) (by decide) (by decide) sd p.val p.isLt
theorem Plant.took_fill_tail (p : Plant) (q : Requester) (sd : SideId) (n : Fin 64) (v x : Nat) (hm : p.mayWriteSide q sd (Reg.fill_tail n.val) = true)
    (ha : (⟨0x208012, 64, 1, 0, .u32, Req.HGO, Req.HG, .set, 0, .any⟩ : ObjRow).accept v = some x)
    (hps : (((p.side sd).r.fillTailWrite n.val x, Reason.ok)).1.rd Reg.power_state = (p.side sd).r.rd Reg.power_state) :
    p.tookSide (p.sideWrite q sd (Reg.fill_tail n.val) v) sd (((p.side sd).r.fillTailWrite n.val x, Reason.ok)).1 [Reg.host_config_writes] := by
  have h := Core.hook_fill_tail (p.side sd).r (p.hookEnv sd) (p.dev.rd Reg.silicon_revision) x n
  have h' := p.sideWrite_took q sd (Reg.fill_tail n.val) v _ x hm (findObj_fill_tail sd n) (by decide) ha (by unfold Reg.fill_tail Reg.power_request; omega) (by unfold Reg.fill_tail Reg.side_reset; omega)
    (by rw [h]) (by rw [h]; exact hps)
    (fun _ _ hm _ => absurd hm (by have := n.isLt; unfold mirrored Reg.fill_tail; simp only [Bool.or_eq_true, Bool.and_eq_true, decide_eq_true_eq, wShape, wProfile, wFilter, wMeter, wSgate, wSgclAdmin]; omega))
  rw [h] at h'
  have e0 : (if Reg.fill_tail n.val = Reg.counters_clear ∧ x = 1 then clearedSlots else []) = [] :=
    if_neg (fun e => absurd e.1 (by unfold Reg.fill_tail Reg.counters_clear; omega))
  rw [e0] at h'
  exact h'

theorem Core.hook_vport_ctl (c : Core) (e : HookEnv) (rev v : Nat) (p : Fin 64) :
    c.hook e ⟨0x200018, 64, 1, 0, .enum8, Req.HFGO, Req.HB, .trig, 0, .any⟩ rev (Reg.vport_ctl p.val) v = (c.vportCtl p.val v (rev / 256 % 256)) := by
  have h1 : Reg.vport_ctl p.val / 256 = 0x2000 + p.val := by unfold Reg.vport_ctl; omega
  have h2 : Reg.vport_ctl p.val % 256 = 24 := by unfold Reg.vport_ctl; omega
  have hlt := p.isLt
  unfold Core.hook; simp only [h1, h2]
  repeat (first | rw [if_pos (by first | omega | decide)] | rw [if_neg (by first | omega | decide)] | fail)
  unfold Core.hookVport
  simp only [Nat.add_sub_cancel_left]
  repeat (first | rw [if_pos (by first | omega | decide)] | rw [if_neg (by first | omega | decide)] | fail)
  try first | rfl | simp
theorem findObj_vport_ctl (sd : SideId) (p : Fin 64) :
    findObj (keyIndex sd (Reg.vport_ctl p.val)) ((Reg.vport_ctl p.val) % 256) = some ⟨.side sd (Reg.vport_ctl p.val), ⟨0x200018, 64, 1, 0, .enum8, Req.HFGO, Req.HB, .trig, 0, .any⟩⟩ :=
  findObj_family ⟨0x200018, 64, 1, 0, .enum8, Req.HFGO, Req.HB, .trig, 0, .any⟩ 0x203f19 (by decide +kernel) (by decide) (by decide) (by decide) (by decide) sd p.val p.isLt
theorem Plant.took_vport_ctl (p : Plant) (q : Requester) (sd : SideId) (n : Fin 64) (v x : Nat) (hm : p.mayWriteSide q sd (Reg.vport_ctl n.val) = true)
    (ha : (⟨0x200018, 64, 1, 0, .enum8, Req.HFGO, Req.HB, .trig, 0, .any⟩ : ObjRow).accept v = some x) (hok : ((p.side sd).r.vportCtl n.val x ((p.dev.rd Reg.silicon_revision) / 256 % 256)).2 = .ok)
    (hps : ((p.side sd).r.vportCtl n.val x ((p.dev.rd Reg.silicon_revision) / 256 % 256)).1.rd Reg.power_state = (p.side sd).r.rd Reg.power_state) :
    p.tookSide (p.sideWrite q sd (Reg.vport_ctl n.val) v) sd ((p.side sd).r.vportCtl n.val x ((p.dev.rd Reg.silicon_revision) / 256 % 256)).1 [Reg.host_config_writes] := by
  have h := Core.hook_vport_ctl (p.side sd).r (p.hookEnv sd) (p.dev.rd Reg.silicon_revision) x n
  have h' := p.sideWrite_took q sd (Reg.vport_ctl n.val) v _ x hm (findObj_vport_ctl sd n) (by decide) ha (by unfold Reg.vport_ctl Reg.power_request; omega) (by unfold Reg.vport_ctl Reg.side_reset; omega)
    (by rw [h]; exact hok) (by rw [h]; exact hps)
    (fun _ _ hm _ => absurd hm (by have := n.isLt; unfold mirrored Reg.vport_ctl; simp only [Bool.or_eq_true, Bool.and_eq_true, decide_eq_true_eq, wShape, wProfile, wFilter, wMeter, wSgate, wSgclAdmin]; omega))
  rw [h] at h'
  have e0 : (if Reg.vport_ctl n.val = Reg.counters_clear ∧ x = 1 then clearedSlots else []) = [] :=
    if_neg (fun e => absurd e.1 (by unfold Reg.vport_ctl Reg.counters_clear; omega))
  rw [e0] at h'
  exact h'

theorem Core.hook_counter_snapshot (c : Core) (e : HookEnv) (rev v : Nat) :
    c.hook e ⟨0xD0001, 1, 1, 0, .enum8, Req.HFO, Req.HO, .trig, 0, .any⟩ rev Reg.counter_snapshot v = (c.counterSnapshot v e.cross) := by
  rfl
theorem findObj_counter_snapshot (sd : SideId) :
    findObj (keyIndex sd Reg.counter_snapshot) (Reg.counter_snapshot % 256) = some ⟨.side sd Reg.counter_snapshot, ⟨0xD0001, 1, 1, 0, .enum8, Req.HFO, Req.HO, .trig, 0, .any⟩⟩ :=
  findObj_family ⟨0xD0001, 1, 1, 0, .enum8, Req.HFO, Req.HO, .trig, 0, .any⟩ 0xd0002 (by decide +kernel) (by decide) (by decide) (by decide) (by decide) sd 0 (by decide)
theorem Plant.took_counter_snapshot (p : Plant) (q : Requester) (sd : SideId) (v x : Nat) (hm : p.mayWriteSide q sd Reg.counter_snapshot = true)
    (ha : (⟨0xD0001, 1, 1, 0, .enum8, Req.HFO, Req.HO, .trig, 0, .any⟩ : ObjRow).accept v = some x) (hok : ((p.side sd).r.counterSnapshot x (p.hookEnv sd).cross).2 = .ok)
    (hps : ((p.side sd).r.counterSnapshot x (p.hookEnv sd).cross).1.rd Reg.power_state = (p.side sd).r.rd Reg.power_state) :
    p.tookSide (p.sideWrite q sd Reg.counter_snapshot v) sd ((p.side sd).r.counterSnapshot x (p.hookEnv sd).cross).1 [Reg.host_config_writes] := by
  have h := Core.hook_counter_snapshot (p.side sd).r (p.hookEnv sd) (p.dev.rd Reg.silicon_revision) x
  have h' := p.sideWrite_took q sd Reg.counter_snapshot v _ x hm (findObj_counter_snapshot sd) (by decide) ha (by decide) (by decide)
    (by rw [h]; exact hok) (by rw [h]; exact hps)
    (fun _ _ hm _ => absurd hm (by decide))
  rw [h] at h'
  have e0 : (if Reg.counter_snapshot = Reg.counters_clear ∧ x = 1 then clearedSlots else []) = [] :=
    if_neg (fun e => absurd e.1 (by decide))
  rw [e0] at h'
  exact h'

theorem Core.hook_counters_clear (c : Core) (e : HookEnv) (rev v : Nat) :
    c.hook e ⟨0xD0005, 1, 1, 0, .enum8, Req.HFO, Req.H, .trig, 0, .any⟩ rev Reg.counters_clear v = (if v = 1 then (c.countersClear, Reason.ok) else if v = 2 then (c.windowCountersClear, Reason.ok) else (c, .badValue)) := by
  rfl
theorem findObj_counters_clear (sd : SideId) :
    findObj (keyIndex sd Reg.counters_clear) (Reg.counters_clear % 256) = some ⟨.side sd Reg.counters_clear, ⟨0xD0005, 1, 1, 0, .enum8, Req.HFO, Req.H, .trig, 0, .any⟩⟩ :=
  findObj_family ⟨0xD0005, 1, 1, 0, .enum8, Req.HFO, Req.H, .trig, 0, .any⟩ 0xd0006 (by decide +kernel) (by decide) (by decide) (by decide) (by decide) sd 0 (by decide)
theorem Plant.took_counters_clear (p : Plant) (q : Requester) (sd : SideId) (v x : Nat) (hm : p.mayWriteSide q sd Reg.counters_clear = true)
    (ha : (⟨0xD0005, 1, 1, 0, .enum8, Req.HFO, Req.H, .trig, 0, .any⟩ : ObjRow).accept v = some x) (hok : (if x = 1 then ((p.side sd).r.countersClear, Reason.ok) else if x = 2 then ((p.side sd).r.windowCountersClear, Reason.ok) else ((p.side sd).r, .badValue)).2 = .ok)
    (hps : (if x = 1 then ((p.side sd).r.countersClear, Reason.ok) else if x = 2 then ((p.side sd).r.windowCountersClear, Reason.ok) else ((p.side sd).r, .badValue)).1.rd Reg.power_state = (p.side sd).r.rd Reg.power_state) :
    p.tookSide (p.sideWrite q sd Reg.counters_clear v) sd (if x = 1 then ((p.side sd).r.countersClear, Reason.ok) else if x = 2 then ((p.side sd).r.windowCountersClear, Reason.ok) else ((p.side sd).r, .badValue)).1 (Reg.host_config_writes :: if x = 1 then clearedSlots else []) := by
  have h := Core.hook_counters_clear (p.side sd).r (p.hookEnv sd) (p.dev.rd Reg.silicon_revision) x
  have h' := p.sideWrite_took q sd Reg.counters_clear v _ x hm (findObj_counters_clear sd) (by decide) ha (by decide) (by decide)
    (by rw [h]; exact hok) (by rw [h]; exact hps)
    (fun _ _ hm _ => absurd hm (by decide))
  rw [h] at h'
  simpa using h'

theorem Core.hook_fault_clear (c : Core) (e : HookEnv) (rev v : Nat) :
    c.hook e ⟨0xE0006, 1, 1, 0, .u32, Req.HFO, Req.HBO, .trig, 0, .any⟩ rev Reg.fault_clear v = (c.faultClear v) := by
  rfl
theorem findObj_fault_clear (sd : SideId) :
    findObj (keyIndex sd Reg.fault_clear) (Reg.fault_clear % 256) = some ⟨.side sd Reg.fault_clear, ⟨0xE0006, 1, 1, 0, .u32, Req.HFO, Req.HBO, .trig, 0, .any⟩⟩ :=
  findObj_family ⟨0xE0006, 1, 1, 0, .u32, Req.HFO, Req.HBO, .trig, 0, .any⟩ 0xe0007 (by decide +kernel) (by decide) (by decide) (by decide) (by decide) sd 0 (by decide)
theorem Plant.took_fault_clear (p : Plant) (q : Requester) (sd : SideId) (v x : Nat) (hm : p.mayWriteSide q sd Reg.fault_clear = true)
    (ha : (⟨0xE0006, 1, 1, 0, .u32, Req.HFO, Req.HBO, .trig, 0, .any⟩ : ObjRow).accept v = some x) (hok : ((p.side sd).r.faultClear x).2 = .ok)
    (hps : ((p.side sd).r.faultClear x).1.rd Reg.power_state = (p.side sd).r.rd Reg.power_state) :
    p.tookSide (p.sideWrite q sd Reg.fault_clear v) sd ((p.side sd).r.faultClear x).1 [Reg.host_config_writes] := by
  have h := Core.hook_fault_clear (p.side sd).r (p.hookEnv sd) (p.dev.rd Reg.silicon_revision) x
  have h' := p.sideWrite_took q sd Reg.fault_clear v _ x hm (findObj_fault_clear sd) (by decide) ha (by decide) (by decide)
    (by rw [h]; exact hok) (by rw [h]; exact hps)
    (fun _ _ hm _ => absurd hm (by decide))
  rw [h] at h'
  have e0 : (if Reg.fault_clear = Reg.counters_clear ∧ x = 1 then clearedSlots else []) = [] :=
    if_neg (fun e => absurd e.1 (by decide))
  rw [e0] at h'
  exact h'

theorem Core.hook_unfence (c : Core) (e : HookEnv) (rev v : Nat) :
    c.hook e ⟨0xE0007, 1, 1, 0, .u32, Req.HFO, Req.HBO, .trig, 0, .any⟩ rev Reg.unfence v = (c.unfence (bits v 31 28) (bits v 15 0)) := by
  rfl
theorem findObj_unfence (sd : SideId) :
    findObj (keyIndex sd Reg.unfence) (Reg.unfence % 256) = some ⟨.side sd Reg.unfence, ⟨0xE0007, 1, 1, 0, .u32, Req.HFO, Req.HBO, .trig, 0, .any⟩⟩ :=
  findObj_family ⟨0xE0007, 1, 1, 0, .u32, Req.HFO, Req.HBO, .trig, 0, .any⟩ 0xe0008 (by decide +kernel) (by decide) (by decide) (by decide) (by decide) sd 0 (by decide)
theorem Plant.took_unfence (p : Plant) (q : Requester) (sd : SideId) (v x : Nat) (hm : p.mayWriteSide q sd Reg.unfence = true)
    (ha : (⟨0xE0007, 1, 1, 0, .u32, Req.HFO, Req.HBO, .trig, 0, .any⟩ : ObjRow).accept v = some x) (hok : ((p.side sd).r.unfence (bits x 31 28) (bits x 15 0)).2 = .ok)
    (hps : ((p.side sd).r.unfence (bits x 31 28) (bits x 15 0)).1.rd Reg.power_state = (p.side sd).r.rd Reg.power_state) :
    p.tookSide (p.sideWrite q sd Reg.unfence v) sd ((p.side sd).r.unfence (bits x 31 28) (bits x 15 0)).1 [Reg.host_config_writes] := by
  have h := Core.hook_unfence (p.side sd).r (p.hookEnv sd) (p.dev.rd Reg.silicon_revision) x
  have h' := p.sideWrite_took q sd Reg.unfence v _ x hm (findObj_unfence sd) (by decide) ha (by decide) (by decide)
    (by rw [h]; exact hok) (by rw [h]; exact hps)
    (fun _ _ hm _ => absurd hm (by decide))
  rw [h] at h'
  have e0 : (if Reg.unfence = Reg.counters_clear ∧ x = 1 then clearedSlots else []) = [] :=
    if_neg (fun e => absurd e.1 (by decide))
  rw [e0] at h'
  exact h'

theorem Core.hook_degrade_release (c : Core) (e : HookEnv) (rev v : Nat) :
    c.hook e ⟨0xE0005, 1, 1, 0, .enum8, Req.HFO, Req.HB, .trig, 0, .any⟩ rev Reg.degrade_release v = (c.degradeRelease v) := by
  rfl
theorem findObj_degrade_release (sd : SideId) :
    findObj (keyIndex sd Reg.degrade_release) (Reg.degrade_release % 256) = some ⟨.side sd Reg.degrade_release, ⟨0xE0005, 1, 1, 0, .enum8, Req.HFO, Req.HB, .trig, 0, .any⟩⟩ :=
  findObj_family ⟨0xE0005, 1, 1, 0, .enum8, Req.HFO, Req.HB, .trig, 0, .any⟩ 0xe0006 (by decide +kernel) (by decide) (by decide) (by decide) (by decide) sd 0 (by decide)
theorem Plant.took_degrade_release (p : Plant) (q : Requester) (sd : SideId) (v x : Nat) (hm : p.mayWriteSide q sd Reg.degrade_release = true)
    (ha : (⟨0xE0005, 1, 1, 0, .enum8, Req.HFO, Req.HB, .trig, 0, .any⟩ : ObjRow).accept v = some x) (hok : ((p.side sd).r.degradeRelease x).2 = .ok)
    (hps : ((p.side sd).r.degradeRelease x).1.rd Reg.power_state = (p.side sd).r.rd Reg.power_state) :
    p.tookSide (p.sideWrite q sd Reg.degrade_release v) sd ((p.side sd).r.degradeRelease x).1 [Reg.host_config_writes] := by
  have h := Core.hook_degrade_release (p.side sd).r (p.hookEnv sd) (p.dev.rd Reg.silicon_revision) x
  have h' := p.sideWrite_took q sd Reg.degrade_release v _ x hm (findObj_degrade_release sd) (by decide) ha (by decide) (by decide)
    (by rw [h]; exact hok) (by rw [h]; exact hps)
    (fun _ _ hm _ => absurd hm (by decide))
  rw [h] at h'
  have e0 : (if Reg.degrade_release = Reg.counters_clear ∧ x = 1 then clearedSlots else []) = [] :=
    if_neg (fun e => absurd e.1 (by decide))
  rw [e0] at h'
  exact h'

theorem Core.hook_pair_release (c : Core) (e : HookEnv) (rev v : Nat) :
    c.hook e ⟨0xE0004, 1, 1, 0, .enum8, Req.HFO, Req.HB, .trig, 0, .any⟩ rev Reg.pair_release v = (c.pairRelease e.pairLive v) := by
  rfl
theorem findObj_pair_release (sd : SideId) :
    findObj (keyIndex sd Reg.pair_release) (Reg.pair_release % 256) = some ⟨.side sd Reg.pair_release, ⟨0xE0004, 1, 1, 0, .enum8, Req.HFO, Req.HB, .trig, 0, .any⟩⟩ :=
  findObj_family ⟨0xE0004, 1, 1, 0, .enum8, Req.HFO, Req.HB, .trig, 0, .any⟩ 0xe0005 (by decide +kernel) (by decide) (by decide) (by decide) (by decide) sd 0 (by decide)
theorem Plant.took_pair_release (p : Plant) (q : Requester) (sd : SideId) (v x : Nat) (hm : p.mayWriteSide q sd Reg.pair_release = true)
    (ha : (⟨0xE0004, 1, 1, 0, .enum8, Req.HFO, Req.HB, .trig, 0, .any⟩ : ObjRow).accept v = some x) (hok : ((p.side sd).r.pairRelease (p.dev.pairLive sd.num) x).2 = .ok)
    (hps : ((p.side sd).r.pairRelease (p.dev.pairLive sd.num) x).1.rd Reg.power_state = (p.side sd).r.rd Reg.power_state) :
    p.tookSide (p.sideWrite q sd Reg.pair_release v) sd ((p.side sd).r.pairRelease (p.dev.pairLive sd.num) x).1 [Reg.host_config_writes] := by
  have h := Core.hook_pair_release (p.side sd).r (p.hookEnv sd) (p.dev.rd Reg.silicon_revision) x
  have h' := p.sideWrite_took q sd Reg.pair_release v _ x hm (findObj_pair_release sd) (by decide) ha (by decide) (by decide)
    (by rw [h]; exact hok) (by rw [h]; exact hps)
    (fun _ _ hm _ => absurd hm (by decide))
  rw [h] at h'
  have e0 : (if Reg.pair_release = Reg.counters_clear ∧ x = 1 then clearedSlots else []) = [] :=
    if_neg (fun e => absurd e.1 (by decide))
  rw [e0] at h'
  exact h'

theorem Core.hook_event_ack (c : Core) (e : HookEnv) (rev v : Nat) :
    c.hook e ⟨0xE0008, 1, 1, 0, .u32, Req.HFO, Req.HO, .trig, 0, .any⟩ rev Reg.event_ack v = (c.eventAck e.dp v) := by
  rfl
theorem findObj_event_ack (sd : SideId) :
    findObj (keyIndex sd Reg.event_ack) (Reg.event_ack % 256) = some ⟨.side sd Reg.event_ack, ⟨0xE0008, 1, 1, 0, .u32, Req.HFO, Req.HO, .trig, 0, .any⟩⟩ :=
  findObj_family ⟨0xE0008, 1, 1, 0, .u32, Req.HFO, Req.HO, .trig, 0, .any⟩ 0xe0009 (by decide +kernel) (by decide) (by decide) (by decide) (by decide) sd 0 (by decide)
theorem Plant.took_event_ack (p : Plant) (q : Requester) (sd : SideId) (v x : Nat) (hm : p.mayWriteSide q sd Reg.event_ack = true)
    (ha : (⟨0xE0008, 1, 1, 0, .u32, Req.HFO, Req.HO, .trig, 0, .any⟩ : ObjRow).accept v = some x) (hok : ((p.side sd).r.eventAck (p.devPending sd) x).2 = .ok)
    (hps : ((p.side sd).r.eventAck (p.devPending sd) x).1.rd Reg.power_state = (p.side sd).r.rd Reg.power_state) :
    p.tookSide (p.sideWrite q sd Reg.event_ack v) sd ((p.side sd).r.eventAck (p.devPending sd) x).1 [Reg.host_config_writes] := by
  have h := Core.hook_event_ack (p.side sd).r (p.hookEnv sd) (p.dev.rd Reg.silicon_revision) x
  have h' := p.sideWrite_took q sd Reg.event_ack v _ x hm (findObj_event_ack sd) (by decide) ha (by decide) (by decide)
    (by rw [h]; exact hok) (by rw [h]; exact hps)
    (fun _ _ hm _ => absurd hm (by decide))
  rw [h] at h'
  have e0 : (if Reg.event_ack = Reg.counters_clear ∧ x = 1 then clearedSlots else []) = [] :=
    if_neg (fun e => absurd e.1 (by decide))
  rw [e0] at h'
  exact h'

theorem Core.hook_ffr_clear (c : Core) (e : HookEnv) (rev v : Nat) :
    c.hook e ⟨0xE0106, 1, 1, 0, .enum8, Req.HFO, Req.HBO, .trig, 0, .any⟩ rev Reg.ffr_clear v = (c.ffrClear v) := by
  rfl
theorem findObj_ffr_clear (sd : SideId) :
    findObj (keyIndex sd Reg.ffr_clear) (Reg.ffr_clear % 256) = some ⟨.side sd Reg.ffr_clear, ⟨0xE0106, 1, 1, 0, .enum8, Req.HFO, Req.HBO, .trig, 0, .any⟩⟩ :=
  findObj_family ⟨0xE0106, 1, 1, 0, .enum8, Req.HFO, Req.HBO, .trig, 0, .any⟩ 0xe0107 (by decide +kernel) (by decide) (by decide) (by decide) (by decide) sd 0 (by decide)
theorem Plant.took_ffr_clear (p : Plant) (q : Requester) (sd : SideId) (v x : Nat) (hm : p.mayWriteSide q sd Reg.ffr_clear = true)
    (ha : (⟨0xE0106, 1, 1, 0, .enum8, Req.HFO, Req.HBO, .trig, 0, .any⟩ : ObjRow).accept v = some x) (hok : ((p.side sd).r.ffrClear x).2 = .ok)
    (hps : ((p.side sd).r.ffrClear x).1.rd Reg.power_state = (p.side sd).r.rd Reg.power_state) :
    p.tookSide (p.sideWrite q sd Reg.ffr_clear v) sd ((p.side sd).r.ffrClear x).1 [Reg.host_config_writes] := by
  have h := Core.hook_ffr_clear (p.side sd).r (p.hookEnv sd) (p.dev.rd Reg.silicon_revision) x
  have h' := p.sideWrite_took q sd Reg.ffr_clear v _ x hm (findObj_ffr_clear sd) (by decide) ha (by decide) (by decide)
    (by rw [h]; exact hok) (by rw [h]; exact hps)
    (fun _ _ hm _ => absurd hm (by decide))
  rw [h] at h'
  have e0 : (if Reg.ffr_clear = Reg.counters_clear ∧ x = 1 then clearedSlots else []) = [] :=
    if_neg (fun e => absurd e.1 (by decide))
  rw [e0] at h'
  exact h'

theorem Core.hook_port_test (c : Core) (e : HookEnv) (rev v : Nat) (p : Fin 64) :
    c.hook e ⟨0x358001, 64, 1, 0, .bool, Req.HFO, Req.H, .set, 0, .any⟩ rev (Reg.port_test p.val) v = (c.portTest p.val v) := by
  have h1 : Reg.port_test p.val / 256 = 0x3580 + p.val := by unfold Reg.port_test; omega
  have h2 : Reg.port_test p.val % 256 = 1 := by unfold Reg.port_test; omega
  have hlt := p.isLt
  unfold Core.hook; simp only [h1, h2]
  repeat (first | rw [if_pos (by first | omega | decide)] | rw [if_neg (by first | omega | decide)] | fail)
  unfold Core.hookDevice
  simp only [Nat.add_sub_cancel_left]
  repeat (first | rw [if_pos (by first | omega | decide)] | rw [if_neg (by first | omega | decide)] | fail)
  try first | rfl | simp
theorem findObj_port_test (sd : SideId) (p : Fin 64) :
    findObj (keyIndex sd (Reg.port_test p.val)) ((Reg.port_test p.val) % 256) = some ⟨.side sd (Reg.port_test p.val), ⟨0x358001, 64, 1, 0, .bool, Req.HFO, Req.H, .set, 0, .any⟩⟩ :=
  findObj_family ⟨0x358001, 64, 1, 0, .bool, Req.HFO, Req.H, .set, 0, .any⟩ 0x35bf02 (by decide +kernel) (by decide) (by decide) (by decide) (by decide) sd p.val p.isLt
theorem Plant.took_port_test (p : Plant) (q : Requester) (sd : SideId) (n : Fin 64) (v x : Nat) (hm : p.mayWriteSide q sd (Reg.port_test n.val) = true)
    (ha : (⟨0x358001, 64, 1, 0, .bool, Req.HFO, Req.H, .set, 0, .any⟩ : ObjRow).accept v = some x) (hok : ((p.side sd).r.portTest n.val x).2 = .ok)
    (hps : ((p.side sd).r.portTest n.val x).1.rd Reg.power_state = (p.side sd).r.rd Reg.power_state) :
    p.tookSide (p.sideWrite q sd (Reg.port_test n.val) v) sd ((p.side sd).r.portTest n.val x).1 [Reg.host_config_writes] := by
  have h := Core.hook_port_test (p.side sd).r (p.hookEnv sd) (p.dev.rd Reg.silicon_revision) x n
  have h' := p.sideWrite_took q sd (Reg.port_test n.val) v _ x hm (findObj_port_test sd n) (by decide) ha (by unfold Reg.port_test Reg.power_request; omega) (by unfold Reg.port_test Reg.side_reset; omega)
    (by rw [h]; exact hok) (by rw [h]; exact hps)
    (fun _ _ hm _ => absurd hm (by have := n.isLt; unfold mirrored Reg.port_test; simp only [Bool.or_eq_true, Bool.and_eq_true, decide_eq_true_eq, wShape, wProfile, wFilter, wMeter, wSgate, wSgclAdmin]; omega))
  rw [h] at h'
  have e0 : (if Reg.port_test n.val = Reg.counters_clear ∧ x = 1 then clearedSlots else []) = [] :=
    if_neg (fun e => absurd e.1 (by unfold Reg.port_test Reg.counters_clear; omega))
  rw [e0] at h'
  exact h'

theorem Core.hook_eye_cmd (c : Core) (e : HookEnv) (rev v : Nat) (p : Fin 64) :
    c.hook e ⟨0x35800B, 64, 1, 0, .enum8, Req.HFO, Req.H, .trig, 0, .any⟩ rev (Reg.eye_cmd p.val) v = (c.eyeCmd p.val v) := by
  have h1 : Reg.eye_cmd p.val / 256 = 0x3580 + p.val := by unfold Reg.eye_cmd; omega
  have h2 : Reg.eye_cmd p.val % 256 = 11 := by unfold Reg.eye_cmd; omega
  have hlt := p.isLt
  unfold Core.hook; simp only [h1, h2]
  repeat (first | rw [if_pos (by first | omega | decide)] | rw [if_neg (by first | omega | decide)] | fail)
  unfold Core.hookDevice
  simp only [Nat.add_sub_cancel_left]
  repeat (first | rw [if_pos (by first | omega | decide)] | rw [if_neg (by first | omega | decide)] | fail)
  try first | rfl | simp
theorem findObj_eye_cmd (sd : SideId) (p : Fin 64) :
    findObj (keyIndex sd (Reg.eye_cmd p.val)) ((Reg.eye_cmd p.val) % 256) = some ⟨.side sd (Reg.eye_cmd p.val), ⟨0x35800B, 64, 1, 0, .enum8, Req.HFO, Req.H, .trig, 0, .any⟩⟩ :=
  findObj_family ⟨0x35800B, 64, 1, 0, .enum8, Req.HFO, Req.H, .trig, 0, .any⟩ 0x35bf0c (by decide +kernel) (by decide) (by decide) (by decide) (by decide) sd p.val p.isLt
theorem Plant.took_eye_cmd (p : Plant) (q : Requester) (sd : SideId) (n : Fin 64) (v x : Nat) (hm : p.mayWriteSide q sd (Reg.eye_cmd n.val) = true)
    (ha : (⟨0x35800B, 64, 1, 0, .enum8, Req.HFO, Req.H, .trig, 0, .any⟩ : ObjRow).accept v = some x) (hok : ((p.side sd).r.eyeCmd n.val x).2 = .ok)
    (hps : ((p.side sd).r.eyeCmd n.val x).1.rd Reg.power_state = (p.side sd).r.rd Reg.power_state) :
    p.tookSide (p.sideWrite q sd (Reg.eye_cmd n.val) v) sd ((p.side sd).r.eyeCmd n.val x).1 [Reg.host_config_writes] := by
  have h := Core.hook_eye_cmd (p.side sd).r (p.hookEnv sd) (p.dev.rd Reg.silicon_revision) x n
  have h' := p.sideWrite_took q sd (Reg.eye_cmd n.val) v _ x hm (findObj_eye_cmd sd n) (by decide) ha (by unfold Reg.eye_cmd Reg.power_request; omega) (by unfold Reg.eye_cmd Reg.side_reset; omega)
    (by rw [h]; exact hok) (by rw [h]; exact hps)
    (fun _ _ hm _ => absurd hm (by have := n.isLt; unfold mirrored Reg.eye_cmd; simp only [Bool.or_eq_true, Bool.and_eq_true, decide_eq_true_eq, wShape, wProfile, wFilter, wMeter, wSgate, wSgclAdmin]; omega))
  rw [h] at h'
  have e0 : (if Reg.eye_cmd n.val = Reg.counters_clear ∧ x = 1 then clearedSlots else []) = [] :=
    if_neg (fun e => absurd e.1 (by unfold Reg.eye_cmd Reg.counters_clear; omega))
  rw [e0] at h'
  exact h'

theorem Core.hook_gen_cmd (c : Core) (e : HookEnv) (rev v : Nat) (p : Fin 64) :
    c.hook e ⟨0x358016, 64, 1, 0, .enum8, Req.HFO, Req.H, .trig, 0, .any⟩ rev (Reg.gen_cmd p.val) v = (if c.member p.val then (c, .groupMember) else c.genCmd p.val v) := by
  have h1 : Reg.gen_cmd p.val / 256 = 0x3580 + p.val := by unfold Reg.gen_cmd; omega
  have h2 : Reg.gen_cmd p.val % 256 = 22 := by unfold Reg.gen_cmd; omega
  have hlt := p.isLt
  unfold Core.hook; simp only [h1, h2]
  repeat (first | rw [if_pos (by first | omega | decide)] | rw [if_neg (by first | omega | decide)] | fail)
  unfold Core.hookDevice
  simp only [Nat.add_sub_cancel_left]
  repeat (first | rw [if_pos (by first | omega | decide)] | rw [if_neg (by first | omega | decide)] | fail)
  try first | rfl | simp
theorem findObj_gen_cmd (sd : SideId) (p : Fin 64) :
    findObj (keyIndex sd (Reg.gen_cmd p.val)) ((Reg.gen_cmd p.val) % 256) = some ⟨.side sd (Reg.gen_cmd p.val), ⟨0x358016, 64, 1, 0, .enum8, Req.HFO, Req.H, .trig, 0, .any⟩⟩ :=
  findObj_family ⟨0x358016, 64, 1, 0, .enum8, Req.HFO, Req.H, .trig, 0, .any⟩ 0x35bf17 (by decide +kernel) (by decide) (by decide) (by decide) (by decide) sd p.val p.isLt
theorem Plant.took_gen_cmd (p : Plant) (q : Requester) (sd : SideId) (n : Fin 64) (v x : Nat) (hm : p.mayWriteSide q sd (Reg.gen_cmd n.val) = true)
    (ha : (⟨0x358016, 64, 1, 0, .enum8, Req.HFO, Req.H, .trig, 0, .any⟩ : ObjRow).accept v = some x) (hok : (if (p.side sd).r.member n.val then ((p.side sd).r, .groupMember) else (p.side sd).r.genCmd n.val x).2 = .ok)
    (hps : (if (p.side sd).r.member n.val then ((p.side sd).r, .groupMember) else (p.side sd).r.genCmd n.val x).1.rd Reg.power_state = (p.side sd).r.rd Reg.power_state) :
    p.tookSide (p.sideWrite q sd (Reg.gen_cmd n.val) v) sd (if (p.side sd).r.member n.val then ((p.side sd).r, .groupMember) else (p.side sd).r.genCmd n.val x).1 [Reg.host_config_writes] := by
  have h := Core.hook_gen_cmd (p.side sd).r (p.hookEnv sd) (p.dev.rd Reg.silicon_revision) x n
  have h' := p.sideWrite_took q sd (Reg.gen_cmd n.val) v _ x hm (findObj_gen_cmd sd n) (by decide) ha (by unfold Reg.gen_cmd Reg.power_request; omega) (by unfold Reg.gen_cmd Reg.side_reset; omega)
    (by rw [h]; exact hok) (by rw [h]; exact hps)
    (fun _ _ hm _ => absurd hm (by have := n.isLt; unfold mirrored Reg.gen_cmd; simp only [Bool.or_eq_true, Bool.and_eq_true, decide_eq_true_eq, wShape, wProfile, wFilter, wMeter, wSgate, wSgclAdmin]; omega))
  rw [h] at h'
  have e0 : (if Reg.gen_cmd n.val = Reg.counters_clear ∧ x = 1 then clearedSlots else []) = [] :=
    if_neg (fun e => absurd e.1 (by unfold Reg.gen_cmd Reg.counters_clear; omega))
  rw [e0] at h'
  exact h'

theorem Core.hook_field_test_request (c : Core) (e : HookEnv) (rev v : Nat) :
    c.hook e ⟨0x351004, 1, 1, 0, .enum8, Req.HFO, Req.HB, .trig, 0, .any⟩ rev Reg.field_test_request v = (c.fieldRequest v) := by
  rfl
theorem findObj_field_test_request (sd : SideId) :
    findObj (keyIndex sd Reg.field_test_request) (Reg.field_test_request % 256) = some ⟨.side sd Reg.field_test_request, ⟨0x351004, 1, 1, 0, .enum8, Req.HFO, Req.HB, .trig, 0, .any⟩⟩ :=
  findObj_family ⟨0x351004, 1, 1, 0, .enum8, Req.HFO, Req.HB, .trig, 0, .any⟩ 0x351005 (by decide +kernel) (by decide) (by decide) (by decide) (by decide) sd 0 (by decide)
theorem Plant.took_field_test_request (p : Plant) (q : Requester) (sd : SideId) (v x : Nat) (hm : p.mayWriteSide q sd Reg.field_test_request = true)
    (ha : (⟨0x351004, 1, 1, 0, .enum8, Req.HFO, Req.HB, .trig, 0, .any⟩ : ObjRow).accept v = some x) (hok : ((p.side sd).r.fieldRequest x).2 = .ok)
    (hps : ((p.side sd).r.fieldRequest x).1.rd Reg.power_state = (p.side sd).r.rd Reg.power_state) :
    p.tookSide (p.sideWrite q sd Reg.field_test_request v) sd ((p.side sd).r.fieldRequest x).1 [Reg.host_config_writes] := by
  have h := Core.hook_field_test_request (p.side sd).r (p.hookEnv sd) (p.dev.rd Reg.silicon_revision) x
  have h' := p.sideWrite_took q sd Reg.field_test_request v _ x hm (findObj_field_test_request sd) (by decide) ha (by decide) (by decide)
    (by rw [h]; exact hok) (by rw [h]; exact hps)
    (fun _ _ hm _ => absurd hm (by decide))
  rw [h] at h'
  have e0 : (if Reg.field_test_request = Reg.counters_clear ∧ x = 1 then clearedSlots else []) = [] :=
    if_neg (fun e => absurd e.1 (by decide))
  rw [e0] at h'
  exact h'

theorem Core.hook_core_pll_mhz (c : Core) (e : HookEnv) (rev v : Nat) :
    c.hook e ⟨0x322002, 1, 1, 0, .u16, Req.HFO, Req.HBO, .set, 3000, .any⟩ rev Reg.core_pll_mhz v = (c.coreFreq false v) := by
  rfl
theorem findObj_core_pll_mhz (sd : SideId) :
    findObj (keyIndex sd Reg.core_pll_mhz) (Reg.core_pll_mhz % 256) = some ⟨.side sd Reg.core_pll_mhz, ⟨0x322002, 1, 1, 0, .u16, Req.HFO, Req.HBO, .set, 3000, .any⟩⟩ :=
  findObj_family ⟨0x322002, 1, 1, 0, .u16, Req.HFO, Req.HBO, .set, 3000, .any⟩ 0x322003 (by decide +kernel) (by decide) (by decide) (by decide) (by decide) sd 0 (by decide)
theorem Plant.took_core_pll_mhz (p : Plant) (q : Requester) (sd : SideId) (v x : Nat) (hm : p.mayWriteSide q sd Reg.core_pll_mhz = true)
    (ha : (⟨0x322002, 1, 1, 0, .u16, Req.HFO, Req.HBO, .set, 3000, .any⟩ : ObjRow).accept v = some x) (hok : ((p.side sd).r.coreFreq false x).2 = .ok)
    (hps : ((p.side sd).r.coreFreq false x).1.rd Reg.power_state = (p.side sd).r.rd Reg.power_state) :
    p.tookSide (p.sideWrite q sd Reg.core_pll_mhz v) sd ((p.side sd).r.coreFreq false x).1 [Reg.host_config_writes] := by
  have h := Core.hook_core_pll_mhz (p.side sd).r (p.hookEnv sd) (p.dev.rd Reg.silicon_revision) x
  have h' := p.sideWrite_took q sd Reg.core_pll_mhz v _ x hm (findObj_core_pll_mhz sd) (by decide) ha (by decide) (by decide)
    (by rw [h]; exact hok) (by rw [h]; exact hps)
    (fun _ _ hm _ => absurd hm (by decide))
  rw [h] at h'
  have e0 : (if Reg.core_pll_mhz = Reg.counters_clear ∧ x = 1 then clearedSlots else []) = [] :=
    if_neg (fun e => absurd e.1 (by decide))
  rw [e0] at h'
  exact h'

theorem Core.hook_core_divider (c : Core) (e : HookEnv) (rev v : Nat) :
    c.hook e ⟨0x322003, 1, 1, 0, .u16, Req.HFO, Req.HBO, .set, 0, .any⟩ rev Reg.core_divider v = (c.coreFreq true v) := by
  rfl
theorem findObj_core_divider (sd : SideId) :
    findObj (keyIndex sd Reg.core_divider) (Reg.core_divider % 256) = some ⟨.side sd Reg.core_divider, ⟨0x322003, 1, 1, 0, .u16, Req.HFO, Req.HBO, .set, 0, .any⟩⟩ :=
  findObj_family ⟨0x322003, 1, 1, 0, .u16, Req.HFO, Req.HBO, .set, 0, .any⟩ 0x322004 (by decide +kernel) (by decide) (by decide) (by decide) (by decide) sd 0 (by decide)
theorem Plant.took_core_divider (p : Plant) (q : Requester) (sd : SideId) (v x : Nat) (hm : p.mayWriteSide q sd Reg.core_divider = true)
    (ha : (⟨0x322003, 1, 1, 0, .u16, Req.HFO, Req.HBO, .set, 0, .any⟩ : ObjRow).accept v = some x) (hok : ((p.side sd).r.coreFreq true x).2 = .ok)
    (hps : ((p.side sd).r.coreFreq true x).1.rd Reg.power_state = (p.side sd).r.rd Reg.power_state) :
    p.tookSide (p.sideWrite q sd Reg.core_divider v) sd ((p.side sd).r.coreFreq true x).1 [Reg.host_config_writes] := by
  have h := Core.hook_core_divider (p.side sd).r (p.hookEnv sd) (p.dev.rd Reg.silicon_revision) x
  have h' := p.sideWrite_took q sd Reg.core_divider v _ x hm (findObj_core_divider sd) (by decide) ha (by decide) (by decide)
    (by rw [h]; exact hok) (by rw [h]; exact hps)
    (fun _ _ hm _ => absurd hm (by decide))
  rw [h] at h'
  have e0 : (if Reg.core_divider = Reg.counters_clear ∧ x = 1 then clearedSlots else []) = [] :=
    if_neg (fun e => absurd e.1 (by decide))
  rw [e0] at h'
  exact h'

theorem Core.hook_rx_head (c : Core) (e : HookEnv) (rev v : Nat) (p : Fin 64) :
    c.hook e ⟨0x208015, 64, 1, 0, .u32, Req.HGO, Req.HG, .set, 0, .any⟩ rev (Reg.rx_head p.val) v = ((c.consumerWrite p.val .rx v, Reason.ok)) := by
  have h1 : Reg.rx_head p.val / 256 = 0x2080 + p.val := by unfold Reg.rx_head; omega
  have h2 : Reg.rx_head p.val % 256 = 21 := by unfold Reg.rx_head; omega
  have hlt := p.isLt
  unfold Core.hook; simp only [h1, h2]
  repeat (first | rw [if_pos (by first | omega | decide)] | rw [if_neg (by first | omega | decide)] | fail)
  unfold Core.hookRing
  simp only [Nat.add_sub_cancel_left]
  repeat (first | rw [if_pos (by first | omega | decide)] | rw [if_neg (by first | omega | decide)] | fail)
  try first | rfl | simp
theorem findObj_rx_head (sd : SideId) (p : Fin 64) :
    findObj (keyIndex sd (Reg.rx_head p.val)) ((Reg.rx_head p.val) % 256) = some ⟨.side sd (Reg.rx_head p.val), ⟨0x208015, 64, 1, 0, .u32, Req.HGO, Req.HG, .set, 0, .any⟩⟩ :=
  findObj_family ⟨0x208015, 64, 1, 0, .u32, Req.HGO, Req.HG, .set, 0, .any⟩ 0x20bf16 (by decide +kernel) (by decide) (by decide) (by decide) (by decide) sd p.val p.isLt
theorem Plant.took_rx_head (p : Plant) (q : Requester) (sd : SideId) (n : Fin 64) (v x : Nat) (hm : p.mayWriteSide q sd (Reg.rx_head n.val) = true)
    (ha : (⟨0x208015, 64, 1, 0, .u32, Req.HGO, Req.HG, .set, 0, .any⟩ : ObjRow).accept v = some x)
    (hps : (((p.side sd).r.consumerWrite n.val .rx x, Reason.ok)).1.rd Reg.power_state = (p.side sd).r.rd Reg.power_state) :
    p.tookSide (p.sideWrite q sd (Reg.rx_head n.val) v) sd (((p.side sd).r.consumerWrite n.val .rx x, Reason.ok)).1 [Reg.host_config_writes] := by
  have h := Core.hook_rx_head (p.side sd).r (p.hookEnv sd) (p.dev.rd Reg.silicon_revision) x n
  have h' := p.sideWrite_took q sd (Reg.rx_head n.val) v _ x hm (findObj_rx_head sd n) (by decide) ha (by unfold Reg.rx_head Reg.power_request; omega) (by unfold Reg.rx_head Reg.side_reset; omega)
    (by rw [h]) (by rw [h]; exact hps)
    (fun _ _ hm _ => absurd hm (by have := n.isLt; unfold mirrored Reg.rx_head; simp only [Bool.or_eq_true, Bool.and_eq_true, decide_eq_true_eq, wShape, wProfile, wFilter, wMeter, wSgate, wSgclAdmin]; omega))
  rw [h] at h'
  have e0 : (if Reg.rx_head n.val = Reg.counters_clear ∧ x = 1 then clearedSlots else []) = [] :=
    if_neg (fun e => absurd e.1 (by unfold Reg.rx_head Reg.counters_clear; omega))
  rw [e0] at h'
  exact h'

theorem Core.hook_txc_head (c : Core) (e : HookEnv) (rev v : Nat) (p : Fin 64) :
    c.hook e ⟨0x208017, 64, 1, 0, .u32, Req.HGO, Req.HG, .set, 0, .any⟩ rev (Reg.txc_head p.val) v = ((c.consumerWrite p.val .txc v, Reason.ok)) := by
  have h1 : Reg.txc_head p.val / 256 = 0x2080 + p.val := by unfold Reg.txc_head; omega
  have h2 : Reg.txc_head p.val % 256 = 23 := by unfold Reg.txc_head; omega
  have hlt := p.isLt
  unfold Core.hook; simp only [h1, h2]
  repeat (first | rw [if_pos (by first | omega | decide)] | rw [if_neg (by first | omega | decide)] | fail)
  unfold Core.hookRing
  simp only [Nat.add_sub_cancel_left]
  repeat (first | rw [if_pos (by first | omega | decide)] | rw [if_neg (by first | omega | decide)] | fail)
  try first | rfl | simp
theorem findObj_txc_head (sd : SideId) (p : Fin 64) :
    findObj (keyIndex sd (Reg.txc_head p.val)) ((Reg.txc_head p.val) % 256) = some ⟨.side sd (Reg.txc_head p.val), ⟨0x208017, 64, 1, 0, .u32, Req.HGO, Req.HG, .set, 0, .any⟩⟩ :=
  findObj_family ⟨0x208017, 64, 1, 0, .u32, Req.HGO, Req.HG, .set, 0, .any⟩ 0x20bf18 (by decide +kernel) (by decide) (by decide) (by decide) (by decide) sd p.val p.isLt
theorem Plant.took_txc_head (p : Plant) (q : Requester) (sd : SideId) (n : Fin 64) (v x : Nat) (hm : p.mayWriteSide q sd (Reg.txc_head n.val) = true)
    (ha : (⟨0x208017, 64, 1, 0, .u32, Req.HGO, Req.HG, .set, 0, .any⟩ : ObjRow).accept v = some x)
    (hps : (((p.side sd).r.consumerWrite n.val .txc x, Reason.ok)).1.rd Reg.power_state = (p.side sd).r.rd Reg.power_state) :
    p.tookSide (p.sideWrite q sd (Reg.txc_head n.val) v) sd (((p.side sd).r.consumerWrite n.val .txc x, Reason.ok)).1 [Reg.host_config_writes] := by
  have h := Core.hook_txc_head (p.side sd).r (p.hookEnv sd) (p.dev.rd Reg.silicon_revision) x n
  have h' := p.sideWrite_took q sd (Reg.txc_head n.val) v _ x hm (findObj_txc_head sd n) (by decide) ha (by unfold Reg.txc_head Reg.power_request; omega) (by unfold Reg.txc_head Reg.side_reset; omega)
    (by rw [h]) (by rw [h]; exact hps)
    (fun _ _ hm _ => absurd hm (by have := n.isLt; unfold mirrored Reg.txc_head; simp only [Bool.or_eq_true, Bool.and_eq_true, decide_eq_true_eq, wShape, wProfile, wFilter, wMeter, wSgate, wSgclAdmin]; omega))
  rw [h] at h'
  have e0 : (if Reg.txc_head n.val = Reg.counters_clear ∧ x = 1 then clearedSlots else []) = [] :=
    if_neg (fun e => absurd e.1 (by unfold Reg.txc_head Reg.counters_clear; omega))
  rw [e0] at h'
  exact h'

theorem Core.hook_stale_head (c : Core) (e : HookEnv) (rev v : Nat) (p : Fin 64) :
    c.hook e ⟨0x208019, 64, 1, 0, .u32, Req.HGO, Req.HG, .set, 0, .any⟩ rev (Reg.stale_head p.val) v = ((c.consumerWrite p.val .stale v, Reason.ok)) := by
  have h1 : Reg.stale_head p.val / 256 = 0x2080 + p.val := by unfold Reg.stale_head; omega
  have h2 : Reg.stale_head p.val % 256 = 25 := by unfold Reg.stale_head; omega
  have hlt := p.isLt
  unfold Core.hook; simp only [h1, h2]
  repeat (first | rw [if_pos (by first | omega | decide)] | rw [if_neg (by first | omega | decide)] | fail)
  unfold Core.hookRing
  simp only [Nat.add_sub_cancel_left]
  repeat (first | rw [if_pos (by first | omega | decide)] | rw [if_neg (by first | omega | decide)] | fail)
  try first | rfl | simp
theorem findObj_stale_head (sd : SideId) (p : Fin 64) :
    findObj (keyIndex sd (Reg.stale_head p.val)) ((Reg.stale_head p.val) % 256) = some ⟨.side sd (Reg.stale_head p.val), ⟨0x208019, 64, 1, 0, .u32, Req.HGO, Req.HG, .set, 0, .any⟩⟩ :=
  findObj_family ⟨0x208019, 64, 1, 0, .u32, Req.HGO, Req.HG, .set, 0, .any⟩ 0x20bf1a (by decide +kernel) (by decide) (by decide) (by decide) (by decide) sd p.val p.isLt
theorem Plant.took_stale_head (p : Plant) (q : Requester) (sd : SideId) (n : Fin 64) (v x : Nat) (hm : p.mayWriteSide q sd (Reg.stale_head n.val) = true)
    (ha : (⟨0x208019, 64, 1, 0, .u32, Req.HGO, Req.HG, .set, 0, .any⟩ : ObjRow).accept v = some x)
    (hps : (((p.side sd).r.consumerWrite n.val .stale x, Reason.ok)).1.rd Reg.power_state = (p.side sd).r.rd Reg.power_state) :
    p.tookSide (p.sideWrite q sd (Reg.stale_head n.val) v) sd (((p.side sd).r.consumerWrite n.val .stale x, Reason.ok)).1 [Reg.host_config_writes] := by
  have h := Core.hook_stale_head (p.side sd).r (p.hookEnv sd) (p.dev.rd Reg.silicon_revision) x n
  have h' := p.sideWrite_took q sd (Reg.stale_head n.val) v _ x hm (findObj_stale_head sd n) (by decide) ha (by unfold Reg.stale_head Reg.power_request; omega) (by unfold Reg.stale_head Reg.side_reset; omega)
    (by rw [h]) (by rw [h]; exact hps)
    (fun _ _ hm _ => absurd hm (by have := n.isLt; unfold mirrored Reg.stale_head; simp only [Bool.or_eq_true, Bool.and_eq_true, decide_eq_true_eq, wShape, wProfile, wFilter, wMeter, wSgate, wSgclAdmin]; omega))
  rw [h] at h'
  have e0 : (if Reg.stale_head n.val = Reg.counters_clear ∧ x = 1 then clearedSlots else []) = [] :=
    if_neg (fun e => absurd e.1 (by unfold Reg.stale_head Reg.counters_clear; omega))
  rw [e0] at h'
  exact h'

end Sys2Proof.Machine
end

