-- ==== Sys2Proof/WellFormed.lean ====
section
/-! DEFINITION. WellFormed.lean: which operands of a command stand for something the environment can bring. The types of most operands
say it already; the checks here are the rest. -/

namespace Sys2Proof

open Sys2Proof.Machine

/-- A frame on a field port: an 11-bit identifier, an 8-bit SDT and VCID. -/
def Machine.FieldFrame.wellFormed (f : FieldFrame) : Bool :=
  decide (f.ident < 2 ^ 11) && decide (f.sdt < 2 ^ 8) && decide (f.vcid < 2 ^ 8)

/-- A PDU within its header's fields and a CAN XL data field (R64, R74). -/
def Machine.Pdu.wellFormed (h : Pdu) : Bool :=
  decide (h.tag < 2 ^ 8) && decide (h.index < 2 ^ 16) && decide (h.sub < 2 ^ 8) && decide (h.reason < 2 ^ 8) &&
  decide (h.count < 2 ^ 16) && decide (h.data.length ≤ 2040)

/-- A read inside the address space of its kind (R53, R62, R452). -/
def Machine.ReadAddr.wellFormed : ReadAddr → Bool
  | .slot index sub => decide (index < 2 ^ 16) && decide (sub < 2 ^ 8)
  | .aperture a k m => decide (a < 16) && decide (k < 2 ^ 21) && decide (m < 2 ^ 14)
  | .page offset => decide (offset < 2 ^ 16)

/-- A target of a copy (R286). -/
def Machine.Target.wellFormed : Target → Bool
  | .port p => decide (p < 64)
  | .vport v => decide (v < 64)
  | .learn => true

/-- A scratchpad request inside a 40-bit address space, of at most 64 octets (R408). -/
def Machine.SpmReq.wellFormed (r : SpmReq) : Bool :=
  decide (r.addr < 2 ^ 40) &&
  (match r.op with
   | .read n => decide (n ≤ 64)
   | .lr n => decide (n ≤ 64)
   | .write o => decide (o.length ≤ 64)
   | .sc o => decide (o.length ≤ 64)
   | .amo k o => decide (k < 16) && decide (o.length ≤ 64)
   | .cas e o => decide (e.length = o.length) && decide (o.length ≤ 64))

/-- What the sampler records is at most 64 bits wide (R500, R503). -/
def Machine.HpmSample.wellFormed (x : HpmSample) : Bool := decide (x.pc < 2 ^ 64) && decide (x.instr < 2 ^ 32) && decide (x.priv < 4) && decide (x.priv ≠ 2) &&
  decide (0 < x.event % 2 ^ 16) && decide (x.event % 2 ^ 16 ≤ 0x19) && decide (x.event < 2 ^ 63)

/-- A scan with a known MBIST command and a repair stage of at most 56 octets (R601, R605). -/
def Machine.TapScan.wellFormed : TapScan → Bool
  | .cells l => decide (l.length < 2 ^ 16)
  | .bus _ addr len _ => decide (addr < 2 ^ 48) && decide (len ≤ 64)
  | .mbist cmd => decide (cmd ≤ 2)
  | .repair (some o) => decide (o.length ≤ 56)
  | .repair none => true
  | .shift => true

/-- A result of a macro of R603: two of its columns. -/
def Machine.MbistFail.wellFormed (x : MbistFail) : Bool := decide (x.num < 2048) && decide (x.first < 2 ^ 12) && decide (x.second < 2 ^ 12)

/-- The operands of a command are in range. -/
def Instr.wellFormed : Instr → Bool
  | .objectWrite _ _ _ _ v => decide (v < 2 ^ 2048)
  | .apertureEntryWrite _ _ _ _ _ _ => true
  | .tyistRead _ f h => f.wellFormed && h.wellFormed
  | .tyistWrite _ f h => f.wellFormed && h.wellFormed
  | .tyistSegReadBegin _ f h => f.wellFormed && h.wellFormed
  | .tyistSegWriteBegin _ f h => f.wellFormed && h.wellFormed
  | .tyistSegment _ f h => f.wellFormed && h.wellFormed
  | .tyistSegAck _ f h => f.wellFormed && h.wellFormed
  | .tyistAbort _ f h => f.wellFormed && h.wellFormed
  | .tyistPduMalformed _ f o => f.wellFormed && decide (o.length ≤ 2048)
  | .segmentTimeout n => decide (n < 16)
  | .classicFrameIgnored _ _ => true
  | .fieldBusOff _ => true
  | .inbandRequest _ => true
  | .bundleStageWrite _ off o => decide (0 < o.length) && decide (off.toNat + o.length ≤ 262144)
  | .bundleOwnerTimeout => true
  | .bundleApply _ _ => true
  | .bundleApplyComplete => true
  | .portModeWrite _ _ _ _ => true
  | .adminUpWrite _ _ _ _ => true
  | .laneLock _ _ => true
  | .anComplete _ _ _ _ => true
  | .linkUpHoldoffExpiry _ _ => true
  | .linkFault _ _ _ => true
  | .linkConditionChange _ _ _ _ _ _ => true
  | .rxFrameStart _ _ o _ => decide (0 < o.length) && decide (o.length ≤ 65535)
  | .rxFrameEnd _ _ _ _ _ _ => true
  | .pauseFrameReceive _ _ _ => true
  | .pfcFrameReceive _ _ _ quanta => decide (quanta.length = 8)
  | .pauseExpiry _ _ _ => true
  | .pauseWatchdogTrip _ _ _ => true
  | .pauseHoldoffEnd _ _ _ => true
  | .pauseRefresh _ _ _ => true
  | .txActiveSaWrite _ _ _ _ => true
  | .denLinkTimeout _ _ => true
  | .eventRateInterval _ => true
  | .parserAccept _ _ => true
  | .shapeCopy _ _ _ => true
  | .shapeCopyDone _ => true
  | .profileCopy _ _ _ => true
  | .profileCopyDone _ => true
  | .vidMapCopy _ _ _ => true
  | .vidMapCopyDone _ => true
  | .badgerMove _ _ => true
  | .badgerMoveWrite _ _ => true
  | .badgerCommandStart _ => true
  | .badgerCommandDone _ => true
  | .probeSearch _ _ _ => true
  | .probeStep _ _ _ => true
  | .probeClose _ _ _ => true
  | .probeComplete _ _ => true
  | .searchScrub _ f => decide (f.slot < 65536)
  | .learnApply _ => true
  | .ageingVisit _ slot _ => decide (slot < 262160)
  | .stationScrubVisit _ slot _ => decide (slot < 262160)
  | .learnMsgSend _ => true
  | .learnMsgReceive _ => true
  | .learnRecordApply _ => true
  | .stationInsert _ _ => true
  | .stationRemove _ _ => true
  | .stationRelocate _ _ => true
  | .stationFlush _ _ => true
  | .stationCmdExecute _ => true
  | .rehashPop _ _ => true
  | .announce _ _ => true
  | .epochFlip _ _ _ => true
  | .flipCancel _ _ => true
  | .flipTimeReached _ => true
  | .flipComplete _ => true
  | .flipOverrun _ => true
  | .epochSync _ _ => true
  | .epochSyncDone _ => true
  | .frerResetTimeout _ _ => true
  | .actionScrub _ _ _ _ => true
  | .cellSend _ _ _ => true
  | .creditReturn _ _ => true
  | .cellArrive _ _ _ => true
  | .reseqTimeout _ _ t _ => t.wellFormed
  | .mgmtFrameOriginate _ => true
  | .queueSelect _ _ => true
  | .transmitComplete _ _ _ => true
  | .ctUnderrun _ _ => true
  | .ctBackoffExpiry _ _ => true
  | .crossingSend _ => true
  | .crossingReceive _ => true
  | .ledgerAudit _ => true
  | .poolEnable _ _ _ => true
  | .poolDisable _ _ _ => true
  | .bufferAlloc _ _ _ _ => true
  | .bufferFree _ _ _ _ => true
  | .poolPortAlloc _ _ _ => true
  | .poolPortFree _ _ _ => true
  | .lastErrorRead _ _ => true
  | .reclaim _ _ => true
  | .reclaimExit _ _ => true
  | .reclaimDone _ => true
  | .gateChange _ _ => true
  | .configChange _ _ _ => true
  | .configChangeCancel _ _ _ => true
  | .configChangeTime _ _ => true
  | .vportSelect _ _ fill _ => decide (fill.length ≤ 16)
  | .timeSourceWrite _ _ _ => true
  | .domainAdjust _ _ _ _ => true
  | .domainSet _ _ _ _ => true
  | .slewComplete _ _ => true
  | .timeSnapshot _ _ => true
  | .ppsOutEdge _ => true
  | .ppsOutEnd _ => true
  | .ppsInEdge _ => true
  | .ppsMissing _ => true
  | .meterSweep _ => true
  | .streamGateChange _ _ => true
  | .streamGateChangeTime _ _ => true
  | .polClearBlocked _ _ => true
  | .polClearLatch _ _ => true
  | .polClearRed _ _ => true
  | .polGateChange _ _ => true
  | .polGateChangeCancel _ _ => true
  | .polBucketsFull _ _ => true
  | .policingScrub _ _ _ _ => true
  | .coreRunWrite _ _ _ => true
  | .vportBindAccess _ _ _ _ => true
  | .lockstepDivergence _ _ _ => true
  | .ldWriteComplete _ _ _ => true
  | .spmScrub _ _ _ => true
  | .dramTrainFull _ _ => true
  | .dramTrainRestore _ _ => true
  | .dramTrainDone _ _ => true
  | .retrainStep _ => true
  | .retrainUpdate _ _ _ _ _ => true
  | .fspRequest _ _ _ => true
  | .fspCancel _ _ => true
  | .fspChangeDone _ => true
  | .dramRead _ _ _ len _ => decide (0 < len.val)
  | .dramWrite _ _ _ o _ => decide (0 < o.length) && decide (o.length ≤ 64)
  | .dramCommandIssue _ _ _ _ => true
  | .regWindow _ => true
  | .refreshInterval _ _ _ => true
  | .dramTempEstimate _ _ t => decide (-128 ≤ t) && decide (t < 256)
  | .mr4Poll _ _ _ _ => true
  | .dramSrIdle _ => true
  | .hostPortReset _ => true
  | .flr _ _ => true
  | .pcieUnsupportedRequest _ _ => true
  | .pcieMalformedTlp => true
  | .pciePoisonedWrite => true
  | .pcieUnexpectedCpl => true
  | .dmaReadCompletion _ _ _ o => decide (o.length ≤ 65535)
  | .pcieCplTimeout _ _ => true
  | .txTailWrite _ _ _ _ => true
  | .fillTailWrite _ _ _ _ => true
  | .consumerHeadWrite _ _ _ _ _ => true
  | .irqDelayExpiry _ _ _ => true
  | .txDescriptorFetch _ _ desc => decide (desc.length = 16)
  | .txCompletion _ _ => true
  | .txStampTimeout _ _ => true
  | .hostDeliveryComplete _ _ _ => true
  | .vportCreate _ _ _ => true
  | .vportReset _ _ _ => true
  | .vportDestroy _ _ _ => true
  | .vportFreeze _ _ _ => true
  | .vportThaw _ _ _ => true
  | .vportSave _ _ _ => true
  | .vportRestore _ _ _ => true
  | .vportResetComplete _ _ => true
  | .freezeComplete _ _ => true
  | .freezeDeadline _ _ => true
  | .counterSnapshot _ _ => true
  | .snapshotWritten _ => true
  | .countersClear _ _ => true
  | .windowCountersClear _ _ => true
  | .hpmCounterWrap _ _ n smp => decide (n.val ≠ 1) && smp.wellFormed
  | .sampHeadWrite _ _ _ _ => true
  | .faultMessage _ => true
  | .fenceComplete _ _ _ => true
  | .promotionLapse _ _ => true
  | .faultClear _ _ _ => true
  | .unfencePort _ _ _ => true
  | .unfenceBank _ _ _ => true
  | .unfenceSlice _ _ _ => true
  | .unfenceMiddle _ _ _ => true
  | .unfenceRank _ _ _ => true
  | .unfenceCorePair _ _ _ => true
  | .unfenceSpmBank _ _ _ => true
  | .unfenceVport _ _ _ => true
  | .degradeRelease _ _ => true
  | .pairRelease _ _ => true
  | .eventAck _ _ _ => true
  | .ffrClear _ _ => true
  | .deviceFaultMessage => true
  | .deviceFaultClear _ _ => true
  | .deviceEventAck _ _ => true
  | .deviceFfrClear _ => true
  | .heartbeatLoss _ => true
  | .pairReadbackMismatch _ _ => true
  | .stallDetect _ _ => true
  | .owlWatchdogExpiry => true
  | .pllLockTimeout _ _ _ => true
  | .pllLock _ _ => true
  | .pllLockLoss _ _ => true
  | .coreFreqChange _ _ _ _ => true
  | .powerRequestRun _ _ => true
  | .powerRequestDen _ _ => true
  | .powerRequestBurrow _ _ => true
  | .entryDrainDone _ => true
  | .entryDrainTimeout _ => true
  | .denEntered _ => true
  | .burrowEntered _ => true
  | .wakeInEdge _ _ _ => true
  | .wakeTimerExpiry _ => true
  | .fieldWakeFrame _ _ => true
  | .denExit _ => true
  | .heldPortFullRate _ _ => true
  | .heldPortFallback _ _ => true
  | .burrowExit _ => true
  | .burrowExitComplete _ _ => true
  | .avsMonitorRead margins _ => decide (margins.length = 32)
  | .poweredHour shifts => decide (shifts.length = 32)
  | .railOutOfRange _ => true
  | .aonClockLoss _ => true
  | .tjSample _ t => decide (-2048 ≤ t) && decide (t < 4096)
  | .porstAssert => true
  | .porstRelease _ _ flash _ => flash.all (fun f => decide (f.1.toNat + f.2.length ≤ 2 ^ 27))
  | .bootSlotVerify _ => true
  | .firmwareStart => true
  | .sideRelease _ _ _ _ => true
  | .deferredBootComplete _ _ => true
  | .versionCommit _ _ _ => true
  | .recoveryBoot _ => true
  | .recoveryProgram _ => true
  | .persistSnapshot => true
  | .flashBusyTimeout => true
  | .attestNonceWrite _ _ => true
  | .attestRequest _ => true
  | .attestReportReady => true
  | .attestTimeout => true
  | .attestOwnerTimeout => true
  | .sideResetAssert _ => true
  | .sideResetRelease _ _ _ => true
  | .sideResetWrite _ _ => true
  | .portTestWrite _ _ _ _ => true
  | .prbsLock _ _ => true
  | .prbsLockLoss _ _ _ => true
  | .eyeScan _ _ _ => true
  | .eyeScanDone _ _ counts => decide (counts.length = 2048)
  | .genStart _ _ _ => true
  | .genStop _ _ _ => true
  | .genCountReached _ _ => true
  | .checkerFrame _ _ o _ => decide (o.length ≤ 65535)
  | .jtagInstruction _ => true
  | .mbistRun _ => true
  | .mbistRunStaged _ => true
  | .mbistDone fails => fails.all MbistFail.wellFormed
  | .repairProgram _ _ _ _ => true
  | .fieldTestRequest _ _ => true
  | .fieldTestCancel _ _ => true
  | .fieldTestDue _ => true
  | .fieldTestStart _ => true
  | .fieldTestDone _ _ _ => true
  | .objectRead _ addr _ => addr.wellFormed
  | .scratchpadRequest _ l _ => l.all SpmReq.wellFormed
  | .cacheEccError _ _ _ _ => true
  | .pcieConfigWrite _ _ _ _ => true
  | .pcieLinkUp speed width => decide (1 ≤ speed.val) && [1, 2, 4, 8].contains width.val
  | .msixTableWrite _ _ _ _ _ => true
  | .fieldBusOffRecovery _ => true
  | .railInRange _ => true
  | .aonClockReturn _ => true
  | .crossingTrainingDone _ => true
  | .bootFirmwareTimeout => true
  | .jtagDataScan scan => scan.wellFormed

end Sys2Proof
end

