-- ==== Sys2Proof/Tests/Slice0.lean ====
section
/-! SUPPORT. Slice0.lean: the model's own tests: a witness for the hypotheses of each statement, terms that the well-formedness check refuses,
and single commands on small states against values of the spec. -/

open Sys2Proof Sys2Proof.Machine

/-- A device that has booted and released its sides. -/
def tUp : Dev := { Dev.porst0 with porst := false, linkUp := true, bootPhase := 3, regs := SMap.insert Dev.porst0.regs Reg.boot_status 4 }

/-- A released side with nothing written. -/
def tCore : Core := { Core.blank .a with released := true }

/-- The same with object slots set. -/
def tSet (l : List (Nat × Nat)) : Core :=
  { tCore with regs := l.foldl (fun m x => SMap.insert m x.1 (BitVec.ofNat 64 x.2)) [] }

/-- A released side whose vports are listed as absent, with object slots set. -/
def tVports (l : List (Nat × Nat)) : Core :=
  { tCore with regs := l.foldl (fun m x => SMap.insert m x.1 (BitVec.ofNat 64 x.2)) ((List.range 64).map (fun v => (Reg.vport_state v, 0))) }

/-- A device with both sides released, side A as given. -/
def tOn (d : Dev) (c : Core) : State := ⟨[], ⟨d, ⟨c, [], []⟩, ⟨{ Core.blank .b with released := true }, [], []⟩⟩⟩
def tState (c : Core) : State := tOn tUp c

/-- A copy of a frame, complete in the buffer, that waits for its target. -/
def tCopy (t : Target) (q : Nat) (o : Octets) : Copy :=
  { id := 0, frameNo := 0, data := o, target := t, queue := q, group := 0, ingress := .port 0, prio := 0, lossless := false,
    second := false, budget := .shared, reserved := 0, written := cellsOf o.length, cells := [], held := false, ct := false, mgmt := false,
    mirror := false, bad := false, ended := true, sent := cellsOf o.length, headSlot := 0, dead := false, linked := true,
    complete := true, started := false, edits := Edits.nil, pr := ParseRec.zero, errFlags := 0, tsReq := false, stamp := 0, shift := 0, endAs := 0, origin := 0 }

/-- A frame in reception, number `n` at port `p`: 60 octets and the FCS, without a tag. -/
def tFrame (n p : Nat) : RxFrame :=
  { no := n, port := p, octets := List.replicate 64 0, start := 0, dropAs := 0, plain := List.replicate 60 0, accepted := false,
    ended := false, macsec := false, macsecCheck := false, lateLength := 0, cut := false, stamp := 0, octet := octetTime 10000,
    conf := [], lateDrops := [], lateCounts := [], heldLearn := none, pr := none }

/-- A default configuration without a record. -/
def tConf : Octets := toBe 4 0x49444331 ++ List.replicate 12 0

/-- A manifest with that segment alone, at the slot's first octet. -/
def tManifest : Octets :=
  List.replicate 12 0 ++ toBe 2 1 ++ List.replicate 178 0 ++ [2, 0, 0, 0] ++ toBe 4 0 ++ toBe 4 16 ++ List.replicate 20 0 ++ sha3_256 tConf

/-- A device that runs from that slot. -/
def tBoot : Dev := { tUp.flashWrite 0 tConf with manifest := tManifest }

/-- Octets written 16 apart, `n` of them from `a`. -/
def tLog (a : Nat) : Nat → Memory
  | 0 => []
  | n + 1 => (a, 1) :: tLog (a + 16) n

theorem tLog_read : ∀ n a j, j < n → SMap.find? (tLog a n) (a + 16 * j) = some 1
  | 0, _, _, h => absurd h (by omega)
  | _ + 1, a, 0, _ => by simp [tLog, SMap.find?]
  | n + 1, a, j + 1, h => by
    rw [tLog, SMap.find?, if_neg (by omega), show a + 16 * (j + 1) = a + 16 + 16 * j by omega]
    exact tLog_read n (a + 16) j (by omega)

/-- A device whose first sequence log is three-quarters full. -/
def tLogged : Dev := { tUp with flash := tLog 0x60000 3072 }

theorem tLogged_used : (List.range 3072).all (fun i => !tLogged.logErased tLogged.logActive i) = true := by
  rw [List.all_eq_true]
  intro i hi
  have h := tLog_read 3072 0x60000 i (List.mem_range.mp hi)
  have e : logBase tLogged.logActive + 16 * i + 0 = 0x60000 + 16 * i := by simp [tLogged, tUp, logBase, Dev.porst0]
  have r : tLogged.flash.read (logBase tLogged.logActive + 16 * i + 0) = 1 := by
    rw [e]; simp [Memory.read, SMap.getD, tLogged, h]
  simp only [Dev.logErased, Dev.logAt, Dev.flashRead, Memory.readBytes, Bool.not_eq_true', List.all_eq_false]
  exact ⟨~~~tLogged.flash.read (logBase tLogged.logActive + 16 * i + 0), List.mem_map_of_mem (List.mem_map_of_mem (List.mem_range.mpr (by omega))), by rw [r]; decide⟩

/-! ### A witness for the hypotheses of each statement -/

section

-- one theorem at a time: each waits for the kernel with a stack of its own
set_option Elab.async false

theorem witness_TheIdleBlockTicks :
  ((tState tCore).pending = [] ∧ (tState tCore).plant.dev.porst = false) ∧
  (State.reset.pending = [] ∧ State.reset.plant.dev.porst = true) := by
  decide +kernel

theorem witness_MemoriesStayCanonical :
  State.reset.plant.memoriesCanonical = true := by
  decide +kernel

theorem witness_TablesStayInOrder :
  State.reset.plant.tablesRising = true := by
  decide +kernel

theorem witness_FusesAreNeverCleared :
  (({ State.reset with plant := { State.reset.plant with dev := { State.reset.plant.dev with fuses := 1 } } } : State).plant.dev.fuses.testBit 0) = true := by
  decide +kernel

theorem witness_OneSideCommandsStayOnTheirSide :
  (Instr.laneLock .a 0).ofOneSide = some .a ∧ (Instr.badgerCommandStart .a).ofSplitSide = some .a ∧ (tState tCore).plant.dev.joined = false := by
  decide +kernel

theorem witness_AccessesOutsideTheirSetsAreRefused :
  -- the silicon revision is written by nobody; recovery objects are no field reads
  ((tState tCore).plant.listens (.pf .a) = true ∧ (findObj 0x1000 1).isSome = true ∧
    (∀ o, findObj 0x1000 1 = some o → inSet ((tState tCore).plant.letter (.pf .a) o.at') o.row.wr = false)) := by
  decide +kernel

theorem witness_TheModeIsWrittenOnce :
  ((findObj 0x1600 1).isSome = true ∧ (tState tCore).plant.a.r.released = true) := by
  decide +kernel

theorem witness_JoinedModeMirrorsTheSharedView :
  (let p := (tOn (tUp.wr Reg.device_mode 1) tCore).plant
   let k := Reg.hash_seed 1
   p.dev.joined = true ∧ mirrored (k / 256) (k % 256) = true ∧ k / 256 < 0x308 ∧ k < 0x300000 ∧ p.b.r.noAccess = false ∧
   (findRow sideRows k).any (fun row =>
     let f (c : Core) := c.hook (p.hookEnv .a) row (p.dev.rd Reg.silicon_revision) k 7
     decide ((f p.a.r).2 = .ok) && decide ((f p.a.r).1.rd Reg.power_state = p.a.r.rd Reg.power_state) &&
     decide ((f p.b.r).2 = .ok) && decide ((f p.b.r).1.rd Reg.power_state = p.b.r.rd Reg.power_state) &&
     k ≠ Reg.epoch_flip && inSet (p.letter (.pf .b) (.side .b k)) row.wr && decide (p.letter (.pf .b) (.side .b k) = 1) && decide (reqSide (.pf .b) = some .b)) = true ∧
   (findRow sideRows Reg.epoch_flip).any (fun row =>
     let f (c : Core) := c.hook (p.hookEnv .a) row (p.dev.rd Reg.silicon_revision) Reg.epoch_flip 1
     decide ((f p.a.r).2 = .ok) && decide ((f p.a.r).1.rd Reg.power_state = p.a.r.rd Reg.power_state) &&
     decide ((Core.followFlip (f p.a.r).1 p.b.r).rd Reg.power_state = p.b.r.rd Reg.power_state)) = true) := by
  decide +kernel

theorem witness_ObjectAccessesTakeEffect :
  -- field_node_id of side A: index 2010, subindex 1
  ((tState tCore).plant.listens (.pf .a) = true ∧ (tState tCore).plant.hears (.pf .a) = true ∧ (Requester.pf .a).slotted = true ∧
    (Requester.pf .a).reaches 0x2010 = true ∧
    placeOf 0x2010 1 = some (.side .a Reg.field_node_id) ∧ Reg.field_node_id < 0x10000 ∧
    ∃ o, findObj 0x2010 1 = some o ∧ o.at' = .side .a Reg.field_node_id ∧ o.row.ty.slots = 1 ∧ o.row.slotOf Reg.field_node_id = 0 ∧
      o.row.ty ≠ .domain ∧ o.row.qual = .set ∧ o.row.chk ≠ .counter ∧
      (tState tCore).plant.writeCheck (.pf .a) WriteEnv.plain o = .ok ∧ o.row.accept (5 % 2 ^ 64) = some 5 ∧
      (tState tCore).plant.readCheck (.pf .a) o = .ok ∧
      ((tState tCore).plant.readUnit o (.side .a Reg.field_node_id)).2.1 = 0) ∧
  -- a partial write of attest_nonce is held
  (let p := (tOn { tUp with pend := [((Requester.pf .a).num, ⟨0x111001, 0, 0, [(0, 1)]⟩)] } tCore).plant
   p.hears (.pf .a) = true ∧ (findObj (Place.side .a Reg.field_node_id).index (Place.side .a Reg.field_node_id).sub).isSome = true ∧
   (SMap.find? p.dev.pend (Requester.pf .a).num).isSome = true) := by
  decide +kernel

theorem witness_ApertureEntriesAreWritten :
  -- aperture 0 of physical function 0 on the scratchpad window, whose entries are one slot wide
  (let s := tOn (tUp.wr (Reg.aperture_object 0) 0x35001000) tCore
   s.plant.hears (.pf .a) = true ∧ SMap.find? s.plant.dev.pend (Requester.pf .a).num = none ∧
   (findObj (bits 0x35001000 31 16) (bits 0x35001000 15 8)).any (fun o => decide (o.at' = .side .a (256 * wSpm + 0x10)) &&
     decide (s.plant.writeCheck (.pf .a) WriteEnv.plain o = .ok)) = true ∧
   (s.core .a).fieldHolds = false ∧ (s.core .a).spmFenced 0 8 = false ∧ (s.core .a).spmWait = [] ∧ (s.core .a).spmMerging = 0 ∧
   (s.plant.apertureAt .a 0 0 0).any (fun x => decide (x.2.1 = some (some .a, wSpm)) && decide (0 + 1 = ceilDiv x.2.2.2 8) &&
     (let p := (s.plant.hold (.pf .a) (entryWrite x.1 0) (halvesOf 0 2 1)).drop (.pf .a)
      decide (p.writeCheck (.pf .a) WriteEnv.plain x.1 = .ok) &&
      decide ((p.writeWin (some .a, wSpm) 0 (toLe 8 1)).2 = .ok))) = true) := by
  decide +kernel

theorem witness_ExpeditedRequestsAreAnswered :
  (let s := tState (tSet [(Reg.field_enable, 1)])
   let f : FieldFrame := ⟨1, 0x2C0 + (s.core .a).rd Reg.field_node_id, 0, 0⟩
   s.plant.takesField .a f = true ∧ (carrierOf .a f).fits 0 0 = true ∧
   ∃ o, findObj 0x2010 1 = some o ∧ s.plant.readCheck (.field .a) o = .ok ∧ o.row.ty.octetCount = some 1) ∧
  (let s := tOn ((tUp.wr Reg.attest_owner 3)) (tSet [(Reg.field_enable, 1)])
   let f : FieldFrame := ⟨1, 0x2C0 + (s.core .a).rd Reg.field_node_id, 0, 0⟩
   s.plant.takesField .a f = true ∧ (carrierOf .a f).fits 1 4 = true ∧ ([1, 0, 0, 0] : Octets).take 1 = [1] ∧
   s.plant.mayWriteDev (.field .a) Reg.attest_request = true ∧ s.plant.dev.rd Reg.attest_owner = 3 + SideId.num .a ∧
   s.plant.dev.rd Reg.attest_request ≠ 1 ∧ s.plant.dev.rd Reg.boot_status = 4 ∧ s.plant.dev.lifecycle ≠ 3 ∧
   s.plant.dev.owlDown = false) := by
  decide +kernel

theorem witness_LongObjectsMoveInSegments :
  -- attest_nonce, 32 octets
  (∃ o, findObj 0x1110 1 = some o ∧ (∀ n, o.row.ty.octetCount = some n → 8 < n) ∧
    (tState tCore).plant.readCheck (.field .a) o = .ok ∧ (tState tCore).plant.writeCheck (.field .a) WriteEnv.plain o = .ok) := by
  decide +kernel

theorem witness_SegmentedTransactionsOpen :
  (let s := tState (tSet [(Reg.field_enable, 1)])
   let f : FieldFrame := ⟨1, 0x2C0 + (s.core .a).rd Reg.field_node_id, 0, 0⟩
   s.plant.takesField .a f = true ∧ (carrierOf .a f).fits 0 0 = true ∧
   s.plant.dev.xferRoom (carrierOf .a f) ⟨1, 0x1110, 1, 0, 0, []⟩ = true ∧
   (∃ o, findObj 0x1110 1 = some o ∧ s.plant.readCheck (.field .a) o = .ok ∧ o.row.ty.octetCount = some 32) ∧
   (carrierOf .a f).fits 4 4 = true ∧ s.plant.mayWriteDev (.field .a) Reg.bundle_stage = true ∧
   s.plant.dev.stageFree (.field .a) = true ∧ 0 < beNat ([0, 4, 0, 0] : Octets) ∧ beNat ([0, 4, 0, 0] : Octets) ≤ 262144) := by
  decide +kernel

theorem witness_SegmentsMoveTheOctets :
  (let v : Carrier := ⟨.a, 1, 0, [], 0⟩
   let w : Xfer := ⟨v, 1, true, 0x1180, 1, 60, [], 0, false, false, 0, .ok⟩
   let r : Xfer := ⟨v, 1, false, 0x1180, 1, 60, [], 0, false, false, 0, .ok⟩
   let z : Xfer := ⟨v, 1, true, 0x1180, 1, 40, [], 0, false, false, 0, .ok⟩
   let f : FieldFrame := ⟨1, 0x2C0 + tCore.rd Reg.field_node_id, 0, 0⟩
   let s (x : Xfer) := tOn { tUp with xfers := [x] } (tSet [(Reg.field_enable, 1)])
   let h : Pdu := ⟨1, 0x1180, 1, 0, 0, List.replicate 56 0⟩
   let g : Pdu := ⟨1, 0x1180, 1, 0, 0, []⟩
   let l : Pdu := ⟨1, 0x1180, 1, 0, 0, List.replicate 40 0⟩
   ((s w).plant.takesField .a f = true ∧ carrierOf .a f = v ∧ (s w).plant.dev.xfers.find? (fun y => y.matches v h) = some w ∧
     v.fits (w.segLength w.next) h.data.length = true ∧ h.data.length ≤ v.segment ∧ w.next + 1 ≠ w.segments) ∧
   ((s z).plant.takesField .a f = true ∧ (s z).plant.dev.xfers.find? (fun y => y.matches v l) = some z ∧
     v.fits (z.segLength z.next) l.data.length = true ∧ l.data.length ≤ v.segment ∧ z.next + 1 = z.segments ∧
     (s z).plant.mayWriteDev (.field .a) Reg.bundle_stage = true ∧ (s z).plant.dev.stageFree (.field .a) = true) ∧
   ((s r).plant.takesField .a f = true ∧ (s r).plant.dev.xfers.find? (fun y => y.matches v g) = some r ∧
     v.fits 0 g.data.length = true ∧ g.count + 1 < r.segments)) := by
  decide +kernel

theorem witness_FieldPortEventsTakeEffect :
  (let s := tState (tSet [(Reg.field_enable, 1)])
   let f : FieldFrame := ⟨1, 0x2C0 + (s.core .a).rd Reg.field_node_id, 0, 0⟩
   let o : Octets := [0x20, 0, 0, 0, 0, 0, 0, 0]
   s.plant.takesField .a f = true ∧ (o.take 7).length < 8 ∧ 8 ≤ o.length ∧ bits (beNat (o.take 8)) 63 60 ≠ 1 ∧
   (s.core .a).alive = true ∧ (s.core .a).fieldUp = true ∧ (s.core .a).busOff = false ∧
   (0x2C0 + (s.core .a).rd Reg.field_node_id) % 2 ^ 11 = 0x2C0 + (s.core .a).rd Reg.field_node_id) ∧
  (let x : Xfer := ⟨⟨.a, 1, 0, [], 0⟩, 1, true, 0x1180, 1, 60, [], 0, false, false, 0, .ok⟩
   let s := tOn { tUp with xfers := [x] } (tSet [(Reg.field_enable, 1)])
   s.plant.dev.porst = false ∧ s.plant.dev.xfers[0]? = some x ∧ x.done = false ∧ x.via.kind ≠ 2 ∧ (s.core x.via.side).fieldUp = true) ∧
  (let x : Copy := { tCopy (.vport 0) 7 (toBe 6 1 ++ toBe 6 2 ++ toBe 2 0x88B6 ++ [0x11, 5, 0x16, 0, 1, 0, 0, 0] ++ List.replicate 38 0)
      with mgmt := true }
   let s := tState { tCore with copies := [x], queues := [(queueKey (.vport 0) 7, [x.id])] }
   (s.core .a).alive = true ∧ ((s.core .a).takeMgmt (.vport 0) 7).any (fun y => decide (y.1 = x) &&
     decide (y.2.rd Reg.power_state = (s.core .a).rd Reg.power_state)) = true ∧
   (let m := mgmtBody 0x88B6 x.data
    let b := beNat (m.2.take 8)
    8 ≤ m.2.length ∧ bits b 63 60 = 1 ∧ bits b 59 56 = 1 ∧ bits b 47 32 = 0x1600 ∧ bits b 31 24 = 1 ∧ bits b 15 0 = 0 ∧
    (⟨.a, 2, 0, m.1, 0⟩ : Carrier).fits 0 (m.2.length - 8) = true ∧ s.plant.dev.early = false)) := by
  decide +kernel

theorem witness_BundlesAreStagedAndApplied :
  (let s := tState tCore
   s.plant.mayWriteDev (.pf .a) Reg.bundle_stage = true ∧ s.plant.dev.stageFree (.pf .a) = true ∧ 262143 + 1 ≤ 262144) ∧
  (let s := tOn (tUp.wr Reg.bundle_owner 1) tCore
   s.plant.mayWriteDev (.pf .a) Reg.bundle_apply = true ∧ s.plant.dev.stageFree (.pf .a) = true ∧
   s.plant.dev.rd Reg.boot_status = 4 ∧ s.plant.dev.rd Reg.bundle_owner ≠ 0 ∧ s.plant.dev.porst = false ∧
   s.plant.dev.owlDown = false ∧ s.plant.dev.rd Reg.bundle_apply ≠ 2 ∧ s.plant.dev.rd Reg.bundle_apply ≠ 3) ∧
  (let s := tOn (tUp.wr Reg.bundle_apply 3) tCore
   s.plant.dev.porst = false ∧ s.plant.dev.owlDown = false ∧ s.plant.dev.rd Reg.bundle_apply = 3 ∧
   (s.plant.dev.persistSequence s.plant.dev.bundleSequence).any (fun d =>
     (({ s.plant with dev := d } : Plant).applyRecords false 0 d.bundleRecords).2.isNone) = true) := by
  decide +kernel

theorem witness_LinkCommandsFollowTheReceiver :
  (let c := { tSet [(Reg.admin_up 63, 1), (Reg.port_mode 63, 2), (Reg.an_enable 63, 1)] with ports := [(63, { PortDyn.zero with locked := true })] }
   c.alive = true ∧ c.mayRun 63 = true ∧ c.inDen = false ∧ c.wakeable 63 = false ∧ c.negotiates 63 = true ∧ (c.port 63).locked = true ∧
   (c.port 63).up = false ∧ (c.port 63).lfault = false ∧ (c.port 63).fallbackAt = none ∧
   (tSet [(Reg.admin_up 0, 1), (Reg.port_mode 0, 3)]).mayRun 0 = true ∧ (tSet [(Reg.admin_up 0, 1), (Reg.port_mode 0, 3)]).negotiates 0 = false) := by
  decide +kernel

theorem witness_LinkGoesUpAndDown :
  (let c : Core := tSet [(Reg.admin_up 63, 1), (Reg.port_mode 63, 3), (Reg.flush_on_down 63, 0)]
   let h : Core := { c with ports := [(63, { PortDyn.zero with holdoff := some 9 })] }
   let u : Core := { c with ports := [(63, { PortDyn.zero with up := true })] }
   let d : Core := { c.wr Reg.power_state 2 with ports := [(63, { PortDyn.zero with denSince := some 9 })] }
   h.alive = true ∧ (h.port 63).holdoff = some 9 ∧ h.mayRun 63 = true ∧ h.inDen = false ∧ h.wakeable 63 = false ∧ u.wakeable 63 = false ∧ u.alive = true ∧ (u.port 63).up = true ∧
   u.mayRun 63 = true ∧ u.inDen = false ∧ u.copies.isEmpty = true ∧ u.flag (Reg.flush_on_down 63) = false ∧
   d.alive = true ∧ (d.port 63).denSince = some 9 ∧ d.rd Reg.power_state = 2 ∧ (d.port 63).up = false) := by
  decide +kernel

theorem witness_RateIntervalSendsWhatWaits :
  (let c : Core := { tCore with rates := [⟨1, 2, 3, 4, 0⟩] }
   c.alive = true ∧ c.faultQ.length + c.rates.length ≤ 960 ∧ tUp.porst = false ∧
   ({ tUp with rates := [⟨16, 6, 0, 0, 0⟩] } : Dev).faultQ.length + ({ tUp with rates := [⟨16, 6, 0, 0, 0⟩] } : Dev).rates.length ≤ 64) := by
  decide +kernel

theorem witness_PauseTimersRunOut :
  (let y : PortDyn := { PortDyn.zero with
     up := true
     pauseEnd := [(8, 1000000000000)]
     holdEnd := [(7, 5)] }
   let c : Core := { tSet [(Reg.admin_up 63, 1), (Reg.port_mode 63, 3)] with
     ports := [(63, y)]
     queues := [(504, [0])]
     xoffs := [(1016, 1)] }
   let rest := msTicks (c.rd (Reg.pause_watchdog_ms 63)) - SMap.getD ((c.touchPause 63 8).port 63).wdCount 8 0
   c.alive = true ∧ SMap.find? (c.port 63).pauseEnd 8 = some 1000000000000 ∧
   SMap.find? ((c.touchPause 63 8).port 63).pauseEnd 8 = some 1000000000000 ∧
   SMap.find? ((c.touchPause 63 8).port 63).wdSince 8 = some 0 ∧ c.now + rest < 1000000000000 ∧
   SMap.find? (c.port 63).holdEnd 7 = some 5 ∧ c.linkUp 63 = true ∧ SMap.find? c.xoffs (16 * 63 + 8) = some 1) := by
  decide +kernel

theorem witness_PauseFramesPauseTheirStates :
  (let c : Core := { tSet [(Reg.admin_up 63, 1), (Reg.port_mode 63, 3), (Reg.flow_control 63, 1)] with
     ports := [(63, { PortDyn.zero with up := true })] }
   c.alive = true ∧ c.receives 63 = true ∧ c.lowPower = false ∧ c.rd (Reg.flow_control 63) = 1 ∧
   c.heldOff 63 8 = false ∧ (c.wr (Reg.flow_control 63) 2).rd (Reg.flow_control 63) = 2) := by
  decide +kernel

theorem witness_ReceptionBeginsAndEnds :
  (let z : Octets := List.replicate 60 0
   let f : RxFrame := { tFrame 0 63 with octets := z ++ toLe 4 (crc32 z) }
   let c : Core := { tSet [(Reg.admin_up 63, 1), (Reg.port_mode 63, 3)] with
     ports := [(63, { PortDyn.zero with up := true })]
     rx := [f] }
   c.alive = true ∧ c.receives 63 = true ∧ c.lowPower = false ∧
   c.rx.find? (fun g => decide (g.port = 63) && !g.ended) = some f ∧ f.dropAs = 0 ∧ f.accepted = false ∧ c.rd (Reg.fec_mode 63) = 0 ∧ (c.under f).rd (Reg.fec_mode 63) = 0 ∧
   (c.under f).flag (Reg.macsec_enable 63) = false ∧ (c.under f).rxClasses 63 f.octets (decide (240000 ≤ f.octet)) false false = 0 ∧
   be16 (f.octets.take (f.octets.length - 4)) 12 ≠ 0x8808) := by
  decide +kernel

theorem witness_PortObjectsTakeTheirWrites :
  (let s := tState tCore
   s.plant.mayWriteSide (.pf .a) .a (Reg.port_mode 60) = true ∧ (s.core .a).flag (Reg.admin_up 60) = false ∧
   (s.core .a).absent 61 = false ∧ (s.core .a).absent 62 = false ∧ (s.core .a).absent 63 = false ∧
   s.plant.mayWriteSide (.pf .a) .a (Reg.admin_up 60) = true ∧ (s.core .a).flag (Reg.port_test 60) = false ∧
   (s.core .a).fieldHolds = false ∧ s.plant.mayWriteSide (.pf .a) .a (Reg.tx_active_sa 60) = true) := by
  decide +kernel

theorem witness_FramesLeaveReceptionForTheParser :
  (let f : RxFrame := { tFrame 0 0 with ended := true }
   let c : Core := { tCore with rx := [f] }
   let e := c.rd Reg.epoch_live
   let x : Entry := ⟨f.no, f.plain, .port f.port, none, b2n f.macsecCheck * 128, f.macsec, true, false, f.stamp,
      (c.under f).rd (Reg.port_flags f.port)⟩
   let p := parse (c.parserCfg e) (c.parseIn x e)
   c.alive = true ∧ c.pipelineRuns = true ∧ c.nextVport = none ∧ (c.recirc.find? c.recircReady = none) ∧ c.nextPort = some f ∧ f.ended = true ∧
   p.pr.shape ≠ 252 ∧ p.pr.shape ≠ 253 ∧ p.badShape = false ∧
   bitOf (c.vidEntry e (stationVid p.pr (c.rd (Reg.vid_source f.port)) (c.rd (Reg.pvid f.port)))) 31 = false) := by
  decide +kernel

theorem witness_CopiesOfAnEpochStartAndEnd :
  (let s := tState tCore
   s.plant.dev.joined = false ∧ (1 : BitVec 8).toNat ≤ 1 ∧ (s.core .a).syncing = false ∧ (s.core .a).epochInUse (1 : BitVec 8).toNat = false ∧
   s.plant.mayWriteSide (.pf .a) .a Reg.shape_copy = true ∧ (s.core .a).rd Reg.shape_copy ≠ 1 ∧
   s.plant.mayWriteSide (.pf .a) .a Reg.profile_copy = true ∧ (s.core .a).rd Reg.profile_copy ≠ 1 ∧
   s.plant.mayWriteSide (.pf .a) .a Reg.vid_map_copy = true ∧ (s.core .a).rd Reg.vid_map_copy ≠ 1) ∧
  (let c := { (tSet [(Reg.shape_copy, 1), (Reg.profile_copy, 1), (Reg.vid_map_copy, 1)]).setTab wVidMap 7 (2 ^ 31) with
      copyTo := [(Reg.shape_copy, 1), (Reg.profile_copy, 1), (Reg.vid_map_copy, 1)] }
   c.alive = true ∧ c.syncing = false ∧ SMap.rising c.tabs = true ∧ c.rd Reg.shape_copy = 1 ∧ c.rd Reg.profile_copy = 1 ∧
   c.rd Reg.vid_map_copy = 1 ∧ SMap.getD c.copyTo Reg.shape_copy 0 = 1 ∧ SMap.getD c.copyTo Reg.profile_copy 0 = 1 ∧
   SMap.getD c.copyTo Reg.vid_map_copy 0 = 1) := by
  decide +kernel

theorem witness_TheBadgerMovesEntries :
  (let s := tState (tSet [(Reg.bank_mode 0, 1), (Reg.run_start 0, 1)])
   let c := s.core .a
   let cmd := c.badgerCmd true
   s.plant.dev.joined = false ∧
   s.plant.mayWriteSide (.pf .a) .a Reg.badger_go = true ∧ c.fieldHolds = false ∧ c.syncing = false ∧
   c.targetInUse cmd.target = false ∧ c.badgerQ.length + (if c.badgerRun.isSome then 1 else 0) < 16 ∧ c.badgerOk cmd = true) ∧
  (let cmd : BadgerCmd := ⟨1, 0, 0, 0, true, 0, 0, false⟩
   let c : Core := { tSet [(Reg.bank_mode 0, 1), (Reg.run_start 0, 1)] with badgerQ := [cmd] }
   let d : Core := c.setTab wSearch 1 (mkEntry 1 (2 ^ 56) 0 0)
   let bank := slotBank cmd.first
   let tgt := (cmd.targetSlot (c.bankWidth bank)).getD 0
   c.alive = true ∧ c.badgerRun = none ∧ c.badgerQ = [cmd] ∧ dAny (c.descAt tgt) = false ∧ c.runFenced bank = false ∧
   ({ c with banksFenced := 1 } : Core).runFenced bank = true ∧ dAny (d.descAt tgt) = true ∧
   (let e : Core := (tSet [(Reg.bank_mode 0, 2), (Reg.run_start 0, 1)]).setTab wSearch 2 (mkEntry 1 (2 ^ 56 + 2 ^ 112) 0 0)
    let u : BadgerCmd := { cmd with write := true }
    dAny (e.descAt tgt) = false ∧ e.stagedOk u = false)) ∧
  (let r : BadgerRun := ⟨⟨1, 0, 0, 0, true, 0, 0, false⟩, 0, 0, 0, 0⟩
   let c : Core := { tSet [(Reg.bank_mode 0, 1), (Reg.run_start 0, 1)] with badgerRun := some r }
   c.alive = true ∧ c.badgerRun = some r ∧ r.cmd.targetSlot (c.bankWidth (slotBank r.cmd.first)) = some 1) := by
  decide +kernel

theorem witness_ProbesFindEntries :
  (let s := tState { tCore with probes := [(3, ⟨1, 0, 0, 0, 0⟩)] }
   s.plant.mayWriteSide (.pf .a) .a (Reg.probe_cmd 3) = true ∧ ((s.core .a).probe 3).state ≠ 3 ∧ ((s.core .a).probe 3).state ≠ 0) ∧
  (let c : Core := { tCore with probes := [(0, ⟨3, 1, 0, 0, 0⟩)] }
   c.alive = true ∧ (c.badgerNow.probe 0).state = 3 ∧ (c.badgerNow.probe 0).pend = 1 ∧ winner (c.badgerNow.probeMatches 0) = none) ∧
  (let f : ScrubFinding := ⟨65535, true, false, false, false⟩
   let g : ScrubFinding := ⟨65535, false, false, true, true⟩
   tCore.alive = true ∧ f.unitBad ≠ f.shadowBad ∧ f.descBad = false ∧ g.unitBad = false ∧ g.shadowBad = false ∧
   g.slot / tCore.bankWidth (slotBank g.slot) * tCore.bankWidth (slotBank g.slot) < 2 ^ 32) := by
  decide +kernel

theorem witness_LearningPlacesAndAgesStations :
  (let c : Core := { tSet [(Reg.learn_limit 0, 4)] with learnQ := [.loc 1 2 0 0 0 0] }
   c.alive = true ∧ c.learnQ = [.loc 1 2 0 0 0 0] ∧ c.findKey 1 2 = none ∧ c.underLimit 0 0 = true ∧ (c.placeSlot 1 2).isSome = true) ∧
  (let r := mkRecord 1 1 2 3 0 0 0
   let c : Core := { tCore with learnQ := [.record r 0 0 none 0] }
   c.alive = true ∧ rOp r = 1 ∧ c.findKey (rFid r) (rMac r) = none ∧ (c.placeSlot (rFid r) (rMac r)).isSome = true) ∧
  (let x := newEntry 1 2 0 0 0 0 0 true
   let c : Core := (tCore.setTab wStation 262143 x).setTab wStation 0 (putBits x 38 37 3)
   c.alive = true ∧ 262143 < 262144 ∧ c.tab wStation 262143 = x ∧ eTaken x = true ∧ eStatic x = false ∧ eAge x ≠ 3 ∧
   eTaken (c.tab wStation 0) = true ∧ eStatic (c.tab wStation 0) = false ∧ eAge (c.tab wStation 0) = 3 ∧
   eRemote (c.tab wStation 0) = true) := by
  decide +kernel

theorem witness_LearningMessagesAreSentAndTaken :
  (let c : Core := { tCore with sendQ := List.replicate 8 ⟨0, none, 0, false⟩ }
   c.alive = true ∧ c.msgDue = true ∧ (c.sendQ.take 8).all (fun r => decide (r.notPort = none)) = true) ∧
  (let r := mkRecord 1 1 2 3 0 0 0
   let body := toBe 8 (1 * 2 ^ 60 + 1 * 2 ^ 56 + 3 * 2 ^ 44) ++ toBe 20 r
   let x : Copy := { tCopy .learn 0 (toBe 6 1 ++ toBe 6 2 ++ toBe 2 0x88B5 ++ body) with mgmt := true }
   let s := tState { tCore with copies := [x], queues := [(queueKey .learn 0, [x.id])] }
   let h := beNat (padTo 8 (slice body 0 8))
   let e := (s.plant.learnEnv .a).engine
   (s.core .a).alive = true ∧ ((s.core .a).takeMgmt .learn 0).any (fun y => decide (y.1 = x) &&
     decide (y.2.rd Reg.power_state = (s.core .a).rd Reg.power_state) && decide (y.2.learnQ.length < 4096)) = true ∧
   x.ingress = .port 0 ∧ (mgmtBody 0x88B5 x.data).2 = body ∧ beNat (padTo 20 (slice body 8 20)) = r ∧
   bits h 63 60 = 1 ∧ bits h 59 56 = 1 ∧ 28 ≤ body.length ∧ bits h 43 0 = 0 ∧ bits h 55 44 ≠ e ∧ recordOk r = true ∧ rEngine r ≠ e) := by
  decide +kernel

theorem witness_StationCommandsTakeEffect :
  (let s := tState tCore
   s.plant.mayWriteSide (.pf .a) .a Reg.station_cmd = true ∧ (s.core .a).rd Reg.station_cmd ≠ 1 ∧
   s.plant.mayWriteSide (.pf .a) .a Reg.rehash_pop = true ∧ s.plant.mayWriteSide (.pf .a) .a Reg.announce = true) ∧
  (let e := newEntry 0 0 0 0 0 0 0 true
   let c : Core := { tCore with learnQ := [.command 1 0] }
   let d : Core := { tCore.setTab wStation ((tCore.placeSlot 0 0).getD 0) e with learnQ := [.command 2 0] }
   let m : Core := { (tSet [(Reg.flush_filter, 2 ^ 60)]).setTab wStation 0 e with learnQ := [.command 3 0] }
   let x := beNat (c.rdOctets Reg.station_stage 24)
   c.alive = true ∧ x = 0 ∧ c.stationValueOk false x = true ∧ c.findKey 0 0 = none ∧
   (c.placeSlot 0 0).any (fun n => decide ((c.writeStation false n x (c.rd (wStation * 256 + 3))).2 = .ok)) = true ∧
   d.alive = true ∧ (d.findKey 0 0).any (fun n => !eStatic (d.tab wStation n) && eRemote (d.tab wStation n)) = true ∧
   m.alive = true ∧ m.rd Reg.station_cmd_slot < stationSlots ∧ eTaken (m.tab wStation (m.rd Reg.station_cmd_slot)) = true ∧
   (m.relocateSlot (m.rd Reg.station_cmd_slot)).isSome = true ∧ m.rd Reg.flush_filter = 2 ^ 60) := by
  decide +kernel

theorem witness_EpochsFlip :
  (let s := tState tCore
   let u := tState (tSet [(Reg.epoch_flip, 1)])
   let w := tSet [(Reg.flip_time, 5)]
   s.plant.mayWriteSide (.pf .a) .a Reg.epoch_flip = true ∧ (s.core .a).released = true ∧ b2n true ≠ (s.core .a).rd Reg.epoch_live ∧
   (s.core .a).rd Reg.epoch_flip = 0 ∧ (s.core .a).copying = false ∧ (s.core .a).syncing = false ∧ (s.core .a).rd Reg.flip_time = 0 ∧
   w.sideTime < w.rd Reg.flip_time ∧ u.plant.mayWriteSide (.pf .a) .a Reg.epoch_flip = true ∧ (u.core .a).rd Reg.epoch_flip = 1) ∧
  (let a : Core := { tSet [(Reg.epoch_flip, 1), (Reg.time_source, 4)] with flipTarget := 1, flipAt := 5 }
   let e : Core := { tSet [(Reg.epoch_flip, 1), (Reg.time_source, 4), (Reg.power_state, 2)] with flipTarget := 1, flipAt := 5 }
   let b := tSet [(Reg.epoch_flip, 2), (Reg.epoch_live, 1)]
   let d := tSet [(Reg.epoch_flip, 2), (Reg.epoch_live, 1), (Reg.inflight_amber, 1)]
   tUp.joined = false ∧ a.alive = true ∧ a.rd Reg.epoch_flip = 1 ∧ a.rd Reg.time_source = 4 ∧ a.flipTarget ≤ 1 ∧ a.inDen = false ∧
   e.alive = true ∧ e.inDen = true ∧ e.rd Reg.epoch_flip = 1 ∧ e.rd (inflightKey (1 - e.flipTarget)) = 0 ∧
   b.alive = true ∧ 2 ≤ b.rd Reg.epoch_flip ∧ b.draining = 0 ∧ d.alive = true ∧ d.rd Reg.epoch_flip = 2 ∧ d.draining ≠ 0) ∧
  (let j : Dev := tUp.wr Reg.device_mode 1
   let f (n : Nat) (sd : SideId) : Side := ⟨{ Core.blank sd with released := true, regs := [(Reg.epoch_flip, BitVec.ofNat 64 n), (Reg.time_source, 4)] }, [], []⟩
   let s : State := ⟨[], ⟨j, f 1 .a, f 1 .b⟩⟩
   let u : State := ⟨[], ⟨j, f 2 .a, f 2 .b⟩⟩
   s.plant.dev.joined = true ∧ (s.core .a).alive = true ∧ (s.core .b).alive = true ∧ (s.core .a).rd Reg.epoch_flip = 1 ∧
   (s.core .a).inDen = false ∧ (s.core .b).inDen = false ∧ (s.core .b).rd Reg.epoch_flip = 1 ∧ (s.core .a).flipTarget ≤ 1 ∧ (s.core .b).flipTarget ≤ 1 ∧ (s.core .a).rd Reg.time_source = 4 ∧
   2 ≤ (u.core .a).rd Reg.epoch_flip ∧ 2 ≤ (u.core .b).rd Reg.epoch_flip ∧ (u.core .a).draining = 0 ∧ (u.core .b).draining = 0) := by
  decide +kernel

theorem witness_EpochsSynchronise :
  (let s := tState tCore
   s.plant.dev.joined = false ∧ s.plant.mayWriteSide (.pf .a) .a Reg.epoch_sync = true ∧ (s.core .a).syncing = false ∧ (s.core .a).rd Reg.epoch_flip = 0 ∧
   (s.core .a).copying = false) ∧
  (let c := (tSet [(Reg.epoch_sync, 1)]).setTab wVidMap 4095 (2 ^ 31)
   c.alive = true ∧ c.syncing = true ∧ c.rd Reg.epoch_live ≤ 1 ∧ SMap.rising c.tabs = true) ∧
  (let c : Core := { tCore with frer := [(1023, { FrerDyn.zero with valid := true })] }
   c.alive = true ∧ (c.frerDeadline 1023).isSome = true) ∧
  ((0 : BitVec 17).toNat < actionEntries (0x1300 + (4 : Fin 7).val) ∧ actionEntries (0x1300 + (4 : Fin 7).val) ≤ (1024 : BitVec 17).toNat) := by
  decide +kernel

theorem witness_TheFabricMovesCells :
  (let x : Copy := { tCopy (.port 3) 0 (List.replicate 60 0) with sent := 0, reserved := 1, written := 0, linked := false, complete := false }
   let c : Core := { tCore with copies := [x] }
   let n := max c.slot (SMap.getD c.groupSlot 0 0)
   c.alive = true ∧ c.pipelineRuns = true ∧ ((c.advanceTo (c.slotStart n)).runMiddles n).pickCell 0 n = some x) ∧
  (let c : Core := { tCore with returning := [(65, 0)], spent := [(65, 1)] }
   c.alive = true ∧ c.pipelineRuns = true ∧ ((c.runMiddles c.slot).returning.find? (fun y => decide (y.1 / 64 = 1))) = some (65, 0)) ∧
  (let x : Copy := { tCopy (.port 3) 0 (List.replicate 60 0) with reserved := 1, written := 0, linked := false, complete := false }
   let cell : Cell := ⟨0, 0, 0, true, 0, 0, 0, 0⟩
   let c : Core := { tSet [(Reg.cells_in_fabric, 1), (Reg.cells_free, 196607)] with copies := [x], arriving := [cell] }
   let d := c.runMiddles c.slot
   c.alive = true ∧ c.pipelineRuns = true ∧ (d.arriving.find? (fun y => decide (y.slice = 0))) = some cell ∧ d.copy cell.copy = some x ∧ x.dead = false ∧
   x.ct = false ∧ d.nextBuffer 0 = some (0, 0) ∧ (d.stream x.stream).held = [] ∧ (cell.seq + 128 - (d.stream x.stream).expected) % 128 = 0 ∧
   0 < d.rd Reg.cells_in_fabric ∧ d.rd Reg.cells_queued + 1 < 2 ^ 64) ∧
  (let x : Copy := { tCopy (.port 3) 0 (List.replicate 600 0) with reserved := 2, written := 1, linked := false, complete := false }
   let c : Core := { tCore with
     copies := [x]
     streams := [(streamKey 0 (.port 3) 0, ⟨2, [(0, 0), (1, 0)], 0, [(1, 5, ⟨0, 1, 1, false, 0, 0, 0, 0⟩)]⟩)] }
   c.alive = true ∧ (c.stream (streamKey 0 (.port 3) 0)).held ≠ [] ∧ (c.copy 0).isSome = true) := by
  decide +kernel

theorem witness_PortsTransmitFrames :
  (let c : Core := { tSet [(Reg.admin_up 3, 1), (Reg.port_mode 3, 3)] with mgmtWait := [(3, List.replicate 60 0)], ports := [(3, { PortDyn.zero with up := true })] }
   let n := (mgmtOffer 3 (List.replicate 60 0)).cells
   c.alive = true ∧ c.pipelineRuns = true ∧ c.copy c.copyNo = none ∧ c.budgetUsed .mgmt + n ≤ c.rd Reg.mgmt_reserve_cells ∧ c.unavailable (.port 3) = none ∧ n ≤ c.rd Reg.cells_free ∧
   c.rd Reg.cells_in_fabric + n < 2 ^ 64) ∧
  (let x := tCopy (.port 3) 2 (List.replicate 60 0)
   let c : Core := { tSet [(Reg.admin_up 3, 1), (Reg.port_mode 3, 3)] with copies := [x], queues := [(queueKey (.port 3) 2, [0])], ports := [(3, { PortDyn.zero with up := true })] }
   let d := (c.advanceTo ((c.port 3).txEnd / 1000)).touchShapers false 3
   c.alive = true ∧ c.linkUp 3 = true ∧ (c.port 3).tx = none ∧ (c.port 3).gclNext = false ∧ c.rd (Reg.oper_gate_enable 3) = 0 ∧
   (d.select (d.portQueues 3)).2 = some 2 ∧ (d.select (d.portQueues 3)).1.headCopy (.port 3) 2 = some x ∧
   (match (((d.select (d.portQueues 3)).1.bufferEcc x ⟨1, 0⟩).txOctets 3 x).2 with | .ok _ => true | .error _ => false) = true ∧
   (d.select (d.portQueues 3)).1.copies.all (fun y => decide (y.id = x.id)) = true ∧ x.dead = false ∧ x.reserved = 0 ∧ x.tsReq = false) ∧
  (let x := tCopy (.port 3) 2 (List.replicate 60 0)
   let c : Core := { tSet [(Reg.cells_queued, 1), (Reg.cells_free, 196607)] with
     copies := [x], ports := [(3, { PortDyn.zero with up := true, tx := some 0 })] }
   let d := (c.advanceTo (ceilDiv (c.port 3).txLast 1000)).finishCopy x.id
   c.alive = true ∧ (c.port 3).tx = some x.id ∧ (d.port 3).ctl = [] ∧ c.copy x.id = some x ∧ x.complete = true ∧ x.bad = false ∧ x.ct = false ∧
   x.held = false ∧ x.ingress ≠ .device ∧ x.reserved = 0 ∧ x.written ≤ c.rd Reg.cells_queued ∧
   c.rd Reg.cells_free + x.written < 2 ^ 64) ∧
  (let x : Copy := { tCopy (.port 3) 2 (List.replicate 600 0) with ct := true, complete := false, written := 1, reserved := 2 }
   let c : Core := { tCore with copies := [x], ports := [(3, { PortDyn.zero with up := true, tx := some 0 })] }
   c.alive = true ∧ (c.port 3).tx = some x.id ∧ (c.port 3).ctl = [] ∧ c.copy x.id = some x ∧ x.ct = true ∧ x.complete = false ∧ x.lossless = false) ∧
  (let c : Core := { tCore with ports := [(3, { PortDyn.zero with ctBackoff := some 9 })] }
   c.alive = true ∧ (c.port 3).ctBackoff = some 9) := by
  decide +kernel

theorem witness_TheCrossingCarriesCopies :
  (let x := tCopy (.port 64) 2 (List.replicate 60 0)
   let s : State := tOn (tUp.wr Reg.device_mode 1 |>.wr Reg.mode_status 1) { tCore with crossOut := [{ x with sent := 0 }] }
   s.plant.crossingUp = true ∧ (s.core .a).crossRecs = [] ∧ (s.core .a).stampsBack = [] ∧
   (((List.range 8).map (fun i => ((s.core .a).crossRr + i) % 8)).findSome? (s.core .a).crossHead) = some { x with sent := 0 }) ∧
  (let x : Copy := { tCopy (.port 67) 2 (List.replicate 300 0) with sent := 0, ingress := .crossing }
   let cell : CrossCell := ⟨0, 0, false, 0, some x, 0⟩
   let s : State := tOn (tUp.wr Reg.device_mode 1 |>.wr Reg.mode_status 1)
     { tSet [(Reg.admin_up 3, 1), (Reg.port_mode 3, 3)] with crossIn := [cell], ports := [(3, { PortDyn.zero with up := true })] }
   let c := s.core .a
   let r := ({ c with crossIn := [] } : Core).crossAdmit x
   s.plant.crossingUp = true ∧ r.2 = true ∧ (r.1.copy c.copyNo).any (fun y => !y.dead && !y.ct && decide (cell.index + 1 ≠ y.total)) = true ∧
   r.1.nextBuffer 0 = some (0, 0) ∧ 0 < r.1.rd Reg.cells_in_fabric ∧ r.1.rd Reg.cells_queued + 1 < 2 ^ 64 ∧ r.1.rd Reg.power_state = c.rd Reg.power_state) ∧
  ((tVports []).released = true ∧ (((tVports []).advanceTo 65536).inc Reg.audit_passes).auditFindings = [] ∧
   (let d := ((tVports [(Reg.cells_free, 5)]).advanceTo 65536).inc Reg.audit_passes
    (1, 0) ∈ d.auditFindings ∧ d.released = true ∧
    d.rd Reg.cells_free + d.rd Reg.cells_queued + d.rd Reg.cells_in_fabric + d.rd Reg.cells_held ≠ 196608)) := by
  decide +kernel

theorem witness_PoolsGiveAndTakeBuffers :
  (let l := [(Reg.buffer_count 1, 40000), (Reg.buffer_size 1, 0), (Reg.pool_location 1, 1)]
   let s := tState (tSet l)
   let c := s.core .a
   s.plant.mayWriteSide (.pf .a) .a (Reg.pool_enable 1) = true ∧ c.flag (Reg.pool_enable 1) = false ∧ c.poolPlaceOk 1 = true ∧
   c.rd (Reg.pool_allocated 1) = 0 ∧
   ceilDiv (c.rd (Reg.buffer_count 1)) 32768 ≤ ((List.range 64).filter (fun j => !bitOf c.granulesHeld j)).length) ∧
  (let c := tSet [(Reg.buffer_count 1, 8), (Reg.pool_enable 1, 1), (Reg.pool_free 1, 8), (Reg.pool_allow 72, 255)]
   c.alive = true ∧ c.chainPool 1 8 = some 1 ∧ c.nextBuffer 1 = some (0, 0) ∧ bitOf (c.rd (Reg.pool_allow 72)) 1 = true ∧
   72 ∉ c.reclaimed ∧ c.portOpen 72 = true) ∧
  (let c : Core := { tSet [(Reg.buffer_count 1, 8), (Reg.pool_enable 1, 1), (Reg.pool_free 1, 7), (Reg.pool_allocated 1, 1)] with
      poolUsed := [(bufKey 1 0, 1)], poolTags := [(bufKey 1 0, 73)] }
   c.alive = true ∧ SMap.find? c.poolUsed (bufKey 1 0) = some 1 ∧ SMap.getD c.poolTags (bufKey 1 0) 0 = 72 + 1 ∧
   c.flag (Reg.pool_enable 1) = true ∧ c.decodeHandle (c.handle 1 0) = some (1, 0)) ∧
  tCore.alive = true ∧
  ((tState tCore).plant.mayWriteSide (.pf .a) .a Reg.reclaim = true ∧ tCore.reclaiming = 0) ∧
  (let c : Core := { tCore with reclaiming := 5, poolUsed := [(bufKey 1 0, 1)], poolTags := [(bufKey 1 0, 5)] }
   c.alive = true ∧ c.reclaiming = 4 + 1) := by
  decide +kernel

theorem witness_GateListsChangeAtTheirTimes :
  (let c := (tSet [(Reg.oper_gate_enable 63, 1), (Reg.oper_cycle_time 63, 1000), (Reg.oper_list_length 63, 1)]).setTab wGclOper
     (256 * 63) (255 * 2 ^ 32 + 500)
   let d : Core := { c with
     ports := [(63, { PortDyn.zero with tx := some 0, txEnd := 10 ^ 9 })]
     copies := [tCopy (.port 63) 2 []]
     tabs := [(tabKey wGclOper (256 * 63), 500)] }
   c.alive = true ∧ ((c.portOper 63).boundary c.sideUnits).isSome = true ∧ c.sending 63 = none ∧ d.alive = true ∧
   ((d.portOper 63).boundary d.sideUnits).any (fun u =>
     let e := d.advance (d.ticksToUnits u)
     decide (e.sending 63 = some 2) && !bitOf (e.portGates 63) 2 && !(e.port 63).overrun) = true) ∧
  (let s := tState ((tSet [(Reg.admin_gate_enable 63, 1), (Reg.admin_cycle_time 63, 1000), (Reg.admin_list_length 63, 1)]).setTab wGclAdmin
     (256 * 63) (255 * 2 ^ 32 + 500))
   let c := s.core .a
   s.plant.mayWriteSide (.pf .a) .a (Reg.config_change 63) = true ∧ (c.port 63).gclPending = false ∧
   c.flag (Reg.admin_gate_enable 63) = true ∧
   c.gateEntriesOk wGclAdmin (256 * 63) (c.rd (Reg.admin_list_length 63)) false = true ∧
   ((List.range 8).map (fun i => c.rd (Reg.admin_idle_slope 63 i))).foldl (· + ·) 0 ≤ c.planMbps 63 * 1000000 ∧
   0 < c.rd (Reg.admin_cycle_time 63)) ∧
  (let c : Core := { tSet [(Reg.config_change_time 63, 5), (Reg.time_source, 4)] with
     ports := [(63, { PortDyn.zero with gclPending := true })] }
   c.alive = true ∧ (c.port 63).gclPending = true ∧ (c.port 63).gclNext = false ∧ c.rd Reg.time_source = 4) ∧
  (let c : Core := { (tSet [(Reg.time_source, 4)]).setTab wSgclOper (32 * 255) (2 ^ 40 + 500) with
     gates := [(255, ⟨false, true, 7, true, 0, 1000, 1⟩)] }
   c.alive = true ∧ ((c.sgateOper 255).boundary c.sideUnits).isSome = true ∧ (c.sgate 255).pending = true ∧
   c.rd Reg.time_source = 4) := by
  decide +kernel

theorem witness_ClocksStepAndSlew :
  (let s := tState tCore
   let c : Core := { tSet [(Reg.time_source, 4)] with now := 30 }
   let d := (c.touchAllShapers.wr Reg.time_source 3).resyncShapers
   s.plant.mayWriteSide (.pf .a) .a Reg.time_source = true ∧ (s.core .a).released = true ∧ (4 : BitVec 8).toNat ≤ 4 ∧ (d.stepped c.sideUnits).rd Reg.power_state = c.rd Reg.power_state ∧
   d.sideUnits ≠ c.sideUnits ∧ (tState c).plant.mayWriteSide (.pf .a) .a Reg.time_source = true ∧
   (List.range 64).all (fun p => !(d.port p).gclPending && decide ((d.port p).tx = none)) = true ∧ d.gates = [] ∧ d.rd Reg.epoch_flip ≠ 1 ∧
   (tCore.touchAllShapers.wr Reg.time_source 3).sideUnits = tCore.sideUnits) ∧
  (let s := tState tCore
   s.plant.mayWriteSide (.pf .a) .a (Reg.domain_adjust 3) = true ∧ (s.core .a).released = true ∧
   (signedOf 64 (2 ^ 64 - 5)).natAbs ≤ (s.core .a).rd Reg.slew_limit_ns ∧
   (s.core .a).rd Reg.slew_limit_ns < (signedOf 64 (2 ^ 62)).natAbs ∧ (s.core .a).rd Reg.time_source ≠ 3 ∧
   s.plant.mayWriteSide (.pf .a) .a (Reg.domain_set 3) = true ∧ time96Ok (2 ^ 64 * 999999999 + 5) = true ∧
   s.plant.mayWriteSide (.pf .a) .a Reg.snapshot = true) ∧
  (let c : Core := { tCore with doms := [(3, ⟨0, -7⟩)] }
   c.alive = true ∧ (c.dom 3).slew ≠ 0 ∧ 0 < c.slewUnit) ∧
  (let c := tSet [(Reg.pps_out_enable, 1), (Reg.pps_in_enable, 1)]
   let d : Core := { c with now := 10, ppsPrev := some 5 }
   let e : Core := { c with now := 9000, ppsPrev := some 5, ppsBase := some 5 }
   let f : Core := { c with ppsOut := true }
   c.alive = true ∧ c.flag Reg.pps_out_enable = true ∧ c.ppsOut = false ∧ f.alive = true ∧ f.ppsOut = true ∧
   c.flag Reg.pps_in_enable = true ∧ c.ppsPrev = none ∧ d.alive = true ∧ d.ppsPrev = some 5 ∧ d.now - 5 < usTicks 1 ∧
   e.alive = true ∧ e.flag Reg.pps_in_enable = true ∧ e.ppsPrev = some 5 ∧ usTicks 1 ≤ e.now - 5 ∧ e.ppsBase = some 5 ∧
   e.now - 5 + nsTicks (e.rd Reg.pps_in_window_ns) < nsTicks 1000000000) := by
  decide +kernel

theorem witness_PolicingCommandsTakeEffect :
  (let c : Core := { tCore.setTab wMeter 5 (2 ^ 200 + 2 ^ 61) with meters := [(3, { MeterState.zero with allRed := true })] }
   c.alive = true ∧ SMap.rising c.meters = true ∧ SMap.rising c.tabs = true) ∧
  (let s := tState ((tSet [(Reg.pol_select, 255)]).setTab wSgate 255 (2 ^ 153 + 2 ^ 154) |>.setTab wSgclAdmin (32 * 255) (2 ^ 40 + 500))
   let u := tState (tSet [(Reg.pol_select, 255)])
   let c := s.core .a
   let r := c.tab wSgate 255
   s.plant.dev.joined = false ∧ s.plant.mayWriteSide (.pf .a) .a Reg.pol_cmd = true ∧ c.rd Reg.pol_select = 255 ∧ (c.sgate 255).pending = false ∧
   sgEnable r = true ∧ c.gateEntriesOk wSgclAdmin (32 * 255) (sgLen r) true = true ∧
   u.plant.mayWriteSide (.pf .a) .a Reg.pol_cmd = true ∧ (u.core .a).rd Reg.pol_select = 255 ∧
   ((u.core .a).sgate 255).pending = false ∧ sgEnable ((u.core .a).tab wSgate 255) = false) ∧
  tCore.alive = true := by
  decide +kernel

theorem witness_VportsSelectFramesForDelivery :
  (let x := tCopy (.vport 2) 3 (List.replicate 60 0)
   let c : Core := { tSet [(Reg.vport_state 2, 1), (Reg.placement 2, 1), (Reg.dma_credits 2, 4), (Reg.fill_tail 2, 1),
       (Reg.vport_rate 2, 1000000)] with
     copies := [x]
     queues := [(queueKey (.vport 2) 3, [0])] }
   let f := fillFields ([0, 0, 0, 0, 0, 0, 128] ++ List.replicate 9 0)
   let d := ((c.advanceTo (ceilDiv (c.port 66).txEnd 1000)).touchShapers true 2).adoptSlopes 2
   let e := (((d.select (d.vportQueues 2)).1.takeFill 2).startDelivery 2 x true f.1 f.2.2)
   c.alive = true ∧ (d.select (d.vportQueues 2)).2 = some 3 ∧ (d.select (d.vportQueues 2)).1.headCopy (.vport 2) 3 = some x ∧
   d.hostPlaced 2 = true ∧ (d.select (d.vportQueues 2)).1.fillOk 2 f = true ∧ 64 + x.delivered ≤ f.2.1 ∧
   e.rd Reg.power_state = c.rd Reg.power_state) := by
  decide +kernel

theorem witness_CoresStartStopAndBind :
  ((tState tCore).plant.mayWriteSide (.pf .a) .a Reg.core_run = true ∧
   (List.range 8).all (fun k => !tCore.coreAbsent k) = true) ∧
  (let c : Core := tSet [(Reg.core_run, 255)]
   c.alive = true ∧ c.coreStatus 7 = 1 ∧ (let d : Core := { c with pairs := 15 }
     d.alive = true ∧ bitOf d.pairs 3 = true ∧ d.coreStatus (2 * 3) = 1)) ∧
  (tCore.alive = true ∧ tCore.coreAbsent 7 = false ∧ tCore.checker 7 = false ∧ hpmEvent 25 ≠ 0 ∧ bitOf (tCore.rd (Reg.samp_enable 7)) 31 = false) ∧
  (let c : Core := tSet [(Reg.samp_enable 7, 2 ^ 31), (Reg.samp_ring_base 7, 4096)]
   let a := c.rd (Reg.samp_ring_base 7) + 64 * (c.rd (Reg.samp_tail 7) % c.sampEntries 7)
   c.alive = true ∧ bitOf (c.rd (Reg.samp_enable 7)) 31 = true ∧ SMap.find? c.sampAt 7 = none ∧
   gap (c.rd (Reg.samp_tail 7)) (c.rd (Reg.samp_head 7)) ≠ c.sampEntries 7 ∧ a + 64 ≤ 2 ^ 24 ∧ c.spmFenced a 64 = false ∧
   c.rd (Reg.samp_msi 7) = 0 ∧ c.spmWait = [] ∧ a % 64 = 0) ∧
  (let s := tState (tSet [(Reg.samp_tail 7, 5)])
   s.plant.mayWriteSide (.pf .a) .a (Reg.samp_head 7) = true ∧
   gap 5 ((s.core .a).rd (Reg.samp_head 7)) ≤ gap ((s.core .a).rd (Reg.samp_tail 7)) ((s.core .a).rd (Reg.samp_head 7))) := by
  decide +kernel

theorem witness_TheScratchpadAnswersRequests :
  (let q : SpmReq := ⟨13, 0xFFFFF8, .amo 8 [1, 2, 3, 4, 5, 6, 7, 8]⟩
   let r : SpmReq := ⟨13, 0xFFFFFC, .lr 8⟩
   tCore.coreIssues 7 = false ∧ tCore.alive = true ∧ tCore.spmWait = [] ∧ tCore.spmMerging = 0 ∧ q.ok = true ∧ q.aligned = true ∧ q.addr % 8 + q.op.len ≤ 8 ∧
   tCore.spmFenced q.addr q.op.len = false ∧ (wordsOf q.addr q.op.len).all (fun w => decide (SMap.find? tCore.spmBad w = none)) = true ∧
   r.ok = false) ∧
  (tCore.alive = true ∧ tCore.spmFenced (8 * 2097151) 8 = false) ∧
  (let x := tCopy (.vport 2) 3 (List.replicate 60 0)
   let j : RxJob := ⟨2, 0, 0, false, 2 ^ 60, 0, x.data, x.pr, 0, 0, 3⟩
   let c : Core := { tSet [(Reg.vport_state 2, 1), (Reg.placement 2, 2), (Reg.pool_location 1, 1)] with copies := [x], rxJobs := [j] }
   let d : Side := ⟨c, [], []⟩
   let w := d.bufPut j.v (bits j.addr 62 60) (j.addr % 2 ^ 40) j.buffer
   c.alive = true ∧ c.rd (Reg.vport_state 2) ≠ 5 ∧
   (c.rxJobs.find? (fun x => decide (x.v = 2) && decide (x.host = false))) = some j ∧ w.2 = true ∧
   (w.1.endDelivery j).r.rd Reg.power_state = c.rd Reg.power_state ∧ c.copy j.copy = some x ∧
   ((c.deliveryEcc j ⟨2, 0⟩).abandon j Reg.sc_drop_ecc).rd Reg.power_state = c.rd Reg.power_state) := by
  decide +kernel

theorem witness_TheDramTrainsAndChangesSetPoint :
  (let s := tState tCore
   s.plant.mayWriteSide (.pf .a) .a Reg.dram_train = true ∧ (s.core .a).rd Reg.dram_train ≠ 1) ∧
  (let c := tSet [(Reg.dram_train, 1)]
   c.alive = true ∧ c.rd Reg.dram_train = 1) ∧
  (let c := tSet [(Reg.dram_state, 2), (Reg.dram_retrain_interval_ms, 1)]
   let d : Core := { c with dm := { DramDyn.zero with gathering := true } }
   c.alive = true ∧ c.rd Reg.dram_state = 2 ∧ c.rd Reg.dram_retrain_interval_ms ≠ 0 ∧ c.dm.gathering = false ∧
   c.rd Reg.fsp_request ≠ 1 ∧ c.rd Reg.fsp_request ≠ 2 ∧ d.alive = true ∧ d.stepRuns = true ∧ d.rd Reg.fsp_request ≠ 1) ∧
  (let s := tState (tSet [(Reg.dram_state, 2), (Reg.fsp_trained, 7), (Reg.dram_ranks, 2)])
   let c := s.core .a
   let u := tState (tSet [(Reg.fsp_request, 1)])
   s.plant.mayWriteSide (.pf .a) .a Reg.fsp_request = true ∧ c.rd Reg.fsp_request ≠ 1 ∧ c.rd Reg.fsp_request ≠ 2 ∧
   c.rd Reg.dram_state = 2 ∧ bitOf (c.rd Reg.fsp_trained) 2 = true ∧ c.rd Reg.fsp_active ≠ 2 ∧ c.stepRuns = false ∧
   u.plant.mayWriteSide (.pf .a) .a Reg.fsp_request = true ∧ (u.core .a).rd Reg.fsp_request = 1) ∧
  (let c : Core := { tSet [(Reg.fsp_request, 2)] with dm := { DramDyn.zero with fspTarget := 2 } }
   c.alive = true ∧ c.rd Reg.fsp_request = 2 ∧ c.dm.fspTarget < 3) := by
  decide +kernel

theorem witness_TheDramServesAndRefreshes :
  (let c : Core := tSet [(Reg.dram_state, 2), (Reg.dram_ranks, 1)]
   let d : Core := { c with dm := { DramDyn.zero with wq := [⟨0, 2 ^ 64 - 1, List.replicate 64 7, false, 0⟩] } }
   let o : Octets := [1, 2]
   c.alive = true ∧ c.userIssues (.delivery 63) = true ∧ c.dramPort (.delivery 63) = 3 ∧ c.dm.rq = [] ∧ c.dramServes = true ∧
   bitOf (c.rd Reg.dram_ranks_fenced) (c.dramRank 62) = false ∧ c.dm.wait = [] ∧
   62 % 64 + o.length ≤ 64 ∧ 62 + o.length ≤ c.dramUsable ∧ c.lineWrites 0 = [] ∧
   ((((c.leaveSelfRefresh.inc (Reg.port_requests 3)).add (Reg.port_bytes 3) 2).modDram
      (fun y => { y with lastRequest := c.now })).regulate 3 2).1.dramRoom ⟨3, 0, 62, 0, 0, some o, none⟩ = true ∧
   ((((c.leaveSelfRefresh.inc (Reg.port_requests 3)).add (Reg.port_bytes 3) 2).modDram
      (fun y => { y with lastRequest := c.now })).regulate 3 2).1.dramRoom ⟨3, 0, 62, 2, 0, none, none⟩ = true ∧
   d.dramServes = true ∧ ((d.lineWrites 0).foldl (fun m e => m ||| e.mask) 0) &&& maskOf 62 2 = maskOf 62 2) ∧
  (let c : Core := { tSet [(Reg.dram_state, 2), (Reg.dram_ranks, 1)] with
     dm := { DramDyn.zero with wq := [⟨8, 3, List.replicate 64 7, false, 0⟩] } }
   let d : Core := { tSet [(Reg.dram_state, 2), (Reg.dram_ranks, 1)] with
     dm := { DramDyn.zero with rq := [⟨512, 8, 3, 0, 3, 0, false, 0, none, none⟩] } }
   c.alive = true ∧ c.rd Reg.dram_state = 2 ∧ c.rd Reg.fsp_request ≠ 2 ∧ c.mustRefresh 1 = [] ∧ c.dramChannel (64 * 8) = 1 ∧
   c.dm.wait = [] ∧ c.rfmBank 1 = none ∧ d.alive = true ∧ d.mustRefresh 1 = [] ∧ d.dramChannel 512 = 1 ∧ d.rfmBank 1 = none ∧
   (let x : Core := { c with dm := { DramDyn.zero with activates := [(16, 4)], rfmAt := [(2, 4)] } }
    let y : Core := { c with dm := { DramDyn.zero with activates := [(32, 4)], rfmAt := [(2, 4)] } }
    x.rfmBank 1 = none ∧ y.alive = true ∧ y.rfmBank 1 = some 32) ∧
   (let z := tSet [(Reg.dram_ranks, 1), (Reg.dram_inline_ecc, 1)]
    z.alive = true ∧ z.rd Reg.dram_state ≠ 2 ∧ z.flag Reg.dram_inline_ecc = true ∧ z.dramChannel (8 * 56) = 1 ∧ 8 * 56 + 8 ≤ z.dramUsable)) ∧
  (let c : Core := tSet [(Reg.dram_state, 2), (Reg.den_dram_sr, 1), (Reg.power_state, 2)]
   c.alive = true ∧ c.rd Reg.power_state = 2 ∧ c.flag Reg.den_dram_sr = true ∧ c.rd Reg.dram_state = 2) ∧
  (let c : Core := tSet [(Reg.dram_state, 2), (Reg.dram_ranks, 2)]
   c.alive = true ∧ 2 * 3 + 1 ∈ c.ranks ∧ c.rd Reg.dram_state = 2 ∧ c.rd Reg.fsp_request ≠ 2 ∧ c.dramServes = true) := by
  decide +kernel

theorem witness_TheHostLinkCommandsTakeEffect :
  tUp.porst = false ∧ tUp.vddOff = false ∧ tUp.linkUp = true ∧ tCore.noAccess = false ∧ ({ tCore with released := false } : Core).noAccess = true ∧
  (let s := tState (tVports [(Reg.vport_state 0, 1), (Reg.vport_state 63, 1), (Reg.placement 63, 1)])
   (s.core .a).alive = true ∧ (s.core .a).rd (Reg.vport_state 63) ≠ 0 ∧ (0 ∈ (s.core .a).created) ∧ (63 ∈ (s.core .a).created) ∧
   (s.core .a).hostPlaced 63 = true) := by
  decide +kernel

theorem witness_VportEnginesMoveFrames :
  (let s := tState (tVports [(Reg.vport_state 63, 1)])
   let u := tState { tVports [(Reg.vport_state 63, 1), (Reg.rx_tail 63, 1)] with vps := [(63, { VportDyn.zero with rxTimes := [5] })] }
   let g : Requester := .vf .a 63
   (s.core .a).takesDoorbells 63 = true ∧ (s.plant.mayWriteSide g .a (Reg.tx_tail 63) = true ∨
     s.plant.mayWriteSide (.pf .a) .a (Reg.tx_tail 63) = true) ∧
   gap 64 ((s.core .a).rd (Reg.tx_tail 63)) < 2 ^ 31 ∧ gap 64 ((s.core .a).rd (Reg.tx_head 63)) ≤ (s.core .a).ringSize 63 20 ∧
   s.plant.mayWriteSide (.pf .a) .a (Reg.fill_tail 63) = true ∧ gap 64 ((s.core .a).rd (Reg.fill_head 63)) ≤ (s.core .a).ringSize 63 12 ∧
   (u.core .a).takesDoorbells 63 = true ∧ u.plant.mayWriteSide (.pf .a) .a (Ring.head .rx 63) = true ∧
   gap 1 ((u.core .a).rd (Ring.head .rx 63)) ≤ (u.core .a).ringHeld .rx 63 ∧
   (((u.core .a).vp 63).times .rx).drop (gap 1 ((u.core .a).rd (Ring.head .rx 63))) = []) ∧
  (let c : Core := { tVports [(Reg.placement 63, 1)] with
     vps := [(63, { VportDyn.zero with rxTimes := [5], armed := 7 })]
     fns := [(63, { FnDyn.zero with bme := true, msixEnable := true, table := [(3, 0)] })] }
   c.alive = true ∧ (c.vp 63).times .rx = [5] ∧ bitOf (c.vp 63).armed (Ring.num .rx) = true ∧ c.hostPlaced 63 = true ∧
   (c.pfn 63).msixEnable = true ∧ (c.pfn 63).master = true ∧ (c.pfn 63).masked (Ring.num .rx) = false) ∧
  (let c : Core := { tVports [(Reg.vport_state 63, 1), (Reg.placement 63, 1), (Reg.tx_tail 63, 1), (Reg.dma_credits 63, 4),
       (Reg.tx_meter 63, 0xFFFF), (Reg.tx_pool 63, 1), (Reg.buffer_count 1, 8), (Reg.pool_enable 1, 1), (Reg.pool_free 1, 8)] with
     fns := [(63, { FnDyn.zero with bme := true, msixEnable := true })] }
   let w := leNat (padTo 32 ([0, 0, 0, 0, 0, 0, 0, 0, 0, 0, 0, 0, 0, 0, 0, 0, 0, 0, 0, 0, 0, 0, 60] : Octets))
   c.alive = true ∧ c.rd (Reg.vport_state 63) = 1 ∧ c.enginesRun = true ∧ 0 < c.creditsFree 63 ∧
   c.rd (Reg.tx_head 63) ≠ c.rd (Reg.tx_tail 63) ∧ c.mayWrite 63 = true ∧ c.hostPlaced 63 = true ∧ 14 ≤ bits w 191 176 ∧
   bits w 191 176 ≤ 9212 ∧ 2048 ≤ c.rd (Reg.tx_meter 63) ∧ c.readsOut < 256 ∧ c.windowOk 63 (bits w 255 192) (bits w 191 176) = true ∧
   c.poolFor (c.rd (Reg.tx_pool 63)) (bits w 191 176) 8 = some 1 ∧ bitOf (c.poolAlloc 1 63).2 63 = false) ∧
  (let j : TxJob := ⟨63, 0, 0, 0, 60, false, false, true, 0, 2 ^ 63, [], 0, 0, false, false, false, 0, 0, 0, false⟩
   let c : Core := { tVports [(Reg.vport_state 63, 1), (Reg.placement 63, 1)] with
     txJobs := [{ j with state := 3 }]
     fns := [(63, { FnDyn.zero with bme := true, msixEnable := true })] }
   let d : Core := { c with txJobs := [{ j with state := 2, tsWait := true }] }
   let e : Core := { c with txJobs := [j] }
   e.alive = true ∧ e.reading 63 = some j ∧ e.rd (Reg.vport_state 63) ≠ 2 ∧
   (c.txJobs.find? (fun x => decide (x.v = 63))) = some { j with state := 3 } ∧ j.gen = c.rd (Reg.generation 63) ∧
   c.ringHeld .txc 63 < c.ringSize 63 16 ∧ c.hostPlaced 63 = true ∧ (c.pfn 63).master = true ∧
   c.rd (Reg.credits_unreturned 63) + 1 < 2 ^ 64 ∧ c.rd (Reg.vport_state 63) ≠ 5 ∧
   (d.txJobs.find? (fun x => decide (x.v = 63) && decide (x.state = 2) && x.tsWait)).isSome = true) ∧
  (let x := tCopy (.vport 63) 3 (List.replicate 60 0)
   let j : RxJob := ⟨63, 0, 0, true, 0x1000, 0, x.data, x.pr, 0, 0, 3⟩
   let c : Core := { tVports [(Reg.vport_state 63, 1), (Reg.placement 63, 1)] with
     copies := [x]
     rxJobs := [j]
     fns := [(63, { FnDyn.zero with bme := true, msixEnable := true })] }
   let d : Side := ⟨c.emit (.hostWrite 63 j.addr j.buffer), [], []⟩
   c.alive = true ∧ c.rd (Reg.vport_state 63) ≠ 5 ∧
   (c.rxJobs.find? (fun x => decide (x.v = 63) && decide (x.host = true))) = some j ∧ (c.pfn 63).master = true ∧
   (d.endDelivery j).r.rd Reg.power_state = c.rd Reg.power_state ∧ c.copy j.copy = some x ∧
   ((c.deliveryEcc j ⟨2, 0⟩).abandon j Reg.sc_drop_ecc).rd Reg.power_state = c.rd Reg.power_state) := by
  decide +kernel

theorem witness_VportsAreMadeAndEnded :
  (let s := tState (tVports [(Reg.vport_state 63, 1)])
   let u := tState { tVports [(Reg.vport_state 63, 4)] with vps := [(63, { VportDyn.zero with changed := true })] }
   s.plant.mayWriteSide (.pf .a) .a (Reg.vport_ctl 63) = true ∧ (s.core .a).rd (Reg.vport_state 63) = 1 ∧
   u.plant.mayWriteSide (.pf .a) .a (Reg.vport_ctl 63) = true ∧ (u.core .a).rd (Reg.vport_state 63) = 4) ∧
  (let c : Core := { tSet [(Reg.buffer_count 1, 8), (Reg.pool_enable 1, 1), (Reg.pool_free 1, 8), (Reg.rx_pool 63, 1), (Reg.tx_pool 63, 1),
        (Reg.search_units 63, 0), (Reg.placement 63, 1), (Reg.tx_meter 63, 0xFFFF)] with
     absentPorts := 2 ^ 64 - 1 }
   let d : Core := { c with regs := c.regs ++ (List.range 64).map (fun v => (Reg.vport_state v, 0#64)) }
   (tState d).plant.mayWriteSide (.pf .a) .a (Reg.vport_ctl 63) = true ∧ d.fieldHolds = false ∧ d.vportChecks 63 = .ok) ∧
  (let c := tVports [(Reg.vport_state 63, 2)]
   let d := tVports [(Reg.vport_state 63, 3), (Reg.freeze_deadline_us 63, 9)]
   c.alive = true ∧ c.rd (Reg.vport_state 63) = 2 ∧ c.rxJobs = [] ∧ c.txJobs = [] ∧ d.alive = true ∧
   d.rd (Reg.vport_state 63) = 3 ∧ d.rd (Reg.credits_in_flight 63) = 0 ∧ d.rd (Reg.freeze_deadline_us 63) ≠ 0) := by
  decide +kernel

theorem witness_CountersAreLatchedAndCleared :
  (let s := tState (tSet [(Reg.counter_snapshot, 2)])
   s.plant.mayWriteSide (.pf .a) .a Reg.counter_snapshot = true ∧ (s.core .a).rd Reg.counter_snapshot ≠ 1 ∧
   s.plant.mayWriteSide (.pf .a) .a Reg.counters_clear = true ∧ s.plant.tablesRising = true ∧ snapKey (Reg.rx_frames 63) = true ∧
   snapKey Reg.snapshot_seq = false) ∧
  (tSet [(Reg.counter_snapshot, 1)]).alive = true ∧ (tSet [(Reg.counter_snapshot, 1)]).rd Reg.counter_snapshot = 1 := by
  decide +kernel

theorem witness_CollectorsClassifyAndReact :
  (let m : FaultMsg := ⟨64, 5, 0, 9, 9⟩
   let c : Nat → Core := fun b => { tCore.setTab wFaultCfg 0 (b * 2 ^ 96) with faultQ := [m] }
   let a : Nat → Nat := fun b => reactionByte ((c b).tab wFaultCfg 0)
     (classify ((c b).tab wFaultCfg 0) ((c b).tab wFaultStat 0) (m.clock / 3) m.kind).2.2.1
   (c 3).alive = true ∧ m.src - (c 3).eBase = 0 ∧
   (classify ((c 3).tab wFaultCfg 0) ((c 3).tab wFaultStat 0) (m.clock / 3) m.kind).2.2.1 = 0 ∧
   tUp.joined = false ∧ a 3 / 4 % 16 = 0 ∧ bitOf (a 3) 0 = true ∧ bitOf (a 3) 1 = true ∧ a 0 = 0 ∧ bitOf (a 4) 2 = true ∧
   bitOf (a 4) 4 = false ∧ (c 4).fenceUnitOf ⟨m, 0, 0, 0, false⟩ = some (1, 0) ∧ (c 4).fenceStands (1, 0) = false ∧
   bitOf (a 8) 3 = true ∧ bitOf (a 8) 4 = false ∧ (c 8).rd Reg.side_state = 0 ∧ bitOf (a 16) 4 = true ∧ bitOf (a 32) 5 = true ∧
   (tSet [(Reg.ffr_min_class, 0)]).rd Reg.ffr_min_class ≤ 0 ∧ bitOf (tCore.rd Reg.ffr_status) 63 = false ∧
   stateKind 0 1 = true ∧ tCore.stateHolds ⟨0, 1, 0, 0⟩ = true) ∧
  (let m : FaultMsg := ⟨9, 1, 0, 0, 0⟩
   let d : Nat → Dev := fun b => { tUp.setTab wDevCfg 9 (b * 2 ^ 96) with faultQ := [m] }
   let a : Nat → Nat := fun b => reactionByte ((d b).tab wDevCfg 9)
     (classify ((d b).tab wDevCfg 9) ((d b).tab wDevStat 9) m.clock 1).2.2.1
   (d 1).porst = false ∧ bitOf (a 1) 0 = true ∧ bitOf (a 2) 1 = true ∧ bitOf (a 16) 4 = true ∧ bitOf (a 32) 5 = true ∧ a 0 = 0 ∧
   (tUp.wr Reg.device_ffr_min_class 0).rd Reg.device_ffr_min_class ≤ 0 ∧ bitOf (tUp.rd Reg.device_ffr_status) 63 = false) ∧
  tCore.released = true ∧ tCore.alive = true ∧ (tSet [(inflightKey 1, 1)]).rd (inflightKey (b2n true)) ≠ 0 ∧
  bitOf ((tCore.setTab wFaultStat 479 (2 ^ 262)).tab wFaultStat 479) 262 = true := by
  decide +kernel

theorem witness_FencedUnitsReturn :
  (let c : Core := { tCore with fences := [(fenceKey 3 7, 1)] }
   c.alive = true ∧ c.fenceState 3 7 = 1) ∧
  (let f : Nat → Core := fun n => { tCore with fences := [(n, 2)] }
   (tState tCore).plant.mayWriteSide (.pf .a) .a Reg.unfence = true ∧ tCore.rd Reg.side_state ≠ 2 ∧
   (f (fenceKey 1 63)).fenceState 1 63 = 2 ∧ 63 < unitCount 1 ∧ (f (fenceKey 2 31)).fenceState 2 31 = 2 ∧ 31 < unitCount 2 ∧
   (f (fenceKey 3 7)).fenceState 3 7 = 2 ∧ 7 < unitCount 3 ∧ tCore.sliceBusy 7 = false ∧ (f (fenceKey 4 7)).fenceState 4 7 = 2 ∧
   7 < unitCount 4 ∧ (f (fenceKey 5 7)).fenceState 5 7 = 2 ∧ 7 < unitCount 5 ∧ (f (fenceKey 6 3)).fenceState 6 3 = 2 ∧
   3 < unitCount 6 ∧ (f (fenceKey 7 63)).fenceState 7 63 = 2 ∧ 63 < unitCount 7 ∧ (f (fenceKey 8 63)).fenceState 8 63 = 2 ∧
   63 < unitCount 8 ∧ (tSet [(Reg.dram_state, 0)]).rd Reg.dram_state ≠ 2 ∧ (tSet [(Reg.dram_state, 2)]).rd Reg.dram_state = 2 ∧
   (tSet [(Reg.dram_state, 2)]).rd Reg.fsp_request ≠ 1 ∧ (tSet [(Reg.dram_state, 2)]).rd Reg.fsp_request ≠ 2 ∧
   (tSet [(Reg.fsp_request, 2)]).rd Reg.fsp_request = 2) ∧
  (let c : Core := { tSet [(Reg.side_state, 1)] with
     holds := [⟨9, 0, 471, 2⟩, ⟨10, 0, 471, 2⟩]
     pairCauses := 4 }
   (tState c).plant.mayWriteSide (.pf .a) .a Reg.degrade_release = true ∧ c.rd Reg.middles_degraded = 0 ∧
   c.rd Reg.side_state ≠ 2 ∧ (tState c).plant.mayWriteSide (.pf .a) .a Reg.pair_release = true ∧ c.pairState = 2 ∧
   (tState c).plant.dev.pairLive 0 = false ∧
   ({ c with holds := [⟨9, 0, 471, 2⟩] } : Core).liveBut 471 2 9 = false ∧
   ({ c with holds := [⟨10, 0, 471, 2⟩] } : Core).liveBut 471 2 10 = false) := by
  decide +kernel

theorem witness_FaultRecordsAreClearedAndAcknowledged :
  (let c : Core := { ((tCore.setTab wFaultStat 479 (2 ^ 263 + 2 ^ 252)).setTab wFaultStat 0 (2 ^ 263)).setTab wFaultCfg 479 (2 ^ 68) with
     fns := [(0, { FnDyn.zero with bme := true, msixEnable := true, table := [(3, 0)] })] }
   let c' := c.setTab wFaultCfg 0 (2 ^ 68)
   (tState c').plant.mayWriteSide (.pf .a) .a Reg.fault_clear = true ∧ ((64 + 479) * 65536 + 15 < 2 ^ 32) ∧
   ((List.range 4).all (fun k => !c'.live 479 k) = true) ∧ (tState c').plant.mayWriteSide (.pf .a) .a Reg.event_ack = true ∧
   bitOf (c'.tab wFaultStat 479) 263 = true ∧ bitOf (c'.tab wFaultCfg 479) 68 = true ∧ bits (c'.tab wFaultCfg 479) 67 62 = 0 ∧
   (c'.setTab wFaultStat 479 (putBit (c'.tab wFaultStat 479) 263 false)).vectorPending 0 479 = true ∧
   (c'.pfn 0).msixEnable = true ∧ (c'.pfn 0).master = true ∧ (c'.pfn 0).masked 0 = false ∧
   (tState c').plant.mayWriteSide (.pf .a) .a Reg.ffr_clear = true ∧ bitOf (c'.rd Reg.ffr_status) 63 = false) ∧
  (let s := tOn (tUp.setTab wDevStat 63 (2 ^ 263 + 2 ^ 252)) tCore
   s.plant.mayWriteDev (.pf .a) Reg.device_fault_clear = true ∧ s.plant.mayWriteDev (.pf .a) Reg.device_event_ack = true ∧
   s.plant.mayWriteDev (.pf .a) Reg.device_ffr_clear = true ∧ ((List.range 4).all (fun k => !s.plant.dev.live 63 k) = true) ∧
   bitOf (s.plant.dev.rd Reg.device_ffr_status) 63 = false ∧ bitOf (s.plant.dev.tab wDevStat 63) 263 = true) := by
  decide +kernel

theorem witness_SidesEnterAndLeaveLowPower :
  (let s := tState (tSet [(Reg.pll_locked, 1)])
   (tState { tSet [(Reg.power_state, 7)] with released := false }).plant.pllStarting .a = true ∧ bitOf tCore.pllBad 13 = false ∧
   bitOf tCore.pllBad 5 = false ∧ tCore.deaf = false ∧ tCore.crossIn.all (fun x => x.head.isNone) = true ∧
   (s.core .a).alive = true ∧ bitOf ((s.core .a).rd Reg.pll_locked) 5 = false ∧ bitOf (s.core .a).pllTry 5 = false ∧
   bitOf ({ s.core .a with pllTry := 32 } : Core).pllTry 5 = true ∧ bitOf ((s.core .a).rd Reg.pll_locked) 0 = true ∧
   s.plant.mayWriteSide (.pf .a) .a Reg.core_divider = true ∧ s.plant.mayWriteSide (.pf .a) .a Reg.core_pll_mhz = true) ∧
  (let s := tState tCore
   let u := tState (tSet [(Reg.power_state, 2)])
   let held (x : State) : Bool := decide ((x.core .a).rd Reg.field_test_request = 2)
   s.plant.mayWriteSide (.pf .a) .a Reg.power_request = true ∧ s.plant.dev.owlDown = false ∧ s.plant.dev.joined = false ∧
   s.plant.dev.rd Reg.boot_slot ≠ 2 ∧ (s.core .a).powerCheck 1 false (held s) = .ok ∧ (s.core .a).powerCheck 2 false (held s) = .ok ∧
   u.plant.mayWriteSide (.pf .a) .a Reg.power_request = true ∧ (u.core .a).powerCheck 0 false (held u) = .ok ∧
   (tOn (tUp.wr Reg.device_mode 1) tCore).plant.dev.joined = true ∧
   (tOn (tUp.wr Reg.device_mode 1) tCore).plant.mayWriteSide (.pf .a) .a Reg.power_request = true) ∧
  (let c : Core := { tSet [(Reg.power_state, 1)] with entryStep := 1 }
   c.alive = true ∧ c.entryStep = 1 ∧ c.rd Reg.power_state = 1 ∧ c.framesQueued = 0 ∧ c.framesInFlight = 0 ∧ c.rx = [] ∧
   c.rd Reg.epoch_flip = 0 ∧
   (((c.advanceTo (c.entryAt + usTicks (c.rd Reg.den_drain_us))).discardAll.flipComplete 0).entryDrained).rd Reg.power_state = 1 ∧
   ({ c with entryStep := 2 } : Core).wakePend = 0 ∧ bitOf ({ c with wakePend := 32 } : Core).wakePend 5 = true ∧
   (tSet [(Reg.power_state, 3)]).rd Reg.power_state = 3 ∧ (tSet [(Reg.power_state, 3)]).alive = true) ∧
  (let c : Core := { tSet [(Reg.admin_up 63, 1), (Reg.port_mode 63, 2)] with ports := [(63, { PortDyn.zero with fallbackAt := some 9 })] }
   c.alive = true ∧ (c.port 63).fallbackAt = some 9 ∧ c.rd Reg.power_state = 0 ∧ c.mayRun 63 = true ∧ (c.port 63).up = false ∧ c.inDen = false) ∧
  (let c : Core := { tSet [(Reg.power_state, 6)] with
     entryStep := 3
     released := false }
   let s := tOn (tBoot.wr Reg.rail_status 0x1FF) c
   s.plant.dev.porst = false ∧ (s.core .a).rd Reg.power_state = 6 ∧ s.plant.dev.owlDown = false ∧
   bitOf (s.plant.dev.rd Reg.rail_status) 0 = true ∧ s.plant.emptyConfig = true ∧ s.plant.dev.rd Reg.boot_slot ≠ 2 ∧ c.pllBad = 0 ∧
   ((tOn (tUp.wr Reg.rail_status 0x1FF) c).plant.reapply .a none).isNone = true ∧
   (tSet [(Reg.power_state, 4)]).rd Reg.power_state = 4) := by
  decide +kernel

theorem witness_WakesRailsAndLifeTakeEffect :
  (let d := tUp.wr Reg.wake_in_config 0x8000
   bits (d.rd Reg.wake_in_config) 15 14 ≠ 0 ∧ bitOf ({ d with wakeLevel := 128 } : Dev).wakeLevel 7 ≠ false ∧
   bitOf (bits (d.rd Reg.wake_in_config) 15 14) 1 = true ∧ bitOf ((tSet [(Reg.wake_in_mask, 128)]).rd Reg.wake_in_mask) 7 = true) ∧
  (let c : Core := { tSet [(Reg.power_state, 5), (Reg.wake_timer_ms, 1), (Reg.field_wake, 1), (Reg.den_wake_exit, 1)] with fieldWakeId := 127 }
   c.deaf = false ∧ tUp.porst = false ∧ tUp.owlDown = false ∧ c.rd Reg.wake_timer_ms ≠ 0 ∧ c.rd Reg.power_state = 5 ∧ c.flag Reg.field_wake = true ∧
   0x2C0 + c.fieldWakeId < 2 ^ 11 ∧ c.flag Reg.den_wake_exit = true ∧ (tSet [(Reg.power_state, 2)]).rd Reg.power_state = 2) ∧
  (let d := (tUp.wr Reg.avs_enable 1).wr Reg.avs_margin_low 9
   d.flag Reg.avs_enable = true ∧ (lowestMargin [8, 9]).1 < d.rd Reg.avs_margin_low ∧
   d.avsRaise = 0 ∧ d.avsGain = 0 ∧ ({ d with avsRaise := 9000000 } : Dev).raiseOver = false ∧
   ({ d with avsRaise := 1 } : Dev).raiseOver = true ∧ (d.wr Reg.avs_margin_high 9).rd Reg.avs_margin_high = 9 ∧ d.rd Reg.avs_margin_low ≤ 9 ∧
   ((d.wr Reg.vdd_core_mv 700).avsTarget [8, 9]).1 = 705 ∧ (d.wr Reg.vdd_core_mv 700).rd Reg.vdd_core_mv = 700 ∧
   ((List.replicate 32 (1#32)).map BitVec.toInt).length = 32) ∧
  tCore.alive = true ∧ (16 * (tCore.rd Reg.tj_warning_c : Int)) ≤ 2160 ∧ bitOf tCore.conds 2 = false ∧
  2160 ≤ signedOf 64 ((tSet [(Reg.side_tj, 2160)]).rd Reg.side_tj) ∧ bitOf tCore.conds 3 = false := by
  decide +kernel

theorem witness_TheDeviceBootsItsSides :
  (let d : Dev := { (Dev.porst0.wr Reg.rail_status 255) with porst := false }
   (Dev.porst0.porst = true) ∧ d.boots = true ∧ d.bootPhase = 0 ∧ d.rd Reg.boot_status ≠ 5 ∧
   ({ d with bootPhase := 2 } : Dev).boots = true ∧
   (let x : Dev := { d with manifest := List.replicate 12 0 ++ toBe 2 1 ++ List.replicate 178 0 ++ [1] ++ List.replicate 63 0 }
    ((segmentsOf x.manifest).find? (fun y => decide (y.type = 1))).isSome = true) ∧
   (⟨d, (tOn d tCore).plant.a, (tOn d tCore).plant.b⟩ : Plant).configSegment = none ∧ configParts [] = none) ∧
  (let p := (tOn { tBoot with bootPhase := 2 } tCore).plant
   p.dev.boots = true ∧ p.emptyConfig = true ∧
   (tOn (tBoot.wr Reg.boot_status 3) tCore).plant.dev.rd Reg.boot_status = 3 ∧ p.dev.owlDown = false ∧ p.dev.porst = false) := by
  decide +kernel

theorem witness_ResetsRecoveryAndAttestation :
  (let d : Dev := ({ tUp with fuses := 2 * 2 ^ 624 } : Dev).wr Reg.rail_status 0x1FF
   let e := d.wr Reg.security_version 1
   (tOn e tCore).plant.mayWriteDev .bundle Reg.version_commit = true ∧ bitOf (e.rd Reg.rail_status) 8 = true ∧ e.lifecycle = 2 ∧
   e.fuses ||| (2 ^ e.rd Reg.security_version - 1) * 2 ^ 1152 ≠ e.fuses) ∧
  (let d := (tUp.wr Reg.boot_status 5)
   (tOn d tCore).plant.mayWriteDev (.pf .a) Reg.recovery_apply = true ∧ d.rd Reg.boot_status = 5) ∧
  (tUp.porst = false ∧ tUp.owlDown = false ∧ (tUp.wr Reg.attest_request 1).rd Reg.attest_request = 1 ∧
   (let d : Dev := { tUp with fuses := 2 * 2 ^ 624 }; d.lifecycle = 2) ∧
   (tUp.wr Reg.attest_owner 1).rd Reg.attest_owner ≠ 0 ∧ (tUp.wr Reg.attest_owner 1).rd Reg.attest_request ≠ 1) ∧
  (let d := tUp.wr Reg.attest_owner 1
   let p := (tOn d tCore).plant
   d.attestFree (.pf .a) = true ∧ p.mayWriteDev (.pf .a) Reg.attest_nonce = true ∧ p.mayWriteDev (.pf .a) Reg.attest_request = true ∧
   d.rd Reg.attest_owner ≠ 0 ∧ d.rd Reg.attest_request ≠ 1 ∧ d.lifecycle ≠ 3 ∧ d.rd Reg.boot_status = 4 ∧ d.owlDown = false) ∧
  (let s := tState tCore
   s.plant.dev.porst = false ∧ s.plant.dev.joined = false ∧ (s.core .a).inReset = false ∧ (s.core .a).rd Reg.power_state ≠ 5 ∧
   s.plant.mayWriteSide (.pf .a) .a Reg.side_reset = true ∧ (tSet [(Reg.power_state, 5)]).rd Reg.power_state = 5) ∧
  (let c : Core := { tCore with
     inReset := true
     released := false }
   let p := (tOn tBoot c).plant
   p.dev.owlDown = false ∧ p.dev.bootPhase = 3 ∧ p.dev.joined = false ∧ p.emptyConfig = true ∧ p.dev.rd Reg.boot_slot ≠ 2 ∧ c.pllBad = 0 ∧
   ((tOn tUp c).plant.reapply .a none).isNone = true) ∧
  ((tUp.wr Reg.mode_status 2).rd Reg.mode_status = 2) ∧
  (List.range 3072).all (fun i => !tLogged.logErased tLogged.logActive i) = true := by
  refine ⟨?_, ?_, ?_, ?_, ?_, ?_, ?_, tLogged_used⟩ <;> decide +kernel

theorem witness_PortsAndLanesAreTested :
  (let c : Core := { tSet [(Reg.port_test 63, 1), (Reg.prbs_rx 63, 1), (Reg.prbs_pattern 63, 1), (Reg.gen_count 63, 9), (Reg.port_mode 63, 3),
     (Reg.gen_length_min 63, 64), (Reg.gen_length_max 63, 64), (Reg.gen_idle 63, 12)] with test := [(63, { TestDyn.zero with genAt := some 0 })] }
   let s := tState c
   (tState tCore).plant.mayWriteSide (.pf .a) .a (Reg.port_test 63) = true ∧ tCore.member 63 = false ∧
   tCore.flag (Reg.admin_up 63) = false ∧ tCore.rd Reg.field_test_request ≠ 2 ∧ tCore.flag (Reg.port_test 63) = false ∧
   s.plant.mayWriteSide (.pf .a) .a (Reg.port_test 63) = true ∧ (s.core .a).alive = true ∧ c.prbsRuns 63 = true ∧
   (c.testOf 63).lockAt = none ∧ (c.testOf 63).genAt = some 0 ∧ c.rd (Reg.gen_count 63) ≠ 0 ∧ c.modeMbps 63 ≠ 0 ∧ c.member 63 = false ∧
   c.flag (Reg.port_test 63) = true ∧ s.plant.mayWriteSide (.pf .a) .a (Reg.eye_cmd 63) = true ∧ (c.testOf 63).scanning = false ∧
   c.laneRuns 63 = true ∧ s.plant.mayWriteSide (.pf .a) .a (Reg.gen_cmd 63) = true ∧ c.rd (Reg.loopback 63) ≠ 2 ∧
   (c.testOf 62).genAt = none ∧ (({ c with test := [(63, { TestDyn.zero with lockAt := some 0 })] } : Core).testOf 63).lockAt.isSome = true ∧
   (({ c with test := [(63, { TestDyn.zero with scanning := true })] } : Core).testOf 63).scanning = true ∧
   (List.replicate 2048 (0 : BitVec 16)).length = 2048) := by
  decide +kernel

theorem witness_TapBistRepairAndFieldTestsRun :
  (let d : Dev := { tUp with fuses := 2 ^ 624 }
   let s := tOn (d.wr Reg.rail_status 0x1FF) tCore
   let c : Core := { tCore with inReset := true }
   s.plant.dev.porst = false ∧ s.plant.mayWriteDev (.pf .a) Reg.repair_program = true ∧
   bitOf (s.plant.dev.rd Reg.rail_status) 8 = true ∧ s.plant.dev.lifecycle = 1 ∧
   (List.range 20).all (fun i => !bitOf (repairRecord (bits s.plant.dev.fuses 419 0) i) 20) = true ∧
   repairClash (bits s.plant.dev.fuses 419 0 ||| s.plant.dev.repairStage) = false ∧
   s.plant.dev.mbistRun = 0 ∧ s.plant.dev.lifecycle ≠ 2 ∧ s.plant.dev.flag Reg.test_unlock = false ∧
   (tOn d c).plant.mayWriteDev (.pf .a) Reg.mbist_cmd = true ∧ ((tOn d c).core .a).bistOpen = true ∧
   ({ tUp with mbistRun := 1 } : Dev).mbistRun ≠ 0 ∧ (s.core .a).released = true) ∧
  (let s := tState (tSet [(Reg.field_test_period_h, 1)])
   s.plant.mayWriteSide (.pf .a) .a Reg.field_test_request = true ∧ (s.core .a).rd Reg.field_test_request ≠ 1 ∧
   (s.core .a).rd Reg.field_test_request ≠ 2 ∧ (s.core .a).rd Reg.field_test_period_h ≠ 0 ∧ s.plant.dev.owlDown = false) ∧
  (let c : Core := { tSet [(Reg.field_test_request, 1), (Reg.power_state, 7)] with released := false }
   c.rd Reg.field_test_request = 1 ∧ c.quiet = true ∧ (tSet [(Reg.field_test_request, 2)]).rd Reg.field_test_request = 2) := by
  decide +kernel

/-! ### Terms that the well-formedness check refuses -/

/-- A request frame on side A's field port, in CAN XL, and a PDU. -/
def tField : FieldFrame := ⟨2, 0x2C0, 0, 0⟩
def tPdu : Pdu := ⟨0, 0x1000, 1, 0, 0, []⟩

theorem test_wf_value : (Instr.objectWrite (.pf .a) 0 0 2 (2 ^ 2048)).wellFormed = false := by decide +kernel
theorem test_wf_field_identifier : (Instr.tyistRead .a { tField with ident := 2048 } tPdu).wellFormed = false := by decide +kernel
theorem test_wf_field_sdt : (Instr.tyistRead .a { tField with sdt := 256 } tPdu).wellFormed = false := by decide +kernel
theorem test_wf_field_vcid : (Instr.tyistRead .a { tField with vcid := 256 } tPdu).wellFormed = false := by decide +kernel
theorem test_wf_pdu_tag : (Instr.tyistWrite .a tField { tPdu with tag := 256 }).wellFormed = false := by decide +kernel
theorem test_wf_pdu_index : (Instr.tyistWrite .a tField { tPdu with index := 65536 }).wellFormed = false := by decide +kernel
theorem test_wf_pdu_sub : (Instr.tyistAbort .a tField { tPdu with sub := 256 }).wellFormed = false := by decide +kernel
theorem test_wf_pdu_reason : (Instr.tyistAbort .a tField { tPdu with reason := 256 }).wellFormed = false := by decide +kernel
theorem test_wf_pdu_count : (Instr.tyistSegment .a tField { tPdu with count := 65536 }).wellFormed = false := by decide +kernel
theorem test_wf_pdu_data : (Instr.tyistSegment .a tField { tPdu with data := List.replicate 2041 0 }).wellFormed = false := by
  decide +kernel
theorem test_wf_pdu_octets : (Instr.tyistPduMalformed .a tField (List.replicate 2049 0)).wellFormed = false := by decide +kernel
theorem test_wf_transaction : (Instr.segmentTimeout 16).wellFormed = false := by decide +kernel
theorem test_wf_stage_empty : (Instr.bundleStageWrite (.pf .a) 0 []).wellFormed = false := by decide +kernel
theorem test_wf_stage_end : (Instr.bundleStageWrite (.pf .a) 262143 [0, 0]).wellFormed = false := by decide +kernel
theorem test_wf_frame_empty : (Instr.rxFrameStart .a 0 [] 5).wellFormed = false := by decide +kernel
theorem test_wf_pfc : (Instr.pfcFrameReceive .a 0 0 [0]).wellFormed = false := by decide +kernel
theorem test_wf_search_slot : (Instr.searchScrub .a ⟨65536, false, false, false, false⟩).wellFormed = false := by decide +kernel
theorem test_wf_station_slot : (Instr.ageingVisit .a 262160 0).wellFormed = false := by decide +kernel
theorem test_wf_station_scrub : (Instr.stationScrubVisit .a 262160 0).wellFormed = false := by decide +kernel
theorem test_wf_target : (Instr.reseqTimeout .a 0 (.port 64) 0).wellFormed = false := by decide +kernel
theorem test_wf_vport_target : (Instr.reseqTimeout .a 0 (.vport 64) 0).wellFormed = false := by decide +kernel
theorem test_wf_fill : (Instr.vportSelect .a 0 (List.replicate 17 0) []).wellFormed = false := by decide +kernel
theorem test_wf_dram_read : (Instr.dramRead .a .image 0 0 0).wellFormed = false := by decide +kernel
theorem test_wf_dram_write : (Instr.dramWrite .a .image 0 [] 0).wellFormed = false := by decide +kernel
theorem test_wf_dram_temperature : (Instr.dramTempEstimate .a 0 256).wellFormed = false := by decide +kernel
theorem test_wf_descriptor : (Instr.txDescriptorFetch ⟨.a, []⟩ 0 []).wellFormed = false := by decide +kernel
theorem test_wf_read_slot : (Instr.objectRead (.pf .a) (.slot 65536 0) 2).wellFormed = false := by decide +kernel
theorem test_wf_read_aperture : (Instr.objectRead (.pf .a) (.aperture 16 0 0) 2).wellFormed = false := by decide +kernel
theorem test_wf_read_page : (Instr.objectRead (.pf .a) (.page 65536) 2).wellFormed = false := by decide +kernel
theorem test_wf_scratchpad_address : (Instr.scratchpadRequest .a [⟨0, 2 ^ 40, .read 8⟩] 0).wellFormed = false := by decide +kernel
theorem test_wf_scratchpad_length : (Instr.scratchpadRequest .a [⟨0, 0, .read 65⟩] 0).wellFormed = false := by decide +kernel
theorem test_wf_scratchpad_amo : (Instr.scratchpadRequest .a [⟨0, 0, .amo 16 []⟩] 0).wellFormed = false := by decide +kernel
theorem test_wf_scratchpad_cas : (Instr.scratchpadRequest .a [⟨0, 0, .cas [] [0]⟩] 0).wellFormed = false := by decide +kernel
theorem test_wf_counter :
    (Instr.hpmCounterWrap .a 0 1 ⟨1, 0, none, 0, 0, 0, false, 0, 0⟩).wellFormed = false := by decide +kernel
theorem test_wf_privilege :
    (Instr.hpmCounterWrap .a 0 3 ⟨1, 0, none, 0, 0, 4, false, 0, 0⟩).wellFormed = false := by decide +kernel
theorem test_wf_event :
    (Instr.hpmCounterWrap .a 0 3 ⟨26, 0, none, 0, 0, 0, false, 0, 0⟩).wellFormed = false := by decide +kernel
theorem test_wf_program_counter :
    (Instr.hpmCounterWrap .a 0 3 ⟨25, 2 ^ 64, none, 0, 0, 0, false, 0, 0⟩).wellFormed = false := by decide +kernel
theorem test_wf_margins : (Instr.avsMonitorRead [] true).wellFormed = false := by decide +kernel
theorem test_wf_shifts : (Instr.poweredHour []).wellFormed = false := by decide +kernel
theorem test_wf_temperature : (Instr.tjSample .a 4096).wellFormed = false := by decide +kernel
theorem test_wf_flash : (Instr.porstRelease 0 0 [(0x7FFFFFF, [0, 0])] []).wellFormed = false := by decide +kernel
theorem test_wf_eye : (Instr.eyeScanDone .a 0 []).wellFormed = false := by decide +kernel
theorem test_wf_macro : (Instr.mbistDone [⟨2048, true, 0, 0⟩]).wellFormed = false := by decide +kernel
theorem test_wf_link_speed : (Instr.pcieLinkUp 0 1).wellFormed = false := by decide +kernel
theorem test_wf_link_width : (Instr.pcieLinkUp 1 3).wellFormed = false := by decide +kernel
theorem test_wf_scan_address : (Instr.jtagDataScan (.bus .a (2 ^ 48) 8 none)).wellFormed = false := by decide +kernel
theorem test_wf_scan_command : (Instr.jtagDataScan (.mbist 3)).wellFormed = false := by decide +kernel
theorem test_wf_scan_stage : (Instr.jtagDataScan (.repair (some (List.replicate 57 0)))).wellFormed = false := by decide +kernel
theorem test_wf_good : (Instr.tyistRead .a tField tPdu).wellFormed = true := by decide +kernel

/-! ### No word of bits spells a command -/

theorem test_no_word : decodeTableWord 32 0 = none := rfl
theorem test_no_fetch_word (s : State) : s.withFetchWord 32 0 = s := rfl

/-! ### The functions of the standards, on their published check values -/

/-- "123456789": the check value of CRC-32 of IEEE 802.3, and of CRC-32C. -/
def tDigits : Octets := [0x31, 0x32, 0x33, 0x34, 0x35, 0x36, 0x37, 0x38, 0x39]

theorem test_crc32 : crc32 tDigits = 0xCBF43926 := by decide +kernel
theorem test_crc32c : crc32cRaw 0xFFFFFFFF tDigits ^^^ 0xFFFFFFFF = 0xE3069283 := by decide +kernel

/-- FIPS 202: SHA3-256 of the empty string begins A7 FF C6 F8. -/
theorem test_sha3 : (sha3_256 []).take 4 = [0xA7, 0xFF, 0xC6, 0xF8] := by decide +kernel

/-- FIPS 197, C.1: the cipher of the example under the 128-bit key 00 01 .. 0F. -/
theorem test_aes : aesBlock (roundKeys (List.range 16)) ((List.range 16).map (17 * ·)) =
    [0x69, 0xC4, 0xE0, 0xD8, 0x6A, 0x7B, 0x04, 0x30, 0xD8, 0xCD, 0xB7, 0x80, 0x70, 0xB4, 0xC5, 0x5A] := by decide +kernel

/-! ### Single commands -/

/-- What a command leaves, when it answers a next state. -/
def tThen (i : Instr) (s : State) (f : Plant → Bool) : Bool :=
  match exec i s with
  | .next t => f t.plant
  | _ => false

/-- R560, R627: after reset power_state reads 7. -/
theorem test_reset_power_state : (State.reset.core .b).rd Reg.power_state = 7 := by decide +kernel

/-- A step takes the front command; R20: the crossing is trained. -/
theorem test_step : (match step { (tOn (tUp.wr Reg.mode_status 2) tCore) with pending := [.crossingTrainingDone true, .meterSweep .a] } with
    | .next t => decide (t.pending.length = 1) && decide (t.plant.dev.rd Reg.mode_status = 1)
    | _ => false) = true := by decide +kernel

/-- R122: 65,535 quanta of 512 bit times at 1 Gb/s are 33,553,920 ns, of three pipeline clocks each. -/
theorem test_pause_time : tThen (.pauseFrameReceive .a 5 0xFFFF)
    (tState { tSet [(Reg.admin_up 5, 1), (Reg.port_mode 5, 2), (Reg.flow_control 5, 1)] with ports := [(5, { PortDyn.zero with up := true })] })
    (fun t => decide (SMap.find? (t.a.r.port 5).pauseEnd 8 = some 100661760)) = true := by decide +kernel

/-- R102: the holdoff of 10 ms ends 30,000,000 pipeline clocks after the lock. -/
theorem test_holdoff : tThen (.laneLock .a 5)
    (tState (tSet [(Reg.admin_up 5, 1), (Reg.port_mode 5, 3), (Reg.link_up_holdoff_ms 5, 10)]))
    (fun t => decide ((t.a.r.port 5).holdoff = some 30000000)) = true := by decide +kernel

/-- R619, R75: with straps 0 side B's field_node_id is 127; R584: 32 ports per side leave ports 32 to 63 absent. -/
theorem test_porst_release : tThen (.porstRelease 0 (BitVec.ofNat 2048 (32 * 2 ^ 464)) [] []) State.reset
    (fun t => decide (t.b.r.rd Reg.field_node_id = 127) && t.a.r.absent 63 && !t.a.r.absent 31) = true := by decide +kernel

/-- R572: security_version 3 programs the three lowest rollback bits. -/
theorem test_version_commit : tThen (.versionCommit .bundle 1 none)
    (tOn ((({ tUp with fuses := 2 * 2 ^ 624 } : Dev).wr Reg.rail_status 0x1FF).wr Reg.security_version 3) tCore)
    (fun t => decide (t.dev.fuse 1279 1152 = 7) && decide (t.dev.rd Reg.version_commit = 2)) = true := by decide +kernel

/-- R588, R82: the nonce's writer PF1 is owner 2. -/
theorem test_attest_owner : tThen (.attestNonceWrite (.pf .b) 1) (tState tCore)
    (fun t => decide (t.dev.rd Reg.attest_owner = 2)) = true := by decide +kernel

/-- R628: side_reset resets the side with cause 2 and leaves the other side. -/
theorem test_side_reset : tThen (.sideResetWrite (.pf .a) .a) (tState (tSet [(Reg.admin_up 5, 1)]))
    (fun t => decide (t.a.r.rd Reg.side_reset_cause = 2) && decide (t.a.r.rd (Reg.admin_up 5) = 0) && t.b.r.released) = true := by
  decide +kernel

/-- R11, R59: a physical function's write of a read-only object is refused with 0x03 in its record. -/
theorem test_refusal : tThen (.objectWrite (.pf .a) 0x1000 1 2 5) (tState tCore)
    (fun t => decide (t.dev.rd Reg.refusal_record_pf0 / 2 ^ 32 % 256 = 3) && decide (t.dev.rd Reg.refusal_record_pf0 / 2 ^ 48 = 0x1000)) =
      true := by decide +kernel

/-- R636: a rail out of range clears its bit and is reported by its source. -/
theorem test_rail : tThen (.railOutOfRange 3) (tOn (tUp.wr Reg.rail_status 255) tCore)
    (fun t => decide (t.dev.rd Reg.rail_status = 0xF7)) = true := by decide +kernel

/-- R599: the generator's frame of port 63 of side A bears 02-49-4C-00-00-3F. -/
theorem test_generator_address : ((tSet [(Reg.gen_length_min 63, 64), (Reg.gen_length_max 63, 64)]).genFrame 63 0).take 6 =
    [0x02, 0x49, 0x4C, 0, 0, 0x3F] := by decide +kernel

/-- AIA 1.0 (R398): a source active as level1 is pending from the rise of its wire to the fall. -/
theorem test_aplic_level : (let d := { AplicDom.zero with cfg := [(5, 6)] }
    (d.sense 5 false true).ip = 32 ∧ ((d.sense 5 false true).sense 5 true false).ip = 0) := by decide +kernel

/-- R632: under PORST_N the DRAM's reset ball is low and the chip select of the flash high. -/
theorem test_balls_reset : State.reset.plant.ball (.ddrReset .a) = .low ∧ State.reset.plant.ball .xspiSelect = .high := by
  decide +kernel

end
end

/-! PROOFS. Accesses outside an object's write set or read set (R11): what the checks of an access answer to them, what the refusal of
a slot access leaves as it was (R59), and the answer of the field port (R74, R75). -/

namespace Sys2Proof.Machine

/-! ### The checks of an access (R11) -/

/-- A requester outside the write set is refused before any other check. -/
theorem Plant.writeCheck_outside {p : Plant} {q : Requester} {o : Obj} (h : inSet (p.letter q o.at') o.row.wr = false) (e : WriteEnv) :
    p.writeCheck q e o = .noWrite ∨ p.writeCheck q e o = .signedOnly := by
  unfold Plant.writeCheck
  dsimp only
  rw [if_pos (by rw [h]; rfl)]
  split
  · exact .inr rfl
  · exact .inl rfl

/-- A requester outside the read set is refused before any other check. -/
theorem Plant.readCheck_outside {p : Plant} {q : Requester} {o : Obj} (h : inSet (p.letter q o.at') o.row.rd = false) :
    p.readCheck q o = .noRead := by
  unfold Plant.readCheck
  rw [if_pos (by rw [h]; rfl)]

/-- What an outsider's write is refused with is a refusal. -/
theorem Reason.ne_ok_of_outside {why : Reason} (h : why = .noWrite ∨ why = .signedOnly) : why ≠ .ok := by
  rcases h with rfl | rfl <;> decide

/-- A write that the checks refuse changes nothing. -/
theorem Plant.writeObject_refused {p : Plant} {q : Requester} {e : WriteEnv} {o : Obj} (h : p.writeCheck q e o ≠ .ok) (v : Nat) :
    p.writeObject q e o v = (p, p.writeCheck q e o) := by
  unfold Plant.writeObject
  split
  · rename_i hok; exact absurd hok h
  · rfl

/-! ### A refusal recorded (R59) -/

theorem Dev.refusal_rd_same (d : Dev) (k index sub : Nat) (why : Reason) (write : Bool) :
    (d.refusal k index sub why write).rd k = refusalRecord (d.rd k) index sub why write % 2 ^ 64 := by
  unfold Dev.refusal
  dsimp only
  split
  · rw [Dev.rd_report, Dev.rd_wr_same]
  · rw [Dev.rd_wr_same]

theorem Dev.refusal_rd_ne (d : Dev) {k j : Nat} (index sub : Nat) (why : Reason) (write : Bool) (h : j ≠ k) :
    (d.refusal k index sub why write).rd j = d.rd j := by
  unfold Dev.refusal
  dsimp only
  split
  · rw [Dev.rd_report, Dev.rd_wr_ne _ _ h]
  · rw [Dev.rd_wr_ne _ _ h]

@[simp] theorem Dev.refusal_flash (d : Dev) (k index sub : Nat) (why : Reason) (write : Bool) :
    (d.refusal k index sub why write).flash = d.flash := by
  unfold Dev.refusal
  dsimp only
  split
  · rw [Dev.report_flash, Dev.wr_flash]
  · rw [Dev.wr_flash]

@[simp] theorem Dev.refusal_fuses (d : Dev) (k index sub : Nat) (why : Reason) (write : Bool) :
    (d.refusal k index sub why write).fuses = d.fuses := by
  unfold Dev.refusal
  dsimp only
  split
  · rw [Dev.report_fuses, Dev.wr_fuses]
  · rw [Dev.wr_fuses]

@[simp] theorem Core.refusal_out (c : Core) (k index sub : Nat) (why : Reason) (write : Bool) :
    (c.refusal k index sub why write).out = c.out := by
  unfold Core.refusal
  dsimp only
  split
  · obtain ⟨_, _, _, _, _, h⟩ := (c.wr k (refusalRecord (c.rd k) index sub why write)).saturated_shape k
    rw [h, Core.wr_out]
  · rw [Core.wr_out]

theorem Plant.refuse_sameMemories (p : Plant) (q : Requester) (index sub : Nat) (why : Reason) (write : Bool) :
    p.sameMemories (p.refuse q index sub why write) := by
  unfold Plant.refuse
  cases q with
  | pf s => exact p.onDev_sameMemories _ (Dev.refusal_flash ..) (Dev.refusal_fuses ..)
  | vf s n => exact p.onCore_sameMemories s _
  | core s k virt => exact p.onCore_sameMemories s _
  | field s => exact .refl p
  | inband s => exact .refl p
  | bundle => exact .refl p
  | owl => exact .refl p

/-- A refusal alone puts nothing out. -/
theorem Plant.refuse_out (p : Plant) (q : Requester) (index sub : Nat) (why : Reason) (write : Bool) :
    ((p.refuse q index sub why write).side q.outSide).r.out = (p.side q.outSide).r.out := by
  unfold Plant.refuse
  cases q with
  | pf s =>
    dsimp only
    rw [Plant.onDev_side]
  | vf s n =>
    rw [show (Requester.vf s n).outSide = s from rfl]
    dsimp only
    rw [Plant.onCore_out, Core.refusal_out]
  | core s k virt =>
    rw [show (Requester.core s k virt).outSide = s from rfl]
    dsimp only
    rw [Plant.onCore_out, Core.refusal_out]
  | field s => rfl
  | inband s => rfl
  | bundle => rfl
  | owl => rfl

/-- The refusal record of a physical function (R59). -/
def functionRecord (g : SideId) : Nat := match g with | .a => Reg.refusal_record_pf0 | .b => Reg.refusal_record_pf1

/-- A refusal recorded for a physical function. -/
theorem Plant.refuse_pf (p : Plant) (g : SideId) (index sub : Nat) (why : Reason) (write : Bool) :
    p.refuse (.pf g) index sub why write = p.onDev (fun d => d.refusal (functionRecord g) index sub why write) := rfl

theorem Plant.refuseRead_sameMemories (p : Plant) (q : Requester) (index sub : Nat) (why : Reason) :
    p.sameMemories (p.refuseRead q index sub why) :=
  (p.refuse_sameMemories q index sub why false).trans (Plant.onCore_sameMemories _ _ _)

/-- A read that is refused is answered without a value. -/
theorem Plant.refuseRead_out (p : Plant) (q : Requester) (index sub : Nat) (why : Reason) :
    ((p.refuseRead q index sub why).side q.outSide).r.out = .objRead q.num none :: (p.side q.outSide).r.out := by
  have h : ((p.refuseRead q index sub why).side q.outSide).r.out =
      .objRead q.num none :: ((p.refuse q index sub why false).side q.outSide).r.out := Plant.onCore_out _ _ _
  rw [h, Plant.refuse_out]

/-! ### Slot accesses that are refused (R54, R56, R58) -/

theorem Plant.hears_up {p : Plant} {q : Requester} (h : p.hears q = true) : p.dev.porst = false := by
  unfold Plant.hears at h
  simp only [Bool.and_eq_true, Bool.not_eq_true'] at h
  exact h.1.1

theorem Plant.from'_hears {p : Plant} {q : Requester} (h : p.hears q = true) (f : Plant → Plant) : p.from' q f = f p := if_pos h

/-- An aligned read of a slot whose object the checks refuse. -/
theorem Plant.objectRead_refused {p : Plant} {q : Requester} {index sub part : Nat} {x : Place} {o : Obj} (hup : p.dev.porst = false)
    (hr : q.reaches index = true) (hpart : part ≤ 2) (hx : placeOf index sub = some x) (ho : findObj index sub = some o)
    (hc : p.readCheck q o ≠ .ok) : p.objectRead q (.slot index sub) part = p.refuseRead q index sub (p.readCheck q o) := by
  unfold Plant.objectRead
  rw [if_neg (by rw [hup]; decide)]
  dsimp only
  rw [if_neg (by rw [hr]; decide), if_neg (by omega)]
  unfold Plant.slotReadAt
  rw [hx, ho]
  dsimp only
  split
  · rename_i hok; exact absurd hok hc
  · rfl

/-- The device with other write buffers (R56). -/
def Plant.withPend (p : Plant) (m : SMap PendWrite) : Plant := { p with dev := { p.dev with pend := m } }

@[simp] theorem Plant.withPend_side (p : Plant) (m : SMap PendWrite) (sd : SideId) : (p.withPend m).side sd = p.side sd := by
  cases sd <;> rfl

@[simp] theorem Plant.withPend_rd (p : Plant) (m : SMap PendWrite) (k : Nat) : (p.withPend m).dev.rd k = p.dev.rd k := rfl

theorem Plant.withPend_sameMemories (p : Plant) (m : SMap PendWrite) : p.sameMemories (p.withPend m) := ⟨rfl, rfl, rfl, rfl, rfl, rfl⟩

@[simp] theorem Plant.withPend_letter (p : Plant) (m : SMap PendWrite) (q : Requester) (x : Place) :
    (p.withPend m).letter q x = p.letter q x := by
  unfold Plant.letter Plant.guestFor Plant.guestVport
  simp only [Plant.withPend_side]

/-- The checks of a write do not look at the write buffers. -/
@[simp] theorem Plant.withPend_writeCheck (p : Plant) (m : SMap PendWrite) (q : Requester) (e : WriteEnv) (o : Obj) :
    (p.withPend m).writeCheck q e o = p.writeCheck q e o := by
  unfold Plant.writeCheck
  simp only [Plant.withPend_letter, Plant.withPend_side]
  rfl

/-- An empty write buffer filled and emptied again: only the buffers change. -/
theorem Plant.hold_drop {p : Plant} {q : Requester} (h : SMap.find? p.dev.pend q.num = none) (w : PendWrite) (l : List (Nat × Nat)) :
    ∃ m, (p.hold q w l).drop q = p.withPend m := by
  unfold Plant.hold
  rw [h]
  exact ⟨_, rfl⟩

/-- A write that ends an object's last slot, by a function or a core that holds nothing, when the checks refuse the object: the refusal
is recorded, and beside it only the write buffers may have changed. -/
theorem Plant.objectWrite_refused {p : Plant} {q : Requester} {index sub part : Nat} {x : Place} {o : Obj} (hl : p.listens q = true)
    (hs : q.slotted = true) (hr : q.reaches index = true) (h0 : part ≠ 0) (h2 : part ≤ 2) (hx : placeOf index sub = some x)
    (ho : findObj index sub = some o) (hlast : o.row.slotOf x.key + 1 = o.row.ty.slots)
    (hc : p.writeCheck q WriteEnv.plain o ≠ .ok) (v : Nat) :
    ∃ m, p.objectWrite q index sub part v = (p.withPend m).refuse q index sub (p.writeCheck q WriteEnv.plain o) true := by
  unfold Plant.listens at hl
  simp only [Bool.and_eq_true, Option.isNone_iff_eq_none] at hl
  obtain ⟨hh, hpend⟩ := hl
  obtain ⟨m, hm⟩ := Plant.hold_drop hpend ⟨256 * o.at'.index + o.at'.sub, 0, 0, []⟩ (halvesOf (o.row.slotOf x.key) part v)
  refine ⟨m, ?_⟩
  have hcm : (p.withPend m).writeCheck q WriteEnv.plain o ≠ .ok := by rwa [Plant.withPend_writeCheck]
  unfold Plant.objectWrite
  rw [if_neg (by rw [Plant.hears_up hh, hr]; decide), if_neg (by rw [hs]; decide), if_neg (by omega), hx, ho]
  dsimp only
  rw [if_pos ⟨hlast, h0⟩, hm, Plant.writeObject_refused hcm, Plant.withPend_writeCheck]
  exact if_neg hc

/-! ### The field port (R74, R75) -/

/-- A request frame that the port takes is served. -/
theorem Plant.fieldTake_takes {p : Plant} {sd : SideId} {f : FieldFrame} (h : p.takesField sd f = true) (g : Plant → Carrier → Plant) :
    p.fieldTake sd f g = g p (carrierOf sd f) := by
  unfold Plant.takesField at h
  simp only [Bool.and_eq_true, Bool.or_eq_true, Bool.not_eq_true', decide_eq_true_eq] at h
  obtain ⟨⟨⟨hup, hfield⟩, hid⟩, hfmt⟩ := h
  unfold Plant.fieldTake carrierOf
  dsimp only
  rw [if_neg (by rw [hup, hfield, hid]; simp), if_neg (by omega), if_neg (not_not_intro hid)]
  rcases hfmt with h1 | ⟨h2, hsdt⟩
  · rw [if_pos h1, if_pos h1]
  · rw [if_neg (by omega), if_pos hsdt, if_neg (by omega)]

theorem Plant.takesField_fieldUp {p : Plant} {sd : SideId} {f : FieldFrame} (h : p.takesField sd f = true) : (p.core sd).fieldUp = true := by
  unfold Plant.takesField at h
  simp only [Bool.and_eq_true] at h
  exact h.1.1.2

/-- A PDU sent to the requester of a field frame goes out in the format of that frame. -/
theorem Core.sendPdu_carrierOf {c : Core} (h : c.fieldUp = true) (sd : SideId) (f : FieldFrame) (pdu : Octets) :
    c.sendPdu (carrierOf sd f) pdu = c.emit (c.fieldSays f pdu) := by
  unfold Core.sendPdu Core.fieldSays carrierOf
  dsimp only
  by_cases hf : f.fmt.val = 1
  · simp [hf, h]
  · simp [hf, h]

/-- The slots of which the field port's state and its answers are made. -/
abbrev fieldSlots : List Nat := [Reg.side_state, Reg.field_enable, Reg.field_node_id, Reg.tyist_sdt, Reg.tyist_vcid]

theorem Core.onlySlotsAndReports.rd_field {c d : Core} {l : List Nat} (h : c.onlySlotsAndReports d l)
    (hl : ∀ k ∈ fieldSlots, k ∉ l) : ∀ k ∈ fieldSlots, d.rd k = c.rd k := fun k hk => by
  refine h.2.1 k ?_
  have hr : ∀ j ∈ fieldSlots, j ∉ reportSlots := by decide
  rw [List.mem_append]
  exact fun hm => hm.elim (hl k hk) (hr k hk)

theorem Core.onlySlotsAndReports.fieldUp {c d : Core} {l : List Nat} (h : c.onlySlotsAndReports d l) (hl : ∀ k ∈ fieldSlots, k ∉ l) :
    d.fieldUp = c.fieldUp := by
  have hrd := h.rd_field hl
  obtain ⟨⟨x, y, z, q, w, r, n, he⟩, -⟩ := h
  unfold Core.fieldUp Core.noAccess Core.flag
  rw [hrd Reg.side_state (by simp), hrd Reg.field_enable (by simp)]
  rw [he]

theorem Core.onlySlotsAndReports.fieldSays {c d : Core} {l : List Nat} (h : c.onlySlotsAndReports d l) (hl : ∀ k ∈ fieldSlots, k ∉ l)
    (f : FieldFrame) (pdu : Octets) : d.fieldSays f pdu = c.fieldSays f pdu := by
  have hrd := h.rd_field hl
  unfold Core.fieldSays
  rw [hrd Reg.field_node_id (by simp), hrd Reg.tyist_sdt (by simp), hrd Reg.tyist_vcid (by simp)]

theorem Core.onlySlotsAndReports.emit {c d : Core} {l : List Nat} (h : c.onlySlotsAndReports d l) (o : Output) :
    ({ c with out := (d.emit o).out } : Core).onlySlotsAndReports (d.emit o) l := by
  obtain ⟨⟨x, y, z, q, w, r, n, rfl⟩, h1, h2⟩ := h
  exact ⟨⟨x, y, z, q, w, r, n, rfl⟩, h1, h2⟩

/-- The counter of answers: of accepted requests, or of refusals (R75). -/
def answerSlot (why : Reason) : Nat := if why = .ok then Reg.tyist_requests else Reg.tyist_refusals

theorem answerSlot_refusal {why : Reason} (h : why ≠ .ok) : answerSlot why = Reg.tyist_refusals := if_neg h

theorem answerSlot_quiet (why : Reason) :
    answerSlot why ∉ reportSlots ∧ (∀ k ∈ fieldSlots, k ∉ [answerSlot why]) ∧ Reg.power_state ∉ [answerSlot why] := by
  unfold answerSlot
  split <;> decide

/-- A PDU sent to the requester of a field frame, after a count that the port's answers do not depend on. -/
theorem Core.inc_sendPdu {c : Core} (h : c.fieldUp = true) {k : Nat} (hk : ∀ j ∈ fieldSlots, j ∉ [k]) (sd : SideId) (f : FieldFrame)
    (pdu : Octets) : (c.inc k).sendPdu (carrierOf sd f) pdu = (c.inc k).emit (c.fieldSays f pdu) := by
  have hinc := (Core.onlySlotsAndReports.refl c [k]).add 1 (List.mem_singleton_self k)
  rw [← hinc.fieldSays hk]
  exact Core.sendPdu_carrierOf ((hinc.fieldUp hk).trans h) sd f pdu

/-- A side that counts and then answers on its field port. -/
theorem Plant.onCore_saysOnField {p : Plant} {sd : SideId} {f : FieldFrame} {g : Core → Core} {k : Nat} {pdu : Octets}
    (hk : k ∉ reportSlots) (hpow : Reg.power_state ∉ [k]) (hg : g (p.core sd) = ((p.core sd).inc k).emit ((p.core sd).fieldSays f pdu)) :
    p.saysOnField (p.onCore sd g) sd f k [pdu] := by
  have hinc := (Core.onlySlotsAndReports.refl (p.core sd) [k]).add 1 (List.mem_singleton_self k)
  have hp : (g (p.core sd)).rd Reg.power_state = (p.core sd).rd Reg.power_state := by rw [hg]; exact hinc.power hpow
  have hout : ((p.onCore sd g).side sd).r.out = (g (p.core sd)).out := p.onCore_out sd g
  have hrd : ((p.onCore sd g).side sd).r.rd k = (g (p.core sd)).rd k := p.onCore_rd_same sd g hp k
  refine ⟨p.onCore_side_other sd g, p.onCore_spm sd g, p.onCore_dram sd g, ?_, ?_, p.onCore_onlySlotsAndReports sd _ hp ?_⟩
  · refine hout.trans ?_
    rw [hg]
    exact congrArg (List.cons _) (Core.add_out ..)
  · refine hrd.trans ?_
    rw [hg]
    exact Core.counts_add _ 1 hk
  · show Core.onlySlotsAndReports { p.core sd with out := ((p.onCore sd g).side sd).r.out } (g (p.core sd)) [k]
    rw [hout, hg]
    exact hinc.emit _

/-- A request that the field port has taken is answered there, and counted. -/
theorem Plant.reply_saysOnField {p : Plant} {sd : SideId} {f : FieldFrame} (hf : p.takesField sd f = true) (h : Pdu) (op : Nat)
    (why : Reason) (count : Nat) (data : Octets) :
    p.saysOnField (p.reply (carrierOf sd f) h op why count data) sd f (answerSlot why)
      [pduOctets op h.tag h.index h.sub why.code count data] := by
  obtain ⟨hrep, hfield, hpow⟩ := answerSlot_quiet why
  exact Plant.onCore_saysOnField hrep hpow (Core.inc_sendPdu (Plant.takesField_fieldUp hf) hfield sd f _)

/-- A read request for an object that the checks refuse. -/
theorem Plant.tyistRead_refused {p : Plant} {v : Carrier} {h : Pdu} {o : Obj} (hn : h.count = 0) (hfit : v.fits 0 h.data.length = true)
    (ho : findObj h.index h.sub = some o) (hc : p.readCheck v.requester o ≠ .ok) :
    p.tyistRead v h = p.reply v h 2 (p.readCheck v.requester o) 0 [] := by
  unfold Plant.tyistRead
  dsimp only
  rw [if_neg (by rw [hn, hfit]; simp), ho]
  dsimp only
  split
  · rename_i hok _; exact absurd hok hc
  · rename_i hok _; exact absurd hok hc
  · rfl

/-- A write request for an object that the checks refuse. -/
theorem Plant.tyistWrite_refused {p : Plant} {v : Carrier} {h : Pdu} {o : Obj} (hfit : v.fits h.count h.data.length = true)
    (ho : findObj h.index h.sub = some o) (hc : p.writeCheck v.requester WriteEnv.plain o ≠ .ok) :
    p.tyistWrite v h = p.reply v h 4 (p.writeCheck v.requester WriteEnv.plain o) 0 [] := by
  unfold Plant.tyistWrite
  dsimp only
  rw [if_neg (by rw [hfit]; decide), ho]
  dsimp only
  split
  · rename_i hok _; exact absurd hok hc
  · rename_i hok _; exact absurd hok hc
  · rfl

theorem carrierOf_requester (sd : SideId) (f : FieldFrame) : (carrierOf sd f).requester = .field sd := by
  unfold carrierOf Carrier.requester
  dsimp only
  exact if_neg (by split <;> decide)

/-! ### The five accesses by an outsider -/

/-- A whole write by a physical function outside the write set. -/
theorem objectWrite_outside {g : SideId} {index : BitVec 16} {sub : BitVec 8} {s : State} {x : Place} {o : Obj}
    (hl : s.plant.listens (.pf g) = true) (hx : placeOf index.toNat sub.toNat = some x) (ho : findObj index.toNat sub.toNat = some o)
    (hlast : o.row.slotOf x.key + 1 = o.row.ty.slots) (h : inSet (s.plant.letter (.pf g) o.at') o.row.wr = false) (sd : SideId) (v : Nat) :
    Completes (.objectWrite (.pf g) index sub 2 v) s (fun t => t.side sd = s.plant.side sd ∧ s.plant.sameMemories t ∧
      (∀ k, k ≠ functionRecord g → t.dev.rd k = s.plant.dev.rd k) ∧
      ∃ why, (why = Reason.noWrite ∨ why = Reason.signedOnly) ∧
        t.dev.rd (functionRecord g) =
          refusalRecord (s.plant.dev.rd (functionRecord g)) index.toNat sub.toNat why true % 2 ^ 64) := by
  refine completes_of _ (exec_objectWrite (.pf g) index sub 2 v s) ?_
  have hc := Plant.writeCheck_outside h WriteEnv.plain
  obtain ⟨m, hm⟩ := Plant.objectWrite_refused (part := (2 : Fin 4).val) hl rfl rfl (by decide) (by decide) hx ho hlast
    (Reason.ne_ok_of_outside hc) v
  rw [Plant.from'_hears (Plant.listens_giveWay hl 0).1, hm]
  refine ⟨?_, (s.plant.withPend_sameMemories m).trans (Plant.refuse_sameMemories ..), fun k hk => ?_, _, hc, ?_⟩
  · rw [Plant.refuse_pf, Plant.onDev_side, Plant.withPend_side]
  · rw [Plant.refuse_pf, Plant.onDev_rd, Dev.refusal_rd_ne _ _ _ _ _ hk, Plant.withPend_rd]
  · rw [Plant.refuse_pf, Plant.onDev_rd, Dev.refusal_rd_same, Plant.withPend_rd]

/-- A read of a slot by a requester outside the read set. -/
theorem objectRead_outside {q : Requester} {index sub : Nat} {part : Fin 4} {s : State} {x : Place} {o : Obj}
    (hh : s.plant.hears q = true) (hr : q.reaches index = true) (hpart : part.val ≤ 2) (hx : placeOf index sub = some x)
    (ho : findObj index sub = some o) (h : inSet (s.plant.letter q o.at') o.row.rd = false) :
    Completes (.objectRead q (.slot index sub) part) s (fun t => s.plant.sameMemories t ∧
      (t.core q.outSide).out = .objRead q.num none :: (s.core q.outSide).out) := by
  refine completes_of _ (exec_objectRead q (.slot index sub) part s) ?_
  have hc := Plant.readCheck_outside h
  rw [Plant.from'_hears hh, Plant.objectRead_refused (Plant.hears_up hh) hr hpart hx ho (by rw [hc]; decide)]
  exact ⟨Plant.refuseRead_sameMemories .., Plant.refuseRead_out ..⟩

/-- A read request on the field port, which is outside the read set. -/
theorem tyistRead_outside {sd : SideId} {f : FieldFrame} {h : Pdu} {s : State} {o : Obj} (hf : s.plant.takesField sd f = true)
    (ho : findObj h.index h.sub = some o) (hn : h.count = 0) (hfit : (carrierOf sd f).fits 0 h.data.length = true)
    (hs : inSet (s.plant.letter (.field sd) o.at') o.row.rd = false) :
    Completes (.tyistRead sd f h) s (fun t =>
      s.plant.saysOnField t sd f Reg.tyist_refusals [pduOctets 2 h.tag h.index h.sub 0x02 0 []]) := by
  refine completes_of _ (exec_tyistRead sd f h s) ?_
  rw [← carrierOf_requester sd f] at hs
  have hc := Plant.readCheck_outside hs
  rw [Plant.fieldTake_takes hf, Plant.tyistRead_refused hn hfit ho (by rw [hc]; decide), hc]
  exact Plant.reply_saysOnField hf h 2 .noRead 0 []

/-- A write request on the field port, which is outside the write set. -/
theorem tyistWrite_outside {sd : SideId} {f : FieldFrame} {h : Pdu} {s : State} {o : Obj} (hf : s.plant.takesField sd f = true)
    (ho : findObj h.index h.sub = some o) (hfit : (carrierOf sd f).fits h.count h.data.length = true)
    (hs : inSet (s.plant.letter (.field sd) o.at') o.row.wr = false) :
    Completes (.tyistWrite sd f h) s (fun t => ∃ why, (why = Reason.noWrite ∨ why = Reason.signedOnly) ∧
      s.plant.saysOnField t sd f Reg.tyist_refusals [pduOctets 4 h.tag h.index h.sub why.code 0 []]) := by
  refine completes_of _ (exec_tyistWrite sd f h s) ?_
  rw [← carrierOf_requester sd f] at hs
  have hc := Plant.writeCheck_outside hs WriteEnv.plain
  have hne := Reason.ne_ok_of_outside hc
  rw [Plant.fieldTake_takes hf, Plant.tyistWrite_refused hfit ho hne]
  refine ⟨_, hc, ?_⟩
  have hsay := Plant.reply_saysOnField hf h 4 (s.plant.writeCheck (carrierOf sd f).requester WriteEnv.plain o) 0 []
  rwa [answerSlot_refusal hne] at hsay

/-- Settles O9: the checks of an access look at the requester's set first, so on every path an outsider's access ends there. -/
theorem accessesOutsideTheirSetsAreRefused : Obligations.AccessesOutsideTheirSetsAreRefused := by
  unfold Obligations.AccessesOutsideTheirSetsAreRefused
  refine ⟨fun q p e o v h => ?_, fun g sd index sub v s x o hl hx ho hlast h => objectWrite_outside hl hx ho hlast h sd v,
    fun q index sub part s x o hh hr hpart hx ho h => objectRead_outside hh hr hpart hx ho h,
    fun sd f h s o hf ho => ⟨tyistRead_outside hf ho, tyistWrite_outside hf ho⟩⟩
  have hc := Plant.writeCheck_outside h e
  exact ⟨_, hc, rfl, Plant.writeObject_refused (Reason.ne_ok_of_outside hc) v⟩

end Sys2Proof.Machine
